-- ==== Sys2Proof/Word.lean ====
section
/-!
DEFINITION. The byte type, the two leaves, and the plainest arithmetic the manual uses everywhere:
little-endian fields (R3), saturation, and the rounding rules of the estimation chapters.
-/
namespace Sys2Proof

/-- One byte of a frame, of a message, of the image or of a memory. -/
abbrev Byte := BitVec 8

/-- The two identical halves of the logic die (01, R7). -/
inductive Leaf where
  | a
  | b
  deriving DecidableEq, Repr

/-- The other leaf. -/
def Leaf.other : Leaf → Leaf
  | .a => .b
  | .b => .a

/-- Leaf numbers of the records: 0 is Leaf A, 1 is Leaf B. -/
def Leaf.num : Leaf → Nat
  | .a => 0
  | .b => 1

/-- The leaf a number of a command names. -/
def Leaf.ofNat? : Nat → Option Leaf
  | 0 => some .a
  | 1 => some .b
  | _ => none

/-- A byte of a natural number, low eight bits. -/
def byteOf (n : Nat) : Byte := BitVec.ofNat 8 n

/-- The little-endian value of bytes (R3). -/
def leNat : List Byte → Nat
  | [] => 0
  | b :: r => b.toNat + 256 * leNat r

/-- The `w` little-endian bytes of a number, low bytes first; higher bits are dropped. -/
def toLe : Nat → Nat → List Byte
  | 0, _ => []
  | w + 1, n => byteOf n :: toLe w (n / 256)

/-- Two's complement reading of a `w`-byte little-endian number. -/
def toSigned (w n : Nat) : Int :=
  if n < 2 ^ (8 * w - 1) then (n : Int) else (n : Int) - (2 ^ (8 * w) : Nat)

/-- The `w`-byte two's complement pattern of an integer. -/
def ofSigned (w : Nat) (x : Int) : Nat := (x % ((2 ^ (8 * w) : Nat) : Int)).toNat

/-- `w` bytes of `p` from offset `off`. -/
def bytesAt (p : List Byte) (off w : Nat) : List Byte := (p.drop off).take w

/-- The unsigned little-endian field of `w` bytes at `off`. -/
def leAt (p : List Byte) (off w : Nat) : Nat := leNat (bytesAt p off w)

/-- Whether every one of `n` bytes from `off` is zero. -/
def zeroAt (p : List Byte) (off n : Nat) : Bool := (bytesAt p off n).all (· == 0)

/-- Saturation to the signed range of `bits` bits. -/
def satS (bits : Nat) (x : Int) : Int :=
  if x < -((2 ^ (bits - 1) : Nat) : Int) then -((2 ^ (bits - 1) : Nat) : Int)
  else if x > ((2 ^ (bits - 1) : Nat) : Int) - 1 then ((2 ^ (bits - 1) : Nat) : Int) - 1 else x

/-- Saturation of an integer to the unsigned range of `bits` bits. -/
def satU (bits : Nat) (x : Int) : Nat :=
  if x < 0 then 0 else min x.toNat (2 ^ bits - 1)

/-- A counter that stops at the top of its `bits` bits. -/
def satAdd (bits n k : Nat) : Nat := min (n + k) (2 ^ bits - 1)

/-- An integer held between two bounds. -/
def clampI (lo hi x : Int) : Int := if x < lo then lo else if x > hi then hi else x

/-- Rounding of the exact quotient `n / d` (d positive) to the nearest integer, halves to even. -/
def rndDiv (n : Int) (d : Nat) : Int :=
  let q := n / (d : Int)
  let r := n % (d : Int)
  if 2 * r < d then q
  else if 2 * r > d then q + 1
  else if q % 2 = 0 then q else q + 1

/-- Ceiling of the quotient of natural numbers; 0 for a zero divisor. -/
def ceilDiv (n d : Nat) : Nat := if d = 0 then 0 else (n + d - 1) / d

/-- One bit of a number, as a Bool. -/
def bit (n k : Nat) : Bool := n.testBit k

/-- The number with one bit set or cleared. -/
def setBit (n k : Nat) (b : Bool) : Nat :=
  if b then n ||| 2 ^ k else n - (if n.testBit k then 2 ^ k else 0)

/-- Bool as 0 or 1. -/
def b2n (b : Bool) : Nat := if b then 1 else 0

/-- Bits packed from bit 0 up. -/
def packBits : List Bool → Nat
  | [] => 0
  | b :: r => b2n b + 2 * packBits r

/-- The elements of `0 .. n-1`. -/
abbrev upto (n : Nat) : List Nat := List.range n

end Sys2Proof
end

