-- ==== Sys2Proof/Syntax.lean ====
section
/-!
DEFINITION. The commands of the block: one constructor of `Instr` for each row of the spec's table, with what the
world outside hands over as operands. `t` is always the instant, in ns of the CLK_TB count, at which the row happens.
-/
namespace Sys2Proof

/-- A request of a host: the session record index it comes from (R622), its tag (R612) and its body or arguments. -/
structure HReq where
  sess : Nat
  tag : Nat
  args : List Byte
  deriving DecidableEq, Repr, Inhabited

/-- A Ward message (R612): kind, tag, LENGTH field and body. -/
structure Msg where
  kind : Nat
  tag : Nat
  len : Nat
  body : List Byte
  deriving DecidableEq, Repr, Inhabited

/-- An ENUM_RSP payload (R167). -/
structure EnumRsp where
  src : Nat
  cls : Nat
  cells : Nat
  ntcs : Nat
  version : Nat
  uid : Nat
  caps : Nat
  boot : Nat
  balIMax : Nat
  vFull : Nat
  deriving DecidableEq, Repr, Inhabited

/-- A SAMPLE_RSP frame at a master port: node, SEQ, whether it answers a request, payload of 64 bytes (R169, R170), and
the charges of the cells from channel 8 on, for which the 64 bytes of R169 hold no place of their own (entry 8 of Q_BAL and
SWEEP_LOW both stand at 0x38). DEDUCED, log 57. -/
structure SampleRsp where
  pos : Nat
  seq : Nat
  solicited : Bool
  payload : List Byte
  qHigh : List Int := []
  deriving DecidableEq, Repr, Inhabited

/-- An RSP frame (R168). -/
structure RspFrame where
  pos : Nat
  seq : Nat
  kindAnswered : Nat
  reg : Nat
  data : List Byte
  deriving DecidableEq, Repr, Inhabited

/-- An ALARM frame (R174). -/
structure AlarmFrame where
  src : Nat
  seq : Nat
  cause : Nat
  chan : Nat
  value : Nat
  boot : Nat
  deriving DecidableEq, Repr, Inhabited

/-- The bits of a ΣΔ modulator about a sample window, oldest first, and the instant of the first of them, ns from the start
of the window (R242, R266). -/
structure ModIn where
  bits : List Bool := []
  start : Int := 0
  deriving DecidableEq, Repr, Inhabited

/-- One ΣΔ input as the paths of both leaves measure it in the sample window (R267, R268). DEDUCED, log 62. -/
structure PathIn where
  /-- The modulator bits of path A, in BITSTREAM those of the one external modulator, and of path B. -/
  modA : ModIn := {}
  modB : ModIn := {}
  overA : Bool := false
  overB : Bool := false
  /-- BITSTREAM: the clock on ISnP was absent for 2 µs or longer in the window. -/
  clkLost : Bool := false
  /-- BITSTREAM: the clock measured over the window, kHz. -/
  clkKhz : Nat := 0
  deriving DecidableEq, Repr, Inhabited

/-- What the device converts once in the sample window and delivers to both leaves (R253). DEDUCED, log 62. -/
structure DevIn where
  paths : List PathIn := []
  ts : List Int := []
  die : List Int := []
  pdie : List Int := []
  swCur : List Nat := []
  aux : Nat := 0
  deriving DecidableEq, Repr, Inhabited

/-- What a Knuckle transfer carries (R536). -/
inductive KnItem where
  /-- A SAMPLE_RSP of a ring position received at the sending leaf's end. -/
  | sample (ring pos : Nat)
  /-- The path value of a current input. -/
  | path (input : Nat)
  /-- The END marker of R250. -/
  | endMark
  /-- Any other class of traffic. -/
  | other
  deriving DecidableEq, Repr, Inhabited

/-- An IEEE 1588 message as the network time unit judges it (R596): port, master identity and rank, kind, offset. -/
structure PtpMsg where
  port : Nat
  /-- 0 Announce, 1 Sync, 2 Follow_Up, 3 Delay_Resp. -/
  kind : Nat
  domain : Nat
  clockId : Nat
  /-- The better master has the lower rank; it stands for the comparison of the best master clock algorithm. -/
  rank : Nat
  /-- Offset of the disciplined clock from the master, ns, once the message completes a measurement (R597). -/
  offset : Int
  /-- Time of the reference at this instant, ns TAI, to which the first lock steps device time (R38). -/
  time : Nat
  complete : Bool
  deriving DecidableEq, Repr, Inhabited

/-- A CAN acknowledgement frame: controller, identifier offset and payload (R505). -/
structure CanFrame where
  ctl : Nat
  ident : Nat
  data : List Byte
  deriving DecidableEq, Repr, Inhabited

/-- A Ward packet of an open session after the tag check of R606 (R608): whether the tag verified, and its plaintext. -/
structure WardPkt where
  port : Nat
  addr : Nat
  sid : Nat
  counter : Nat
  authentic : Bool
  msgs : List Msg
  deriving DecidableEq, Repr, Inhabited

/-- A good frame of the parent's ring at an uplink port (R156): the port at which it arrives, its header, its payload. -/
structure UpReq where
  port : Nat
  dest : Nat
  src : Nat
  kind : Nat
  seq : Nat
  payload : List Byte
  deriving DecidableEq, Repr, Inhabited

/-- What a fault has left in one chunk of a leaf's committed results (R539). -/
structure ChunkFault where
  chunk : Nat
  bytes : List Byte
  deriving DecidableEq, Repr, Inhabited

/-- A bad frame as it arrived: its code errors, and its bytes, none for code errors between frames (R158). -/
structure BadLine where
  codes : Nat
  line : Option (List Byte)
  deriving DecidableEq, Repr, Inhabited

/-- What a fast comparator compares (R271): the direction, and in BITSTREAM the modulator bits behind its outputs. -/
structure CompInput where
  dis : Bool
  mod : List Bool
  deriving DecidableEq, Repr, Inhabited

/-- The payload of ENUM (R166). -/
structure EnumBody where
  endNo : Nat
  count : Nat
  deriving DecidableEq, Repr, Inhabited

/-- One period of TCK in test mode (R751, R752): TRST_N, TMS and TDI at its rising edge. -/
structure TckEdge where
  trst : Bool
  tms : Bool
  tdi : Bool
  deriving DecidableEq, Repr, Inhabited

/-- The commands of the block, one per row of the table of operations and events, in its order. DESIGN CHOICE, log 2. -/
inductive Instr where
  /-- SUPPLIES_VALID (R41): VAON and the rails of at least one leaf first lie above their POR thresholds, and the start timeline begins at t0.
`test` is none with TEST_EN low; with TEST_EN high it holds the periods of TCK that follow it (R752). With no leaf's rails, VAON alone is above its threshold (R40). -/
  | suppliesValid (t : Nat) (railsA railsB : Bool) (test : Option (List TckEdge)) (absence : Option Nat)
  /-- PLL_LOCK_TIMEOUT (R36): A leaf's PLL has not locked by t0 + 0.4 ms; the leaf is fenced and CLOCK_LOSS is logged. -/
  | pllLockTimeout (t : Nat) (l : Leaf)
  /-- X32_FALLBACK (R35): The 32.768 kHz clock fails to start or stops; the AON domain runs from its internal oscillator. -/
  | x32Fallback (t : Nat)
  /-- MRAM_READY_TIMEOUT (R48): A leaf's MRAM is not ready by t0 + 1.0 ms, and that leaf is fenced. -/
  | mramReadyTimeout (t : Nat) (l : Leaf)
  /-- SRAM_MARCH_COMPLETE (R48): The SRAM march test of a leaf ends; if it failed, that leaf is fenced. -/
  | sramMarchComplete (t : Nat) (l : Leaf) (pass : Bool)
  /-- SLOTS_JUDGED (R45): Each leaf has judged both of its slots by hash and by the checks of R73. -/
  | slotsJudged (t : Nat)
  /-- IMAGE_AGREED (R46): The leaves agree over the Knuckle on the image to apply, or fence the leaf without a common image. -/
  | imageAgreed (t : Nat)
  /-- START_APPLY_COMPLETE (R41): The selected image is applied to the SRAM tables and engines, and BITTING_APPLIED is logged. -/
  | startApplyComplete (t : Nat)
  /-- RUN_ENTRY (R41): The device enters RUN (or HALT, or UNKEYED), drives READY high and sends ENUM on every configured ring. -/
  | runEntry (t : Nat)
  /-- POR (R53): VAON falls below its falling threshold and the whole device, AON included, is reset. -/
  | por (t : Nat)
  /-- LEAF_SUPPLY_LOSS (R53): A leaf rail falls below its falling threshold; that leaf is reset and fenced, and SUPPLY_LOSS is logged. -/
  | leafSupplyLoss (t : Nat) (l : Leaf) (rail : Nat)
  /-- LEAF_SUPPLY_RETURN (R49): A leaf's rails become valid after t0; the leaf runs its own start and rejoins as a fenced leaf. -/
  | leafSupplyReturn (t : Nat) (l : Leaf)
  /-- WATCHDOG_EXPIRY (R54): A leaf's watchdog receives no tick for 2 ms, and the leaf is reset and fenced. -/
  | watchdogExpiry (t : Nat) (l : Leaf)
  /-- CLOCK_FAULT (R439): A clock monitor finds a leaf clock stopped or off frequency for 20 µs, and the AON fences that leaf. -/
  | clockFault (t : Nat) (l : Leaf) (offFreq : Bool)
  /-- SRAM_UNCORRECTABLE (R24): ECC finds an uncorrectable SRAM error at a read or scrub, and the leaf is fenced. -/
  | sramUncorrectable (t : Nat) (l : Leaf) (word : Nat)
  /-- RESTART_FULL (R55): RESTART with MODE = FULL restarts both leaves if every string is OPEN, and is DENIED otherwise. -/
  | restartFull (t : Nat) (q : HReq)
  /-- RESTART_ROLLING (R56): RESTART with MODE = ROLLING begins by restarting the HOT STANDBY leaf. -/
  | restartRolling (t : Nat) (q : HReq)
  /-- ROLLING_RESTART_ADVANCE (R56): A leaf restarted by the rolling restart rejoins, and the sequence moves to its next handover or restart. -/
  | rollingRestartAdvance (t : Nat)
  /-- TIME_SET (R598): The TIME_SET command sets the seconds of device time while IEEE 1588 does not discipline it. -/
  | timeSet (t : Nat) (q : HReq)
  /-- PTP_SYNC_MESSAGE (R596): An IEEE 1588 message is received and used to discipline the network time unit. -/
  | ptpSyncMessage (t : Nat) (m : PtpMsg)
  /-- PTP_MASTER_LOST (R597): No Sync message arrives for 10 s; device time keeps its rate and PTP_MASTER_LOST is logged. -/
  | ptpMasterLost (t : Nat)
  /-- PPS_IN_EDGE (R598): A rising edge on PPS_IN marks the whole second while IEEE 1588 is disabled. -/
  | ppsInEdge (t : Nat)
  /-- KEY_PROGRAM (R71): KEY_PROGRAM writes a key hash into the lowest blank key slot and reads it back. -/
  | keyProgram (t : Nat) (q : HReq)
  /-- KEY_REVOKE (R72): KEY_REVOKE blows the revocation fuse of one key slot. -/
  | keyRevoke (t : Nat) (q : HReq)
  /-- STAGE_OPEN (R79): STAGE_OPEN begins staging, binds it to the session and reserves the staging stores. -/
  | stageOpen (t : Nat) (q : HReq)
  /-- STAGE_CHUNK (R80): STAGE_CHUNK stores one image chunk at its offset in both leaves' staging stores. -/
  | stageChunk (t : Nat) (q : HReq)
  /-- STAGE_CLOSE (R82): STAGE_CLOSE records APPLY_MODE and starts verification once no bytes are missing. -/
  | stageClose (t : Nat) (q : HReq)
  /-- STAGE_ABORT (R81): STAGE_ABORT abandons staging, or withdraws a STAGED image, and returns to IDLE. -/
  | stageAbort (t : Nat) (q : HReq)
  /-- APPLY (R86): APPLY moves a held STAGED image to APPLYING and restarts the hinge wait. -/
  | apply (t : Nat) (q : HReq)
  /-- REVERT (R99): REVERT applies the fallback slot's image without the SEQUENCE_OLD check. -/
  | revert (t : Nat) (q : HReq)
  /-- STAGING_TIMEOUT (R81): 60 s pass without a STAGE_CHUNK, and staging is abandoned. -/
  | stagingTimeout (t : Nat)
  /-- VERIFY_COMPLETE (R82): Both leaves have judged the staged copy; the checks of R82 pass into WRITING or reject the image. -/
  | verifyComplete (t : Nat) (bad : List Leaf)
  /-- SLOT_WRITE_COMPLETE (R86): The inactive slot write and its read-back end in both leaves, and the image becomes STAGED. -/
  | slotWriteComplete (t : Nat) (bad : Option (Leaf × Nat))
  /-- APPLY_TIMEOUT (R91): No hinge point occurs within 10 s of APPLYING, and the image returns to STAGED. -/
  | applyTimeout (t : Nat)
  /-- IMAGE_SLOT_REPAIR (R47): A slot valid in one leaf only has been copied across the Knuckle and verified. -/
  | imageSlotRepair (t : Nat) (l : Leaf) (slot : Nat)
  /-- SWEEP_LAUNCH (R240): At the sweep grid edge, SYNC is launched on every configured port of both leaves. -/
  | sweepLaunch (t : Nat)
  /-- REREQUEST_INSTANT (R211): At an end's re-request instant, CFG_RD of SAMPLE_LAST is sent to every position whose sample is missing. -/
  | rerequestInstant (t : Nat) (ring : Nat) (e : Leaf)
  /-- COLLECTION_DEADLINE (R249): The sweep's collection deadline passes; missing samples stay missing and the END marker is sent. -/
  | collectionDeadline (t : Nat)
  /-- INPUT_SEAL (R252): A leaf seals its input set when it holds the other leaf's END marker and counted items, or at D + 100 µs. -/
  | inputSeal (t : Nat) (d : DevIn)
  /-- INPUT_RESEAL (R256): After an input digest mismatch, items are resent once and the leaves re-seal by D + 200 µs. -/
  | inputReseal (t : Nat) (again : List KnItem)
  /-- COMMIT_POINT (R18): At the commit point every result of the sweep becomes visible at once. -/
  | commitPoint (t : Nat)
  /-- RESULT_COMPARE (R540): At commit + 20 µs, the leaves exchange and compare their result digests. -/
  | resultCompare (t : Nat) (faultA faultB : Option ChunkFault)
  /-- RESULT_RECOMPARE (R540): At commit + 100 µs, the re-hashed digests are compared, confirming a mismatch or counting a transient.
  A fault may have left other bytes in one chunk of a leaf. -/
  | resultRecompare (t : Nat) (chunk : Nat) (leftA leftB : Option (List Byte))
  /-- KAT_COMPLETE (R542): The known-answer tests end, and the Knuckle fences the failing leaf or orders a resynchronisation. -/
  | katComplete (t : Nat) (passA passB : Bool)
  /-- RESYNC_COMPLETE (R544): The state copy to the other leaf is complete and that leaf takes it over. -/
  | resyncComplete (t : Nat)
  /-- FAR_SYNC_MISSING (R263): No SYNC from the far end arrives by ts + t + 5 µs, and the ring leaves WHOLE. -/
  | farSyncMissing (t : Nat) (ring : Nat) (e : Leaf)
  /-- SYNC_RECEIVED (R182): A SYNC from the far end arrives at a master port; it is time-stamped and its HOP is compared with NODE_COUNT. -/
  | syncReceived (t : Nat) (ring : Nat) (e : Leaf) (sweepLow hop : Nat) (delay : Nat)
  /-- LEASE_PUBLISH (R491): 50 µs after the commit point, the ACTIVE leaf publishes the lease, HEARTBEAT and stream items. -/
  | leasePublish (t : Nat)
  /-- INTERIM_LEASE (R491): T_LEASE / 2 has passed since the last publication, and an interim lease is published. -/
  | interimLease (t : Nat)
  /-- ENUM_RSP_RECEIVED (R185): An ENUM_RSP arrives at a master port and is checked against the NODE_LIST entry. -/
  | enumRspReceived (t : Nat) (ring : Nat) (e : Leaf) (f : EnumRsp)
  /-- ENUM_RETURNED (R180): An ENUM returns round the ring to the far end, triggering the B-end ENUM and the whole-ring check. -/
  | enumReturned (t : Nat) (ring : Nat) (e : Leaf) (hop : Nat)
  /-- ENUM_WINDOW_CLOSE (R179): An end's ENUM answer window closes and the ring's positions are judged. -/
  | enumWindowClose (t : Nat) (ring : Nat) (e : Leaf)
  /-- SAMPLE_RSP_RECEIVED (R212): A SAMPLE_RSP arrives at a master port and is used or discarded for the current sweep. -/
  | sampleRspReceived (t : Nat) (ring : Nat) (e : Leaf) (f : SampleRsp)
  /-- RSP_RECEIVED (R205): An RSP matching the outstanding SEQ completes a request such as a configuration write or read-back. -/
  | rspReceived (t : Nat) (ring : Nat) (e : Leaf) (f : RspFrame)
  /-- NACK_RECEIVED (R207): A NACK arrives; BUSY is retried after the retry delay, and other reasons end the request. -/
  | nackReceived (t : Nat) (ring : Nat) (e : Leaf) (pos seq reason kind : Nat)
  /-- ALARM_RECEIVED (R436): An ALARM from an unquarantined node is decided within 100 µs. -/
  | alarmReceived (t : Nat) (ring : Nat) (e : Leaf) (f : AlarmFrame)
  /-- GROUP_SUMMARY_RECEIVED (R566): A GROUP_SUMMARY is collected and chosen like a SAMPLE_RSP. -/
  | groupSummaryReceived (t : Nat) (ring : Nat) (e : Leaf) (f : SampleRsp)
  /-- BAD_FRAME_RECEIVED (R158): A bad frame is discarded and counted at the port, with the code errors seen. -/
  | badFrameReceived (t : Nat) (ring : Nat) (e : Leaf) (x : BadLine)
  /-- BROADCAST_RETURNED (R159): A broadcast frame returns round the ring to a master port and is counted. -/
  | broadcastReturned (t : Nat) (ring : Nat) (e : Leaf)
  /-- PORT_LOS (R147): A master port receiver declares loss of signal. -/
  | portLos (t : Nat) (ring : Nat) (e : Leaf)
  /-- PORT_LINK_UP (R147): A master port receiver acquires alignment and declares the link up. -/
  | portLinkUp (t : Nat) (ring : Nat) (e : Leaf)
  /-- ANSWER_TIMEOUT (R207): A request's answer timeout expires, and it is retried or treated by its purpose. -/
  | answerTimeout (t : Nat) (ring : Nat) (e : Leaf) (pos : Nat)
  /-- BUSY_RETRY_DELAY (R207): The retry delay after a NACK BUSY expires, and the request is sent again. -/
  | busyRetryDelay (t : Nat) (ring : Nat) (e : Leaf) (pos : Nat)
  /-- ENUM_PROBE (R228): While a ring is not WHOLE, an end sends its next ENUM probe. -/
  | enumProbe (t : Nat) (ring : Nat) (e : Leaf)
  /-- CAL_ROUND_START (R196): Every 60 s on a WHOLE ring, a background calibration round starts. -/
  | calRoundStart (t : Nat) (ring : Nat)
  /-- CAL_SYNC_LAUNCH (R195): One of the eight calibration SYNCs is launched from both ends, 250 µs apart. -/
  | calSyncLaunch (t : Nat) (ring : Nat)
  /-- COMP_TRIP (R272): A fast current comparator trips and drives its leaf's Deadbolt trip input directly. -/
  | compTrip (t : Nat) (l : Leaf) (input : Nat) (x : CompInput)
  /-- LOGIC_DIE_SHUTDOWN (R415): Two logic-die sensors reach 135 °C, and the hardware sets the thermal latch. -/
  | logicDieShutdown (t : Nat) (temps : List Int)
  /-- POWER_DIE_BANK_SHUTDOWN (R415): A power-die bank sensor reaches 165 °C; the bank turns off and the thermal latch is set. -/
  | powerDieBankShutdown (t : Nat) (bank : Nat) (temp : Int)
  /-- MRAM_WRITE_REFUSE (R420): A leaf's die sensors leave the write window, and MRAM writes are refused. -/
  | mramWriteRefuse (t : Nat) (l : Leaf) (temp : Int)
  /-- MRAM_WRITE_ALLOW (R420): The die sensors return inside the window, and queued MRAM writes are retried. -/
  | mramWriteAllow (t : Nat) (l : Leaf)
  /-- RQ_LAPSE (R441): A leaf's RQ edge monitor judges RQ invalid, and the steering removes permission. -/
  | rqLapse (t : Nat) (l : Leaf)
  /-- TRIP_CLEAR (R447): TRIP_CLEAR clears, at the next seal, the latched trips whose cause is gone. -/
  | tripClear (t : Nat) (q : HReq)
  /-- DEADBOLT_CLEAR_ARM (R448): DEADBOLT_CLEAR with PHASE ARM arms the two-step clear for 5 s. -/
  | deadboltClearArm (t : Nat) (q : HReq)
  /-- DEADBOLT_CLEAR_CONFIRM (R449): DEADBOLT_CLEAR with PHASE CONFIRM checks at the next protection pass and clears DB_LATCH. -/
  | deadboltClearConfirm (t : Nat) (q : HReq)
  /-- STRING_CLOSE (R464): STRING_CLOSE queues a close request, or refuses it. -/
  | stringClose (t : Nat) (q : HReq)
  /-- STRING_OPEN (R466): STRING_OPEN removes a queued entry or starts a NORMAL or EMERGENCY opening. -/
  | stringOpen (t : Nat) (q : HReq)
  /-- STRING_UNLOCK (R483): STRING_UNLOCK runs a weld test on a LOCKED string and reopens it if the test passes. -/
  | stringUnlock (t : Nat) (q : HReq)
  /-- WELD_RETEST (R482): Once per second in WELD_SUSPECT, the opening command and a weld test are repeated. -/
  | weldRetest (t : Nat) (str : Nat)
  /-- LEASE_ACK (R620): The LEASE_ACK command delivers a PCS acknowledgement over Ward, to be judged at the next seal. -/
  | leaseAck (t : Nat) (q : HReq)
  /-- CAN_ACK_FRAME (R505): A CAN frame on an acknowledgement identifier is received. -/
  | canAckFrame (t : Nat) (f : CanFrame)
  /-- CAN_TIME_FRAME (R505): Once per second, the time frame is sent on CAN. -/
  | canTimeFrame (t : Nat)
  /-- CAN_BUS_OFF (R599): A CAN controller enters bus-off and recovers. -/
  | canBusOff (t : Nat) (ctl : Nat) (recovered : Bool)
  /-- SW_SET (R513): SW_SET sets or clears a channel's logic enable. -/
  | swSet (t : Nat) (q : HReq)
  /-- SW_REENABLE (R527): SW_REENABLE returns a latched channel to service, subject to the restart counter. -/
  | swReenable (t : Nat) (q : HReq)
  /-- SW_RESTART_RESET (R528): SW_RESTART_RESET clears RESTARTS and grants one re-enable. -/
  | swRestartReset (t : Nat) (q : HReq)
  /-- SW_OC_LATCH (R516): A channel exceeds its threshold for T_OC and latches off. -/
  | swOcLatch (t : Nat) (ch : Nat) (peak : Nat)
  /-- SW_SHORT_LATCH (R516): A channel reaches the hard short threshold and latches off. -/
  | swShortLatch (t : Nat) (ch : Nat) (peak : Nat)
  /-- SW_OPEN_LOAD (R519): An on-state or off-state open-load flag sets or clears. -/
  | swOpenLoad (t : Nat) (ch : Nat) (on flag : Bool)
  /-- SW_FREEWHEEL_FAULT (R521): An output goes below −2 V at turn-off; the count advances, latching at the third. -/
  | swFreewheelFault (t : Nat) (ch : Nat) (volt : Int)
  /-- SW_THERMAL_WARN (R522): A channel sensor reaches or leaves its warning threshold. -/
  | swThermalWarn (t : Nat) (ch : Nat) (temp : Int)
  /-- SW_THERMAL_LATCH (R523): A channel reaches its shutdown threshold and its thermal latch is set. -/
  | swThermalLatch (t : Nat) (ch : Nat) (temp : Int)
  /-- SW_BANK_UV (R529): A bank's VBB stays below VBB_UV for more than 20 µs. -/
  | swBankUv (t : Nat) (bank : Nat) (volt : Nat)
  /-- SW_BANK_UNPOWERED (R32): A bank's VBB falls below its bank logic POR, and its six channels turn off. -/
  | swBankUnpowered (t : Nat) (bank : Nat)
  /-- BANK_POWER_UP (R514): A bank's VBB rises above its logic POR; AON replays latches and channel modes are resent. -/
  | bankPowerUp (t : Nat) (bank : Nat)
  /-- SW_BANK_OV (R763): VBB rises above 38.0 V and the bank's channels turn off. -/
  | swBankOv (t : Nat) (bank : Nat) (volt : Nat)
  /-- BANK_OV_END (R763): VBB falls below 36.0 V and the bank's channels follow R511 again. -/
  | bankOvEnd (t : Nat) (bank : Nat)
  /-- IN_PIN_CHANGE (R511): An INn pin changes level, and a PIN or PIN_AND_LOGIC channel follows it. -/
  | inPinChange (t : Nat) (pin : Nat) (level : Bool)
  /-- KEEPALIVE_LOSS (R15): The power die receives no keep-alive for 1 ms and turns off its LOGIC channels. -/
  | keepaliveLoss (t : Nat)
  /-- BLANKING_END (R515): T_BLANK expires after a blanking start, and I_LAT replaces I_INR. -/
  | blankingEnd (t : Nat) (ch : Nat)
  /-- RESTART_DECAY (R528): A full 600 s without a latch passes, and RESTARTS decreases by 1. -/
  | restartDecay (t : Nat) (ch : Nat)
  /-- HEARTBEAT_LOSS (R538): Five heartbeats in a row are missed on a leaf's AON line, and that leaf is fenced. -/
  | heartbeatLoss (t : Nat) (l : Leaf)
  /-- KNUCKLE_LINK_LOSS (R552): No Knuckle heartbeat for 50 µs while both AON lines live, and the HOT STANDBY is fenced. -/
  | knuckleLinkLoss (t : Nat)
  /-- KNUCKLE_TRANSFER_RECEIVED (R537): A Knuckle transfer arrives; it is checked by CRC and asked for again once if bad. -/
  | knuckleTransferReceived (t : Nat) (dst : Leaf) (item : KnItem) (bad again : Bool)
  /-- LEAF_REJOIN (R556): LEAF_REJOIN starts the rejoin of a fenced leaf. -/
  | leafRejoin (t : Nat) (q : HReq)
  /-- LEAF_FENCE (R556): LEAF_FENCE fences a named leaf with cause COMMAND. -/
  | leafFence (t : Nat) (q : HReq)
  /-- HANDOVER (R556): HANDOVER makes the HOT STANDBY ACTIVE at the next commit point. -/
  | handover (t : Nat) (q : HReq)
  /-- LEAF_SELFTEST (R556): LEAF_SELFTEST runs the known-answer tests in both running leaves. -/
  | leafSelftest (t : Nat) (q : HReq)
  /-- REJOIN_STEP_COMPLETE (R554): A step of a rejoin completes; the leaf moves to its next step, or returns to FENCED on failure. -/
  | rejoinStepComplete (t : Nat) (l : Leaf) (ok : Bool)
  /-- UPLINK_ENUM (R560): The uplink bridge answers a parent ENUM with the group node's ENUM_RSP. -/
  | uplinkEnum (t : Nat) (e : Leaf) (seq hop : Nat) (p : EnumBody)
  /-- STRING_CMD (R563): A CFG_WR of STRING_CMD from the parent is judged as a close or open at the next commit point. -/
  | stringCmd (t : Nat) (r : UpReq)
  /-- PARENT_PERIOD (R579): A write of PARENT_PERIOD sets the base period, applied from the next commit point with realignment. -/
  | parentPeriod (t : Nat) (r : UpReq)
  /-- UPLINK_PASS (R570): The group node judges a PASS and forwards its inner frame or next hop. -/
  | uplinkPass (t : Nat) (e : Leaf) (seq : Nat) (payload : List Byte)
  /-- UPLINK_SAMPLE_LAST_READ (R565): A CFG_RD of SAMPLE_LAST is answered with a GROUP_SUMMARY of the last commit. -/
  | uplinkSampleLastRead (t : Nat) (r : UpReq)
  /-- NODE_REGISTER_WRITE (R178): A CFG_WR to a group-node link, calibration or group register without a row of its own is executed and answered. -/
  | nodeRegisterWrite (t : Nat) (r : UpReq)
  /-- PARENT_SYNC (R576): A parent SYNC arrives on an uplink port; it is forwarded, time-stamped and used for lock.
  `code` is SWEEP_LOW (R150), and `check` CHECK as received; a RATE (R154) has no HOP. -/
  | parentSync (t : Nat) (e : Leaf) (code : Nat) (hop : Option Nat) (check : Nat)
  /-- UPLINK_WINDOW_END (R565): After the window opened for a parent SYNC, the group node sends GROUP_SUMMARY unsolicited. -/
  | uplinkWindowEnd (t : Nat)
  /-- HOLDOVER_TIMEOUT (R576): No parent SYNC for four expected parent periods, and lock enters HOLDOVER. -/
  | holdoverTimeout (t : Nat)
  /-- UPLINK_MASTER_LOSS (R561): The group node detects loss of its parent master and logs NEST_UPLINK_LOST. -/
  | uplinkMasterLoss (t : Nat)
  /-- PASS_REPEAT (R573): A PASS answered NACK BUSY is repeated with the same SEQ after the retry delay. -/
  | passRepeat (t : Nat) (ring : Nat) (e : Leaf) (pos : Nat)
  /-- PASS_DEADLINE (R573): The PASS deadline expires and the request is treated as unanswered. -/
  | passDeadline (t : Nat) (ring : Nat) (e : Leaf) (pos : Nat)
  /-- NEST_PASS (R574): NEST_PASS sends one PASS from a master port and returns its answer. -/
  | nestPass (t : Nat) (q : HReq)
  /-- CHILD_LOST (R567): No summary is used from a child for 2 s, and the child record becomes LOST. -/
  | childLost (t : Nat) (ring pos : Nat)
  /-- WARD_HELLO (R604): A HELLO is answered with CHALLENGE, REJECT or nothing. -/
  | wardHello (t : Nat) (port addr peer protoMax : Nat) (nonce : List Byte)
  /-- WARD_FINISH (R607): A FINISH is verified, and the session opens with ACCEPT or is rejected. -/
  | wardFinish (t : Nat) (port addr sid : Nat) (tagOk : Bool) (plain : List Byte)
  /-- WARD_DATA (R608): An authenticated DATA packet is judged against the replay window and its messages are handled. -/
  | wardData (t : Nat) (p : WardPkt)
  /-- HANDSHAKE_TIMEOUT (R607): A handshake has no valid FINISH within 2 s and is abandoned. -/
  | handshakeTimeout (t : Nat) (slot : Nat)
  /-- SESSION_LOCKOUT_END (R607): The 60 s lockout of a slot ends, and HELLO is accepted again. -/
  | sessionLockoutEnd (t : Nat) (slot : Nat)
  /-- SESSION_IDLE_TIMEOUT (R611): 30 s pass without an authenticated packet and the session closes. -/
  | sessionIdleTimeout (t : Nat) (slot : Nat)
  /-- READ (R617): A READ message returns bytes of one block. -/
  | read (t : Nat) (q : HReq)
  /-- OVERLAY_VALUE_WRITE (R637): A write of an overlay entry's VALUE is judged and, if accepted, pending until the next seal. -/
  | overlayValueWrite (t : Nat) (q : HReq)
  /-- STICKY_CLEAR (R634): A w1c write to IDENT.STICKY clears the bits written as 1. -/
  | stickyClear (t : Nat) (q : HReq)
  /-- HOST_NOTE (R635): A write of CONTROL.HOST_NOTE logs HOST_NOTE with its 12 bytes. -/
  | hostNote (t : Nat) (q : HReq)
  /-- WRITE_OTHER (R631): A WRITE to any other range is refused without effect. -/
  | writeOther (t : Nat) (q : HReq)
  /-- BATCH (R618): A BATCH serves READ items from one commit, or applies WRITE items all or none. -/
  | batch (t : Nat) (q : HReq)
  /-- SUBSCRIBE_START (R619): SUBSCRIBE with ACTION start makes the session a receiver of a stream. -/
  | subscribeStart (t : Nat) (q : HReq)
  /-- SUBSCRIBE_STOP (R619): SUBSCRIBE with ACTION stop ends the session's subscription. -/
  | subscribeStop (t : Nat) (q : HReq)
  /-- CLOSE (R611): A CLOSE message closes the session. -/
  | close (t : Nat) (q : HReq)
  /-- KEEPALIVE (R612): A KEEPALIVE message keeps the session open without other effect. -/
  | keepalive (t : Nat) (q : HReq)
  /-- STREAM_SEND (R619): 176 words are waiting, or 10 ms have passed since the oldest, and a STREAM message is sent. -/
  | streamSend (t : Nat) (stream : Nat)
  /-- ARP_REQUEST (R593): An ARP frame is received and answered. -/
  | arpRequest (t : Nat) (port : Nat) (target sender : Nat) (probe : Bool)
  /-- NDP_MESSAGE (R593): An NDP message is received and handled, including duplicate address detection. -/
  | ndpMessage (t : Nat) (port : Nat) (kind : Nat) (target sender : Nat)
  /-- ICMP_ECHO (R593): An ICMP or ICMPv6 echo request is answered within its limits. -/
  | icmpEcho (t : Nat) (port : Nat) (v6 : Bool) (dst len : Nat)
  /-- PRP_SUPERVISION (R591): Every 2 s, PRP supervision frames are sent on both LANs. -/
  | prpSupervision (t : Nat)
  /-- PRP_LAN_FAULT (R624): No supervision frame or duplicate arrives on one LAN for 10 s. -/
  | prpLanFault (t : Nat) (lan : Nat)
  /-- PHY_POLL (R589): Every 1 s, the PHY's registers 0x01 and 0x0A are read over MDIO. -/
  | phyPoll (t : Nat) (port : Nat) (reg1 reg10 : Nat)
  /-- HOST_LINK_CHANGE (R624): An Ethernet port's link goes down or up, and HOST_LINK_DOWN or HOST_LINK_UP is logged. -/
  | hostLinkChange (t : Nat) (port : Nat) (up : Bool) (speed : Nat)
  /-- SPI_REQUEST (R601): An SPI REQUEST frame carries one Ward message to the maintenance session. -/
  | spiRequest (t : Nat) (len : Nat) (whole crcOk : Bool) (m : Msg)
  /-- SPI_ANSWER (R601): An SPI ANSWER frame returns and removes the oldest queued answer. -/
  | spiAnswer (t : Nat) (clocked : Bool)
  /-- SPI_STATUS (R601): An SPI STATUS frame returns the port's status bits. -/
  | spiStatus (t : Nat)
  /-- MAINT_EN_CHANGE (R600): MAINT_EN changes; the SPI port answers after 1 ms high, or falls silent. -/
  | maintEnChange (t : Nat) (level : Bool)
  /-- CHAIN_REENUM (R188): CHAIN_REENUM enumerates a ring or every ring again. -/
  | chainReenum (t : Nat) (q : HReq)
  /-- NODE_READ (R649): NODE_READ sends one CFG_RD to a node and returns its data. -/
  | nodeRead (t : Nat) (q : HReq)
  /-- NODE_WRITE (R650): NODE_WRITE sends one CFG_WR to a node or group and checks the read-backs. -/
  | nodeWrite (t : Nat) (q : HReq)
  /-- CELL_MINMAX_CLEAR (R647): CELL_MINMAX_CLEAR resets V_MIN and V_MAX of a range of cells at the next commit point. -/
  | cellMinmaxClear (t : Nat) (q : HReq)
  /-- BAL_NODE_RESUME (R387): BAL_NODE_RESUME releases a node from LOCKED_OUT. -/
  | balNodeResume (t : Nat) (q : HReq)
  /-- MARK_ALLOC (R687): MARK_ALLOC allocates a log mark at OLDEST, NEXT or a given sequence. -/
  | markAlloc (t : Nat) (q : HReq)
  /-- MARK_FREE (R687): MARK_FREE frees a mark owned by the session. -/
  | markFree (t : Nat) (q : HReq)
  /-- MARK_READ (R688): MARK_READ fills the read window with records from the mark and advances it. -/
  | markRead (t : Nat) (q : HReq)
  /-- STREAM_FLUSH (R659): STREAM_FLUSH discards a FIFO's items and writes FLUSHED. -/
  | streamFlush (t : Nat) (q : HReq)
  /-- STREAM_DATA_READ (R663): A read of a stream data object consumes the next words of the FIFO. -/
  | streamDataRead (t : Nat) (q : HReq)
  /-- LOSS_ITEM_WRITE (R658): A word becomes free with a LOSS pending, and the LOSS item is written. -/
  | lossItemWrite (t : Nat) (stream : Nat)
  /-- EVENT_RECORD_WRITTEN (R676): A record write and its read-back complete, and the next queued record starts. -/
  | eventRecordWritten (t : Nat) (l : Leaf) (ok : Bool) (lost : List Nat)
  /-- TOKEN_REFILL (R673): A code's token bucket gains a token at its refill interval. -/
  | tokenRefill (t : Nat) (code : Nat)
  /-- SNAPSHOT_COMPLETE (R346): A snapshot's units and read-back complete, and its descriptor is written VALID. -/
  | snapshotComplete (t : Nat) (l : Leaf) (ok : Bool)
  /-- SLEEP_ENTER (R697): SLEEP_ENTER is judged and SLEEP entry runs from the next commit point. -/
  | sleepEnter (t : Nat) (q : HReq)
  /-- SLEEP_RATE_LOW (R698): At commit + 2 ms, RATE LOW is sent and the cores are gated into SLEEP. -/
  | sleepRateLow (t : Nat)
  /-- SLEEP_HEARTBEAT (R699): Every 100 ms in SLEEP, each end sends HEARTBEAT at low rate. -/
  | sleepHeartbeat (t : Nat)
  /-- SLEEP_CURRENT_BLOCK (R701): A 100 ms block of sleep current is added to SLEEP_Q, and current above I_WAKE wakes the device. -/
  | sleepCurrentBlock (t : Nat) (raw : List Int)
  /-- SLEEP_SENSOR_CONVERSION (R699): Once per second in SLEEP, TS and die sensors are converted and thermal wake is judged. -/
  | sleepSensorConversion (t : Nat) (d : DevIn)
  /-- WAKE_N_ASSERT (R700): WAKE_N held low for 10 µs wakes the device. -/
  | wakeNAssert (t : Nat)
  /-- WAKE_TIMER (R700): WAKE_TIMER expires in SLEEP and wakes the device. -/
  | wakeTimer (t : Nat)
  /-- PICK_ARM (R713): PICK_ARM arms a set of injection rules. -/
  | pickArm (t : Nat) (q : HReq)
  /-- PICK_DISARM (R719): PICK_DISARM disarms Pick and releases held frames. -/
  | pickDisarm (t : Nat) (q : HReq)
  /-- PICK_EXPIRY (R719): T_ARM passes since arming, and Pick disarms. -/
  | pickExpiry (t : Nat)
  /-- PICK_HELD_RELEASE (R716): A frame held for DELAY or REORDER is released. -/
  | pickHeldRelease (t : Nat) (k : Nat)
  /-- PPS_OUT_SECOND (R598): At each whole TAI second of device time PPS_OUT rises, and it falls 100 ms later. -/
  | ppsOutSecond (t : Nat) (rise : Bool)
  /-- XA_JUDGED_GOOD (R9): XA is judged good again, and the network time unit and the Knuckle take their PLL reference back from XA. -/
  | xaJudgedGood (t : Nat)
  /-- MRAM_UNIT_WRITE_COMPLETE (R25): A queued MRAM unit write, such as a learning-store entry or a persistent counter, finishes with its read-back and leaves the leaf's write queue. -/
  | mramUnitWriteComplete (t : Nat) (l : Leaf) (ok : Bool)
  /-- READ_WINDOW_HOLD_END (R689): 1 s after a MARK_READ loaded the read window, the hold ends and EVENT_LOG FLAGS bit 3 clears. -/
  | readWindowHoldEnd (t : Nat)
  /-- DUPLICATE_ADDRESS_DETECTION_END (R594): Duplicate address detection or RFC 3927 probing of an address ends without conflict, and the port starts to use the address. -/
  | duplicateAddressDetectionEnd (t : Nat) (port : Nat) (addr : Nat)
  /-- VDD_MODE_CHANGE (R33): VDD crosses 0.97 V or 0.95 V, and the core changes between the direct and the regulated mode. -/
  | vddModeChange (t : Nat) (l : Leaf) (regulated : Bool)
  deriving DecidableEq, Repr

end Sys2Proof
end

