-- ==== Sys2Proof/Machine/EventCodes.lean ====
section
/-!
DEFINITION. The event codes of 30_event_codes.md: code, severity and default rate-limit class (R778, R779, R783),
and the packing of parameters into the twelve bytes of a record (R781).
-/
namespace Sys2Proof.Machine

namespace Ev
/-- LOG_START: source D; parameters R681. -/
abbrev logStart : Nat := 0x0001
/-- SUPPRESSED: source D; parameters R674. -/
abbrev suppressed : Nat := 0x0002
/-- QUEUE_LOSS: source D; parameters R678. -/
abbrev queueLoss : Nat := 0x0003
/-- LOG_MEDIA_FAULT: source L; parameters R683. -/
abbrev logMediaFault : Nat := 0x0004
/-- LOG_FAILED: source L; parameters None. -/
abbrev logFailed : Nat := 0x0005
/-- THERMAL_LATCH_CARRIED: source D; parameters Cause, source (2), value (2), sweep (4), from R417. -/
abbrev thermalLatchCarried : Nat := 0x0006
/-- BITTING_APPLIED: source D; parameters SEQUENCE (4), slot, HINGE_SWEEP (4). -/
abbrev bittingApplied : Nat := 0x0101
/-- BITTING_REJECTED: source D; parameters R73. -/
abbrev bittingRejected : Nat := 0x0102
/-- UNKEYED_START: source D; parameters None. -/
abbrev unkeyedStart : Nat := 0x0103
/-- IMAGE_SLOT_REPAIRED: source L; parameters Slot, SEQUENCE (4). -/
abbrev imageSlotRepaired : Nat := 0x0104
/-- IMAGE_STAGED: source D; parameters SEQUENCE (4). -/
abbrev imageStaged : Nat := 0x0105
/-- IMAGE_APPLY_ABANDONED: source D; parameters Reason, SEQUENCE (4). -/
abbrev imageApplyAbandoned : Nat := 0x0106
/-- SECTION_IGNORED: source D; parameters TYPE, INSTANCE. -/
abbrev sectionIgnored : Nat := 0x0107
/-- OVERLAY_DROPPED: source D; parameters TYPE, INSTANCE, OFFSET. -/
abbrev overlayDropped : Nat := 0x0108
/-- SLOT_WRITE_FAULT: source L; parameters Slot, unit index (4). -/
abbrev slotWriteFault : Nat := 0x0109
/-- KEY_PROGRAMMED: source D; parameters R71. -/
abbrev keyProgrammed : Nat := 0x010A
/-- KEY_REVOKED: source D; parameters Slot. -/
abbrev keyRevoked : Nat := 0x010B
/-- IMAGE_WITHDRAWN: source D; parameters Slot, SEQUENCE (4). -/
abbrev imageWithdrawn : Nat := 0x010C
/-- STAGING_ABORTED: source D; parameters Cause, bytes received (4). -/
abbrev stagingAborted : Nat := 0x010D
/-- CHAIN_BREAK: source R; parameters R223. -/
abbrev chainBreak : Nat := 0x0201
/-- CHAIN_RESTORED: source R; parameters None. -/
abbrev chainRestored : Nat := 0x0202
/-- NODE_QUARANTINED: source N; parameters R187, then register (R201). -/
abbrev nodeQuarantined : Nat := 0x0203
/-- NODE_RESET_SEEN: source N; parameters R220. -/
abbrev nodeResetSeen : Nat := 0x0204
/-- RING_COUNT_MISMATCH: source R; parameters R181. -/
abbrev ringCountMismatch : Nat := 0x0205
/-- NODE_NO_ANSWER: source N; parameters KIND, SEQ. -/
abbrev nodeNoAnswer : Nat := 0x0206
/-- NODE_NACK: source N; parameters REASON, KIND_REFUSED. -/
abbrev nodeNack : Nat := 0x0207
/-- RING_LOST: source R; parameters None. -/
abbrev ringLost : Nat := 0x0208
/-- CAL_DONE: source R; parameters CAL_STATE, T_RING (4). -/
abbrev calDone : Nat := 0x0209
/-- CAL_DEGRADED: source R; parameters Position, CAL_STATE. -/
abbrev calDegraded : Nat := 0x020A
/-- NODE_RECONFIGURED: source N; parameters BOOT_COUNT. -/
abbrev nodeReconfigured : Nat := 0x020B
/-- SPLIT_MOVED: source R; parameters R226. -/
abbrev splitMoved : Nat := 0x020C
/-- CELL_STALE: source N; parameters R260. -/
abbrev cellStale : Nat := 0x0301
/-- SAMPLE_DISTURBED: source N; parameters DISTURBED, RESIDUAL_MAX. -/
abbrev sampleDisturbed : Nat := 0x0302
/-- SAMPLE_LATE: source R; parameters R249. -/
abbrev sampleLate : Nat := 0x0303
/-- SAMPLE_COPY_DIFFER: source N; parameters Sweep (4). -/
abbrev sampleCopyDiffer : Nat := 0x0304
/-- SWEEP_PERIOD_CHANGED: source D; parameters R233. -/
abbrev sweepPeriodChanged : Nat := 0x0305
/-- CURRENT_PLAUS: source I; parameters Count (0 PATH, 1 NODE), excluded path (0 none, 1 A, 2 B), path A (4), path B (4). -/
abbrev currentPlaus : Nat := 0x0401
/-- CURRENT_FAST_TRIP: source I; parameters R272. -/
abbrev currentFastTrip : Nat := 0x0402
/-- CURRENT_CLIPPED: source I; parameters Path. -/
abbrev currentClipped : Nat := 0x0403
/-- CURRENT_PATH_LOST: source I; parameters R268. -/
abbrev currentPathLost : Nat := 0x0404
/-- CURRENT_ABSENT: source S; parameters ABSENT_COUNT. -/
abbrev currentAbsent : Nat := 0x0405
/-- SOC_CONFLICT_EMPTY: source C; parameters v_c (4), soc_raw (4), E in mC (4). -/
abbrev socConflictEmpty : Nat := 0x0501
/-- SOC_CONFLICT_FULL: source C; parameters As 0x0501. -/
abbrev socConflictFull : Nat := 0x0502
/-- ESTIMATE_DRIFT: source S; parameters R312. -/
abbrev estimateDrift : Nat := 0x0503
/-- ANCHOR_TAKEN: source C; parameters R308. -/
abbrev anchorTaken : Nat := 0x0504
/-- CAPACITY_UPDATE: source C; parameters R334. -/
abbrev capacityUpdate : Nat := 0x0601
/-- CAP_OUTLIER: source C; parameters R335. -/
abbrev capOutlier : Nat := 0x0602
/-- WEAK_CELL: source C; parameters R343. -/
abbrev weakCell : Nat := 0x0603
/-- CAPACITY_STEP: source C; parameters Old and new CAPACITY. -/
abbrev capacityStep : Nat := 0x0604
/-- SNAPSHOT_WRITTEN: source L; parameters SNAP_SEQ, LAST_SWEEP. -/
abbrev snapshotWritten : Nat := 0x0605
/-- SNAPSHOT_DEFERRED: source L; parameters SNAP_SEQ. -/
abbrev snapshotDeferred : Nat := 0x0606
/-- SNAPSHOT_RESTORED: source D; parameters R349. -/
abbrev snapshotRestored : Nat := 0x0607
/-- SNAPSHOT_NONE: source D; parameters None. -/
abbrev snapshotNone : Nat := 0x0608
/-- CHARGE_TEMP_BLOCK: source S; parameters R370. -/
abbrev chargeTempBlock : Nat := 0x0701
/-- LIMIT_ZERO: source S; parameters R370. -/
abbrev limitZero : Nat := 0x0702
/-- BANK_LIMIT_ZERO: source D; parameters R370. -/
abbrev bankLimitZero : Nat := 0x0703
/-- BAL_STATE_CHANGED: source D; parameters R396. -/
abbrev balStateChanged : Nat := 0x0801
/-- BAL_MODE_CHANGED: source S; parameters Old and new mode. -/
abbrev balModeChanged : Nat := 0x0802
/-- BAL_STRING_SUSPENDED: source S; parameters Cause bits. -/
abbrev balStringSuspended : Nat := 0x0803
/-- BAL_STRING_RESUMED: source S; parameters Cause bits. -/
abbrev balStringResumed : Nat := 0x0804
/-- BAL_NODE_SUSPENDED: source N; parameters R386. -/
abbrev balNodeSuspended : Nat := 0x0805
/-- BAL_NODE_RESUMED: source N; parameters None. -/
abbrev balNodeResumed : Nat := 0x0806
/-- BAL_REST_YIELD: source S; parameters 0 entry or 1 exit, LOW_TIME. -/
abbrev balRestYield : Nat := 0x0808
/-- SENSOR_BROKEN: source E; parameters R403. -/
abbrev sensorBroken : Nat := 0x0901
/-- THROTTLE_STEP: source Z; parameters R410. -/
abbrev throttleStep : Nat := 0x0902
/-- RISE_TRIP: source Z; parameters R414. -/
abbrev riseTrip : Nat := 0x0903
/-- THERMAL_LATCH: source Z for causes 0x01 to 0x03; E for causes 0x04 and 0x05; as R417; parameters Cause, value (2) as R417, sweep (4). -/
abbrev thermalLatch : Nat := 0x0904
/-- SENSOR_RESTORED: source E; parameters Zone. -/
abbrev sensorRestored : Nat := 0x0905
/-- SENSOR_SUBSTITUTED: source E; parameters Zone. -/
abbrev sensorSubstituted : Nat := 0x0906
/-- COLD_STOP: source Z; parameters T_MIN. -/
abbrev coldStop : Nat := 0x0907
/-- DEVICE_THERMAL_STEP: source D; parameters R419. -/
abbrev deviceThermalStep : Nat := 0x0908
/-- MRAM_WRITE_HELD: source L; parameters Temperature. -/
abbrev mramWriteHeld : Nat := 0x0909
/-- CELL_OV_TRIP: source C; parameters R432. -/
abbrev cellOvTrip : Nat := 0x0A01
/-- CELL_UV_TRIP: source C; parameters R432. -/
abbrev cellUvTrip : Nat := 0x0A02
/-- STRING_OC_TRIP: source S; parameters R433. -/
abbrev stringOcTrip : Nat := 0x0A03
/-- DEADBOLT_THROWN: source D; parameters R443. -/
abbrev deadboltThrown : Nat := 0x0A04
/-- CELL_OV_WARN: source C; parameters V. -/
abbrev cellOvWarn : Nat := 0x0A05
/-- CELL_UV_WARN: source C; parameters V. -/
abbrev cellUvWarn : Nat := 0x0A06
/-- STRING_I2T_TRIP: source S; parameters E (8). -/
abbrev stringI2tTrip : Nat := 0x0A07
/-- PCS_NONCOMP_TRIP: source D; parameters R501. -/
abbrev pcsNoncompTrip : Nat := 0x0A08
/-- ISOLATION_FAULT: source S; parameters Origin (0 CONTACTS, 1 alarm). -/
abbrev isolationFault : Nat := 0x0A09
/-- NODE_ALARM: source N; parameters R436. -/
abbrev nodeAlarm : Nat := 0x0A0A
/-- DEADBOLT_CLEARED: source D; parameters Slot. -/
abbrev deadboltCleared : Nat := 0x0A0B
/-- CLEAR_REFUSED: source D; parameters R449. -/
abbrev clearRefused : Nat := 0x0A0C
/-- TRIP_CLEARED: source S; parameters Functions cleared (2). -/
abbrev tripCleared : Nat := 0x0A0D
/-- PROT_DECISION_DIFFER: source S, or D for every string; parameters R428, then leaf. -/
abbrev protDecisionDiffer : Nat := 0x0A0E
/-- DEADBOLT_RELEASED: source D; parameters HOLD_CAUSE cleared. -/
abbrev deadboltReleased : Nat := 0x0A0F
/-- PRECHARGE_TIMEOUT: source S; parameters R470. -/
abbrev prechargeTimeout : Nat := 0x0B01
/-- WELD_SUSPECT: source S; parameters R482. -/
abbrev weldSuspect : Nat := 0x0B02
/-- STRING_CLOSED: source S; parameters R472. -/
abbrev stringClosed : Nat := 0x0B03
/-- STRING_OPENED: source S; parameters R478. -/
abbrev stringOpened : Nat := 0x0B04
/-- CLOSE_ABORTED: source S; parameters Reason (R474). -/
abbrev closeAborted : Nat := 0x0B05
/-- CONTACTOR_LOST: source S; parameters Contactor. -/
abbrev contactorLost : Nat := 0x0B06
/-- STRING_LOCKED: source S; parameters None. -/
abbrev stringLocked : Nat := 0x0B07
/-- STRING_UNLOCKED: source S; parameters Slot. -/
abbrev stringUnlocked : Nat := 0x0B08
/-- PRECHARGE_STUCK: source S; parameters None. -/
abbrev prechargeStuck : Nat := 0x0B09
/-- LEASE_VIOLATION: source D; parameters R501. -/
abbrev leaseViolation : Nat := 0x0C01
/-- LEASE_SILENCE: source D; parameters R499. -/
abbrev leaseSilence : Nat := 0x0C02
/-- LEASE_SILENCE_OPEN: source D; parameters A (4), C (4). -/
abbrev leaseSilenceOpen : Nat := 0x0C03
/-- LEASE_ACK_ERROR: source D; parameters R497. -/
abbrev leaseAckError : Nat := 0x0C04
/-- LEASE_RESUMED: source D; parameters A (4). -/
abbrev leaseResumed : Nat := 0x0C05
/-- REST_GRANTED: source D; parameters REST_START. -/
abbrev restGranted : Nat := 0x0C06
/-- REST_REFUSED: source D; parameters Cause. -/
abbrev restRefused : Nat := 0x0C07
/-- REST_VIOLATED: source S; parameters I_EST. -/
abbrev restViolated : Nat := 0x0C08
/-- SW_OC_LATCH: source H; parameters R516. -/
abbrev swOcLatch : Nat := 0x0D01
/-- SW_SHORT_LATCH: source H; parameters R516. -/
abbrev swShortLatch : Nat := 0x0D02
/-- SW_OPEN_LOAD: source H; parameters R519. -/
abbrev swOpenLoad : Nat := 0x0D03
/-- SW_FREEWHEEL_FAULT: source H; parameters R521. -/
abbrev swFreewheelFault : Nat := 0x0D04
/-- SW_THERMAL_WARN: source H; parameters Temperature. -/
abbrev swThermalWarn : Nat := 0x0D05
/-- SW_THERMAL_LATCH: source H; parameters R523. -/
abbrev swThermalLatch : Nat := 0x0D06
/-- SW_REENABLED: source H; parameters RESTARTS. -/
abbrev swReenabled : Nat := 0x0D07
/-- SW_RESTART_DENIED: source H; parameters RESTARTS. -/
abbrev swRestartDenied : Nat := 0x0D08
/-- SW_BANK_UV: source W; parameters R529. -/
abbrev swBankUv : Nat := 0x0D09
/-- SW_BANK_UNPOWERED: source W; parameters None. -/
abbrev swBankUnpowered : Nat := 0x0D0A
/-- SW_BANK_OV: source W; parameters R763. -/
abbrev swBankOv : Nat := 0x0D0B
/-- KNUCKLE_MISMATCH: source D; parameters Sweep (4), first differing chunk, flags (bit 0 transient, bit 1 input). -/
abbrev knuckleMismatch : Nat := 0x0E01
/-- LEAF_FENCED: source L; parameters R546. -/
abbrev leafFenced : Nat := 0x0E02
/-- FAILOVER: source L; parameters Interruption, µs (2). -/
abbrev failover : Nat := 0x0E03
/-- KNUCKLE_DIVERGENCE: source D; parameters Sweep (4). -/
abbrev knuckleDivergence : Nat := 0x0E04
/-- KNUCKLE_RESYNC: source L; parameters None. -/
abbrev knuckleResync : Nat := 0x0E05
/-- LEAF_REJOINED: source L; parameters None. -/
abbrev leafRejoined : Nat := 0x0E06
/-- LEAF_REJOIN_FAILED: source L; parameters Step. -/
abbrev leafRejoinFailed : Nat := 0x0E07
/-- KNUCKLE_LINK_LOSS: source D; parameters None. -/
abbrev knuckleLinkLoss : Nat := 0x0E08
/-- KAT_RESULT: source D; parameters KAT_RESULT. -/
abbrev katResult : Nat := 0x0E09
/-- HANDOVER: source L; parameters Interruption, µs (2). -/
abbrev handover : Nat := 0x0E0A
/-- MRAM_QUEUE_OVERFLOW: source L; parameters Cell index. -/
abbrev mramQueueOverflow : Nat := 0x0E0B
/-- SYSTEM_READY: source D; parameters CHILDREN_PRESENT. -/
abbrev systemReady : Nat := 0x0F01
/-- NEST_LOCK: source D; parameters Old and new state, PHASE_ERR. -/
abbrev nestLock : Nat := 0x0F02
/-- NEST_CHILD_STATE: source G; parameters R567. -/
abbrev nestChildState : Nat := 0x0F03
/-- NEST_UPLINK_LOST: source D; parameters None. -/
abbrev nestUplinkLost : Nat := 0x0F04
/-- NEST_ENDPOINT_CONFLICT: source G; parameters ENDPOINT_BASE, ENDPOINT_SPAN. -/
abbrev nestEndpointConflict : Nat := 0x0F05
/-- NEST_STRING_CMD: source S; parameters R563. -/
abbrev nestStringCmd : Nat := 0x0F06
/-- SESSION_OPENED: source K; parameters PEER_ID, port. -/
abbrev sessionOpened : Nat := 0x1001
/-- SESSION_CLOSED: source K; parameters CLOSE_CAUSE. -/
abbrev sessionClosed : Nat := 0x1002
/-- SESSION_AUTH_FAIL: source K; parameters None. -/
abbrev sessionAuthFail : Nat := 0x1003
/-- SESSION_LOCKOUT: source K; parameters None. -/
abbrev sessionLockout : Nat := 0x1004
/-- HOST_LINK_DOWN: source D; parameters R624. -/
abbrev hostLinkDown : Nat := 0x1005
/-- PTP_MASTER_LOST: source D; parameters Port. -/
abbrev ptpMasterLost : Nat := 0x1006
/-- PTP_MASTER_CHANGED: source D; parameters Port, clock identity (8). -/
abbrev ptpMasterChanged : Nat := 0x1007
/-- ADDRESS_CONFLICT: source D; parameters Port, family (4 or 6). -/
abbrev addressConflict : Nat := 0x1008
/-- CAN_BUS_OFF: source L; parameters None. -/
abbrev canBusOff : Nat := 0x1009
/-- HOST_LINK_UP: source D; parameters R624. -/
abbrev hostLinkUp : Nat := 0x100A
/-- PRP_LAN_FAULT: source D; parameters LAN. -/
abbrev prpLanFault : Nat := 0x100B
/-- HOST_NOTE: source K; parameters The 12 bytes written. -/
abbrev hostNote : Nat := 0x100C
/-- STREAM_LOSS: source F; parameters Count. -/
abbrev streamLoss : Nat := 0x1101
/-- STREAM_FLUSHED: source F; parameters Count. -/
abbrev streamFlushed : Nat := 0x1102
/-- SLEEP_ENTERED: source D; parameters Cause, sweep (4). -/
abbrev sleepEntered : Nat := 0x1201
/-- SLEEP_WOKE: source D; parameters Cause bits (2), time asleep, s (4). -/
abbrev sleepWoke : Nat := 0x1202
/-- SLEEP_REFUSED: source D; parameters Reason. -/
abbrev sleepRefused : Nat := 0x1203
/-- PICK_ARMED: source K; parameters T_ARM, RULE_COUNT, disarm flag, disarm cause. -/
abbrev pickArmed : Nat := 0x1301
/-- PICK_INJECT: source D; parameters R718. -/
abbrev pickInject : Nat := 0x1302
/-- SUPPLY_LOSS: source L; parameters Rail (RAILS bit). -/
abbrev supplyLoss : Nat := 0x1401
/-- CLOCK_LOSS: source L; parameters Cause (0 stopped, 1 frequency, 2 lock). -/
abbrev clockLoss : Nat := 0x1402
/-- X32_FALLBACK: source D; parameters None. -/
abbrev x32Fallback : Nat := 0x1403
/-- START_REPORT: source D; parameters RESET_CAUSE, last step reached, RUN time µs (4), first-sweep time µs (4). -/
abbrev startReport : Nat := 0x1404
/-- TIME_STEP: source D; parameters Step, signed ns (8). -/
abbrev timeStep : Nat := 0x1405
/-- SRAM_UNCORRECTABLE: source L; parameters Word address (4). -/
abbrev sramUncorrectable : Nat := 0x1406
end Ev

/-- Rows of R783, part 1: code, severity, default class (0 U, 1 A, 2 B, 3 C, 4 D). -/
def evRows1 : List (Nat × Nat × Nat) :=
  [(0x0001, 1, 0), (0x0002, 1, 0), (0x0003, 3, 0), (0x0004, 6, 0), (0x0005, 6, 0), (0x0006, 5, 0),
   (0x0101, 2, 1), (0x0102, 3, 1), (0x0103, 3, 0), (0x0104, 2, 1), (0x0105, 2, 1), (0x0106, 3, 1),
   (0x0107, 2, 3), (0x0108, 2, 3), (0x0109, 4, 1), (0x010A, 3, 0), (0x010B, 3, 0), (0x010C, 2, 1),
   (0x010D, 2, 1), (0x0201, 4, 2), (0x0202, 2, 2), (0x0203, 4, 2), (0x0204, 3, 2), (0x0205, 4, 2),
   (0x0206, 3, 2), (0x0207, 2, 2), (0x0208, 4, 1), (0x0209, 1, 3), (0x020A, 3, 3), (0x020B, 2, 2),
   (0x020C, 2, 2), (0x0301, 4, 2), (0x0302, 2, 3), (0x0303, 2, 2)]

/-- Rows of R783, part 2: code, severity, default class (0 U, 1 A, 2 B, 3 C, 4 D). -/
def evRows2 : List (Nat × Nat × Nat) :=
  [(0x0304, 3, 2), (0x0305, 2, 1), (0x0401, 4, 1), (0x0402, 5, 0), (0x0403, 3, 2), (0x0404, 4, 1),
   (0x0405, 4, 2), (0x0501, 3, 4), (0x0502, 3, 4), (0x0503, 3, 2), (0x0504, 1, 4), (0x0601, 1, 4),
   (0x0602, 2, 4), (0x0603, 3, 3), (0x0604, 3, 3), (0x0605, 1, 1), (0x0606, 2, 1), (0x0607, 2, 0),
   (0x0608, 3, 0), (0x0701, 2, 2), (0x0702, 2, 2), (0x0703, 3, 2), (0x0801, 2, 1), (0x0802, 1, 3),
   (0x0803, 2, 2), (0x0804, 1, 2), (0x0805, 3, 2), (0x0806, 1, 2), (0x0808, 1, 2), (0x0901, 3, 2),
   (0x0902, 2, 1), (0x0903, 5, 0), (0x0904, 6, 0), (0x0905, 1, 2)]

/-- Rows of R783, part 3: code, severity, default class (0 U, 1 A, 2 B, 3 C, 4 D). -/
def evRows3 : List (Nat × Nat × Nat) :=
  [(0x0906, 3, 2), (0x0907, 4, 1), (0x0908, 3, 1), (0x0909, 3, 1), (0x0A01, 5, 1), (0x0A02, 5, 1),
   (0x0A03, 5, 1), (0x0A04, 6, 0), (0x0A05, 3, 3), (0x0A06, 3, 3), (0x0A07, 5, 1), (0x0A08, 5, 0),
   (0x0A09, 5, 1), (0x0A0A, 4, 1), (0x0A0B, 3, 0), (0x0A0C, 3, 0), (0x0A0D, 2, 1), (0x0A0E, 4, 1),
   (0x0A0F, 2, 0), (0x0B01, 4, 1), (0x0B02, 4, 1), (0x0B03, 2, 1), (0x0B04, 2, 1), (0x0B05, 3, 1),
   (0x0B06, 4, 1), (0x0B07, 5, 0), (0x0B08, 3, 0), (0x0B09, 3, 2), (0x0C01, 4, 1), (0x0C02, 4, 1),
   (0x0C03, 4, 1), (0x0C04, 2, 2), (0x0C05, 2, 1), (0x0C06, 1, 1)]

/-- Rows of R783, part 4: code, severity, default class (0 U, 1 A, 2 B, 3 C, 4 D). -/
def evRows4 : List (Nat × Nat × Nat) :=
  [(0x0C07, 2, 1), (0x0C08, 3, 1), (0x0D01, 3, 1), (0x0D02, 4, 1), (0x0D03, 3, 2), (0x0D04, 4, 1),
   (0x0D05, 3, 2), (0x0D06, 5, 0), (0x0D07, 2, 1), (0x0D08, 2, 2), (0x0D09, 3, 2), (0x0D0A, 4, 1),
   (0x0D0B, 4, 1), (0x0E01, 4, 1), (0x0E02, 5, 0), (0x0E03, 5, 0), (0x0E04, 4, 0), (0x0E05, 3, 0),
   (0x0E06, 2, 0), (0x0E07, 4, 0), (0x0E08, 5, 0), (0x0E09, 2, 1), (0x0E0A, 2, 0), (0x0E0B, 4, 1),
   (0x0F01, 2, 0), (0x0F02, 2, 2), (0x0F03, 2, 2), (0x0F04, 3, 2), (0x0F05, 4, 2), (0x0F06, 2, 1),
   (0x1001, 1, 2), (0x1002, 1, 2), (0x1003, 3, 2), (0x1004, 4, 1)]

/-- Rows of R783, part 5: code, severity, default class (0 U, 1 A, 2 B, 3 C, 4 D). -/
def evRows5 : List (Nat × Nat × Nat) :=
  [(0x1005, 3, 2), (0x1006, 3, 2), (0x1007, 2, 2), (0x1008, 4, 2), (0x1009, 4, 2), (0x100A, 2, 2),
   (0x100B, 4, 2), (0x100C, 1, 1), (0x1101, 3, 2), (0x1102, 2, 2), (0x1201, 2, 1), (0x1202, 2, 1),
   (0x1203, 2, 2), (0x1301, 3, 0), (0x1302, 2, 1), (0x1401, 5, 0), (0x1402, 5, 0), (0x1403, 3, 0),
   (0x1404, 2, 0), (0x1405, 2, 0), (0x1406, 5, 0)]

/-- The code table of R783. -/
def evRows : List (Nat × Nat × Nat) := evRows1 ++ evRows2 ++ evRows3 ++ evRows4 ++ evRows5

/-- Severity of a code; codes outside the table are never raised (R778). -/
def evSeverity (code : Nat) : Nat := ((evRows.find? (fun r => r.1 = code)).map (·.2.1)).getD 0

/-- Whether R783 lists a code. -/
def evListed (code : Nat) : Bool := (evRows.find? (fun r => r.1 = code)).isSome

/-- Default DEPTH and REFILL of a code's class (R779). -/
def evDefault (code : Nat) : Nat × Nat :=
  match ((evRows.find? (fun r => r.1 = code)).map (·.2.2)).getD 0 with
  | 0 => (15, 0)
  | 1 => (15, 3)
  | 2 => (4, 4)
  | 3 => (3, 5)
  | _ => (2, 6)

/-- Refill intervals of R129 in ns; class 0 is unlimited. -/
def refillNs (cls : Nat) : Nat :=
  match cls with
  | 0 => 0
  | 1 => 10000000
  | 2 => 100000000
  | 3 => 1000000000
  | 4 => 10000000000
  | 5 => 60000000000
  | 6 => 600000000000
  | _ => 3600000000000

/-- A parameter of a record: its width in bytes and its value. -/
abbrev Param := Nat × Nat

/-- A one-byte parameter. -/
abbrev p1 (n : Nat) : Param := (1, n)
/-- A two-byte parameter. -/
abbrev p2 (n : Nat) : Param := (2, n)
/-- A four-byte parameter. -/
abbrev p4 (n : Nat) : Param := (4, n)
/-- An eight-byte parameter. -/
abbrev p8 (n : Nat) : Param := (8, n)
/-- A signed parameter of `w` bytes. -/
abbrev ps (w : Nat) (x : Int) : Param := (w, ofSigned w x)

/-- Parameters in order while they fit whole in `room` bytes (R781). -/
def packFit : Nat → List Param → List Byte
  | _, [] => []
  | room, (w, v) :: r => if w ≤ room then toLe w v ++ packFit (room - w) r else []

/-- The twelve PARAMETERS bytes of a record (R781). -/
def packParams (ps : List Param) : List Byte :=
  let l := packFit 12 ps
  l ++ List.replicate (12 - l.length) 0

end Sys2Proof.Machine
end

