-- ==== Sys2Proof/Config.lean ====
section
/-!
DEFINITION. What a part fixes for good, and the values the manual leaves open. A free value is an opaque
constant: nothing in Lean can evaluate it, so a statement about it holds for every value it can have.
-/
namespace Sys2Proof.Config

/-- IDENT.UID of this part (R633): issued with the part. Free. -/
opaque deviceUid : Nat
/-- IDENT.SILICON_REV of this part (R633), the bit of COMPAT_REVISIONS it needs (R63). Free. -/
opaque siliconRev : Nat
/-- IDENT.FUSE_STATE (R633): its three low bits come from fuses. Free. -/
opaque fuseState : Nat
/-- The two MAC addresses of the fuses (R590). Free. -/
opaque mac : Nat → Nat
/-- The device's key-wrap key (R128): 32 bytes in fuses, issued with the part. Free. -/
opaque keyWrapKey : List Byte
/-- The pre-shared key of the factory maintenance credential (R51), held in fuses. -/
opaque factoryKey : List Byte
/-- The IPv6 link-local address that derives from IDENT.UID (R594). Its derivation is not given. Free. -/
opaque linkLocal6 : Nat → Nat
/-- The number that stands for a case which the manual names without giving it a code: event or field, case in its list. DESIGN CHOICE, log 63. -/
opaque caseCode : Nat → Nat → Nat
/-- A free value by number: the fresh outcome of a choice the manual leaves open, drawn with State's counter. -/
opaque freeNat : Nat → Nat
/-- The supply voltage of a bank, LSB 10 mV, at an instant (R531): a measured value that no command brings. DESIGN CHOICE, log 83. -/
opaque bankVoltage : Nat → Nat → Nat
/-- Bits of the TAP's instruction register (R752): IEEE 1149.1 leaves it to the part. Free. DESIGN CHOICE, log 98. -/
opaque tapIrLength : Nat
/-- The instruction that a code of the TAP's instruction register selects, as 0 BYPASS, 1 IDCODE, 2 SAMPLE/PRELOAD, 3 EXTEST;
all ones are BYPASS by the standard (R752). Free. DESIGN CHOICE, log 98. -/
opaque tapCode : List Bool → Nat
/-- Cells of the boundary-scan register (R752). Free. DESIGN CHOICE, log 98. -/
opaque tapCells : Nat
/-- A free Bool by number. -/
opaque freeBool : Nat → Bool
/-- A free integer by number. -/
opaque freeInt : Nat → Int
/-- A free byte string by number. -/
opaque freeBytes : Nat → List Byte

end Sys2Proof.Config
end

