-- ==== Sys2Proof/Machine/Crypto.lean ====
section
/-!
DEFINITION. The standards that the manual names: SHA-256 and ECDSA on P-256 (FIPS 180-4, FIPS 186-5; R67 to R69, R75, R255,
R539), HKDF-SHA-256 (IETF RFC 5869; R605) and the AES key wrap (FIPS 197, IETF RFC 3394; R128).
-/
namespace Sys2Proof.Machine

/-! ### SHA-256 -/

/-- The round constants. -/
def shaK : List (BitVec 32) :=
  [0x428a2f98, 0x71374491, 0xb5c0fbcf, 0xe9b5dba5, 0x3956c25b, 0x59f111f1, 0x923f82a4, 0xab1c5ed5] ++
  [0xd807aa98, 0x12835b01, 0x243185be, 0x550c7dc3, 0x72be5d74, 0x80deb1fe, 0x9bdc06a7, 0xc19bf174] ++
  [0xe49b69c1, 0xefbe4786, 0x0fc19dc6, 0x240ca1cc, 0x2de92c6f, 0x4a7484aa, 0x5cb0a9dc, 0x76f988da] ++
  [0x983e5152, 0xa831c66d, 0xb00327c8, 0xbf597fc7, 0xc6e00bf3, 0xd5a79147, 0x06ca6351, 0x14292967] ++
  [0x27b70a85, 0x2e1b2138, 0x4d2c6dfc, 0x53380d13, 0x650a7354, 0x766a0abb, 0x81c2c92e, 0x92722c85] ++
  [0xa2bfe8a1, 0xa81a664b, 0xc24b8b70, 0xc76c51a3, 0xd192e819, 0xd6990624, 0xf40e3585, 0x106aa070] ++
  [0x19a4c116, 0x1e376c08, 0x2748774c, 0x34b0bcb5, 0x391c0cb3, 0x4ed8aa4a, 0x5b9cca4f, 0x682e6ff3] ++
  [0x748f82ee, 0x78a5636f, 0x84c87814, 0x8cc70208, 0x90befffa, 0xa4506ceb, 0xbef9a3f7, 0xc67178f2]

/-- The initial hash value. -/
def shaInit : List (BitVec 32) :=
  [0x6a09e667, 0xbb67ae85, 0x3c6ef372, 0xa54ff53a, 0x510e527f, 0x9b05688c, 0x1f83d9ab, 0x5be0cd19]

/-- The next word of a message schedule, which is kept newest word first. -/
def shaNext (w : List (BitVec 32)) : BitVec 32 :=
  let a := w.getD 1 0
  let b := w.getD 14 0
  (a.rotateRight 17 ^^^ a.rotateRight 19 ^^^ (a >>> 10)) + w.getD 6 0 + (b.rotateRight 7 ^^^ b.rotateRight 18 ^^^ (b >>> 3)) + w.getD 15 0

/-- A schedule with `n` more words. -/
def shaExpand : Nat → List (BitVec 32) → List (BitVec 32)
  | 0, w => w
  | n + 1, w => shaExpand n (shaNext w :: w)

/-- One round on the working variables. -/
def shaRound (v : List (BitVec 32)) (k w : BitVec 32) : List (BitVec 32) :=
  match v with
  | [a, b, c, d, e, f, g, h] =>
    let t1 := h + (e.rotateRight 6 ^^^ e.rotateRight 11 ^^^ e.rotateRight 25) + ((e &&& f) ^^^ (~~~e &&& g)) + k + w
    let t2 := (a.rotateRight 2 ^^^ a.rotateRight 13 ^^^ a.rotateRight 22) + ((a &&& b) ^^^ (a &&& c) ^^^ (b &&& c))
    [t1 + t2, a, b, c, d + t1, e, f, g]
  | _ => v

/-- A big-endian number of bytes. -/
def beNat (p : List Byte) : Nat := p.foldl (fun n b => 256 * n + b.toNat) 0
/-- `n` bytes of a number, big-endian. -/
def toBe (n x : Nat) : List Byte := (toLe n x).reverse

/-- The hash value after a block of 64 bytes. -/
def shaBlock (h : List (BitVec 32)) (p : List Byte) : List (BitVec 32) :=
  let w := shaExpand 48 ((upto 16).map (fun i => BitVec.ofNat 32 (beNat ((p.drop (4 * i)).take 4)))).reverse
  List.zipWith (· + ·) h ((List.zip shaK w.reverse).foldl (fun v x => shaRound v x.1 x.2) h)

/-- A message with its padding. -/
def shaPad (p : List Byte) : List Byte :=
  p ++ [0x80] ++ List.replicate ((119 - p.length % 64) % 64) 0 ++ toBe 8 (8 * p.length)

/-- The hash value after `n` blocks. -/
def shaBlocks : Nat → List Byte → List (BitVec 32) → List (BitVec 32)
  | 0, _, h => h
  | n + 1, p, h => shaBlocks n (p.drop 64) (shaBlock h (p.take 64))

/-- SHA-256. -/
def sha256 (p : List Byte) : List Byte :=
  let q := shaPad p
  (shaBlocks (q.length / 64) q shaInit).flatMap (fun w => toBe 4 w.toNat)

/-! ### HMAC and HKDF -/

/-- HMAC-SHA-256 under a key of at most 64 bytes. -/
def hmac (key msg : List Byte) : List Byte :=
  let k := padTo64 key
  sha256 (k.map (· ^^^ 0x5C) ++ sha256 (k.map (· ^^^ 0x36) ++ msg))
where
  padTo64 (key : List Byte) : List Byte := key ++ List.replicate (64 - key.length) 0

/-- The 40 bytes of key material of a Ward session (R605): HKDF-Extract, then two blocks of HKDF-Expand. -/
def wardKdf (psk salt info : List Byte) : List Byte :=
  let prk := hmac salt psk
  let t1 := hmac prk (info ++ [1])
  (t1 ++ hmac prk (t1 ++ info ++ [2])).take 40

/-! ### ECDSA on P-256 -/

/-- The field prime. -/
def p256P : Nat := 0xffffffff00000001000000000000000000000000ffffffffffffffffffffffff
/-- The order of the curve (R68). -/
def p256Order : Nat := 0xffffffff00000000ffffffffffffffffbce6faada7179e84f3b9cac2fc632551
/-- The coefficient b. -/
def p256B : Nat := 0x5ac635d8aa3a93e7b3ebbd55769886bc651d06b0cc53b0f63bce3c3e27d2604b
/-- The base point. -/
def p256G : Nat × Nat :=
  (0x6b17d1f2e12c4247f8bce6e563a440f277037d812deb33a0f4a13945d898c296, 0x4fe342e2fe1a7f9b8ee7eb4a7c0f9e162bce33576b315ececbb6406837bf51f5)

/-- `b ^ e` modulo `m`, by the bits of `e` from bit `k - 1` down. -/
def powMod (m b e : Nat) : Nat → Nat
  | 0 => 1 % m
  | k + 1 => let x := powMod m b (e / 2) k; x * x % m * (if e % 2 = 1 then b else 1) % m

/-- The inverse modulo a prime of 256 bits. -/
def invMod (m x : Nat) : Nat := powMod m (x % m) (m - 2) 256

/-- The difference in the field. -/
def fsub (a b : Nat) : Nat := (a + p256P - b % p256P) % p256P

/-- The sum of two points of the curve; none is the point at infinity. -/
def ecAdd (x y : Option (Nat × Nat)) : Option (Nat × Nat) :=
  match x, y with
  | none, q => q
  | p, none => p
  | some (x1, y1), some (x2, y2) =>
    if x1 = x2 ∧ (y1 + y2) % p256P = 0 then none
    else
      let l := if x1 = x2 then fsub (3 * x1 * x1) 3 * invMod p256P (2 * y1) % p256P else fsub y2 y1 * invMod p256P (fsub x2 x1) % p256P
      let x3 := fsub (l * l) (x1 + x2)
      some (x3, fsub (l * fsub x1 x3) y1)

/-- A multiple of a point, by `k` bits. -/
def ecMul (p : Option (Nat × Nat)) (e : Nat) : Nat → Option (Nat × Nat)
  | 0 => none
  | k + 1 => let x := ecMul p (e / 2) k; let d := ecAdd x x; if e % 2 = 1 then ecAdd d p else d

/-- Whether coordinates are those of a point of the curve. -/
def onCurve (x y : Nat) : Bool :=
  decide (x < p256P) && decide (y < p256P) && decide (y * y % p256P = fsub (x * x % p256P * x + p256B) (3 * x))

/-- The ECDSA check of R68 for r and s in range: X stands at byte 0 of the key and Y at byte 32, little-endian (R69). -/
def ecdsaVerify (key msg : List Byte) (r s : Nat) : Bool :=
  let x := leAt key 0 32
  let y := leAt key 32 32
  let w := invMod p256Order s
  let e := beNat (sha256 msg)
  onCurve x y && (match ecAdd (ecMul (some p256G) (e * w % p256Order) 256) (ecMul (some (x, y)) (r * w % p256Order) 256) with
    | none => false
    | some q => q.1 % p256Order == r)

/-! ### The AES key wrap -/

/-- A byte times x in the field of AES. -/
def xtime (b : Nat) : Nat := if b ≥ 128 then (2 * b) ^^^ 0x11B else 2 * b

/-- A product in the field of AES, by `k` bits of the second factor. -/
def gmul (a b : Nat) : Nat → Nat
  | 0 => 0
  | k + 1 => (if b % 2 = 1 then a else 0) ^^^ gmul (xtime a) (b / 2) k

/-- The S-box: the inverse, as the power 254, and its affine transformation. -/
def sbox (b : Nat) : Nat :=
  let m := fun (x y : Nat) => gmul x y 8
  let b2 := m b b
  let b3 := m b2 b
  let b12 := m (m b3 b3) (m b3 b3)
  let b15 := m b12 b3
  let b60 := m (m b15 b15) (m b15 b15)
  let b240 := m (m b60 b60) (m b60 b60)
  let i := m (m b240 b12) b2
  let r := fun (n : Nat) => (i * 2 ^ n ||| i / 2 ^ (8 - n)) % 256
  i ^^^ r 1 ^^^ r 2 ^^^ r 3 ^^^ r 4 ^^^ 0x63

/-- The S-box of every byte, and its inverse. -/
def sboxes : List Nat := (upto 256).map sbox
/-- The inverse S-box. -/
def unsbox (t : List Nat) (b : Nat) : Nat := t.findIdx (· == b)

/-- The words of an AES-256 key schedule, newest first, with `n` more words; `i` counts them. -/
def aesExpand (t : List Nat) : Nat → Nat → List (List Nat) → List (List Nat)
  | 0, _, w => w
  | n + 1, i, w =>
    let p := w.headD []
    let sub := fun (l : List Nat) => l.map (fun b => t.getD b 0)
    let g := if i % 8 = 0 then List.zipWith (· ^^^ ·) (sub (p.drop 1 ++ p.take 1)) [2 ^ (i / 8 - 1), 0, 0, 0]
      else if i % 8 = 4 then sub p else p
    aesExpand t n (i + 1) (List.zipWith (· ^^^ ·) (w.getD 7 []) g :: w)

/-- The 15 round keys, first to last. -/
def aesKeys (t : List Nat) (key : List Nat) : List (List Nat) :=
  let w := (aesExpand t 52 8 ((upto 8).map (fun i => (key.drop (4 * i)).take 4)).reverse).reverse
  (upto 15).map (fun r => ((w.drop (4 * r)).take 4).flatten)

/-- The inverse of ShiftRows and of SubBytes on a block. -/
def aesUnshift (t : List Nat) (x : List Nat) : List Nat := (upto 16).map (fun i => unsbox t (x.getD ((i + 16 - 4 * (i % 4)) % 16) 0))

/-- The inverse of MixColumns on a column. -/
def aesUnmix (c : List Nat) : List Nat :=
  (upto 4).map (fun i => gmul (c.getD i 0) 14 8 ^^^ gmul (c.getD ((i + 1) % 4) 0) 11 8 ^^^ gmul (c.getD ((i + 2) % 4) 0) 13 8 ^^^ gmul (c.getD ((i + 3) % 4) 0) 9 8)

/-- The rounds of a decryption after the last round key: all but the first key mix columns. -/
def aesRounds (t : List Nat) : List (List Nat) → List Nat → List Nat
  | [], x => x
  | k :: r, x =>
    let y := List.zipWith (· ^^^ ·) (aesUnshift t x) k
    aesRounds t r (if r.isEmpty then y else ((upto 4).map (fun i => aesUnmix ((y.drop (4 * i)).take 4))).flatten)

/-- The AES-256 decryption of a block. -/
def aesDecrypt (t : List Nat) (keys : List (List Nat)) (x : List Nat) : List Nat :=
  match keys.reverse with
  | [] => x
  | k :: r => aesRounds t r (List.zipWith (· ^^^ ·) x k)

/-- The steps of the unwrap, by the index of the step from `n` down: the register A and the semiblocks of 8 bytes. -/
def unwrapSteps (t : List Nat) (keys : List (List Nat)) (m : Nat) : Nat → List Nat → List (List Nat) → List Nat × List (List Nat)
  | 0, a, r => (a, r)
  | n + 1, a, r =>
    let i := n % m
    let b := aesDecrypt t keys (List.zipWith (· ^^^ ·) a ((toBe 8 (n + 1)).map (·.toNat)) ++ r.getD i [])
    unwrapSteps t keys m n (b.take 8) (r.set i (b.drop 8))

/-- The unwrap of RFC 3394 under a 32-byte key (R128): the key that 40 bytes wrap; none where the integrity check fails. -/
def unwrapWith (kek p : List Byte) : Option (List Byte) :=
  let t := sboxes
  let d := p.map (·.toNat)
  let x := unwrapSteps t (aesKeys t (kek.map (·.toNat))) 4 24 (d.take 8) ((upto 4).map (fun i => (d.drop (8 + 8 * i)).take 8))
  if x.1 = List.replicate 8 0xA6 then some (x.2.flatten.map (BitVec.ofNat 8)) else none

/-- The unwrap of a PSK under the device's key-wrap key (R128). -/
def unwrapKey (p : List Byte) : Option (List Byte) := unwrapWith Config.keyWrapKey p

end Sys2Proof.Machine
end

