-- ==== Sys2Proof/Machine/Bitting.lean ====
section
/-!
DEFINITION. The Bitting image as data (03_bitting_image.md, 04_bitting_sections.md): its framing and CRC-32, the
field tables of every section payload with their defaults and unset codes, and the effective value of a field under
the runtime overlay. A running image is its sections; a table of the device reads its parameters from them.
-/
namespace Sys2Proof.Machine

/-- CRC-32 of R66: IEEE 802.3 polynomial, reflected, initial value all ones, inverted. -/
def crc32Bit (c : BitVec 32) : BitVec 32 :=
  if c.getLsbD 0 then (c >>> 1) ^^^ 0xEDB88320#32 else c >>> 1

/-- One byte into the CRC-32 register. -/
def crc32Byte (c : BitVec 32) (b : Byte) : BitVec 32 :=
  let c := c ^^^ b.setWidth 32
  crc32Bit (crc32Bit (crc32Bit (crc32Bit (crc32Bit (crc32Bit (crc32Bit (crc32Bit c)))))))

/-- CRC-32 of bytes (R66). -/
def crc32 (p : List Byte) : Nat := (~~~ (p.foldl crc32Byte 0xFFFFFFFF#32)).toNat

/-- CRC-16 of R668: polynomial 0x1021, initial value 0xFFFF, no reflection. -/
def crc16Bit (c : BitVec 16) : BitVec 16 :=
  if c.getLsbD 15 then (c <<< 1) ^^^ 0x1021#16 else c <<< 1

/-- One byte into the CRC-16 register. -/
def crc16Byte (c : BitVec 16) (b : Byte) : BitVec 16 :=
  let c := c ^^^ ((b.setWidth 16) <<< 8)
  crc16Bit (crc16Bit (crc16Bit (crc16Bit (crc16Bit (crc16Bit (crc16Bit (crc16Bit c)))))))

/-- CRC-16 of bytes (R668). -/
def crc16 (p : List Byte) : Nat := (p.foldl crc16Byte 0xFFFF#16).toNat

/-- One section of an image (R64); padding is dropped. -/
structure Section where
  ty : Nat
  inst : Nat
  flags : Nat
  /-- Byte offset of the section header in the image. -/
  at_ : Nat
  payload : List Byte
  deriving DecidableEq, Repr, Inhabited

/-- An image after its framing is read: the header fields the device keeps, and its sections. -/
structure Image where
  seq : Nat := 0
  buildId : Nat := 0
  flags : Nat := 0
  targetUid : Nat := 0
  sections : List Section := []
  deriving DecidableEq, Repr, Inhabited

/-- A runtime overlay value in force (R137): the field and its value. -/
structure OvVal where
  ty : Nat
  inst : Nat
  off : Nat
  val : Int
  deriving DecidableEq, Repr, Inhabited

/-- The image in force and the overlay values in force over it. -/
structure Cfg where
  img : Image := {}
  ov : List OvVal := []
  deriving DecidableEq, Repr, Inhabited

namespace Ty
abbrev device := 1
abbrev chain := 2
abbrev nodeList := 3
abbrev cellMap := 4
abbrev string := 5
abbrev chemistry := 6
abbrev zone := 7
abbrev protection := 8
abbrev hasp := 9
abbrev lease := 10
abbrev switch := 11
abbrev current := 12
abbrev balancing := 13
abbrev session := 14
abbrev eventPolicy := 15
abbrev stream := 16
abbrev nesting := 17
abbrev overlay := 18
abbrev pick := 19
abbrev network := 20
abbrev sleep := 21
end Ty

/-- How a field behaves when it holds its unset code (R102). -/
inductive Dflt where
  /-- Marked required: the unset code fails. -/
  | req
  /-- No unset code. -/
  | plain
  /-- The default value. -/
  | val (v : Int)
  /-- A default computed from other fields. -/
  | calc
  deriving DecidableEq, Repr

/-- One field of a payload: offset, width in bytes, signedness, default, allowed range. -/
structure Fs where
  off : Nat
  w : Nat
  sg : Bool
  d : Dflt
  lo : Int
  hi : Int
  deriving DecidableEq, Repr

/-- A field with a default. -/
def fd (off w : Nat) (d lo hi : Int) : Fs := ⟨off, w, false, .val d, lo, hi⟩
/-- A required field. -/
def fr (off w : Nat) (lo hi : Int) : Fs := ⟨off, w, false, .req, lo, hi⟩
/-- A field without an unset code. -/
def fp (off w : Nat) (lo hi : Int) : Fs := ⟨off, w, false, .plain, lo, hi⟩
/-- A field with a computed default. -/
def fc (off w : Nat) (lo hi : Int) : Fs := ⟨off, w, false, .calc, lo, hi⟩
/-- A signed 16-bit field with a default. -/
def sd (off : Nat) (d : Int) : Fs := ⟨off, 2, true, .val d, -32768, 32767⟩
/-- Top of an unsigned field of `w` bytes. -/
def umax (w : Nat) : Int := ((2 ^ (8 * w) : Nat) : Int) - 1

/-- DEVICE (R107). -/
def fsDevice : List Fs := [fd 0x40 1 0 0 3, fd 0x41 1 2 0 8, fd 0x42 2 300 100 1000, fd 0x44 2 50 0 500,
  fd 0x46 1 1 1 8, fd 0x47 1 1 0 1, fd 0x48 2 15 1 240]
/-- CHAIN (R108). -/
def fsChain : List Fs := [fd 0 1 0 0 1, fp 1 1 0 64, fc 2 1 1 64, fd 3 1 0 0 1, fd 4 1 3 0 3]
/-- One NODE_LIST entry (R109). -/
def fsNode : List Fs := [fr 0 1 0 3, fp 1 1 0 16, fp 2 1 0 8, fd 4 4 0 0 (umax 4), fp 8 8 0 (umax 8),
  fp 0x10 2 0 65535, fc 0x12 2 0 500, fp 0x14 4 0 (umax 4), fd 0x18 2 0 0 4096, fp 0x1A 2 0xFF00 0xFFFF]
/-- STRING (R113). -/
def fsString : List Fs := [fr 0 1 0 1, fr 1 1 0 2, fp 2 1 0 255, fd 3 1 0 0 1, fp 4 1 0 255, fp 5 1 0 255, fp 6 1 0 255,
  fp 7 1 0 255, fp 8 1 0 255, fp 9 1 0 255, fp 10 1 0 255, fr 0x0C 4 0 (umax 4), fr 0x10 4 0 (umax 4)]
/-- HASP_SEQUENCE (R114). -/
def fsHasp : List Fs := [fd 0 2 5000 100 30000, fd 2 2 200 10 1000, fd 4 2 100 10 1000, fd 6 1 50 10 90, fd 7 1 50 10 250,
  fr 8 4 0 (umax 4), fd 0x0C 4 100000 0 (umax 4), fd 0x10 2 500 0 10000, fd 0x12 2 20 0 65535]
/-- The PARAMETERS block of CHEMISTRY (R116); the defaults in C are computed. -/
def fsChem : List Fs := [fr 0 2 0 65535, fr 2 2 0 65535, fr 4 4 1 (umax 4), fr 8 2 0 65535, fd 0x0A 2 500 0 65535,
  fc 0x0C 4 0 (umax 4), fc 0x10 4 0 (umax 4), fd 0x14 2 1800 0 65535, fd 0x16 2 20 0 65535, fd 0x18 2 120 0 65535,
  fd 0x1A 2 500 0 65535, fd 0x1C 4 604800 0 (umax 4), fd 0x20 2 512 0 65535, fd 0x22 2 3000 0 65535, sd 0x24 150, sd 0x26 350,
  fd 0x28 4 2592000 0 (umax 4), fd 0x2C 2 10 0 65535, fd 0x2E 2 2000 0 65535, fc 0x30 4 0 (umax 4), sd 0x34 0, sd 0x36 550,
  fc 0x38 4 0 (umax 4), fd 0x3C 2 768 0 65535, fd 0x3E 2 500 0 65535]
/-- The header of THERMAL_ZONE (R117). That TS_ZONE names a zone or none is checked with the section: DEDUCED, log 96. -/
def fsZoneHead : List Fs := [fr 0 2 1 512, fd 2 2 0 0 4096, fd 4 2 20 1 100, fd 6 2 200 0 65535, fd 8 2 1000 100 60000,
  fd 0x0A 2 30000 1000 65000, fd 0x0C 2 500 0 65535, fd 0x0E 2 200 0 65535, fd 0x10 2 50 0 65535, sd 0x12 400, fd 0x14 1 2 0 8,
  fp 0x18 2 0 65535, fp 0x1A 2 0 65535, fp 0x1C 2 0 65535, fp 0x1E 2 0 65535,
  fd 0x20 2 3435 0 65535, fd 0x22 2 3435 0 65535, fd 0x24 2 3435 0 65535, fd 0x26 2 3435 0 65535,
  fd 0x28 2 1000 0 65535, fd 0x2A 2 1000 0 65535, fd 0x2C 2 1000 0 65535, fd 0x2E 2 1000 0 65535]
/-- One zone entry (R118), offsets inside the entry. -/
def fsZone : List Fs :=
  [sd 0x00 450, sd 0x02 480, sd 0x04 510, sd 0x06 540, sd 0x08 570, sd 0x0A 600, sd 0x0C 630] ++
  (upto 7).map (fun k => (⟨0x0E + 2 * k, 2, true, .calc, -32768, 32767⟩ : Fs)) ++
  [sd 0x1C 150, sd 0x1E 120, sd 0x20 100, sd 0x22 80, sd 0x24 60, sd 0x26 40, sd 0x28 20,
   sd 0x2A 0, sd 0x2C (-50), sd 0x2E (-100), sd 0x30 (-150), sd 0x32 (-200), sd 0x34 (-250), sd 0x36 (-300),
   sd 0x38 700, sd 0x3A (-350), ⟨0x3C, 2, true, .calc, -32768, 32767⟩]
/-- PROTECTION (R119, R120), with the defaults of instance 0. -/
def fsProt : List Fs := [fr 0 2 0 65535, fr 2 2 0 65535, fr 4 2 0 65535, fr 6 2 0 65535, fr 8 4 0 (umax 4), fr 0x0C 4 0 (umax 4),
  fr 0x10 4 0 (umax 4), fd 0x14 2 60 1 3600, fd 0x16 2 200 0 65535, fd 0x18 1 2 1 4, fd 0x19 1 3 1 15,
  fd 0x1A 1 2 2 4, fd 0x1B 1 2 2 4, fd 0x1C 1 2 2 4, fd 0x1D 1 2 1 4, fd 0x1E 1 1 1 4, fd 0x1F 1 1 1 4, fd 0x20 1 1 1 4,
  fd 0x21 1 3 3 4, fd 0x22 1 3 2 4, fd 0x26 2 100 0 65535]
/-- LEASE (R121). -/
def fsLease : List Fs := [fd 0 2 250 50 2000, fd 2 2 5000 500 60000, fd 4 2 200 0 65535, fd 6 2 500 0 65535, fd 8 4 50000 0 (umax 4),
  fd 0x0C 2 2000 0 65535, fd 0x0E 1 3 1 3, fd 0x0F 1 0x12 0 255, fr 0x10 4 0 (umax 4), fr 0x14 4 0 (umax 4), fr 0x18 4 0 (umax 4),
  fr 0x1C 4 0 (umax 4), fd 0x20 4 0x600 0 (umax 4), fd 0x24 2 2400 0 65535]
/-- SWITCH_CHANNEL (R122). -/
def fsSwitch : List Fs := [fr 0 1 0 5, fd 1 1 0 0 3, fd 2 1 9 0 15, fd 3 1 1 0 4, fd 4 1 0 0 100, fd 5 1 160 1 240, fd 6 1 0 0 15,
  fd 7 1 10 1 254, fd 8 1 0 0 1, fc 9 1 0 255, fd 10 1 1 0 1]
/-- CURRENT_CHANNEL (R123); COMP_CHG and COMP_DIS are needed only where a string binds the input. -/
def fsCurrent : List Fs := [fr 0 1 0 1, fd 1 1 20 5 25, fd 2 1 0 0 1, fd 3 1 3 1 15,
  ⟨4, 4, true, .req, -2147483648, 2147483647⟩, ⟨8, 4, true, .val 0, -2147483648, 2147483647⟩, fd 0x0C 2 500 0 65535, fd 0x0E 2 2000 0 65535,
  fd 0x10 4 20000 0 (umax 4), fd 0x14 2 100 0 65535, fc 0x18 4 0 (umax 4), fc 0x1C 4 0 (umax 4)]
/-- BALANCING (R125). -/
def fsBal : List Fs := [fd 0 1 1 0 1, fd 1 1 0 0 3, fd 2 2 1000 500 60000, fd 4 2 60293 32768 65535, fd 6 2 300 0 65535, fd 8 2 36 0 65535,
  fd 10 2 20 0 65535, sd 0x0C 850, sd 0x0E 500, fd 0x10 1 5 1 255]
/-- SESSION (R126), without PEER_ID and PSK. -/
def fsSession : List Fs := [fr 0 1 0 4, fd 1 1 1 0 1, fd 2 1 8 1 64, fr 3 1 0 1, fr 4 4 0 (umax 4), fd 0x10 2 0xFFFF 0 65535]
/-- The header of EVENT_POLICY (R129). -/
def fsPolicy : List Fs := [fp 0 2 0 1024, fd 2 1 1 0 2]
/-- STREAM (R130), without its OBJECTS. The ranges of MIN_SEVERITY and DECIMATE bind under every PRODUCER. DEDUCED, log 96. -/
def fsStream : List Fs := [fr 0 1 0 6, fd 1 1 2 0 6, fd 2 2 1 1 1000, fd 4 2 0xFFFF 0 65535, fp 6 2 0 16]
/-- NESTING (R131). -/
def fsNesting : List Fs := [fd 0 1 0 0 1, fd 1 1 1 1 255, fd 4 4 0 0 1048575, fd 8 4 16384 1 1048576]
/-- PICK_POLICY (R132). -/
def fsPick : List Fs := [fd 0 4 0 0 0x3FFFF, fd 4 1 0 0 0x3F, fd 6 2 600 1 3600]
/-- NETWORK (R133), without its addresses. -/
def fsNetwork : List Fs := [fd 0 1 0 0 1, fd 1 1 3 0 3, fd 2 2 49832 1024 65535, fd 4 1 0 0 127,
  fp 0x10 1 1 30, fd 0x11 1 64 1 128, fd 0x12 1 0 0 2, fp 0x38 1 1 30, fd 0x39 1 64 1 128, fd 0x3A 1 0 0 2]
/-- SLEEP (R134). -/
def fsSleep : List Fs := [fd 0 4 0 0 (umax 4), fd 4 4 50000 0 (umax 4), fd 8 4 3600 0 (umax 4), fd 0x0C 1 0x0F 0 0x0F]

/-- The single-valued fields of a section type. -/
def fieldsOf (ty : Nat) : List Fs :=
  if ty = Ty.device then fsDevice else if ty = Ty.chain then fsChain else if ty = Ty.string then fsString
  else if ty = Ty.chemistry then fsChem else if ty = Ty.zone then fsZoneHead else if ty = Ty.protection then fsProt
  else if ty = Ty.hasp then fsHasp else if ty = Ty.lease then fsLease else if ty = Ty.switch then fsSwitch
  else if ty = Ty.current then fsCurrent else if ty = Ty.balancing then fsBal else if ty = Ty.session then fsSession
  else if ty = Ty.eventPolicy then fsPolicy else if ty = Ty.stream then fsStream else if ty = Ty.nesting then fsNesting
  else if ty = Ty.pick then fsPick else if ty = Ty.network then fsNetwork else if ty = Ty.sleep then fsSleep else []

/-- The number of zones a THERMAL_ZONE payload has (R117). -/
def zoneCountOf (p : List Byte) : Nat := leAt p 0 2

/-- The field at an offset of a section, arrays included. -/
def fieldAt (ty : Nat) (p : List Byte) (off : Nat) : Option Fs :=
  if ty = Ty.zone ∧ 0x40 ≤ off then
    if off < 0x40 + 64 * zoneCountOf p then
      (fsZone.find? (fun f => f.off = (off - 0x40) % 64)).map (fun f => { f with off := off })
    else some (fp off 2 0 65535)
  else if ty = Ty.nodeList then
    (fsNode.find? (fun f => f.off = off % 32)).map (fun f => { f with off := off })
  else (fieldsOf ty).find? (fun f => f.off = off)

/-- The unset code of a field: all ones, or the most negative value (R102). A range that takes in the all-ones value (UDP_PORT,
ETA, SWEEP_MULT, N_DIST) gives it no meaning of its own: such a field is unset. DEDUCED, log 96. -/
def Fs.unset (f : Fs) : Int := if f.sg then -((2 ^ (8 * f.w - 1) : Nat) : Int) else umax f.w

/-- The value a payload holds in a field. -/
def Fs.raw (f : Fs) (p : List Byte) : Int :=
  let n := leAt p f.off f.w
  if f.sg then toSigned f.w n else n

/-- Find one section. -/
def Image.find (g : Image) (ty inst : Nat) : Option Section :=
  g.sections.find? (fun s => s.ty = ty && s.inst = inst)

/-- Payload of one section; empty when absent. -/
def Image.payload (g : Image) (ty inst : Nat) : List Byte := ((g.find ty inst).map (·.payload)).getD []

/-- Whether a section is in the image. -/
def Image.has (g : Image) (ty inst : Nat) : Bool := (g.find ty inst).isSome

/-- The overlay value in force for a field, if any. -/
def Cfg.ovAt (c : Cfg) (ty inst off : Nat) : Option Int :=
  (c.ov.find? (fun o => o.ty = ty && o.inst = inst && o.off = off)).map (·.val)

/-- The value of a field before defaults: the overlay value, else the payload's, none when unset or absent (R102, R103). -/
def Cfg.rawAt (c : Cfg) (ty inst off : Nat) : Option Int :=
  match c.ovAt ty inst off with
  | some v => some v
  | none =>
    match c.img.find ty inst with
    | none => none
    | some s =>
      match fieldAt ty s.payload off with
      | none => none
      | some f => match f.d with
        | .plain => some (f.raw s.payload)
        | _ => if f.raw s.payload = f.unset then none else some (f.raw s.payload)

/-- The defaults of CHEMISTRY that are computed from C_NOMINAL by truncating division (R116). -/
def chemDefault (cNom : Int) (off : Nat) : Int :=
  if off = 0x0C then cNom / 36000 else if off = 0x10 then cNom / 7200
  else if off = 0x30 then cNom / 3600 else if off = 0x38 then cNom / 3600 else 0

/-- The effective value of a field with a table default (R102, R103). DEDUCED, log 77. -/
def Cfg.basic (c : Cfg) (ty inst off : Nat) : Int :=
  match c.rawAt ty inst off with
  | some v => v
  | none =>
    match fieldAt ty (c.img.payload ty inst) off with
    | some ⟨_, _, _, .val v, _, _⟩ => v
    | _ => 0

/-- NODE_COUNT of a ring; 0 where no CHAIN section configures it. -/
def Cfg.nodeCount (c : Cfg) (ring : Nat) : Nat :=
  if c.img.has Ty.chain ring then (c.basic Ty.chain ring 1).toNat else 0

/-- The effective value of a field: overlay, image, table default or computed default (R102, R103, R108, R116, R118, R119, R122). DEDUCED, log 77. -/
def Cfg.eff (c : Cfg) (ty inst off : Nat) : Int :=
  match c.rawAt ty inst off with
  | some v => v
  | none =>
    if ty = Ty.chain ∧ off = 2 then (((c.nodeCount inst + 1) / 2 : Nat) : Int)
    else if ty = Ty.chemistry then
      match fieldAt ty [] off with
      | some ⟨_, _, _, .calc, _, _⟩ => chemDefault (c.basic ty inst 4) off
      | _ => c.basic ty inst off
    else if ty = Ty.zone ∧ 0x40 ≤ off ∧ off < 0x40 + 64 * zoneCountOf (c.img.payload ty 0) then
      let e := off - (off - 0x40) % 64
      let k := (off - 0x40) % 64
      let hotDis := fun j => (c.rawAt ty inst (e + 0x0E + 2 * j)).getD (c.basic ty inst (e + 2 * j))
      if 0x0E ≤ k ∧ k < 0x1C then c.basic ty inst (off - 0x0E)
      else if k = 0x3C then
        -- the higher of T_HOT_CHG[5] and T_HOT_DIS[5], plus 10
        max (c.basic ty inst (e + 10)) (hotDis 5) + 10
      else c.basic ty inst off
    else if ty = Ty.protection ∧ inst ≠ 0 then c.basic ty 0 off
    else if ty = Ty.switch ∧ off = 9 then (if c.basic ty inst 8 = 1 then 10 else 20)
    else c.basic ty inst off

/-- The effective value as a natural number (fields that are not signed). -/
def Cfg.n (c : Cfg) (ty inst off : Nat) : Nat := (c.eff ty inst off).toNat

/-! ### Named parameters -/

/-- SWEEP_PERIOD codes 0 to 8 in ns (R107). -/
def periodNs (code : Nat) : Nat :=
  match code with
  | 0 => 2500000 | 1 => 5000000 | 2 => 10000000 | 3 => 20000000 | 4 => 50000000
  | 5 => 100000000 | 6 => 200000000 | 7 => 500000000 | _ => 1000000000

/-- LEAF_ROLE (R534): 0 DUAL_AB, 1 DUAL_BA, 2 SINGLE_A, 3 SINGLE_B. -/
def Cfg.leafRole (c : Cfg) : Nat := c.n Ty.device 0 0x40
/-- Whether the role runs both leaves. -/
def Cfg.dual (c : Cfg) : Bool := c.leafRole ≤ 1
/-- The leaf the role makes ACTIVE. -/
def Cfg.roleActive (c : Cfg) : Leaf := if c.leafRole = 0 ∨ c.leafRole = 2 then .a else .b
/-- Whether a ring is configured as a RING (R108). -/
def Cfg.ringOn (c : Cfg) (r : Nat) : Bool := c.img.has Ty.chain r && c.eff Ty.chain r 0 == 0
/-- Whether ring 15 is the UPLINK. -/
def Cfg.uplink (c : Cfg) : Bool := c.img.has Ty.chain 15 && c.eff Ty.chain 15 0 == 1
/-- The configured rings. -/
def Cfg.rings (c : Cfg) : List Nat := (upto 16).filter c.ringOn
/-- SPLIT_K of a ring. -/
def Cfg.splitK (c : Cfg) (r : Nat) : Nat := c.n Ty.chain r 2
/-- RETRY_MAX of a ring. -/
def Cfg.retryMax (c : Cfg) (r : Nat) : Nat := c.n Ty.chain r 4
/-- A field of the NODE_LIST entry of a node. -/
def Cfg.nodeFld (c : Cfg) (r p off : Nat) : Nat := c.n Ty.nodeList r (32 * (p - 1) + off)
/-- Strings of the image. -/
def Cfg.strings (c : Cfg) : List Nat := (upto 64).filter (fun i => c.img.has Ty.string i)
/-- A field of a STRING section. -/
def Cfg.strFld (c : Cfg) (i off : Nat) : Nat := c.n Ty.string i off
/-- A field of a HASP_SEQUENCE section. -/
def Cfg.haspFld (c : Cfg) (i off : Nat) : Nat := c.n Ty.hasp i off
/-- A field of a string's effective protection set (R119). -/
def Cfg.prot (c : Cfg) (i off : Nat) : Nat := c.n Ty.protection (if c.img.has Ty.protection (i + 1) then i + 1 else 0) off
/-- CELL_COUNT; 0 with no CELL_MAP. -/
def Cfg.cellCount (c : Cfg) : Nat := leAt (c.img.payload Ty.cellMap 0) 0 2

/-- A CELL_MAP entry (R111). -/
structure CellEnt where
  ring : Nat := 0
  node : Nat := 0
  chan : Nat := 0
  str : Nat := 0
  chem : Nat := 0
  present : Bool := false
  zone : Nat := 0
  deriving DecidableEq, Repr, Inhabited

/-- CELL_MAP entry of a payload's bytes. -/
def cellEntOf (p : List Byte) (i : Nat) : CellEnt :=
  let o := 4 + 8 * i
  { ring := leAt p o 1, node := leAt p (o + 1) 1, chan := leAt p (o + 2) 1, str := leAt p (o + 3) 1,
    chem := leAt p (o + 4) 1, present := bit (leAt p (o + 5) 1) 0, zone := leAt p (o + 6) 2 }

/-- The CELL_MAP entry of a cell index (R111). -/
def Cfg.cell (c : Cfg) (i : Nat) : CellEnt :=
  if i < c.cellCount then cellEntOf (c.img.payload Ty.cellMap 0) i else {}
/-- The cell indices that are PRESENT. -/
def Cfg.cells (c : Cfg) : List Nat := (upto c.cellCount).filter (fun i => (c.cell i).present)
/-- The cells of a string, in series order from the negative terminal (R111). -/
def Cfg.stringCells (c : Cfg) (s : Nat) : List Nat := c.cells.filter (fun i => (c.cell i).str = s)
/-- The cells of a node. -/
def Cfg.nodeCells (c : Cfg) (r p : Nat) : List Nat :=
  c.cells.filter (fun i => (c.cell i).ring = r && (c.cell i).node = p)
/-- ZONE_COUNT; 0 with no THERMAL_ZONE. -/
def Cfg.zoneCount (c : Cfg) : Nat := zoneCountOf (c.img.payload Ty.zone 0)
/-- A signed field of a zone entry. -/
def Cfg.zoneFld (c : Cfg) (z off : Nat) : Int := c.eff Ty.zone 0 (0x40 + 64 * z + off)
/-- SENSOR_COUNT. -/
def Cfg.sensorCount (c : Cfg) : Nat := if c.img.has Ty.zone 0 then c.n Ty.zone 0 2 else 0
/-- Zone number of a node sensor-table index; 0xFFFF where no node uses it. -/
def Cfg.sensorZone (c : Cfg) (i : Nat) : Nat :=
  leAt (c.img.payload Ty.zone 0) (0x40 + 64 * c.zoneCount + 2 * i) 2
/-- Zone of TSk; 0xFFFF when the input is unused. -/
def Cfg.tsZone (c : Cfg) (k : Nat) : Nat := if c.img.has Ty.zone 0 then c.n Ty.zone 0 (0x18 + 2 * k) else 0xFFFF
/-- A CHEMISTRY parameter. -/
def Cfg.chem (c : Cfg) (h off : Nat) : Int := c.eff Ty.chemistry h off
/-- A LEASE field; with no LEASE section the required fields read 0. -/
def Cfg.lease (c : Cfg) (off : Nat) : Nat := c.n Ty.lease 0 off
/-- A SWITCH_CHANNEL field; MODE OFF with no section (R106). -/
def Cfg.sw (c : Cfg) (k off : Nat) : Nat := c.n Ty.switch k off
/-- A CURRENT_CHANNEL field. -/
def Cfg.cur (c : Cfg) (k off : Nat) : Int := c.eff Ty.current k off
/-- A BALANCING field. -/
def Cfg.bal (c : Cfg) (off : Nat) : Int := c.eff Ty.balancing 0 off
/-- A SESSION field. -/
def Cfg.sess (c : Cfg) (k off : Nat) : Nat := c.n Ty.session k off
/-- Whether a session slot is configured and enabled. -/
def Cfg.slotOn (c : Cfg) (k : Nat) : Bool := c.img.has Ty.session k && c.sess k 1 == 1
/-- NESTING ROLE SUB. -/
def Cfg.isSub (c : Cfg) : Bool := c.n Ty.nesting 0 0 == 1
/-- T_LEAD in ns (R107). -/
def Cfg.tLead (c : Cfg) : Nat := 1000 * c.n Ty.device 0 0x42
/-- T_QUIET_POST in ns. -/
def Cfg.tQuiet (c : Cfg) : Nat := 1000 * c.n Ty.device 0 0x44

/-- The comparator codes of an input (R273): charge, discharge. -/
def Cfg.compCode (c : Cfg) (k : Nat) (dis : Bool) : Int :=
  let g := (c.cur k 4).natAbs
  let x := if dis then c.cur k 0x1C + c.cur k 8 else c.cur k 0x18 - c.cur k 8
  if g = 0 then 0 else min 1023 (Int.tdiv (x * 2048) g)

end Sys2Proof.Machine
end

