-- ==== Sys2Proof/Machine/BittingCheck.lean ====
section
/-!
DEFINITION. Judging an image: the checks of R73 in table order, the validation of every section payload (R101 to R137),
the runtime-write rule of R138, the comparison of R97 and the cell test of R93.
-/
namespace Sys2Proof.Machine

/-- Why an image was refused: the reason of R73 (or R82, R84), section index, TYPE, byte offset in the image. -/
structure Reject where
  reason : Nat
  sec : Nat := 0
  ty : Nat := 0
  off : Nat := 0
  deriving DecidableEq, Repr, Inhabited

/-- One validation check: section type, instance, offset of the reported field from the payload's start (the fields of the
section header lie before it), verdict. Which field of several is the failing one: DEDUCED, log 95. -/
structure Chk where
  ty : Nat
  inst : Nat
  off : Int
  ok : Bool

/-- The first failing check, if any. -/
def firstBad : List Chk → Option Chk
  | [] => none
  | c :: r => if c.ok then firstBad r else some c

/-- The check of one field of a section: required, listed range, unset code (R102, R104); the effective value is judged. -/
def fldChk (c : Cfg) (ty inst : Nat) (f : Fs) : Chk :=
  let ok := match c.rawAt ty inst f.off with
    | some v => decide (f.lo ≤ v ∧ v ≤ f.hi)
    | none => match f.d with
      | .req => ty = Ty.protection && inst != 0
      | _ => true
  ⟨ty, inst, f.off, ok⟩

/-- Checks of every field of a table. -/
def fldChks (c : Cfg) (ty inst : Nat) (fs : List Fs) : List Chk := fs.map (fldChk c ty inst)

/-- A reserved range of a payload is zero (R104). -/
def resChk (c : Cfg) (ty inst off n : Nat) : Chk :=
  ⟨ty, inst, off, zeroAt (c.img.payload ty inst) off n⟩

/-- Sum of a list of naturals. -/
def sumN (l : List Nat) : Nat := l.foldl (· + ·) 0

/-- Lengths of R106 for a known section; none where the type is unknown. A NODE_LIST without its ring is left to R135. -/
def expectedLen (c : Cfg) (s : Section) : Option Nat :=
  let p := s.payload
  if s.ty = Ty.device then some 128
  else if s.ty = Ty.chain then some 8
  else if s.ty = Ty.nodeList then
    let n := c.nodeCount s.inst
    some (if c.ringOn s.inst then 32 * n + sumN ((upto n).map (fun i => c.nodeFld s.inst (i + 1) 0x18)) else p.length)
  else if s.ty = Ty.cellMap then some (4 + 8 * leAt p 0 2)
  else if s.ty = Ty.string then some 32
  else if s.ty = Ty.chemistry then some 8736
  else if s.ty = Ty.zone then some (64 + 64 * leAt p 0 2 + 2 * (if leAt p 2 2 = 0xFFFF then 0 else leAt p 2 2))
  else if s.ty = Ty.protection then some 64
  else if s.ty = Ty.hasp then some 24
  else if s.ty = Ty.lease then some 48
  else if s.ty = Ty.switch then some 12
  else if s.ty = Ty.current then some 32
  else if s.ty = Ty.balancing then some 24
  else if s.ty = Ty.session then some 64
  else if s.ty = Ty.eventPolicy then some (8 + 4 * leAt p 0 2)
  else if s.ty = Ty.stream then some 136
  else if s.ty = Ty.nesting then some 16
  else if s.ty = Ty.overlay then some (4 + 16 * leAt p 0 2)
  else if s.ty = Ty.pick then some 8
  else if s.ty = Ty.network then some 88
  else if s.ty = Ty.sleep then some 16
  else none

/-- Highest instance of each type (R106). -/
def maxInst (ty : Nat) : Nat :=
  if ty = Ty.chain ∨ ty = Ty.nodeList ∨ ty = Ty.current ∨ ty = Ty.stream then 15
  else if ty = Ty.string ∨ ty = Ty.hasp then 63
  else if ty = Ty.chemistry then 7
  else if ty = Ty.protection then 64
  else if ty = Ty.switch then 23
  else if ty = Ty.session then 127 else 0

/-- Strictly ascending integers. -/
def ascStrict : List Int → Bool
  | a :: b :: r => decide (a < b) && ascStrict (b :: r)
  | _ => true

/-- Non-decreasing integers. -/
def ascWeak : List Int → Bool
  | a :: b :: r => decide (a ≤ b) && ascWeak (b :: r)
  | _ => true

/-- Configuration records of one node (R110): the records fill exactly `n` bytes from `off`; each addresses registers below
0xFB00 (R178). DEDUCED, log 95. -/
def recsFill (p : List Byte) : Nat → Nat → Nat → Bool
  | 0, _, n => n == 0
  | fuel + 1, off, n =>
    if n = 0 then true
    else
      let l := leAt p (off + 2) 2
      let whole := 4 * ceilDiv (4 + l) 4
      1 ≤ l && l ≤ 508 && leAt p off 2 + l ≤ 0xFB00 && whole ≤ n && zeroAt p (off + 4 + l) (whole - 4 - l) && recsFill p fuel (off + whole) (n - whole)

/-- Validation of one NODE_LIST entry and its records (R109, R110). -/
def nodeChks (c : Cfg) (r : Nat) (p : List Byte) (i : Nat) : List Chk :=
  let b := 32 * i
  let at_ := fun (off : Nat) ok => (⟨Ty.nodeList, r, b + off, ok⟩ : Chk)
  let f := fun off => c.nodeFld r (i + 1) off
  let fs := fldChks c Ty.nodeList r ((fsNode.filter (fun x => x.off ≠ 0x10 ∧ x.off ≠ 0x1A)).map (fun x => { x with off := b + x.off }))
  let before := sumN ((upto i).map (fun j => c.nodeFld r (j + 1) 0x18))
  let cfgOff := 32 * c.nodeCount r + before
  fs.take 1 ++
  [at_ 1 (if f 0 = 0 then 1 ≤ f 1 && f 1 ≤ 16 else f 1 == 0)] ++ (fs.drop 2).take 1 ++ [resChk c Ty.nodeList r (b + 3) 1] ++
  (fs.drop 3).take 2 ++ [at_ 0x10 (f 2 = 0 || f 0x10 ≤ 4095)] ++ (fs.drop 5).take 1 ++
  [at_ 0x14 (f 0x14 == cfgOff), at_ 0x18 (f 0x18 ≤ 4096 && f 0x18 % 4 == 0 && recsFill p 1025 cfgOff (f 0x18)),
   at_ 0x1A (0xFF00 ≤ f 0x1A), resChk c Ty.nodeList r (b + 0x1C) 4]

/-- Validation of CELL_MAP entries (R111). -/
def cellChk (p : List Byte) (i : Nat) : List Chk :=
  let o := 4 + 8 * i
  let e := cellEntOf p i
  let at_ := fun (off : Nat) ok => (⟨Ty.cellMap, 0, o + off, ok⟩ : Chk)
  if e.present then
    [at_ 0 (e.ring ≤ 15), at_ 1 (1 ≤ e.node && e.node ≤ 64), at_ 3 (e.str ≤ 63), at_ 4 (e.chem ≤ 7),
     at_ 5 (leAt p (o + 5) 1 == 1)]
  else [at_ 0 (zeroAt p o 5), at_ 5 (leAt p (o + 5) 1 == 0), at_ 6 (zeroAt p (o + 6) 2)]

/-- A curve point of CHEMISTRY: OCV and uncertainty (R115). -/
def ocvPoint (p : List Byte) (base i j : Nat) : Nat := leAt p (base + 4 * (8 * i + j)) 2

/-- Validation of a CHEMISTRY payload (R115, R116). -/
def chemChks (c : Cfg) (h : Nat) (p : List Byte) : List Chk :=
  let at_ := fun (off : Nat) ok => (⟨Ty.chemistry, h, off, ok⟩ : Chk)
  let e := fun off => c.eff Ty.chemistry h off
  let axis := (upto 128).map (fun i => ((leAt p (0x80 + 2 * i) 2 : Nat) : Int))
  let temps := (upto 8).map (fun i => toSigned 2 (leAt p (0x180 + 2 * i) 2))
  let taper := fun base => (upto 16).map (fun i => ((leAt p (base + 4 * i) 2 : Nat) : Int))
  fldChks c Ty.chemistry h fsChem ++
  [at_ 2 (e 2 < e 0), at_ 0x24 (e 0x24 < e 0x26), at_ 0x34 (e 0x34 < e 0x36), resChk c Ty.chemistry h 0x40 64,
   at_ 0x80 (ascStrict axis && leAt p 0x80 2 == 0 && leAt p 0x17E 2 == 10000), at_ 0x180 (ascStrict temps),
   at_ 0x190 ((upto 8).all (fun i => 1 ≤ leAt p (0x190 + 2 * i) 2)),
   at_ 0x1A0 (ascWeak (taper 0x1A0) && (upto 16).all (fun i => leAt p (0x1A2 + 4 * i) 2 ≤ 32768)),
   at_ 0x1E0 (ascWeak (taper 0x1E0) && (upto 16).all (fun i => leAt p (0x1E2 + 4 * i) 2 ≤ 32768))] ++
  [at_ 0x220 ((upto 8).all (fun j => ascWeak ((upto 128).map (fun i => ((ocvPoint p 0x220 i j : Nat) : Int))) &&
      (upto 128).all (fun i => 1 ≤ leAt p (0x222 + 4 * (8 * i + j)) 2))),
   at_ 0x1220 ((upto 8).all (fun j => ascWeak ((upto 128).map (fun i => ((ocvPoint p 0x1220 i j : Nat) : Int))) &&
      (upto 128).all (fun i => 1 ≤ leAt p (0x1222 + 4 * (8 * i + j)) 2 && ocvPoint p 0x1220 i j ≤ ocvPoint p 0x220 i j)))]

/-- Validation of one zone entry on effective values (R118). -/
def zoneChks (c : Cfg) (z : Nat) : List Chk :=
  let b := 0x40 + 64 * z
  let e := fun off => c.zoneFld z off
  let arr := fun off => (upto 7).map (fun k => e (off + 2 * k))
  let at_ := fun (off : Nat) ok => (⟨Ty.zone, 0, b + off, ok⟩ : Chk)
  let hot6 := max (e 0x0C) (e 0x1A)
  [at_ 0 (ascStrict (arr 0)), at_ 0x0E (ascStrict (arr 0x0E)), at_ 0x1C (ascStrict ((arr 0x1C).map (fun x => -x))),
   at_ 0x2A (ascStrict ((arr 0x2A).map (fun x => -x))), at_ 0x38 (hot6 < e 0x38), at_ 0x3A (e 0x3A < min (e 0x28) (e 0x36)),
   at_ 0x3C (max (e 0x0A) (e 0x18) ≤ e 0x3C && e 0x3C < e 0x38), resChk c Ty.zone 0 (b + 0x3E) 2]

/-- The thresholds of an effective protection set are in order (R119). -/
def protOrder (c : Cfg) (inst : Nat) : Bool :=
  let e := fun off => c.eff Ty.protection inst off
  e 6 < e 4 && e 4 < e 0 && e 0 < e 2

/-- Roles that may hold each permission (R127), one bit per role 0 to 4. -/
def permRoles (b : Nat) : Nat :=
  match b with
  | 0 => 0x1F | 1 => 0x09 | 2 => 0x0B | 3 => 0x09 | 4 => 0x09 | 5 => 0x1F | 6 => 0x09 | 7 => 0x02
  | 8 => 0x09 | 9 => 0x19 | 10 => 0x09 | _ => 0x04

/-- The blocks of the object map: base and last address (R626). -/
def objBlocks : List (Nat × Nat) :=
  [(0x00000000, 0x00000FFF), (0x00001000, 0x00001FFF), (0x00010000, 0x0001FFFF), (0x00020000, 0x0002FFFF),
   (0x00030000, 0x0003FFFF), (0x00040000, 0x0004FFFF), (0x00100000, 0x001FFFFF), (0x00200000, 0x0020FFFF),
   (0x00210000, 0x00213FFF), (0x00220000, 0x00223FFF), (0x00230000, 0x0023003F), (0x00240000, 0x002420FF)] ++
  [(0x00250000, 0x002507FF), (0x00260000, 0x00269FFF), (0x00270000, 0x0027FFFF), (0x00280000, 0x00281FFF),
   (0x00290000, 0x002903FF), (0x002A0000, 0x002A007F), (0x002B0000, 0x002B8FFF), (0x002C0000, 0x002C307F),
   (0x002D0000, 0x002D1FFF), (0x002E0000, 0x002E1FFF), (0x002F0000, 0x002F0FFF), (0x00300000, 0x00300FFF), (0x00310000, 0x003100FF)]

/-- The block an address lies in. -/
def blockOf (a : Nat) : Option (Nat × Nat) := objBlocks.find? (fun b => b.1 ≤ a && a ≤ b.2)

/-- Whether a range lies inside one block. -/
def inOneBlock (a n : Nat) : Bool :=
  match blockOf a with
  | none => false
  | some b => a + n ≤ b.2 + 1

/-- Validation of SESSION (R126 to R128). -/
def sessionChks (c : Cfg) (k : Nat) (p : List Byte) : List Chk :=
  let at_ := fun (off : Nat) ok => (⟨Ty.session, k, off, ok⟩ : Chk)
  let perms := leAt p 4 4
  let role := leAt p 0 1
  let others := c.img.sections.filter (fun s => s.ty = Ty.session && s.inst < k && c.slotOn s.inst)
  fldChks c Ty.session k fsSession ++
  [at_ 4 (perms < 4096 && (upto 12).all (fun b => !bit perms b || bit (permRoles b) role)),
   at_ 8 (leAt p 8 8 != 0 && (!c.slotOn k || others.all (fun s => leAt s.payload 8 8 != leAt p 8 8))), resChk c Ty.session k 0x12 6,
   at_ 0x18 (if leAt p 3 1 = 0 then zeroAt p 0x38 8 else c.img.targetUid != 0 && (unwrapKey (bytesAt p 0x18 40)).isSome)]

/-- Validation of EVENT_POLICY (R129, R778). -/
def policyChks (c : Cfg) (p : List Byte) : List Chk :=
  let at_ := fun (off : Nat) ok => (⟨Ty.eventPolicy, 0, off, ok⟩ : Chk)
  fldChks c Ty.eventPolicy 0 fsPolicy ++ [resChk c Ty.eventPolicy 0 3 5] ++
  ((upto (leAt p 0 2)).map (fun i =>
    let o := 8 + 4 * i
    let code := leAt p o 2
    [at_ o (evListed code && (upto i).all (fun j => leAt p (8 + 4 * j) 2 != code)),
     at_ (o + 2) (leAt p (o + 2) 1 ≤ 15 && (evSeverity code < 4 || 1 ≤ leAt p (o + 2) 1)), at_ (o + 3) (leAt p (o + 3) 1 ≤ 7)])).flatten

/-- Validation of STREAM (R130). -/
def streamChks (c : Cfg) (k : Nat) (p : List Byte) : List Chk :=
  let at_ := fun (off : Nat) ok => (⟨Ty.stream, k, off, ok⟩ : Chk)
  let n := leAt p 6 2
  let total := sumN ((upto n).map (fun i => leAt p (12 + 8 * i) 2))
  fldChks c Ty.stream k fsStream ++
  [at_ 6 (if leAt p 0 1 = 6 then 1 ≤ n && n ≤ 16 && 4 + total ≤ 4096 else n == 0)] ++
  ((upto 16).map (fun i =>
    let o : Nat := 8 + 8 * i
    if i < n then
      [at_ o (inOneBlock (leAt p o 4) (leAt p (o + 4) 2) && !((blockOf (leAt p o 4)).map (·.1) == some 0x002D0000)),
       at_ (o + 4) (1 ≤ leAt p (o + 4) 2 && leAt p (o + 4) 2 ≤ 1024), at_ (o + 6) (zeroAt p (o + 6) 2)]
    else [at_ o (zeroAt p o 8)])).flatten

/-- Eligible fields of R137: width, signedness, and loose side (0 none, 1 high, 2 low). -/
def eligible (c : Cfg) (ty inst off : Nat) : Option (Nat × Bool × Nat) :=
  let f := fieldAt ty (c.img.payload ty inst) off
  let mk := fun side => f.map (fun x => (x.w, x.sg, side))
  if ty = Ty.protection then
    if off ∈ [0, 2, 8, 0x0C, 0x10] then mk 1 else if off ∈ [4, 6] ∨ (0x1A ≤ off ∧ off ≤ 0x22) then mk 2 else none
  else if ty = Ty.current then (if off ∈ [0x18, 0x1C, 0x10, 0x14] then mk 1 else none)
  else if ty = Ty.string then (if off ∈ [0x0C, 0x10] then mk 1 else none)
  else if ty = Ty.lease then (if off ∈ [4, 8, 6, 0x0C, 0x10, 0x14] then mk 1 else none)
  else if ty = Ty.zone then
    if 0x40 ≤ off ∧ off < 0x40 + 64 * c.zoneCount then
      let k := (off - 0x40) % 64
      if k < 0x1C ∨ k = 0x38 then mk 1 else if k < 0x38 ∨ k = 0x3A then mk 2 else none
    else none
  else if ty = Ty.chemistry then
    if off ∈ [0x36, 0x38] then mk 1 else if off = 0x34 then mk 2 else none
  else if ty = Ty.balancing then (if off ∈ [0, 1, 2, 6, 8] then mk 0 else none)
  else if ty = Ty.sleep then (if off ∈ [0, 8] then mk 0 else none)
  else none

/-- One entry of OVERLAY_BOUNDS (R136). -/
structure OvEnt where
  ty : Nat
  inst : Nat
  off : Nat
  w : Nat
  flags : Nat
  low : Int
  high : Int
  deriving DecidableEq, Repr, Inhabited

/-- Entry `i` of an OVERLAY_BOUNDS payload. -/
def ovEntOf (p : List Byte) (i : Nat) : OvEnt :=
  let o := 4 + 16 * i
  let sg := bit (leAt p (o + 7) 1) 0
  let num := fun off => if sg then toSigned 4 (leAt p off 4) else ((leAt p off 4 : Nat) : Int)
  ⟨leAt p o 2, leAt p (o + 2) 2, leAt p (o + 4) 2, leAt p (o + 6) 1, leAt p (o + 7) 1, num (o + 8), num (o + 12)⟩

/-- ENTRY_COUNT of the OVERLAY_BOUNDS in force. -/
def Cfg.ovCount (c : Cfg) : Nat := leAt (c.img.payload Ty.overlay 0) 0 2
/-- An overlay entry in force. -/
def Cfg.ovEnt (c : Cfg) (e : Nat) : OvEnt := ovEntOf (c.img.payload Ty.overlay 0) e

/-- Checks of OVERLAY_BOUNDS entries against the image (R136, R137). -/
def overlayChks (c : Cfg) : List Chk :=
  let base : Cfg := { c with ov := [] }
  ((upto base.ovCount).map (fun i =>
    let e := base.ovEnt i
    let at_ := fun (off : Nat) ok => (⟨Ty.overlay, 0, 4 + 16 * i + off, ok⟩ : Chk)
    let v := base.eff e.ty e.inst e.off
    match eligible base e.ty e.inst e.off with
    | none => [at_ 0 false]
    | some (w, sg, side) =>
      [at_ 0 (base.img.has e.ty e.inst && (upto i).all (fun j =>
          let d := base.ovEnt j
          !(d.ty == e.ty && d.inst == e.inst && d.off == e.off))),
       at_ 6 (e.w == w), at_ 7 (e.flags == b2n sg), at_ 8 (e.low ≤ v && (side != 2 || e.low == v)),
       at_ 12 (v ≤ e.high && (side != 1 || e.high == v))])).flatten

/-- Validation of the fields of one known section (R101 to R134), in offset order. The check of TS_ZONE: DEDUCED, log 96. -/
def sectionChks (c : Cfg) (s : Section) : List Chk :=
  let p := s.payload
  let at_ := fun (off : Nat) ok => (⟨s.ty, s.inst, off, ok⟩ : Chk)
  let res := fun off n => resChk c s.ty s.inst off n
  let std := fldChks c s.ty s.inst (fieldsOf s.ty)
  let e := fun off => c.eff s.ty s.inst off
  if s.ty = Ty.device then std ++ [res 0x4A 6, res 0x70 16]
  else if s.ty = Ty.chain then
    let n := leAt p 1 1
    std ++ [at_ 0 (e 0 == 0 || s.inst == 15), at_ 1 (if e 0 = 0 then 1 ≤ n && n ≤ 64 else n == 0),
      at_ 2 (leAt p 2 1 == 255 || (if 2 ≤ n then 1 ≤ leAt p 2 1 && leAt p 2 1 ≤ n - 1 else leAt p 2 1 == 1)), res 5 3]
  else if s.ty = Ty.nodeList then ((upto (c.nodeCount s.inst)).map (nodeChks c s.inst p)).flatten
  else if s.ty = Ty.cellMap then
    [at_ 0 (1 ≤ leAt p 0 2 && leAt p 0 2 ≤ 16384), res 2 2] ++ ((upto (leAt p 0 2)).map (cellChk p)).flatten
  else if s.ty = Ty.string then
    let upTo := fun (off : Nat) (hi : Nat) => at_ off (leAt p off 1 ≤ hi || leAt p off 1 == 255)
    std ++ [upTo 2 15, upTo 4 23, upTo 5 23, upTo 6 23, upTo 7 15, upTo 8 15, upTo 9 15,
      at_ 10 ((1 ≤ leAt p 10 1 && leAt p 10 1 ≤ 64) || leAt p 10 1 == 255), res 0x0B 1, res 0x14 12]
  else if s.ty = Ty.chemistry then chemChks c s.inst p
  else if s.ty = Ty.zone then
    std ++ (upto 4).map (fun k => at_ (0x18 + 2 * k) (leAt p (0x18 + 2 * k) 2 == 0xFFFF || decide (leAt p (0x18 + 2 * k) 2 < zoneCountOf p))) ++
      [res 0x15 3, res 0x30 16] ++ ((upto (zoneCountOf p)).map (zoneChks c)).flatten
  else if s.ty = Ty.protection then
    std ++ [res 0x23 3, res 0x28 24] ++ (if s.inst = 0 then [at_ 6 (protOrder c 0)] else [])
  else if s.ty = Ty.hasp then std ++ [res 0x14 4]
  else if s.ty = Ty.lease then
    std ++ [at_ 0x0C (e 6 < e 0x0C), at_ 0x0F ((e 0x0F).toNat % 16 ≤ 3 && (e 0x0F).toNat / 16 ≤ 3), at_ 0x1C (e 0x18 < e 0x1C),
      at_ 0x20 (!bit (e 0x20).toNat 29 && !bit (e 0x20).toNat 30), res 0x26 10]
  else if s.ty = Ty.switch then
    let cur := fun code => (([250, 500, 750, 1000, 1250, 1500, 2000, 2500, 3000, 3500, 4000, 4500, 5000, 6000, 7000, 8000] : List Int)[code]?).getD 0
    std ++ [at_ 5 (e 4 == 0 || cur (e 2).toNat ≤ 50 * e 5), at_ 8 (e 8 == 0 || e 0 ≤ 1),
      at_ 9 (if e 8 = 0 then 10 ≤ e 9 && e 9 ≤ 100 else 5 ≤ e 9 && e 9 ≤ 100), res 0x0B 1]
  else if s.ty = Ty.current then
    let code := fun (off : Nat) (dis : Bool) => at_ off ((c.rawAt Ty.current s.inst off).isNone || 1 ≤ c.compCode s.inst dis)
    std.filter (fun k => k.off != 1 || leAt p 0 1 != 0) ++ [at_ 4 (e 4 != 0), res 0x16 2, code 0x18 false, code 0x1C true]
  else if s.ty = Ty.balancing then
    let per := periodNs (c.n Ty.device 0 0x41)
    std ++ [at_ 2 ((1000000 * (e 2).toNat) % per == 0), res 0x11 7]
  else if s.ty = Ty.session then sessionChks c s.inst p
  else if s.ty = Ty.eventPolicy then policyChks c p
  else if s.ty = Ty.stream then streamChks c s.inst p
  else if s.ty = Ty.nesting then std ++ [res 2 2, at_ 8 (e 4 + e 8 ≤ 1048576), res 12 4]
  else if s.ty = Ty.overlay then [at_ 0 (leAt p 0 2 ≤ 512), res 2 2]
  else if s.ty = Ty.pick then std ++ [res 5 1]
  else if s.ty = Ty.network then
    std.filter (fun k => e 0 != 0 || decide (k.off < 0x30)) ++
      [res 5 3, res 0x13 5, res 0x28 8, res 0x3B 5, res 0x50 8, at_ 0x30 (e 0 != 0 || zeroAt p 0x30 40)]
  else if s.ty = Ty.sleep then std ++ [res 0x0D 3]
  else []

/-- Whether a string uses its own channels. -/
def isDirect (c : Cfg) (i : Nat) : Bool := c.strFld i 0 == 0
/-- Whether a string needs an integrated current channel. -/
def usesInput (c : Cfg) (i : Nat) : Bool := c.strFld i 1 != 1
/-- Whether a string is bound to a string node. -/
def usesNode (c : Cfg) (i : Nat) : Bool := c.strFld i 0 == 1 || c.strFld i 1 != 0

/-- Cross-section checks, strings (R135). -/
def stringCross (c : Cfg) (i : Nat) : List Chk :=
  let at_ := fun (off : Nat) ok => (⟨Ty.string, i, off, ok⟩ : Chk)
  let f := fun off => c.strFld i off
  let bound := fun (off : Nat) (used : Bool) => at_ off (used != (f off == 255))
  let k := f 2
  [at_ 0 ((c.stringCells i).length ≥ 1), at_ 0 (c.img.has Ty.hasp i),
   at_ 2 (if usesInput c i then c.img.has Ty.current k && (c.rawAt Ty.current k 0x18).isSome && (c.rawAt Ty.current k 0x1C).isSome else k == 255),
   at_ 3 (f 3 == 0 || c.isSub), bound 4 (isDirect c i), bound 5 (isDirect c i), bound 6 (isDirect c i),
   bound 7 (isDirect c i), bound 8 (isDirect c i),
   at_ 9 (if usesNode c i then c.ringOn (f 9) && 1 ≤ f 10 && f 10 ≤ c.nodeCount (f 9) && c.nodeFld (f 9) (f 10) 0 == 1 else f 9 == 255),
   at_ 10 (usesNode c i || f 10 == 255)]

/-- The DIRECT channels and AUX inputs that strings name, string by string in offset order: string, field, number. -/
def directUse (c : Cfg) : List (Nat × Nat × Nat) :=
  ((c.strings.filter (isDirect c)).map (fun i => [4, 5, 6, 7, 8].map (fun o => (i, o, c.strFld i o)))).flatten

/-- The row of DIRECT channels (R135): each channel and each AUX input is named once, the second naming failing, and each
channel's section has ROLE COIL, MODE LOGIC and RESTART_MAX 0. The subjects are the strings (R105). DEDUCED, log 95. -/
def directChks (c : Cfg) : List Chk :=
  let l := directUse c
  l.zipIdx.map (fun x =>
    let (i, o, v) := x.1
    ⟨Ty.string, i, o, ((l.take x.2).filter (fun y => y.2.2 = v && (y.2.1 < 7) == (o < 7))).isEmpty &&
      (decide (7 ≤ o) || (c.img.has Ty.switch v && c.sw v 0 == 5 && c.sw v 1 == 1 && c.sw v 6 == 0))⟩)

/-- The node sensor ranges of the image: ring, position, first index, count (R135). -/
def sensorRanges (c : Cfg) : List (Nat × Nat × Nat × Nat) :=
  ((c.rings.map (fun r => (upto (c.nodeCount r)).map (fun i => (r, i + 1, c.nodeFld r (i + 1) 0x10, c.nodeFld r (i + 1) 2)))).flatten).filter
    (fun x => x.2.2.2 != 0)

/-- Whether a node sensor-table index is used by a node. -/
def sensorUsed (c : Cfg) (i : Nat) : Bool := (sensorRanges c).any (fun x => x.2.2.1 ≤ i && i < x.2.2.1 + x.2.2.2)

/-- The checks that run after the last section: the requirements of R106, then the rows of R135, in their order. -/
def crossChks (c : Cfg) : List Chk :=
  let has := c.img.has
  let strs := c.strings
  let ranges := sensorRanges c
  let firstStr := (strs.head?).getD 0
  let cells := c.cells
  -- R106
  c.rings.map (fun r => ⟨Ty.chain, r, 0, has Ty.nodeList r⟩) ++
  [⟨Ty.cellMap, 0, 0, !has Ty.cellMap 0 || has Ty.zone 0⟩, ⟨Ty.string, firstStr, 0, strs.isEmpty || has Ty.protection 0⟩] ++
  strs.map (fun i => ⟨Ty.string, i, 0, has Ty.hasp i⟩) ++
  [⟨Ty.string, firstStr, 0, strs.isEmpty || has Ty.lease 0⟩] ++
  -- Rings
  (c.img.sections.filter (fun s => s.ty = Ty.nodeList)).map (fun s => ⟨Ty.nodeList, s.inst, 0, c.ringOn s.inst⟩) ++
  [if has Ty.chain 15 then ⟨Ty.chain, 15, 0, c.uplink == c.isSub⟩ else ⟨Ty.nesting, 0, 0, !c.isSub⟩] ++
  -- Nodes
  ranges.map (fun x => ⟨Ty.nodeList, x.1, 32 * (x.2.1 - 1) + 0x10,
    x.2.2.1 + x.2.2.2 ≤ c.sensorCount && (ranges.filter (fun y => (y.1 < x.1 || (y.1 == x.1 && y.2.1 < x.2.1)) && y.2.2.1 < x.2.2.1 + x.2.2.2 && x.2.2.1 < y.2.2.1 + y.2.2.2)).isEmpty⟩) ++
  (upto c.sensorCount).map (fun i => ⟨Ty.zone, 0, 0x40 + 64 * c.zoneCount + 2 * i,
    c.sensorZone i < c.zoneCount || (c.sensorZone i == 0xFFFF && !sensorUsed c i)⟩) ++
  -- Cells
  (cells.map (fun i =>
    let e := c.cell i
    let at_ := fun (off : Nat) ok => (⟨Ty.cellMap, 0, 4 + 8 * i + off, ok⟩ : Chk)
    [at_ 0 (c.ringOn e.ring), at_ 1 (e.node ≤ c.nodeCount e.ring && c.nodeFld e.ring e.node 0 == 0), at_ 2 (e.chan < c.nodeFld e.ring e.node 1),
     at_ 2 ((cells.filter (fun j => j < i && (c.cell j).ring = e.ring && (c.cell j).node = e.node && (c.cell j).chan = e.chan)).isEmpty),
     at_ 3 ((cells.filter (fun j => j < i && (c.cell j).ring = e.ring && (c.cell j).node = e.node && (c.cell j).str != e.str)).isEmpty && has Ty.string e.str),
     at_ 4 (has Ty.chemistry e.chem), at_ 6 (e.zone < c.zoneCount)])).flatten ++
  -- Strings
  (strs.map (stringCross c)).flatten ++
  -- DIRECT channels
  directChks c ++
  -- Protection
  (strs.map (fun i =>
    [⟨Ty.protection, if (c.rawAt Ty.protection (i + 1) 8).isSome then i + 1 else 0, 8, c.prot i 8 ≤ c.strFld i 0x0C⟩,
     ⟨Ty.protection, if (c.rawAt Ty.protection (i + 1) 0x0C).isSome then i + 1 else 0, 0x0C, c.prot i 0x0C ≤ c.strFld i 0x10⟩,
     ⟨Ty.protection, if has Ty.protection (i + 1) then i + 1 else 0, 6, protOrder c (if has Ty.protection (i + 1) then i + 1 else 0)⟩])).flatten ++
  -- Pre-charge
  (c.img.sections.filter (fun s => s.ty = Ty.hasp)).map (fun s =>
    ⟨Ty.hasp, s.inst, 8, c.haspFld s.inst 8 * (100 + c.haspFld s.inst 6) * 4 ≤ c.haspFld s.inst 0 * 100000⟩) ++
  -- Zones
  (upto c.zoneCount).map (fun z => ⟨Ty.zone, 0, 0,
    (upto c.sensorCount).any (fun i => c.sensorZone i = z) || (upto 4).any (fun k => c.tsZone k = z)⟩) ++
  -- Sessions; with no LEASE section there is no TRANSPORT that asks for a slot (DEDUCED, log 77)
  [⟨Ty.lease, 0, 0x0E, !has Ty.lease 0 || !bit (c.lease 0x0E) 1 || (upto 128).any (fun k => has Ty.session k && c.sess k 0 == 1)⟩] ++
  -- Nesting (R568, R569)
  [⟨Ty.nesting, 0, 8, !has Ty.nesting 0 || c.cellCount ≤ c.n Ty.nesting 0 8⟩,
   ⟨Ty.nodeList, (c.rings.head?).getD 0, 0, decide (sumN (c.rings.map (fun r =>
      ((upto (c.nodeCount r)).filter (fun p => c.nodeFld r (p + 1) 0 == 2)).length)) ≤ 256)⟩] ++
  overlayChks c

/-- Validation of every known section and of the cross-section rules (R105): the first failure. Within a section the checks
run in the order of their fields' offsets. -/
def validate (c : Cfg) : Option Chk :=
  let per := c.img.sections.map (fun s =>
    match expectedLen c s with
    | none => []
    | some n =>
      [⟨s.ty, s.inst, -14, s.inst ≤ maxInst s.ty⟩, ⟨s.ty, s.inst, -12, s.payload.length = n⟩] ++
        (if s.payload.length = n then (sectionChks c s).insertionSort (fun x y => x.off ≤ y.off) else []))
  match firstBad per.flatten with
  | some b => some b
  | none => firstBad (crossChks c)

/-! ### Framing -/

/-- Read `n` sections from `off` up to `stop` (R62, R64): the sections, or the index, TYPE and offset of the fault. -/
def readSections (p : List Byte) (stop : Nat) : Nat → Nat → Nat → Except (Nat × Nat × Nat) (List Section)
  | 0, idx, off => if off = stop then .ok [] else .error (idx, 0, off)
  | n + 1, idx, off =>
    if stop < off + 16 then .error (idx, 0, off)
    else
      let ty := leAt p off 2
      let len := leAt p (off + 4) 4
      let pad := 8 * ceilDiv len 8 - len
      let nxt := off + 16 + len + pad
      if stop < nxt then .error (idx, ty, off + 4)
      else if !zeroAt p (off + 16 + len) pad then .error (idx, ty, off + 16 + len)
      else if leAt p (off + 8) 4 / 2 ≠ 0 then .error (idx, ty, off + 8)
      else
        match readSections p stop n (idx + 1) nxt with
        | .error e => .error e
        | .ok l => .ok ({ ty := ty, inst := leAt p (off + 2) 2, flags := leAt p (off + 8) 4, at_ := off,
                          payload := bytesAt p (off + 16) len } :: l)

/-- The order of R65; the index of the first section out of order. -/
def orderBad : Nat → List Section → Option Nat
  | i, a :: b :: r => if a.ty < b.ty ∨ (a.ty = b.ty ∧ a.inst < b.inst) then orderBad (i + 1) (b :: r) else some (i + 1)
  | _, _ => none

/-- Index of the first section that meets a test. -/
def secIdx (g : Image) (f : Section → Bool) : Option Nat := g.sections.findIdx? f

/-- A key slot (R70): the hash and its two fuses. -/
structure KeySlot where
  hash : List Byte := []
  programmed : Bool := false
  revoked : Bool := false
  deriving DecidableEq, Repr, Inhabited

/-- The judgement of R73 on the bytes of an image, `held` being the bytes received or held in the slot. The reported field
where several take part in one check, the section 0 and TYPE 0 of a field in the header or the trailer, and the lowest-numbered of
live key slots whose hashes begin alike: DEDUCED, log 95. -/
def judgeImage (keys : List KeySlot) (p : List Byte) (held : Nat) : Except Reject Image :=
  let len := leAt p 8 4
  let count := leAt p 0x1C 2
  if leAt p 0 4 ≠ 0x42584C4B then .error ⟨0x01, 0, 0, 0⟩
  else if leAt p 6 2 ≠ 1 then .error ⟨0x02, 0, 0, 4⟩
  else if leAt p 0x3C 4 ≠ crc32 (p.take 0x3C) then .error ⟨0x03, 0, 0, 0x3C⟩
  else if len < 280 ∨ 1048576 < len ∨ len % 8 ≠ 0 ∨ len ≠ held then .error ⟨0x04, 0, 0, 8⟩
  else if leAt p 0x18 2 ≠ 0x8800 then .error ⟨0x05, 0, 0, 0x18⟩
  else if !bit (leAt p 0x1A 2) Config.siliconRev then .error ⟨0x05, 0, 0, 0x1A⟩
  else if leAt p 0x20 8 ≠ 0 ∧ leAt p 0x20 8 ≠ Config.deviceUid then .error ⟨0x06, 0, 0, 0x20⟩
  else if leAt p 0x0C 4 = 0 then .error ⟨0x07, 0, 0, 0x0C⟩
  else if leAt p 0x1E 2 / 2 ≠ 0 then .error ⟨0x07, 0, 0, 0x1E⟩
  else if !zeroAt p 0x28 20 then .error ⟨0x07, 0, 0, 0x28⟩
  else if count < 1 ∨ 1024 < count then .error ⟨0x08, 0, 0, 0x1C⟩
  else match readSections p (len - 72) count 0 64 with
  | .error (i, ty, o) => .error ⟨0x08, i, ty, o⟩
  | .ok secs =>
    let g : Image := { seq := leAt p 0x0C 4, buildId := leAt p 0x10 8, flags := leAt p 0x1E 2, targetUid := leAt p 0x20 8, sections := secs }
    let dev := (secs.head?).getD default
    let rej := fun (rsn i o : Nat) => (⟨rsn, i, ((secs[i]?).getD default).ty, o⟩ : Reject)
    match orderBad 0 secs with
    | some i => .error (rej 0x08 i ((secs[i]?).getD default).at_)
    | none =>
      if dev.ty ≠ Ty.device ∨ dev.inst ≠ 0 ∨ dev.payload.length ≠ 128 then .error (rej 0x08 0 64)
      else if (secs.filter (fun s => s.ty = Ty.device)).length ≠ 1 then .error (rej 0x08 1 (((secs[1]?).getD default).at_))
      else match secIdx g (fun s => leAt p (s.at_ + 12) 4 != crc32 s.payload) with
      | some i => .error (rej 0x09 i (((secs[i]?).getD default).at_ + 12))
      | none => match secIdx g (fun s => (s.ty = 0 || 21 < s.ty) && bit s.flags 0) with
        | some i => .error (rej 0x0A i (((secs[i]?).getD default).at_ + 8))
        | none =>
          let keyId := bytesAt p (len - 72) 8
          match keys.find? (fun k => k.programmed && !k.revoked && k.hash.take 8 == keyId) with
          | none => .error ⟨0x0B, 0, 0, len - 72⟩
          | some k =>
            let key := dev.payload.take 64
            let r := leAt p (len - 64) 32
            let s := leAt p (len - 32) 32
            if sha256 key ≠ k.hash then .error (rej 0x0C 0 80)
            else if r < 1 ∨ p256Order ≤ r ∨ s < 1 ∨ p256Order ≤ s ∨ !ecdsaVerify key (p.take (len - 72)) r s then
              .error ⟨0x0D, 0, 0, len - 64⟩
            else match validate { img := g } with
            | some b =>
              let i := (secIdx g (fun x => x.ty = b.ty && x.inst = b.inst)).getD 0
              .error (rej 0x0E i (((secs[i]?).getD default).at_ + 16 + b.off).toNat)
            | none => .ok g

/-- Types of unknown sections that R74 ignores, each once. -/
def ignoredTypes (g : Image) : List (Nat × Nat) :=
  g.sections.foldl (fun acc s => if (s.ty = 0 || 21 < s.ty) && !(acc.any (fun x => x.1 = s.ty)) then acc ++ [(s.ty, s.inst)] else acc) []

/-- The status a runtime write gets from the image's rules (R138): whether the value is accepted. -/
def ovAccepts (c : Cfg) (e : OvEnt) (v : Int) (pending : List OvVal) : Bool :=
  let keep := (pending ++ c.ov.filter (fun o => !(pending.any (fun q => q.ty = o.ty && q.inst = o.inst && q.off = o.off)))).filter
    (fun o => !(o.ty = e.ty && o.inst = e.inst && o.off = e.off))
  e.low ≤ v && v ≤ e.high && (validate { c with ov := ⟨e.ty, e.inst, e.off, v⟩ :: keep }).isNone

/-! ### Images under current (R97), cells across the hinge (R93) -/

/-- Whether one cell keeps its records across the hinge point (R93). -/
def cellKept (old new : Cfg) (i : Nat) : Bool :=
  let a := old.cell i
  let b := new.cell i
  a.present && b.present && a.ring == b.ring && a.node == b.node && a.chan == b.chan && a.chem == b.chem && !bit new.img.flags 0

/-- Whether the new image changes an aspect of R97 of a string that is not OPEN. CLOSE_AUTHORITY is none of them. PROTECTION is
compared by its effective values, the other sections byte by byte. DEDUCED, log 97. -/
def stringTouched (old new : Cfg) (i : Nat) : Bool :=
  let old : Cfg := { old with ov := [] }
  let cellSet := fun (c : Cfg) => (c.stringCells i).map (fun k => (k, (c.cell k).ring, (c.cell k).node, (c.cell k).chan))
  let ringsOf := fun (c : Cfg) => ((c.stringCells i).map (fun k => (c.cell k).ring)) ++ (if usesNode c i then [c.strFld i 9] else [])
  let bytes := fun (c : Cfg) ty inst => c.img.payload ty inst
  let same := fun ty inst => bytes old ty inst == bytes new ty inst && old.img.has ty inst == new.img.has ty inst
  let bindings := fun (c : Cfg) => ((bytes c Ty.string i).take 3, bytesAt (bytes c Ty.string i) 4 7)
  let chans := fun (c : Cfg) => if isDirect c i then [c.strFld i 4, c.strFld i 5, c.strFld i 6] else []
  let protOf := fun (c : Cfg) => (fsProt.map (fun f => c.prot i f.off))
  !(cellSet old == cellSet new
    && (ringsOf old ++ ringsOf new).all (fun r => same Ty.chain r && same Ty.nodeList r)
    && same Ty.hasp i
    && (bindings old == bindings new) && old.img.has Ty.string i == new.img.has Ty.string i
    && (chans old ++ chans new).all (fun k => same Ty.switch k)
    && (!usesInput old i || same Ty.current (old.strFld i 2))
    && protOf old == protOf new)

end Sys2Proof.Machine
end

