-- ==== Sys2Proof/Machine/State.lean ====
section
/-!
DEFINITION. The state of the KXL8800 as plain data: every register, record, queue, counter, latch and pin the manual
gives it, each at its "After start" value, and the queue of commands that wait. Sparse records are lists of
(index, record) in rising order of the index.
-/
namespace Sys2Proof.Machine

/-- A sparse table in rising order of the index; an unlisted index reads as the record's default. -/
abbrev KMap (α : Type) := List (Nat × α)

/-- Stops of the block. None is used: every command has an effect in every state. DESIGN CHOICE, log 3. -/
inductive Fault where
  /-- Reserved for a command that the manual forbids outright; no meaning raises it. Safe. -/
  | forbidden
  deriving DecidableEq, Repr

/-- Refusals of the block. DESIGN CHOICE, log 3. -/
inductive Refusal where
  /-- A row without a meaning yet, raised by its arm alone. Safe. -/
  | notModelled (mnemonic : String)
  deriving DecidableEq, Repr

/-! ### What the block puts out -/

/-- A message the block has sent or a pin event it has made. DESIGN CHOICE, log 5. -/
inductive Out where
  /-- A frame on a ring: ring, end, class of R208, the instant at which it became ready, and its bytes from DEST to the CRC
  (R155, R156). -/
  | frame (ring : Nat) (e : Leaf) (cls now : Nat) (line : List Byte)
  /-- A frame that leaves a port toward the parent: its bytes, and whether EOF ends it, or ABORT (R161). -/
  | up (e : Leaf) (line : List Byte) (eof : Bool)
  /-- A SYNC: ring (15 the uplink), end, SWEEP_LOW, HOP, CHECK (R150). -/
  | sync (ring : Nat) (e : Leaf) (low hop check : Nat)
  /-- A RATE ordered set: ring (15 the uplink), end, RATE_CODE, CHECK (R154). -/
  | rate (ring : Nat) (e : Leaf) (code check : Nat)
  /-- A Ward DATA packet to a session: its header (R603) and the message it carries: KIND, STATUS, TAG, body (R612). -/
  | ward (sess : Nat) (header : List Byte) (kind status tag : Nat) (body : List Byte)
  /-- A Ward handshake packet to a port: its header (R603) and its payload before sealing. -/
  | hand (port : Nat) (header body : List Byte)
  /-- A CAN frame: controller, identifier offset, data, and whether its CRC field is right. -/
  | can (ctl ident : Nat) (data : List Byte) (good : Bool)
  /-- An Ethernet control frame: port and kind (1 ARP reply, 2 neighbour advertisement, 3 echo reply, 4 PRP supervision). -/
  | net (port kind target : Nat)
  /-- Bytes on MISO. -/
  | spi (bytes : List Byte)
  /-- Levels on TDO, one after each falling edge of TCK (R752). -/
  | tdo (bits : List Bool)
  deriving DecidableEq, Repr, Inhabited

/-! ### Device, leaves, AON -/

/-- Device states (R725); `off` is the state before t0. -/
inductive Dev where
  | off | start | run | sleep | safe | halt
  deriving DecidableEq, Repr, Inhabited

/-- Leaf states (R535). -/
inductive LeafSt where
  | running | fenced | rejoining | resyncing
  deriving DecidableEq, Repr, Inhabited

/-- An event record (R667). -/
structure EventRec where
  time : Nat := 0
  code : Nat := 0
  source : Nat := 0
  leafByte : Nat := 0
  severity : Nat := 0
  seq : Nat := 0
  params : List Byte := []
  crc : Nat := 0
  deriving DecidableEq, Repr, Inhabited

/-- A leaf's log copy and staging queue (R676, R680, R682). Newest records first in `keep` and `ring`. -/
structure LogCopy where
  queue : List EventRec := []
  keep : List EventRec := []
  ring : List EventRec := []
  spares : Nat := 0
  remap : List (Nat × Nat) := []
  failed : Bool := false
  /-- Sequence numbers of this copy lost to a media fault (R682). -/
  lost : List Nat := []
  deriving DecidableEq, Repr, Inhabited

/-- A Bitting slot with its descriptor (R75): 0 EMPTY, 1 WRITING, 2 WRITTEN, 3 WITHDRAWN. -/
structure Slot where
  st : Nat := 0
  len : Nat := 0
  seq : Nat := 0
  sha : List Byte := []
  bytes : List Byte := []
  deriving DecidableEq, Repr, Inhabited

/-- A learning-store entry (R325, R326): what MRAM holds of it, and the cell's bits of the three bitmaps in SRAM. -/
structure Learn where
  valid : Bool := false
  gap : Bool := false
  rx : Bool := false
  q : Int := 0
  socO : Nat := 0
  sigO : Nat := 0
  tRef : Int := 0
  time : Nat := 0
  outCount : Nat := 0
  outC1 : Nat := 0
  outC2 : Nat := 0
  rxDi : Int := 0
  rxV0 : Nat := 0
  rxV1 : Nat := 0
  rxS0 : Nat := 0
  rxT1 : Nat := 0
  deriving DecidableEq, Repr, Inhabited

/-- The contactor opening record of a string (R484). -/
structure Opens where
  opensPos : Nat := 0
  loadPos : Nat := 0
  opensNeg : Nat := 0
  loadNeg : Nat := 0
  iLast : Int := 0
  iMax : Nat := 0
  closes : Nat := 0
  weldCount : Nat := 0
  deriving DecidableEq, Repr, Inhabited

/-- What MRAM keeps of a ring's last accepted round (R197): one-way time, segment delays, UIDs. -/
structure Segs where
  t : Nat := 0
  segs : List Int := []
  uids : List Nat := []
  deriving DecidableEq, Repr, Inhabited

/-- A unit waiting in a leaf's MRAM write queue (R553), with what it writes. -/
inductive MUnit where
  /-- A learning-store entry of a cell (R326). -/
  | learn (cell : Nat) (e : Learn)
  /-- The contactor opening record of a string (R484). -/
  | opens (str : Nat) (r : Opens)
  /-- The latched trips of every string (R430). -/
  | latched (t : KMap Nat)
  /-- The stored calibration of a ring (R197). -/
  | segs (ring : Nat) (x : Segs)
  deriving DecidableEq, Repr, Inhabited

/-- What a leaf's MRAM holds beside the slots, the log and the snapshots (R26). -/
structure Mram where
  learn : KMap Learn := []
  opens : KMap Opens := []
  latched : KMap Nat := []
  segs : KMap Segs := []
  /-- SEQUENCE_FLOOR (R77). -/
  floor : Nat := 0
  /-- STARTS, START_ID and the group node's BOOT_COUNT (R489, R634). -/
  starts : Nat := 0
  startId : Nat := 0
  boot : Nat := 0
  deriving DecidableEq, Repr, Inhabited

/-- A snapshot buffer's descriptor and contents (R344, R345). State 0 EMPTY, 1 WRITING, 2 VALID. -/
structure Snap where
  st : Nat := 0
  seq : Nat := 0
  firstSweep : Nat := 0
  lastSweep : Nat := 0
  startTime : Nat := 0
  imageSeq : Nat := 0
  /-- CRC-32 over the 256 KiB of the buffer. -/
  crc : Nat := 0
  /-- Entries of 16 bytes: cell index and bytes; an entry not listed holds zeros. -/
  cells : KMap (List Byte) := []
  deriving DecidableEq, Repr, Inhabited

/-- What each leaf holds of its own. -/
structure LeafRec where
  supplied : Bool := false
  pllOk : Bool := false
  mramOk : Bool := false
  sramOk : Bool := false
  /-- Its start instant on the CLK_TB count. -/
  t0 : Nat := 0
  st : LeafSt := .running
  cause : Nat := 0
  fenceTime : Nat := 0
  /-- Step of the rejoin of R554, 0 none. -/
  rejoin : Nat := 0
  slot0 : Slot := {}
  slot1 : Slot := {}
  /-- Slots judged valid at this start, with the image (R45). -/
  valid0 : Option Image := none
  valid1 : Option Image := none
  /-- The staging store (R79). -/
  stage : List Host.Cell := []
  log : LogCopy := {}
  mramQ : List MUnit := []
  writeOk : Bool := true
  /-- Instant of the last refusal: the unit then in programming completes within 30 µs (R421). -/
  refuseNow : Nat := 0
  regulated : Bool := false
  /-- The request RQ as the AON edge monitor judges it (R441). -/
  rq : Bool := false
  digest : List Byte := []
  snapA : Snap := {}
  snapB : Snap := {}
  /-- A snapshot is being written, and its next unit of four entries (R346, R347). -/
  snapGo : Bool := false
  snapIdx : Nat := 0
  /-- A snapshot is triggered and not yet complete; its deferral has been logged (R346, R347). -/
  snapOwed : Bool := false
  snapHeld : Bool := false
  mram : Mram := {}
  /-- The leaf's own trip decisions of level DEADBOLT (R443). -/
  dbReq : Bool := false
  deriving DecidableEq, Repr, Inhabited

/-- The AON domain: reset, latches, Deadbolt, emergency records. -/
structure Aon where
  vaon : Bool := false
  testEn : Bool := false
  x32Fallback : Bool := false
  dev : Dev := .off
  unkeyed : Bool := false
  ready : Bool := false
  faultN : Bool := false
  /-- No validated sweep without a trip cause since the start (R40). -/
  faultHold : Bool := true
  resetCause : Nat := 0
  starts : Nat := 0
  xaGood : Bool := false
  supplyEvents : Nat := 0
  /-- RAILS bits 9 to 12 live in the switch banks; bits of the leaves here (R645). -/
  rails : Nat := 0
  -- Hold cells (R58)
  holdThermal : Bool := false
  holdThermalCause : Nat := 0
  holdDb : Bool := false
  holdDbCause : Nat := 0
  /-- Last step of R41 reached and its time, for START_REPORT (R57). -/
  lastStep : Nat := 0
  -- Deadbolt (R440 to R452)
  dbLatch : Bool := false
  dbCause : Nat := 0
  dbSource : Nat := 0xFFFF
  dbTime : Nat := 0
  dbSweep : Nat := 0
  hold : Bool := true
  holdCause : Nat := 1
  throws : Nat := 0
  clearState : Nat := 0
  clearResult : Nat := 0
  armSlot : Nat := 0xFF
  armTime : Nat := 0
  /-- Elapsed instant of the ARM, for the 5 s window. -/
  armNow : Nat := 0
  bankActing : Nat := 0
  -- Thermal latch record (R417)
  thermal : Bool := false
  thCause : Nat := 0
  thSource : Nat := 0
  thTime : Nat := 0
  thValue : Int := 0
  thSweep : Nat := 0
  /-- The latch was carried into the start in hand (R48, R60). -/
  carried : Bool := false
  deriving DecidableEq, Repr, Inhabited

/-! ### Balls (R30, R588, R748) and the TAP (R751, R752) -/

/-- An output ball: released, or driven to a level. -/
inductive Pin where
  | z | low | high
  deriving DecidableEq, Repr, Inhabited

/-- Output balls that follow the state of their domain, as they are after a command. -/
structure Balls where
  /-- Whether the signal balls of a leaf's domain are driven: it is supplied and out of reset (R30). -/
  driveA : Bool := false
  driveB : Bool := false
  /-- PHYRST0_N and PHYRST1_N (R588). -/
  phyRstA : Pin := .z
  phyRstB : Pin := .z
  /-- PPS_OUT, of either leaf's VDDIO (R748). -/
  ppsOut : Pin := .z
  /-- TDO is driven: TEST_EN is latched high (R751). -/
  tdo : Bool := false
  deriving DecidableEq, Repr, Inhabited

/-- The states of the TAP controller of IEEE 1149.1 (R752). -/
inductive TapSt where
  | testLogicReset | runTestIdle | selectDr | captureDr | shiftDr | exit1Dr | pauseDr | exit2Dr | updateDr
  | selectIr | captureIr | shiftIr | exit1Ir | pauseIr | exit2Ir | updateIr
  deriving DecidableEq, Repr, Inhabited

/-- The instructions of the TAP (R752). -/
inductive TapIns where
  | bypass | idcode | sample | extest
  deriving DecidableEq, Repr, Inhabited

/-- The test access port: controller state, instruction in force, the two shift registers, the boundary-scan cells in force. -/
structure Tap where
  st : TapSt := .testLogicReset
  ins : TapIns := .idcode
  ir : List Bool := []
  dr : List Bool := []
  cells : List Bool := []
  deriving DecidableEq, Repr, Inhabited

/-- The emergency area and the recorder (R671 to R694). -/
structure Bucket where
  used : Nat := 0
  supp : Nat := 0
  first : Nat := 0
  /-- Instant of the last refill. -/
  refill : Nat := 0
  deriving DecidableEq, Repr, Inhabited

/-- A log mark (R686, R693). -/
structure Mark where
  alloc : Bool := false
  owner : Nat := 0xFF
  overrun : Bool := false
  seq : Nat := 0
  allocTime : Nat := 0
  readTime : Nat := 0
  lostTotal : Nat := 0
  deriving DecidableEq, Repr, Inhabited

/-- The event recorder shared by the leaves (R692). -/
structure Recorder where
  nextSeq : Nat := 1
  buckets : KMap Bucket := []
  dropLow : Nat := 0
  dropHigh : Nat := 0
  firstDrop : Nat := 0
  queueHigh : Nat := 0
  written : Nat := 0
  suppTotal : Nat := 0
  dropTotal : Nat := 0
  streamOnly : Nat := 0
  standbyDrops : Nat := 0
  mediaFaults : Nat := 0
  logDegraded : Nat := 0
  marks : KMap Mark := []
  winOwner : Nat := 0xFF
  winGen : Nat := 0
  winCopy : Nat := 0
  winStatus : Nat := 0
  winFirst : Nat := 0
  winLost : Nat := 0
  winRecs : List EventRec := []
  winHeld : Bool := false
  winTime : Nat := 0
  emerg : KMap EventRec := []
  emergNext : Nat := 0
  emergCount : Nat := 0
  sticky : Nat := 0
  /-- The traffic in hand was altered by Pick (R669). -/
  picked : Bool := false
  deriving DecidableEq, Repr, Inhabited

/-! ### Time -/

/-- The network time unit (R37, R596 to R598, R638). `now` counts CLK_TB in ns; device time is `now + base`. -/
structure TimeU where
  now : Nat := 0
  base : Int := 0
  t0 : Nat := 0
  locked : Bool := false
  source : Nat := 0
  lateTotal : Nat := 0
  lastStep : Int := 0
  stepTime : Nat := 0
  ptpPort : Nat := 0xFF
  ptpOffset : Int := 0
  ptpGood : Nat := 0
  /-- Followed master: port, clock identity, rank. -/
  master : Option (Nat × Nat × Nat) := none
  /-- Best master heard on each port. -/
  heard0 : Option (Nat × Nat) := none
  heard1 : Option (Nat × Nat) := none
  lastSync : Nat := 0
  lostLogged : Bool := false
  /-- Level of PPS_OUT, and the instant of its last rise. -/
  ppsOut : Bool := false
  ppsLast : Nat := 0
  ppsEdges : Nat := 0
  deriving DecidableEq, Repr, Inhabited

/-! ### Rings -/

/-- Ring states (R222). -/
inductive RingSt where
  | idle | whole | broken (j : Nat) | lost | uplink
  deriving DecidableEq, Repr, Inhabited

/-- Why a request was sent on a ring; it decides what its answer or its failure does. -/
inductive Purpose where
  /-- A sample re-request (R211). -/
  | sample
  /-- A BAL_PLAN. -/
  | bal
  /-- The head of the node's configuration plan, and its read-back (R199). -/
  | cfgW | cfgR
  /-- The clearing of SKEW_COUNT, and the reads of SKEW_SUM and of SYNC_FWD_DELAY (R195). -/
  | calClear | calSkew | calFwd
  /-- The diagnostic read that shows whether an end reaches a quarantined node (R230). -/
  | reach
  /-- SERVE_PORT of a moved split, and its read-back (R226). -/
  | serveW | serveR
  /-- An ACT_CMD of a string, with the number of the request that its copies share (R215). -/
  | act (str tok : Nat)
  /-- NODE_READ, NODE_WRITE and its read-backs (R649, R650). -/
  | hostR (sess tag dlen : Nat)
  | hostW (sess tag : Nat)
  | hostWR (sess tag : Nat)
  /-- The outer PASS of NEST_PASS, and what a PASS of the parent asks for (R572, R574). -/
  | pass (sess tag : Nat)
  | upPass (port : Leaf) (seq : Nat)
  deriving DecidableEq, Repr, Inhabited

/-- A request to a node at one end (R203 to R207). -/
structure Req where
  kind : Nat := 4
  reg : Nat := 0
  /-- Payload of the frame. -/
  payload : List Byte := []
  /-- Data a read-back must show. -/
  expect : List Byte := []
  purpose : Purpose := .sample
  /-- Class of R208. -/
  cls : Nat := 6
  seq : Nat := 0
  sent : Bool := false
  retries : Nat := 0
  /-- Instant at which the answer timeout, or the retry delay, ends. -/
  due : Nat := 0
  /-- The retry delay after a NACK BUSY runs. -/
  busy : Bool := false
  /-- The other copy has been answered: no further retry (R211, R215). -/
  muted : Bool := false
  /-- Instant of the first sending. -/
  first : Nat := 0
  deriving DecidableEq, Repr, Inhabited

/-- One position as one master port sees it: SEQ counter and requests, the first of them outstanding (R203). -/
structure PortPos where
  seqCtr : Nat := 1
  q : List Req := []
  deriving DecidableEq, Repr, Inhabited

/-- A node record (R640) with what the device keeps about the node. -/
structure Node where
  /-- An ENUM_RSP has been recorded for the position. -/
  known : Bool := false
  /-- LINK_VERSION answered. -/
  ver : Nat := 0
  /-- An ALARM has shown a reset; the ENUM_RSP that follows is checked by R220. -/
  resetPend : Bool := false
  /-- UID answered at each end in that end's last enumeration. -/
  ansA : Option Nat := none
  ansB : Option Nat := none
  cls : Nat := 0
  cells : Nat := 0
  ntcs : Nat := 0
  uid : Nat := 0
  caps : Nat := 0
  boot : Nat := 0
  balIMax : Nat := 0
  vFull : Nat := 0
  quar : Nat := 0
  /-- A quarantined node has passed R185 and R181 at an enumeration of R188: its configuration may end the quarantine. -/
  trial : Bool := false
  /-- 0 not configured, 1 awaiting configuration, 2 configured from the next SYNC, 3 in use. -/
  cfg : Nat := 0
  /-- Outstanding configuration writes, register and data, in order (R199). -/
  plan : List (Nat × List Byte) := []
  /-- What the plan belongs to: 1 configuration, 2 after a reset (R220), 3 offsets of a background round (R196). -/
  planKind : Nat := 0
  offA : Nat := 0
  offB : Nat := 0
  fwd : Nat := 0
  skewSum : Int := 0
  skewCnt : Nat := 0
  /-- Calibration reads answered in this round: SKEW registers, SYNC_FWD_DELAY. -/
  gotSkew : Bool := false
  gotFwd : Bool := false
  servePort : Nat := 0
  /-- A SERVE_PORT write of R226 is due or has failed (R227). -/
  servePend : Bool := false
  /-- Good frames at each end in this sweep and in the one before (R222). -/
  seenA : Bool := false
  seenB : Bool := false
  prevA : Bool := false
  prevB : Bool := false
  /-- Counting re-requests answered at each end in this sweep (R223). -/
  reqA : Bool := false
  reqB : Bool := false
  /-- A SAMPLE_RSP or an answer to a re-request came in this sweep; one has come since the last reset seen (R219). -/
  smp : Bool := false
  spoke : Bool := false
  /-- Consecutive sweeps without a sample and without an answer to a re-request (R219). -/
  silent : Nat := 0
  /-- The node is heard at the end, but answers no request there (R225). -/
  deafA : Bool := false
  deafB : Bool := false
  lastNack : Nat := 0
  resets : Nat := 0
  noAnswers : Nat := 0
  cfgTime : Nat := 0
  /-- Pick altered traffic of this node since its last used sample (R669). -/
  picked : Bool := false
  wasDisturbed : Bool := false
  deriving DecidableEq, Repr, Inhabited

/-- A ring record (R639) with what the device keeps about the ring. -/
structure Ring where
  st : RingSt := .idle
  aLast : Nat := 0
  bFirst : Nat := 0
  /-- The split that serves this sweep (last node of the A end, first node of the B end), and the next sweep's. -/
  spA : Nat := 0
  spB : Nat := 0
  nxA : Nat := 0
  nxB : Nat := 0
  /-- The split that SPLIT_MOVED has announced last (R226). -/
  mvA : Nat := 0
  mvB : Nat := 0
  calState : Nat := 0
  /-- Quarantined with reason COUNT (R181). -/
  countBad : Bool := false
  /-- R181 has been applied in this enumeration; an ENUM_RSP of it carried a SRC that is no position. -/
  cntDone : Bool := false
  srcBad : Bool := false
  /-- WHOLE but for a fenced leaf's end (R224). -/
  sideOk : Bool := false
  /-- After a hinge point that changed the ring, until the first SYNC after its configuration (R221). -/
  gated : Bool := false
  hopBad : Nat := 0
  hopAtA : Nat := 0
  hopAtB : Nat := 0
  /-- Far-end SYNC of this sweep received at each end, and with HOP equal to NODE_COUNT. -/
  syncA : Bool := false
  syncB : Bool := false
  hopOkA : Bool := false
  hopOkB : Bool := false
  /-- Far-end SYNC missing at each end in the last sweep judged. -/
  missA : Bool := false
  missB : Bool := false
  /-- First SYNC instant and length of the restoration run (R229). -/
  runStart : Nat := 0
  runCount : Nat := 0
  /-- Event code of R223 that waits for A_LAST and B_FIRST, its instant, and what they will be taken from. -/
  brk : Nat := 0
  brkNow : Nat := 0
  brkSent : Bool := false
  brkEnum : Bool := false
  /-- The first probe of R228 has gone, or is not owed, at each end. -/
  probedA : Bool := false
  probedB : Bool := false
  losA : Bool := true
  losB : Bool := true
  /-- Instant of each end's last ENUM, its answer window, and the ENUM that came round to the end. -/
  enumA : Nat := 0
  enumB : Nat := 0
  openA : Bool := false
  openB : Bool := false
  hopRetA : Option Nat := none
  hopRetB : Option Nat := none
  /-- 0 probe or R223, 1 start or hinge (configure every node), 2 restoration, 3 CHAIN_REENUM, 4 the ENUM of R219. -/
  enumKind : Nat := 0
  /-- The B-end ENUM of a full enumeration is still to be sent. -/
  bPend : Bool := false
  t : Nat := 0
  segs : List Int := []
  uids : List Nat := []
  /-- Calibration: 0 none; start round 1 clearing, 2 launching, 3 reading; 4 reading for R198; background round 5
  clearing, 6 sweeping, 7 reading; 8 a background round is due after the next commit point; R198 after a start round that a
  break ended (R230), 9 due, 10 reading. -/
  cal : Nat := 0
  calN : Nat := 0
  calAb : Nat := 0
  calBa : Nat := 0
  calAbN : Nat := 0
  calBaN : Nat := 0
  /-- Instant of the last calibration SYNC, and of the last round's start (R196). -/
  calLast : Nat := 0
  calFrom : Nat := 0
  calRounds : Nat := 0
  calTime : Nat := 0
  /-- QUIET_POST is to be rewritten after the next collection deadline (R245). -/
  quietDue : Bool := false
  late : Nat := 0
  badA : Nat := 0
  badB : Nat := 0
  codeA : Nat := 0
  codeB : Nat := 0
  losCntA : Nat := 0
  losCntB : Nat := 0
  stray : Nat := 0
  retries : Nat := 0
  noAns : Nat := 0
  bcast : Nat := 0
  breaks : Nat := 0
  breakTime : Nat := 0
  /-- Standing of R43, and a used sample in the sweep in hand. -/
  delivered : Bool := false
  /-- A good frame of a node has arrived since the last SYNC (R228). -/
  heard : Bool := false
  used : Bool := false
  /-- The re-request instant of each end has passed in this sweep. -/
  rrA : Bool := false
  rrB : Bool := false
  /-- SWEEP of the record (R639). -/
  sweep : Nat := 0xFFFFFFFF
  deriving DecidableEq, Repr, Inhabited

/-- A SAMPLE_RSP accepted in this sweep (R250): the end it arrived at and which leaves hold it. DESIGN CHOICE, log 61. -/
structure Item where
  ring : Nat := 0
  pos : Nat := 0
  e : Leaf := .a
  payload : List Byte := []
  inA : Bool := true
  inB : Bool := true
  deriving DecidableEq, Repr

/-- The rings of the device. -/
structure Chains where
  rings : KMap Ring := []
  nodes : KMap Node := []
  ports : KMap PortPos := []
  /-- Alarms of the last 10 ms with their instants: ring, position, SEQ, CAUSE (R213). -/
  alarms : List (Nat × Nat × Nat × Nat × Nat) := []
  /-- LINK RATE: LOW in SLEEP (R154). -/
  low : Bool := false
  /-- Number of the next ACT_CMD request (R215). -/
  actTok : Nat := 0
  /-- Positions that failed a read-back of a group write (R650): session, tag, position. -/
  badBack : List (Nat × Nat × Nat) := []
  deriving DecidableEq, Repr, Inhabited

/-! ### The sealed input set (R253, R254) -/

/-- A cell entry. -/
structure CellIn where
  v : Nat := 0
  q : Int := 0
  tag : Nat := 6
  align : Bool := false
  gap : Bool := false
  stale : Nat := 0
  deriving DecidableEq, Repr, Inhabited

/-- A sensor entry. -/
structure SensIn where
  code : Nat := 0
  tag : Nat := 4
  t : Int := 0x7FFF
  deriving DecidableEq, Repr, Inhabited

/-- A node entry. -/
structure NodeIn where
  low : Nat := 0
  flags : Nat := 0
  tag : Nat := 6
  src : Nat := 0xFF
  dist : Nat := 0
  susp : Nat := 0
  resid : Nat := 0
  stale : Nat := 0
  deriving DecidableEq, Repr, Inhabited

/-- A string-node input entry. -/
structure StrIn where
  i : Int := 0
  vStr : Nat := 0
  vBus : Nat := 0
  vPos : Nat := 0
  vNeg : Nat := 0
  contacts : Nat := 0
  tag : Nat := 0
  stale : Nat := 0
  deriving DecidableEq, Repr, Inhabited

/-- A current input entry with the record fields of R285. -/
structure CurIn where
  a : Int := 0
  b : Int := 0
  status : Nat := 0
  rawA : Int := 0
  rawB : Int := 0
  clk : Nat := 0
  deriving DecidableEq, Repr, Inhabited

/-- The sealed set of a sweep. -/
structure Sealed where
  sweep : Nat := 0
  period : Nat := 2
  sampleTime : Nat := 0
  imageSeq : Nat := 0
  ovGen : Nat := 0
  /-- A_LAST and B_FIRST of the 16 rings (R253). -/
  ends : List (Nat × Nat) := []
  cells : KMap CellIn := []
  sens : KMap SensIn := []
  nodes : KMap NodeIn := []
  strs : KMap StrIn := []
  curs : KMap CurIn := []
  dev : DevIn := {}
  deriving DecidableEq, Repr, Inhabited

/-- Phases of a sweep. -/
inductive Phase where
  | idle | collecting | exchanging | reseal | sealed | committed
  deriving DecidableEq, Repr, Inhabited

/-- The Tumblers and the TIME sweep fields (R231 to R262). Instants are on the CLK_TB count. -/
structure Sweep where
  num : Nat := 0
  started : Bool := false
  ts : Nat := 0
  /-- SWEEP_START: device time at the SYNC edge (R232). -/
  start : Nat := 0
  /-- The edge of the next SYNC. -/
  next : Nat := 0
  phase : Phase := .idle
  items : List Item := []
  endA : Bool := false
  endB : Bool := false
  /-- Both leaves were unfenced at the collection deadline: each expects the other's END marker (R252). -/
  expect : Bool := false
  /-- Path values that did not cross the Knuckle: receiving leaf, input (R250). -/
  lost : List (Nat × Nat) := []
  /-- SEAL_FLAGS of the sweep in hand. -/
  flags : Nat := 0
  period : Nat := 2
  /-- The configured period code at the start sweep, in force until a change decided at a commit point (R233). -/
  base : Nat := 2
  /-- Period changes decided and not yet in effect: sweep and period code and cause bits. -/
  pend : List (Nat × Nat × Nat) := []
  cause : Nat := 0
  /-- Δt of R289 for the sweep in hand, in ticks, and the previous sample instant. -/
  dt : Nat := 0
  prevSample : Nat := 0
  firstSample : Nat := 0
  sealed : Sealed := {}
  /-- Frames discarded by R249 since the last commit point. -/
  late : Nat := 0
  validated : Bool := false
  everValidated : Bool := false
  -- TIME block, as committed
  cSweep : Nat := 0
  cStart : Nat := 0
  cSample : Nat := 0
  cCommit : Nat := 0
  cDigest : List Byte := []
  cAbsent : Nat := 0
  cDist : Nat := 0
  cClip : Nat := 0
  cLate : Nat := 0
  cOvGen : Nat := 0
  cFlags : Nat := 0
  cPeriod : Nat := 2
  cCause : Nat := 0
  commitNow : Nat := 0
  /-- A commit point has happened since the last SYNC. -/
  fresh : Bool := false
  deriving DecidableEq, Repr, Inhabited

/-! ### Currents (R285) -/

/-- What the device keeps about one current input. -/
structure CurSt where
  pathCount : Nat := 0
  nodeCount : Nat := 0
  agreeRun : Nat := 0
  acting : Bool := false
  clipEp : Bool := false
  clkEp : Bool := false
  trips : Nat := 0
  tripChg : Bool := false
  tripDis : Bool := false
  /-- Comparators above threshold: charge A, charge B, discharge A, discharge B (R449). -/
  aboveCA : Bool := false
  aboveCB : Bool := false
  aboveDA : Bool := false
  aboveDB : Bool := false
  deriving DecidableEq, Repr, Inhabited

/-- The current values of a string (R277, R283). -/
structure StrCur where
  iEst : Int := 0
  iProt : Int := 0
  source : Nat := 0xFF
  absent : Bool := false
  absentCount : Nat := 0
  deriving DecidableEq, Repr, Inhabited

/-! ### Protection (R453, R454) -/

/-- A cell's protection word with the instants of its last alarms. -/
structure CellProt where
  ovWarn : Bool := false
  uvWarn : Bool := false
  ovTrip : Bool := false
  uvTrip : Bool := false
  ovCount : Nat := 0
  uvCount : Nat := 0
  /-- Instants of the last OV and UV alarm, none when none within reach. -/
  ovAlarm : Option Nat := none
  uvAlarm : Option Nat := none
  /-- Cause gone at the last sweep that was not absent (R437). -/
  ovGone : Bool := true
  uvGone : Bool := true
  deriving DecidableEq, Repr, Inhabited

/-- A string's protection record. -/
structure StrProt where
  acting : Nat := 0
  latched : Nat := 0
  level : Nat := 0xFF
  flags : Nat := 0
  e : Nat := 0
  tripCell : Nat := 0xFFFF
  tripFunc : Nat := 0xFF
  tripSweep : Nat := 0
  tripTime : Nat := 0
  ocLast : Bool := false
  isoSet : Nat := 0
  isoClear : Nat := 2
  isoAlarm : Option Nat := none
  otAlarm : Option Nat := none
  deriving DecidableEq, Repr, Inhabited

/-- Requests on the protection pass, waiting for the next seal: TRIP_CLEAR and DEADBOLT_CLEAR CONFIRM. -/
structure Prot where
  cells : KMap CellProt := []
  strs : KMap StrProt := []
  /-- TRIP_CLEAR: session, tag, string or 0xFF. -/
  clears : List (Nat × Nat × Nat) := []
  /-- CONFIRM in CHECKING: session and tag. -/
  confirm : Option (Nat × Nat) := none
  /-- Cells for which this sweep's pass decided CELL_OV and CELL_UV (R306). -/
  ovNow : List Nat := []
  uvNow : List Nat := []
  /-- The union of both leaves' decisions in this sweep's pass: string, function, cell (R428, R539). -/
  decs : List (Nat × Nat × Nat) := []
  deriving DecidableEq, Repr, Inhabited

/-! ### Thermal (R422 to R424) -/

/-- A sensor record. States of R422. -/
structure Sensor where
  t : Int := 0x7FFF
  sealedT : Int := 0x7FFF
  st : Nat := 0
  cause : Nat := 0
  /-- Ticks of GOOD_TIME and ABSENT_TIME. -/
  good : Nat := 0
  absent : Nat := 0
  broken : Nat := 0
  last : Int := 0
  hadReading : Bool := false
  deriving DecidableEq, Repr, Inhabited

/-- A step counter with its timers (R409). -/
structure StepCtr where
  s : Nat := 0
  up : Nat := 0
  down : Nat := 0
  deriving DecidableEq, Repr, Inhabited

/-- A zone record with its histories. -/
structure Zone where
  tMax : Int := 0
  tMin : Int := 0
  hotChg : StepCtr := {}
  hotDis : StepCtr := {}
  coldChg : StepCtr := {}
  coldDis : StepCtr := {}
  nRead : Nat := 0
  nBroken : Nat := 0
  nSubst : Nat := 0
  flags : Nat := 4
  rMax : Int := 0x7FFF
  ror10 : Int := -32768
  ror60 : Int := -32768
  ror300 : Int := -32768
  hot : Nat := 0xFFFF
  cold : Nat := 0xFFFF
  sweep : Nat := 0xFFFFFFFF
  h10 : List (Int × Nat) := []
  h60 : List (Int × Nat) := []
  h300 : List (Int × Nat) := []
  /-- ZONE_BROKEN holds (R415). -/
  brk : Bool := false
  /-- READING sensors of the last sweep, for the clearing of the histories. -/
  readers : List Nat := []
  admitted : Bool := false
  everRead : Bool := false
  shutRun : Nat := 0
  coldRun : Nat := 0
  coldStop : Bool := false
  coldOut : Nat := 0
  riseRun10 : Nat := 0
  riseRun60 : Nat := 0
  riseRun300 : Nat := 0
  deriving DecidableEq, Repr, Inhabited

/-- The thermal engine. -/
structure Thermal where
  sens : KMap Sensor := []
  zones : KMap Zone := []
  die : List Int := []
  pdie : List Int := []
  dieMax : Int := 0
  dev : StepCtr := {}
  refusals : Nat := 0
  sweep : Nat := 0xFFFFFFFF
  deriving DecidableEq, Repr, Inhabited

/-! ### Hasp (R485) -/

/-- A string's contactor record. -/
structure HaspStr where
  /-- 0 OPEN, 1 PRECHARGING, 2 JOINING, 3 CLOSED, 4 OPENING, 5 WELD_SUSPECT, 6 LOCKED. -/
  st : Nat := 0
  step : Nat := 0
  fbPos : Bool := false
  fbNeg : Bool := false
  fbPc : Bool := false
  cmdPos : Bool := false
  cmdNeg : Bool := false
  cmdPc : Bool := false
  usable : Bool := false
  reason : Nat := 0
  mode : Nat := 0
  method : Nat := 0
  welds : Nat := 0
  vStr : Nat := 0
  vBus : Nat := 0xFFFFFFFF
  x1 : Nat := 0
  quarter : Nat := 0
  stepTime : Nat := 0
  opensPos : Nat := 0
  loadPos : Nat := 0
  opensNeg : Nat := 0
  loadNeg : Nat := 0
  iLast : Int := 0
  iMax : Nat := 0
  closes : Nat := 0
  weldCount : Nat := 0
  sweep : Nat := 0xFFFFFFFF
  -- What the sequence needs
  cmdNow : Nat := 0
  t1 : Nat := 0
  tPrev : Nat := 0
  tauOk : Bool := false
  joinFrom : Nat := 0
  ramp : Bool := false
  rampFrom : Nat := 0
  abortAt : Option Nat := none
  openCause : Nat := 0
  openI : Int := 0
  stuck : Nat := 0
  stuckLogged : Bool := false
  lastOpen : Nat := 0
  /-- STRING_UNLOCK waiting for its test: session and tag. -/
  unlock : Option (Nat × Nat) := none
  /-- Sample instant of the last VALID string-node entry (R475). -/
  lastTag : Nat := 0
  /-- A weld test waits for its sweep (R481). -/
  testing : Bool := false
  /-- Open commands went unanswered (R480). -/
  unans : Bool := false
  /-- Last x of R468, for PRECHARGE_TIMEOUT. -/
  x : Nat := 0
  deriving DecidableEq, Repr, Inhabited

/-- Hasp: the strings, the queue of closes with the instant each was queued. -/
structure Hasp where
  strs : KMap HaspStr := []
  queue : List (Nat × Nat) := []
  /-- Open requests for the next commit point (R460, R466): string, EMERGENCY. -/
  reqs : List (Nat × Bool) := []
  deriving DecidableEq, Repr, Inhabited

/-! ### Estimator, learning, limits, balancing -/

/-- A cell record (R287, R315, R322). TAG 6 is UNUSED. ANCHOR_STATE: 0 START_PENDING, 1 WEAK, 2 REST, 3 AT_REST. -/
structure Cell where
  v : Nat := 0
  tag : Nat := 6
  align : Bool := false
  gap : Bool := false
  stillLow : Bool := false
  slopeOk : Bool := false
  confE : Bool := false
  confF : Bool := false
  drift : Bool := false
  capSus : Bool := false
  weak : Bool := false
  ancState : Nat := 0
  hyst : Bool := false
  soc : Nat := 0
  sigma : Nat := 10000
  qAcc : Int := 0
  vPol : Int := 0
  sigmaQ : Nat := 0
  tRef : Int := 250
  qBalEpoch : Int := 0
  still : Nat := 0
  vRef : Nat := 0
  sweep : Nat := 0xFFFFFFFF
  cap : Nat := 0
  cSigma : Nat := 0
  rOhm : Nat := 0
  rPol : Nat := 0
  tau : Nat := 600
  sohC : Nat := 10000
  sohR : Nat := 10000
  ancSoc : Nat := 0
  ancQ : Int := 0
  ancTime : Nat := 0
  vMin : Nat := 0xFFFF
  vMax : Nat := 0
  /-- The last sweep was of class Moving (R304). -/
  moving : Bool := false
  /-- No Low sweep has followed the last Moving one (R339). -/
  moved : Bool := false
  deriving DecidableEq, Repr, Inhabited

/-- Learned values of a cell on their way to the commit point (R18, R323). -/
structure Learned where
  cap : Nat := 0
  cSigma : Nat := 0
  rOhm : Nat := 0
  rPol : Nat := 0
  tau : Nat := 0
  sohC : Nat := 0
  sohR : Nat := 0
  capSus : Bool := false
  deriving DecidableEq, Repr, Inhabited

/-- A string's estimator values (R303, R313, R314). -/
structure StrEst where
  iRef : Int := 0
  steady : Bool := false
  qDis : Nat := 0
  qChg : Nat := 0
  soc : Nat := 0
  sigMax : Nat := 10000
  drift : Nat := 0
  restWanted : Bool := false
  conflict : Bool := false
  deriving DecidableEq, Repr, Inhabited

/-- Estimator, learning store and snapshots. -/
structure Estim where
  cells : KMap Cell := []
  learn : KMap Learn := []
  /-- The deferred-update queue: what the learning of the sealed sweep changes at its commit point (R18, R323). -/
  learned : KMap Learned := []
  strs : KMap StrEst := []
  /-- START_S of R311: device time of the start sweep's sample instant, s. -/
  startS : Nat := 0
  /-- CELL_MINMAX_CLEAR accepted since the last commit: FIRST, COUNT. -/
  clears : List (Nat × Nat) := []
  /-- Instant from which snapshot triggers count, and the number of intervals passed (R346). -/
  snapFrom : Nat := 0
  snapNo : Nat := 0
  /-- WEAK_CELL is to be evaluated for the next commit (R343). -/
  weakPending : Bool := false
  deriving DecidableEq, Repr, Inhabited

/-- A string's limit record (R368). Lists of four: charge 2 s, discharge 2 s, charge 10 s, discharge 10 s, as magnitudes;
lists of two: charge, discharge. -/
structure StrLim where
  lim : List Nat := [0, 0, 0, 0]
  pow : List Nat := [0, 0, 0, 0]
  target : List Nat := [0, 0, 0, 0]
  cell : List Nat := [0xFFFF, 0xFFFF]
  fTaper : List Nat := [32768, 32768]
  fTherm : List Nat := [32768, 32768]
  fSoh : Nat := 32768
  fSensor : Nat := 32768
  rStr : Nat := 0
  bind : List Nat := [0, 0]
  zero : List Nat := [9, 9]
  /-- Charging is forbidden by R362. -/
  noCharge : Bool := false
  /-- The steps of R357. -/
  steps : List Nat := [0, 0]
  /-- The step of R364 in this sweep. -/
  ramp : Nat := 0
  deriving DecidableEq, Repr, Inhabited

/-- Limits of strings and bank (R368, R369). -/
structure Limits where
  strs : KMap StrLim := []
  lim : List Nat := [0, 0, 0, 0]
  pow : List Nat := [0, 0, 0, 0]
  target : List Nat := [0, 0, 0, 0]
  closed : Nat := 0
  limStr : List Nat := [0xFF, 0xFF]
  fPcs : List Nat := [32768, 32768]
  sweep : Nat := 0xFFFFFFFF
  deriving DecidableEq, Repr, Inhabited

/-- A string's balancing record (R398), its hot and rest-yield suspensions (R384, R385), the epoch's accounts (R397). -/
structure StrBal where
  mode : Nat := 0
  suspend : Nat := 0
  lowTime : Nat := 0
  level : Int := 0
  inPl : Nat := 0
  outPl : Nat := 0
  link : Nat := 0
  inMv : Nat := 0
  outMv : Nat := 0
  etaSeen : Nat := 0
  hot : Bool := false
  armed : Bool := true
  yield : Bool := false
  yieldTicks : Nat := 0
  accIn : Nat := 0
  accOut : Nat := 0
  deriving DecidableEq, Repr, Inhabited

/-- A node's balancing record (R398). States: 0 NOT_ADMITTED, 1 PLANNED, 2 EXCLUDED, 3 SUSPENDED_DIST, 4 LOCKED_OUT. -/
structure NodeBal where
  st : Nat := 0
  cause : Nat := 0
  iCeil : Nat := 0
  distRun : Nat := 0
  susp : Nat := 0
  epoch : Nat := 0
  link : Int := 0
  /-- Ticks since the suspension, and since the last re-admission (none: never re-admitted). -/
  suspTicks : Nat := 0
  backTicks : Option Nat := none
  /-- The last plan sent was refused (R394). -/
  refused : Bool := false
  deriving DecidableEq, Repr, Inhabited

/-- Active balancing (R380 to R398). -/
structure Bal where
  /-- 0 OFF, 1 ON, 2 HOLD. -/
  st : Nat := 0
  holdCause : Nat := 0
  epoch : Nat := 0
  openSweep : Nat := 0
  nE : Nat := 0
  tEff : Nat := 0
  tAv : Nat := 0
  eta : Nat := 0
  /-- An epoch has been opened; this sweep opens one; the period and T_BAL it was opened under; the next sweep must open. -/
  begun : Bool := false
  opening : Bool := false
  period : Nat := 0
  tBal : Nat := 0
  force : Bool := false
  strs : KMap StrBal := []
  nodes : KMap NodeBal := []
  /-- DUTY of each cell as planned or last sent. -/
  duty : KMap Int := []
  /-- Commit points until the plans of the epoch are sent; 0 none owed (R394). -/
  sendIn : Nat := 0
  /-- Resends owed after this sweep's commit point: cells whose code becomes 0 (R395), zero plans (R396). -/
  zeroCells : List Nat := []
  zeroPlans : Bool := false
  planned : Nat := 0
  suspended : Nat := 0
  cellsPlanned : Nat := 0
  cellsOut : Nat := 0
  deriving DecidableEq, Repr, Inhabited

/-! ### Leases -/

/-- A lease as published (R487): sustained and peak current limits, charge and discharge, as magnitudes. -/
structure LeaseMsg where
  no : Nat := 0
  validUntil : Nat := 0
  bytes : List Byte := []
  sus : List Nat := [0, 0]
  peak : List Nat := [0, 0]
  deriving DecidableEq, Repr, Inhabited

/-- An acknowledgement waiting for the seal (R496): device time of arrival, transport (0 CAN, 1 Ward), altered by Pick. -/
structure Ack where
  time : Nat := 0
  via : Nat := 0
  picked : Bool := false
  payload : List Byte := []
  deriving DecidableEq, Repr, Inhabited

/-- The lease engine (R487 to R503, R643). Pairs of values are charge, discharge. -/
structure Lease where
  no : Nat := 0
  startId : Nat := 0
  /-- CEIL of R488, and the ceiling that leases carry: that of the last commit point, 0 at once in SILENT (R491, R499). -/
  ceil : List Nat := [0, 0]
  pubCeil : List Nat := [0, 0]
  /-- FLAGS of the sweep, as leases after its commit carry them. -/
  flags : Nat := 0
  /-- 0 IDLE, 1 NORMAL, 2 SILENT, 3 SILENT_OPEN. -/
  st : Nat := 0
  /-- A of R497, and the sample time of the sweep that accepted it. -/
  a : Nat := 0
  ackTime : Nat := 0
  /-- Silence time, ticks; the instant up to which it has been counted; its value when SILENT was entered. -/
  silence : Nat := 0
  silFrom : Nat := 0
  silBase : Nat := 0
  iPcs : Int := 0
  /-- Leases published whose VALID_UNTIL may still lie ahead (R500). -/
  valid : List LeaseMsg := []
  acks : List Ack := []
  last : LeaseMsg := {}
  /-- Instant and device time of the last publication. -/
  lastPub : Nat := 0
  pubTime : Nat := 0
  /-- In an excess run, and its excess time in ticks (R501). -/
  inExc : List Bool := [false, false]
  exc : List Nat := [0, 0]
  /-- T_GRACE has been reached in this run. -/
  fired : List Bool := [false, false]
  /-- Penalty held, and ticks without an excess sweep (R502). -/
  penalty : List Bool := [false, false]
  calm : List Nat := [0, 0]
  /-- REST_STATE: 0 NONE, 1 REQUESTED, 2 GRANTED, 3 ACTIVE, 4 REFUSED_WAIT; REST_START; ticks in ACTIVE or REFUSED_WAIT. -/
  restSt : Nat := 0
  restStart : Nat := 0
  restTicks : Nat := 0
  /-- Sample instants and I_BANK of the last 10 s. -/
  window : List (Nat × Int) := []
  errors : Nat := 0
  published : Nat := 0
  /-- Commit points to come before a lease carries limits again (R492, R508). -/
  zeroFor : Nat := 0
  /-- An immediate zero lease is owed at the end of the pass in hand (R492). -/
  zeroDue : Bool := false
  /-- A commit point has passed whose lease is still to come (R491). -/
  due : Bool := false
  /-- PCS_NONCOMP decides: direction, cause (0 TIME, 1 HARD), I_BANK and reference (R501); its cause is gone. -/
  ncDec : Option (Nat × Nat × Int × Nat) := none
  ncGone : Bool := true
  /-- Instant of the last time frame (R505). -/
  canTime : Nat := 0
  deriving DecidableEq, Repr, Inhabited

/-! ### Switch channels (R531, R532) -/

/-- A switch bank. -/
structure Bank where
  powered : Bool := false
  ov : Bool := false
  uv : Bool := false
  /-- A dip below VBB_UV since the last sealed device input (R529). -/
  uvPend : Bool := false
  uvEvents : Nat := 0
  /-- BANK_OFF by the bank sensor (R415, R526). -/
  off : Bool := false
  /-- The modes and enables have been sent since VBB rose (R32, R514). -/
  live : Bool := false
  deriving DecidableEq, Repr, Inhabited

/-- A switch channel. -/
structure Chan where
  logic : Bool := false
  pin : Bool := false
  on : Bool := false
  blank : Bool := false
  blankEnd : Nat := 0
  /-- Latch bits: 0 OC, 1 SHORT, 2 FREEWHEEL, 3 THERMAL. -/
  latch : Nat := 0
  warn : Bool := false
  olOn : Bool := false
  olOff : Bool := false
  restarts : Nat := 0
  fwCount : Nat := 0
  latches : Nat := 0
  latchTime : Nat := 0
  latchPeak : Nat := 0
  offNow : Nat := 0
  latchNow : Nat := 0
  /-- Time on since the start, ns, up to the last turn-off. -/
  onTime : Nat := 0
  grant : Bool := false
  /-- Start of the current 600 s without a latch (R528). -/
  decayFrom : Nat := 0
  /-- No turn-on yet since the start or since the last re-enable (R515). -/
  fresh : Bool := true
  onSince : Nat := 0
  deriving DecidableEq, Repr, Inhabited

/-- The power die. -/
structure Power where
  banks : KMap Bank := []
  chans : KMap Chan := []
  keepalive : Bool := false
  kaPath : Nat := 0xFF
  kaLost : Bool := false
  deriving DecidableEq, Repr, Inhabited

/-! ### Knuckle -/

/-- The KNUCKLE block (R557) and the running comparison. -/
structure Knuckle where
  active : Option Leaf := none
  mismatchRun : Nat := 0
  kat : Nat := 0
  mismatches : Nat := 0
  transients : Nat := 0
  divergences : Nat := 0
  failovers : Nat := 0
  linkErrors : Nat := 0
  lastFailover : Nat := 0
  lastInterrupt : Nat := 0
  hbMisses : Nat := 0
  lastMismatch : Nat := 0
  roleDiffers : Bool := false
  unsynced : Bool := false
  linkLost : Bool := false
  ownSet : Bool := false
  /-- 0 none, 1 known-answer tests running for arbitration, 2 for LEAF_SELFTEST, 3 resynchronising. -/
  arb : Nat := 0
  differ : Bool := false
  lastDiv : Option Nat := none
  handover : Option (Nat × Nat) := none
  /-- HANDOVER asked by a host or by the rolling restart. -/
  handoverAsked : Bool := false
  selftest : Option (Nat × Nat) := none
  selftestWait : Bool := false
  /-- ROLLING_STATE (R635). -/
  rolling : Nat := 0
  /-- The first differing chunk of the first exchange (R540). -/
  differAt : Nat := 0
  /-- Leaf A's protection decisions differed from Leaf B's in the last pass. -/
  decDiffer : Bool := false
  deriving DecidableEq, Repr, Inhabited

/-! ### Image staging (R78 to R99) -/

/-- The BITTING block and what staging keeps. -/
structure Stage where
  /-- 0 IDLE, 1 RECEIVING, 2 VERIFYING, 3 WRITING, 4 STAGED, 5 APPLYING. -/
  st : Nat := 0
  reason : Nat := 0
  activeSlot : Nat := 0xFF
  buildId : Nat := 0
  floor : Nat := 0
  stagedSeq : Nat := 0
  received : Nat := 0
  mode : Nat := 0
  hingeSweep : Nat := 0
  hingeTime : Nat := 0
  sess : Nat := 0
  len : Nat := 0
  chunks : List Nat := []
  lastChunk : Nat := 0
  /-- STAGE_CLOSE and other answers that wait: session and tag. -/
  closeReq : Option (Nat × Nat) := none
  applyFrom : Nat := 0
  applyReason : Nat := 0
  revert : Bool := false
  image : Option Image := none
  keys : List KeySlot := [{}, {}, {}, {}]
  target : Nat := 0
  /-- The thermal latch was set during the slot write, which then never ends (R421). -/
  torn : Bool := false
  /-- Device time at which both leaves had verified the image: while UNKEYED its hinge point (R52). -/
  verTime : Nat := 0
  /-- Bytes received of a staging that the loss of VAON has cut off, until the next start logs it (R81). -/
  aborted : Option Nat := none
  deriving DecidableEq, Repr, Inhabited

/-- Overlay writes accepted and not yet in force (R139, R637). -/
structure Overlay where
  pend : List OvVal := []
  last : List OvVal := []
  gen : Nat := 0
  pendGen : Nat := 0
  deriving DecidableEq, Repr, Inhabited

/-! ### Host links -/

/-- A held answer (R614). -/
structure Held where
  tag : Nat
  kind : Nat
  status : Nat
  result : List Byte
  deriving DecidableEq, Repr, Inhabited

/-- A session record (R623) with its Ward state. -/
structure Sess where
  /-- 0 UNUSED, 1 CLOSED, 2 HANDSHAKE, 3 OPEN, 4 LOCKOUT. -/
  st : Nat := 0
  port : Nat := 0xFF
  cause : Nat := 0
  subs : Nat := 0
  openTime : Nat := 0
  txReserved : Nat := 0
  tx : Nat := 0
  rxHigh : Nat := 0
  window : List Nat := []
  trans : Nat := 0
  peer : Nat := 0
  gen : Nat := 0
  hs : Option (List Byte × List Byte) := none
  hsTime : Nat := 0
  helloTime : Option Nat := none
  fails : Nat := 0
  lockedAt : Option Nat := none
  h : Nat := 0
  held : List Held := []
  /-- Transactions not yet answered: tag, KIND, opcode of a CMD (R615). -/
  outst : List (Nat × Nat × Nat) := []
  lastAuth : Nat := 0
  replayErr : Option Nat := none
  keys : List Byte := []
  deriving DecidableEq, Repr, Inhabited

/-- One Ethernet port. -/
structure Eth where
  up : Bool := false
  speed : Nat := 0
  phy : Bool := false
  lpi : Bool := false
  addrs : List Nat := []
  detecting : List Nat := []
  router : Nat := 0
  /-- Instants of the echoes answered within the last second (R593), of the last poll of the PHY (R589). -/
  echo : List Nat := []
  polled : Option Nat := none
  wrongLan : Nat := 0
  deriving DecidableEq, Repr, Inhabited

/-- The host links (R587 to R625). -/
structure Links where
  eth0 : Eth := {}
  eth1 : Eth := {}
  /-- 0 OFF, 1 MONITOR, 2 ACTIVE, 3 ERROR_PASSIVE, 4 BUS_OFF. -/
  can0 : Nat := 0
  can1 : Nat := 0
  sess : KMap Sess := []
  rxPackets : Nat := 0
  rxDiscarded : Nat := 0
  authFails : Nat := 0
  replays : Nat := 0
  prpDup : Nat := 0
  maintEn : Bool := false
  maintSince : Nat := 0
  spiQ : List (List Byte) := []
  spiRejected : Bool := false
  spiFrames : Nat := 0
  spiCrc : Nat := 0
  lastStatus : Nat := 0
  lastOpcode : Nat := 0
  lastSlot : Nat := 0xFF
  lastTime : Nat := 0
  /-- Instant of the last PRP supervision frames (R591). -/
  supLast : Option Nat := none
  deriving DecidableEq, Repr, Inhabited

/-! ### Streams (R652 to R665) -/

/-- A stream FIFO (R652 to R665): its readable words with their tags (R655), oldest first. -/
structure Fifo where
  words : List (Nat × Nat) := []
  /-- Pending LOSS count (R658). -/
  lossPend : Nat := 0
  /-- Within an overflow episode: STREAM_LOSS has been raised and no LOSS item written since. -/
  episode : Bool := false
  /-- WORD_SEQ of the next word to be delivered. -/
  wseq : Nat := 0
  high : Nat := 0
  written : Nat := 0
  dropped : Nat := 0
  flushes : Nat := 0
  /-- Session records that receive the stream. -/
  recv : List Nat := []
  /-- Instant at which the oldest unsent word was written. -/
  oldest : Nat := 0
  /-- Instant at which the last byte of a dropped item has been swallowed (R653, R658). -/
  swallow : Nat := 0
  /-- The last delivery: its items and its instant (R661). -/
  sentItems : Nat := 0
  sentNow : Nat := 0
  deriving DecidableEq, Repr, Inhabited

/-! ### Sleep and Pick -/

/-- The sleep record (R706) and what SLEEP keeps. -/
structure Sleep where
  /-- 0 AWAKE, 1 ENTERING, 2 ASLEEP. -/
  st : Nat := 0
  entryCause : Nat := 0
  wakeCause : Nat := 0
  refusal : Nat := 0
  /-- Idle time, s (R696). -/
  idle : Nat := 0
  sleeps : Nat := 0
  entryTime : Nat := 0
  wakeTime : Nat := 0
  total : Nat := 0
  latency : Nat := 0
  /-- Entry asked for at the next commit point: 0 none, 1 by command. -/
  want : Nat := 0
  /-- SLEEP_REFUSED has been logged in this idle episode. -/
  refused : Bool := false
  /-- A transaction other than READ and KEEPALIVE since the previous seal (R696). -/
  busy : Bool := false
  /-- Instant at which RATE LOW is due, and of the entry. -/
  rateAt : Nat := 0
  entryNow : Nat := 0
  /-- Wake sources that arose while ENTERING. -/
  wakePend : Nat := 0
  /-- SYNC instant of the last sweep: the grid to come back to (R703). -/
  gridTs : Nat := 0
  /-- Start of the current block in hand, exact charge per string in 100 µA × ticks, and the last block values (R701). -/
  blkFrom : Nat := 0
  q : KMap Int := []
  /-- Instants at which the next HEARTBEAT and the next sensor conversion of SLEEP are due. -/
  hbNext : Nat := 0
  convNext : Nat := 0
  /-- The next seal is the first after a wake (R702). -/
  fresh : Bool := false
  /-- The device goes back to SLEEP at the first commit point after a validated sweep (R705). -/
  ret : Bool := false
  deriving DecidableEq, Repr, Inhabited

/-- A rule as armed (R712) with its counters (R721). -/
structure PickRule where
  raw : List Byte := []
  matched : Nat := 0
  acted : Nat := 0
  lfsr : Nat := 0
  overflow : Nat := 0
  lastAct : Nat := 0
  deriving DecidableEq, Repr, Inhabited

/-- A frame that Pick holds (R716): rule, path (port direction), what it is, and what releases it. -/
structure PickHeld where
  rule : Nat := 0
  path : Nat := 0
  /-- A received frame, as the command that brought it. -/
  rx : Option Instr := none
  /-- A sent frame. -/
  tx : Option Out := none
  /-- Later frames of the path still to come (REORDER); 0 for DELAY. -/
  after : Nat := 0
  /-- Instant of release at the latest. -/
  due : Nat := 0
  deriving DecidableEq, Repr, Inhabited

/-- Pick (R720). -/
structure Pick where
  armed : Bool := false
  lastDisarm : Nat := 0
  owner : Nat := 0xFF
  count : Nat := 0
  armSeq : Nat := 0
  armTime : Nat := 0
  armNow : Nat := 0
  tArm : Nat := 0
  rules : List PickRule := []
  injections : Nat := 0
  held : List PickHeld := []
  /-- The frame in hand has been released by Pick: no rule judges it again (R716). -/
  bypass : Bool := false
  deriving DecidableEq, Repr, Inhabited

/-! ### Nesting (R562 to R585) -/

/-- A child record (R585). `age` is in ticks. -/
structure Child where
  st : Nat := 0
  conflict : Bool := false
  used : Bool := false
  uid : Nat := 0
  sweep : Nat := 0
  age : Nat := 0
  summary : List Byte := []
  deriving DecidableEq, Repr, Inhabited

/-- What a port of the group node holds (R204, R572): SEQ, KIND and payload of the last answer, and a PASS in hand. -/
structure UpPort where
  held : Option (Nat × Nat × List Byte) := none
  busy : Option Nat := none
  /-- SWEEP_LOW and arrival of the last SYNC that waits for its partner at the other port (R190). -/
  sync : Option (Nat × Nat) := none
  /-- The receiver has declared the link up; it shows LOS (R147, R178, R784). -/
  up : Bool := false
  los : Bool := false
  /-- The transmitter (R162): the instant at which the frame in progress ends, forwarded frames that wait with whether EOF
  ends them, own frames that wait. -/
  txEnd : Nat := 0
  fwd : List (List Byte × Bool) := []
  own : List (List Byte) := []
  deriving DecidableEq, Repr, Inhabited

/-- The group node (R560 to R562) and the NESTING block (R584). -/
structure Nest where
  /-- LOCK_STATE: 0 FREE, 1 FREQ, 2 LOCKED, 3 HOLDOVER. -/
  lock : Nat := 0
  sys : Nat := 0
  phaseErr : Int := 0
  rateErr : Int := 0
  parentPeriod : Nat := 0xFF
  lockCause : Nat := 0
  readyTime : Nat := 0
  lockTime : Nat := 0
  /-- SUMMARY; PARENT_SWEEP_LOW is entered when it is sent. -/
  summary : List Byte := List.replicate 64 0
  /-- Child records by their number c. -/
  kids : KMap Child := []
  -- The node's registers
  position : Nat := 0
  servePort : Nat := 0
  /-- SERVE_PORT has been written since the reset (R200). -/
  serveWritten : Bool := false
  groupAddr : Nat := 0xFFFF
  /-- The link toward the parent runs at LOW (R154, R178). -/
  low : Bool := false
  offA : Nat := 0
  offB : Nat := 0
  quietPost : Nat := 50
  skewSum : Int := 0
  skewCount : Nat := 0
  skewSweep : Nat := 0
  cmdResult : Nat := 0
  /-- STRING_CMD waiting for the commit point: string, command. -/
  cmd : Option (Nat × Nat) := none
  boot : Nat := 0
  portA : UpPort := {}
  portB : UpPort := {}
  /-- SEQ of the next unsolicited frame (R163). -/
  seqOut : Nat := 0
  -- The lock
  /-- The last window centre, and SWEEP_LOW of the last SYNC sampled on. -/
  centre : Option Nat := none
  lastLow : Option Nat := none
  /-- The window that is open: its centre and SWEEP_LOW. -/
  window : Option (Nat × Nat) := none
  /-- Arrival of the last SYNC of the parent, and of its last SYNC or HEARTBEAT (R206). -/
  lastSync : Nat := 0
  lastParent : Nat := 0
  /-- Coincident sweeps in a row with |PHASE_ERR| above 500 ns. -/
  outPhase : Nat := 0
  uplinkLost : Bool := false
  /-- PARENT_PERIOD was written and is not in force yet (R579). -/
  newPeriod : Bool := false
  /-- Sample instant of the realigned sweep (R578). -/
  realigned : Option Nat := none
  deriving DecidableEq, Repr, Inhabited

/-! ### Committed results -/

/-- What the last commit point published: the fields of the object map that update at the commit point (R18, R629), and
the limits of the last commit that interim leases repeat (R491). -/
structure Committed where
  rings : KMap Ring := []
  nodes : KMap Node := []
  sealed : Sealed := {}
  cur : KMap CurSt := []
  strCur : KMap StrCur := []
  prot : Prot := {}
  th : Thermal := {}
  cells : KMap Cell := []
  strs : KMap StrEst := []
  lim : Limits := {}
  bal : Bal := {}
  hasp : KMap HaspStr := []
  lease : Lease := {}
  ov : List OvVal := []
  /-- The queue of closes, and whether APPLYING held it (R485). -/
  queue : List (Nat × Nat) := []
  queueHeld : Bool := false
  nest : Nest := {}
  power : Power := {}
  /-- MRAM_WRITE of R424. -/
  mramWrite : Nat := 3
  deriving DecidableEq, Repr, Inhabited

/-! ### The whole machine -/

/-- The state of the block. -/
structure State where
  /-- Commands that wait, first in, first out. -/
  pending : List Instr := []
  time : TimeU := {}
  aon : Aon := {}
  la : LeafRec := {}
  lb : LeafRec := {}
  kn : Knuckle := {}
  lg : Recorder := {}
  /-- The image and overlay in force; no section while UNKEYED. -/
  cfg : Cfg := {}
  stage : Stage := {}
  balls : Balls := {}
  tap : Tap := {}
  ovl : Overlay := {}
  ch : Chains := {}
  sw : Sweep := {}
  cur : KMap CurSt := []
  strCur : KMap StrCur := []
  prot : Prot := {}
  th : Thermal := {}
  est : Estim := {}
  lim : Limits := {}
  bal : Bal := {}
  hasp : Hasp := {}
  lease : Lease := {}
  com : Committed := {}
  power : Power := {}
  links : Links := {}
  fifos : KMap Fifo := []
  sleep : Sleep := {}
  pick : Pick := {}
  nest : Nest := {}
  /-- Everything the block has put out, newest first. -/
  out : List Out := []
  /-- The model's own counter: the next free value (Config.freeNat and its like) to be drawn. -/
  free : Nat := 0
  deriving DecidableEq, Repr, Inhabited

/-- The machine before its first supply: every record at its "After start" value, both leaves unsupplied, outputs safe. DESIGN CHOICE, log 4. -/
def State.reset : State := {}

end Sys2Proof.Machine
end

