-- ==== Sys2Proof/Machine/Ops.lean ====
section
/-!
DEFINITION. The named operations over State: sparse tables, the staging store's bytes, the two leaves, time, free
values, and what the hardware settles at the end of every command.
-/
namespace Sys2Proof.Machine

/-- The outcomes of a command. -/
abbrev Ans := Host.Outcome State Fault Refusal

/-! ### Sparse tables -/

/-- The record of an index; `d` where none is listed. -/
def kget {α : Type} (d : α) : KMap α → Nat → α
  | [], _ => d
  | (i, x) :: r, k => if i = k then x else kget d r k

/-- A table with one record put in: in the place of the one listed, else where its index belongs. -/
def kput {α : Type} : KMap α → Nat → α → KMap α
  | [], k, x => [(k, x)]
  | (i, y) :: r, k, x => if k < i then (k, x) :: (i, y) :: r else if k = i then (k, x) :: r else (i, y) :: kput r k x

/-- A table with one record replaced; a record equal to `d` is not listed. -/
def kset {α : Type} [DecidableEq α] (d : α) (m : KMap α) (k : Nat) (x : α) : KMap α :=
  if x = d then m.filter (fun e => e.1 != k) else kput m k x

/-- A table with one record changed. -/
def kmod {α : Type} [DecidableEq α] (d : α) (m : KMap α) (k : Nat) (f : α → α) : KMap α :=
  kset d m k (f (kget d m k))

/-- The entries whose index a predicate keeps. -/
def kkeep {α : Type} (p : Nat → Bool) (m : KMap α) : KMap α := m.filter (fun e => p e.1)

/-- A table built from rising indices; entries equal to `d` are not listed. -/
def ktab {α : Type} [DecidableEq α] (d : α) (l : List Nat) (f : Nat → α) : KMap α :=
  l.filterMap (fun k => if f k = d then none else some (k, f k))

/-! ### Bytes of the staging store (R79, R80) -/

/-- The byte stored at an address; none where nothing is stored. -/
def mget : List Host.Cell → Nat → Option Byte
  | [], _ => none
  | (i, x) :: r, k => if i = k then some x else mget r k

/-- A store with one byte written. -/
def mput : List Host.Cell → Nat → Byte → List Host.Cell
  | [], k, x => [(k, x)]
  | (i, y) :: r, k, x =>
    if k < i then (k, x) :: (i, y) :: r else if k = i then (k, x) :: r else (i, y) :: mput r k x

/-- A store with bytes written from an address on. -/
def mputs (m : List Host.Cell) (a : Nat) : List Byte → List Host.Cell
  | [] => m
  | b :: r => mputs (mput m a b) (a + 1) r

/-- The canonical form of a store: addresses strictly rising. An unlisted address holds no byte. -/
def memWf : List Host.Cell → Bool
  | [] => true
  | [_] => true
  | (i, _) :: (j, y) :: r => decide (i < j) && memWf ((j, y) :: r)

/-- `n` bytes of a store from an address on; absent bytes read 0. -/
def mbytes (m : List Host.Cell) (a n : Nat) : List Byte := (upto n).map (fun k => (mget m (a + k)).getD 0)

/-! ### Leaves -/

/-- The record of a leaf. -/
def State.leaf (s : State) : Leaf → LeafRec
  | .a => s.la
  | .b => s.lb

/-- The state with one leaf's record replaced. -/
def State.setLeaf (s : State) (l : Leaf) (x : LeafRec) : State :=
  match l with
  | .a => { s with la := x }
  | .b => { s with lb := x }

/-- The state with one leaf's record changed. -/
def State.modLeaf (s : State) (l : Leaf) (f : LeafRec → LeafRec) : State := s.setLeaf l (f (s.leaf l))

/-- Both leaves' records changed alike. -/
def State.modLeaves (s : State) (f : LeafRec → LeafRec) : State := { s with la := f s.la, lb := f s.lb }

/-- Whether a leaf is RUNNING (R535); with TEST_EN latched high both leaves are held in reset (R48). -/
def State.running (s : State) (l : Leaf) : Bool := (s.leaf l).supplied && (s.leaf l).st == .running && !s.aon.testEn

/-- Whether a leaf is FENCED. -/
def State.fencedL (s : State) (l : Leaf) : Bool := (s.leaf l).st == .fenced

/-- The FENCE signal of a leaf: set by the fence, cleared as the rejoin ends (R442, R554 step 6). A leaf that only
resynchronises is not fenced. -/
def State.fenceLine (s : State) (l : Leaf) : Bool :=
  let x := s.leaf l
  match x.st with
  | .fenced => true
  | .rejoining => true
  | .resyncing => x.rejoin != 0
  | .running => false

/-- Whether a leaf is supplied, out of reset and not fenced: it runs, or takes over a copy after a divergence (R10, R544). Its ring
ends, comparators, paths and ports work. -/
def State.alive (s : State) (l : Leaf) : Bool := (s.leaf l).supplied && !s.fenceLine l && !s.aon.testEn

/-- A slot's judgement (R45, R73): the image, or the reject to be logged; neither for a slot that is not WRITTEN whole. -/
def judgeSlot (keys : List KeySlot) (d : Slot) : Option Image × Option Reject :=
  if d.st ≠ 2 ∨ sha256 d.bytes ≠ d.sha then (none, none)
  else match judgeImage keys d.bytes d.len with
    | .ok g => (some g, none)
    | .error e => (none, some e)

/-- Whether both leaves are RUNNING. -/
def State.bothRun (s : State) : Bool := s.running .a && s.running .b

/-- Whether no leaf is fenced. -/
def State.noneFenced (s : State) : Bool := !s.fenceLine .a && !s.fenceLine .b

/-- The ACTIVE leaf; before one is known, the first leaf that runs. -/
def State.act (s : State) : Leaf := s.kn.active.getD (if s.running .a then .a else .b)

/-- Whether the device is in RUN or HALT with its engines at work. -/
def State.inRun (s : State) : Bool := s.aon.dev == .run
/-- RUN or HALT: the device sweeps (R418). -/
def State.sweeping (s : State) : Bool := s.aon.dev == .run || s.aon.dev == .halt
/-- The device is up: a leaf runs and sessions exist. -/
def State.up (s : State) : Bool := s.aon.dev == .run || s.aon.dev == .halt || s.aon.dev == .sleep

/-- The first `n` bytes of a list, filled up with zeros. -/
def padTo (n : Nat) (l : List Byte) : List Byte := (l ++ List.replicate (n - l.length) 0).take n

/-! ### Time and free values -/

/-- Device time, ns TAI (R4): the CLK_TB count and the offset of its steps. -/
def State.devTime (s : State) : Nat := ((s.time.now : Int) + s.time.base).toNat % 18446744073709551616

/-- Whole seconds of device time, 32 bits (R781). -/
def State.devSec (s : State) : Nat := s.devTime / 1000000000 % 4294967296

/-- Device time at an instant of the CLK_TB count. -/
def State.devAt (s : State) (t : Nat) : Nat := ((t : Int) + s.time.base).toNat % 18446744073709551616

/-- The state at a later instant of the CLK_TB count. DESIGN CHOICE, log 2. -/
def State.setNow (s : State) (t : Nat) : State := { s with time := { s.time with now := max s.time.now t } }

/-- The next free value is drawn. DESIGN CHOICE, log 6. -/
def State.draw (s : State) : State := { s with free := s.free + 1 }

/-- Put a message or pin event out. DESIGN CHOICE, log 5. -/
def State.emit (s : State) (o : Out) : State := { s with out := o :: s.out }

/-- Whether an output leaves the same master port as a frame, and whether that frame goes before it: a frame of the same
instant of a lower precedence (R208). -/
def Out.yields (o g : Out) : Bool × Bool :=
  match o, g with
  | .frame r e c n _, .frame r2 e2 c2 n2 _ => (r == r2 && e == e2, r == r2 && e == e2 && n == n2 && decide (c < c2))
  | .frame r e _ _ _, .sync r2 e2 _ _ _ => (r == r2 && e == e2, false)
  | .frame r e _ _ _, .rate r2 e2 _ _ => (r == r2 && e == e2, false)
  | _, _ => (false, false)

/-- Whether a frame goes before one that stands in the list, newest first. -/
def Out.passes (o : Out) : List Out → Bool
  | [] => false
  | g :: r => if (o.yields g).1 then (o.yields g).2 else o.passes r

/-- A frame of a master port among those that became ready at the same instant: the higher class of R208 goes first. -/
def putFrame (o : Out) : List Out → List Out
  | [] => [o]
  | g :: r => if o.passes (g :: r) then g :: putFrame o r else o :: g :: r

/-- A frame leaves a master port in the class order of R208. -/
def State.emitFrame (s : State) (o : Out) : State := { s with out := putFrame o s.out }

/-- A Ward, CAN or ring output in order. -/
def State.emits (s : State) (l : List Out) : State := l.foldl State.emit s

/-- Run an operation over the elements of a list in order. -/
def State.each {α : Type} (s : State) (l : List α) (f : α → State → State) : State := l.foldl (fun s x => f x s) s

/-- An operation where a condition holds. -/
def State.when (s : State) (b : Bool) (f : State → State) : State := if b then f s else s

/-! ### What the hardware settles after a command -/

/-- The ACTING and LATCHED bits whose trip records are of severity TRIP: functions 0 to 3, 7, 8 and the DEADBOLT reach. DEDUCED, log 9. -/
def tripBits : Nat := 0x58F

/-- A condition of severity TRIP or above is active (R40): a latch, a trip, a fenced leaf, a failed log, a LOCKED string,
a thermally latched channel. DEDUCED, log 9. -/
def State.tripActive (s : State) : Bool :=
  s.aon.dbLatch || s.aon.thermal || s.aon.dev == .safe || s.kn.linkLost ||
  s.prot.strs.any (fun e => (e.2.acting &&& tripBits) != 0 || e.2.latched != 0) ||
  [Leaf.a, Leaf.b].any (fun l => s.fenceLine l && (s.leaf l).cause != 0x0C) ||
  s.la.log.failed || s.lb.log.failed ||
  s.hasp.strs.any (fun e => e.2.st == 6) || s.power.chans.any (fun e => bit e.2.latch 3)

/-- One-way fuses (R70 to R72): a programmed slot keeps its hash, a revoked slot stays revoked. DEDUCED, log 8. -/
def fuseKeep (old new : KeySlot) : KeySlot :=
  { hash := if old.programmed then old.hash else new.hash, programmed := old.programmed || new.programmed,
    revoked := old.revoked || new.revoked }

/-- Whether a leaf's domain is supplied and out of reset: a fenced leaf and one under test are held in reset (R30, R48, R547). -/
def State.driven (s : State) (l : Leaf) : Bool := (s.leaf l).supplied && !s.fencedL l && !s.aon.testEn && s.aon.dev != .off

/-- PHYRSTn_N of a leaf (R588): low until 0.4 ms after the leaf's supply, then high but while the leaf is fenced. -/
def State.phyRst (s : State) (l : Leaf) : Pin :=
  if !(s.leaf l).supplied then .z
  else if s.fenceLine l || s.aon.testEn || decide (s.time.now < (s.leaf l).t0 + 400000) then .low else .high

/-- PPS_OUT (R598, R748): driven while either leaf is supplied, from 0.4 ms after t0. -/
def State.ppsPin (s : State) : Pin :=
  if !(s.la.supplied || s.lb.supplied) || s.aon.testEn || decide (s.time.now < s.time.t0 + 400000) then .z
  else if s.time.ppsOut then .high else .low

/-- The balls that follow the device state: READY (R750), FAULT_N driven low (R40), and those that a domain without supply or in
reset releases (R30). DEDUCED, log 8, 9. -/
def State.pins (s : State) : State :=
  { s with
      aon := { s.aon with
        ready := s.aon.dev == .run || s.aon.dev == .sleep || s.aon.dev == .halt
        faultN := s.aon.vaon && (s.aon.faultHold || s.tripActive) }
      balls := { driveA := s.driven .a, driveB := s.driven .b, phyRstA := s.phyRst .a, phyRstB := s.phyRst .b, ppsOut := s.ppsPin
                 tdo := s.aon.testEn && s.aon.vaon } }

/-- What holds whatever a command did: the queue is the environment's, CLK_TB never runs back, the fuses are one-way,
the thermal latch stays set (R417), and the balls follow the state. DEDUCED, log 8. -/
def settle (old new : State) : State :=
  ({ new with
      pending := old.pending
      time := { new.time with now := max old.time.now new.time.now }
      stage := { new.stage with keys := List.zipWith fuseKeep old.stage.keys new.stage.keys }
      aon := { new.aon with thermal := old.aon.thermal || new.aon.thermal } } : State).pins

/-- The meaning of a command at instant `t`: its effect, then what the hardware settles. DESIGN CHOICE, log 2. DEDUCED, log 8. -/
def at' (t : Nat) (f : State → State) (s : State) : Ans := .next (settle s (f (s.setNow t)))

/-- The same for the commands of supply and start, which alone can clear the thermal latch (R58, R417). DESIGN CHOICE, log 2. DEDUCED, log 8. -/
def atPower (t : Nat) (f : State → State) (s : State) : Ans :=
  let n := f (s.setNow t)
  .next ({ settle s n with aon := { (settle s n).aon with thermal := n.aon.thermal } } : State).pins

end Sys2Proof.Machine
end

