-- ==== Sys2Proof/Machine/Log.lean ====
section
/-!
DEFINITION. The stream FIFOs as producers see them (R652 to R658) and the event recorder from cause to record
(R667 to R679, R634, R685).
-/
namespace Sys2Proof.Machine

/-! ### Stream FIFOs -/

/-- PRODUCER of a stream; 0 where no section configures it (R652). -/
def Cfg.producer (c : Cfg) (n : Nat) : Nat := if c.img.has Ty.stream n then c.n Ty.stream n 0 else 0

/-- The streams of a producer. -/
def Cfg.streamsOf (c : Cfg) (p : Nat) : List Nat := (upto 16).filter (fun n => c.producer n == p)

/-- A stream's FIFO. -/
def State.fifo (s : State) (n : Nat) : Fifo := kget {} s.fifos n

/-- A stream's FIFO replaced. -/
def State.setFifo (s : State) (n : Nat) (f : Fifo) : State := { s with fifos := kset {} s.fifos n f }

/-- The words of an item with their tags (R654, R655), by fuel over its bytes. -/
def itemWords : Nat → List Byte → List (Nat × Nat)
  | 0, _ => []
  | k + 1, p =>
    if p.length ≤ 8 then [(leNat p, 0x08 + (p.length - 1))]
    else (leNat (p.take 8), 0x07) :: itemWords k (p.drop 8)

/-- An item's bytes: its header and payload (R654). FLAGS bit 0 is PICK. -/
def itemBytes (ty : Nat) (picked : Bool) (payload : List Byte) : List Byte :=
  [byteOf ty, byteOf (b2n picked)] ++ toLe 2 payload.length ++ payload

/-- Words appended to a FIFO that has room for them. -/
def Fifo.append (f : Fifo) (now : Nat) (ws : List (Nat × Nat)) : Fifo :=
  { f with words := f.words ++ ws, high := max f.high (f.words.length + ws.length)
           oldest := if f.words.isEmpty then now else f.oldest }

/-- A producer offers an item (R658): accepted whole, or dropped and counted, its bytes swallowed one in each 5 ns (R653). The
second result tells the first drop of an episode. -/
def Fifo.offer (f : Fifo) (now ty : Nat) (picked : Bool) (payload : List Byte) : Fifo × Bool :=
  let need := (4 + payload.length + 7) / 8 + (if f.lossPend = 0 then 0 else 1)
  if f.words.length + need ≤ 2048 then
    ({ f.append now (itemWords (payload.length + 4) (itemBytes ty picked payload)) with written := satAdd 32 f.written 1 }, false)
  else ({ f with lossPend := satAdd 32 f.lossPend 1, dropped := satAdd 32 f.dropped 1, episode := true
                 swallow := now + 5 * (4 + payload.length) }, !f.episode)

/-- Complete items among words: each ends with a word whose tag has EOI (R655). -/
def itemCount (ws : List (Nat × Nat)) : Nat := (ws.filter (fun w => bit w.2 3)).length

/-- The words of the first items that fit into `room` words: taken, left. `item` are the words of the item in hand. -/
def takeItems (room : Nat) : List (Nat × Nat) → List (Nat × Nat) → List (Nat × Nat) → List (Nat × Nat) × List (Nat × Nat)
  | taken, item, [] => (taken, item)
  | taken, item, w :: r =>
    if bit w.2 3 then
      if taken.length + item.length + 1 ≤ room then takeItems room (taken ++ item ++ [w]) [] r else (taken, item ++ w :: r)
    else takeItems room taken (item ++ [w]) r

/-- Words delivered, and their items, as the delivering leaf reports them (R660, R661). -/
def Fifo.deliver (f : Fifo) (now : Nat) (gone left : List (Nat × Nat)) : Fifo :=
  { f with words := left, wseq := (f.wseq + gone.length) % 4294967296, sentItems := itemCount gone, sentNow := now }

/-- A FIFO at a failover (R661): the survivor discards the items that the lost leaf may have begun to deliver, or delivered last
without its report. `k` chooses among the cases the manual leaves open: 0 neither, 1 begun, else delivered. DESIGN CHOICE, log 99. -/
def Fifo.handOver (f : Fifo) (k : Nat) : Fifo :=
  match k with
  | 0 => f
  | 1 =>
    let r := takeItems 176 [] [] f.words
    { f with words := r.2, wseq := (f.wseq + r.1.length) % 4294967296, lossPend := satAdd 32 f.lossPend (itemCount r.1) }
  | _ => { f with lossPend := satAdd 32 f.lossPend f.sentItems, sentItems := 0 }

/-- Every FIFO that has held an item, at a failover or a handover (R661, R666). -/
def State.fifosOver (s : State) : State :=
  s.fifos.foldl (fun (s : State) e => (s.setFifo e.1 (e.2.handOver (Config.freeNat s.free % 3))).draw) s

/-- At most one item per stream; the second result lists the streams whose episode of drops begins. -/
def State.offerTo (s : State) (ns : List Nat) (ty : Nat) (picked : Bool) (payload : List Byte) : State × List Nat :=
  ns.foldl (fun a n =>
    let r := (a.1.fifo n).offer s.time.now ty picked payload
    (a.1.setFifo n r.1, if r.2 then a.2 ++ [n] else a.2)) (s, [])

/-! ### Event records -/

/-- The bytes of a record before its CRC (R667). -/
def EventRec.head (r : EventRec) : List Byte :=
  toLe 8 r.time ++ toLe 2 r.code ++ toLe 2 r.source ++ [byteOf r.leafByte, byteOf r.severity] ++ toLe 4 r.seq ++ r.params

/-- The 32 bytes of a record (R667). -/
def EventRec.bytes (r : EventRec) : List Byte := r.head ++ toLe 2 r.crc

/-- A record with its CRC (R668). -/
def EventRec.sealCrc (r : EventRec) : EventRec := { r with crc := crc16 r.head }

/-- DEPTH and REFILL of a code: its EVENT_POLICY entry, else its default class (R129, R779). R675's codes are unlimited. DEDUCED, log 88. -/
def Cfg.evClass (c : Cfg) (code : Nat) : Nat × Nat :=
  if code ≤ 5 then (15, 0) else
  let p := c.img.payload Ty.eventPolicy 0
  match (upto (leAt p 0 2)).find? (fun i => leAt p (8 + 4 * i) 2 == code) with
  | some i => (leAt p (8 + 4 * i + 2) 1, leAt p (8 + 4 * i + 3) 1)
  | none => evDefault code

/-- LOG_MIN_SEVERITY (R129). -/
def Cfg.logMin (c : Cfg) : Nat := c.n Ty.eventPolicy 0 2

/-- The STICKY bit set with an event (R634). -/
def stickyBit (code : Nat) (started : Bool) : Option Nat :=
  if code = Ev.leafFenced then some 0 else if code = Ev.failover then some 1 else if code = Ev.deadboltThrown then some 2
  else if code = Ev.bittingApplied then (if started then some 3 else none) else if code = Ev.nodeQuarantined then some 4
  else if code = Ev.chainBreak then some 5 else if code = Ev.logMediaFault then some 6 else if code = Ev.queueLoss then some 7
  else if code = Ev.sessionAuthFail then some 8 else if code = Ev.thermalLatch then some 9
  else if code = Ev.knuckleMismatch then some 10 else none

/-- The leaves whose queues take records. -/
def State.logLeaves (s : State) : List Leaf := [Leaf.a, Leaf.b].filter (fun l => (s.leaf l).supplied && !s.fencedL l)

/-- Origin of a cause both leaves detect: 2 with both at work, else the leaf that runs (R667, R670). -/
def State.orgBoth (s : State) : Nat := if s.logLeaves.length = 2 then 2 else s.act.num

/-- An accepted record enters a leaf's queue; a failed log takes none, a full standby queue counts a drop (R676, R679). -/
def State.enqueue (s : State) (l : Leaf) (r : EventRec) : State :=
  let c := (s.leaf l).log
  if c.failed then s
  else if c.queue.length < 256 then
    s.modLeaf l (fun x => { x with log := { c with queue := c.queue ++ [r] } })
  else { s with lg := { s.lg with standbyDrops := satAdd 32 s.lg.standbyDrops 1 } }

/-- Whether a record goes to the AON emergency area (R685). -/
def State.isEmergency (s : State) (code sev : Nat) : Bool :=
  code == Ev.logMediaFault || code == Ev.logFailed || sev == 6 || (s.la.log.failed && s.lb.log.failed)

/-- The newest 16 emergency records in a circle (R685). -/
def Recorder.keepEmergency (g : Recorder) (r : EventRec) : Recorder :=
  { g with emerg := kset {} g.emerg g.emergNext r, emergNext := (g.emergNext + 1) % 16, emergCount := min 16 (g.emergCount + 1) }

/-- The verdict of a code's token bucket (R673), with the bucket it leaves. -/
def Bucket.take (b : Bucket) (cls : Nat × Nat) (sec : Nat) : Bool × Bucket :=
  if cls.2 = 0 then (true, b)
  else if b.used < cls.1 then (true, { b with used := b.used + 1 })
  else (false, { b with supp := satAdd 32 b.supp 1, first := if b.supp = 0 then sec else b.first })

/-- One raised cause through the steps of R671, by fuel: a record may begin a loss episode of an EVENTS stream, which
raises STREAM_LOSS in turn, at most once per stream. `rem` marks a cause of traffic altered by Pick (R669). -/
def State.raiseN : Nat → Nat → Nat → Nat → Bool → List Param → State → State
  | 0, _, _, _, _, _, s => s
  | k + 1, code, src, org, picked, ps, s =>
    let sev := evSeverity code
    let s := match stickyBit code (s.aon.dev != .start) with
      | some b => { s with lg := { s.lg with sticky := setBit s.lg.sticky b true } }
      | none => s
    let base : EventRec := { time := s.devTime, code := code, source := src, severity := sev, params := packParams ps
                             leafByte := org + (if picked then 0x80 else 0) }
    let toStreams := fun (r : EventRec) (s : State) =>
      let x := s.offerTo ((s.cfg.streamsOf 2).filter (fun n => s.cfg.n Ty.stream n 1 ≤ sev)) 2 picked r.bytes
      x.2.foldl (fun s n => State.raiseN k Ev.streamLoss n s.act.num false [p4 (s.fifo n).lossPend] s) x.1
    if s.aon.dev = .off then s
    else if sev < s.cfg.logMin then
      let r := ({ base with leafByte := base.leafByte + 0x20, seq := (s.lg.nextSeq + 4294967295) % 4294967296 } : EventRec).sealCrc
      toStreams r { s with lg := { s.lg with streamOnly := satAdd 32 s.lg.streamOnly 1 } }
    else
      let b := (kget {} s.lg.buckets code).take (s.cfg.evClass code) s.devSec
      let s := { s with lg := { s.lg with buckets := kset {} s.lg.buckets code b.2
                                          suppTotal := if b.1 then s.lg.suppTotal else satAdd 32 s.lg.suppTotal 1 } }
      if !b.1 then s
      else
        let lvl := (s.leaf s.act).log.queue.length
        if lvl < 224 || (lvl < 256 && sev ≥ 4) then
          let em := s.isEmergency code sev
          let r := ({ base with leafByte := base.leafByte + (if em then 0x40 else 0), seq := s.lg.nextSeq } : EventRec).sealCrc
          let s := { s with lg := { s.lg with nextSeq := (s.lg.nextSeq + 1) % 4294967296, written := satAdd 32 s.lg.written 1
                                              queueHigh := max s.lg.queueHigh (lvl + 1) } }
          let s := toStreams r (s.logLeaves.foldl (fun s l => s.enqueue l r) s)
          if em then { s with lg := s.lg.keepEmergency r } else s
        else
          { s with lg := { s.lg with
              dropHigh := if sev ≥ 4 then satAdd 32 s.lg.dropHigh 1 else s.lg.dropHigh
              dropLow := if sev ≥ 4 then s.lg.dropLow else satAdd 32 s.lg.dropLow 1
              firstDrop := if s.lg.dropLow = 0 ∧ s.lg.dropHigh = 0 then s.devSec else s.lg.firstDrop
              dropTotal := satAdd 32 s.lg.dropTotal 1 } }

/-- Raise an event: code, SOURCE, origin, parameters. -/
def State.raiseO (s : State) (code src org : Nat) (ps : List Param) : State := State.raiseN 18 code src org s.lg.picked ps s

/-- Raise a cause that both leaves detect from the same inputs. -/
def State.ev (s : State) (code src : Nat) (ps : List Param) : State := s.raiseO code src s.orgBoth ps

/-- Raise a cause of the ACTIVE leaf alone: commands, links and its own duties. -/
def State.evA (s : State) (code src : Nat) (ps : List Param) : State := s.raiseO code src s.act.num ps

/-- Raise a cause of the AON domain. -/
def State.evAon (s : State) (code src : Nat) (ps : List Param) : State := s.raiseO code src 3 ps

/-- SOURCE of the device as a whole. -/
abbrev srcD : Nat := 0xFFFF
/-- SOURCE of a node: 64 × ring + position − 1 (R780). -/
def srcN (ring pos : Nat) : Nat := 64 * ring + pos - 1

/-- An item for every stream of a producer that meets a condition; a first drop raises STREAM_LOSS (R658). -/
def State.produce (s : State) (prod ty : Nat) (takes : Nat → Bool) (payload : List Byte) : State :=
  let x := s.offerTo ((s.cfg.streamsOf prod).filter takes) ty s.lg.picked payload
  x.2.foldl (fun s n => s.evA Ev.streamLoss n [p4 (s.fifo n).lossPend]) x.1

/-! ### Altered traffic and traces -/

/-- An operation whose events and items mark altered traffic when `b` holds (R669, R717). -/
def State.withPick (s : State) (b : Bool) (f : State → State) : State :=
  let s1 := f { s with lg := { s.lg with picked := s.lg.picked || b } }
  { s1 with lg := { s1.lg with picked := s.lg.picked } }

/-- An operation whose items mark altered traffic exactly when `b` holds. -/
def State.asPick (s : State) (b : Bool) (f : State → State) : State :=
  let s1 := f { s with lg := { s.lg with picked := b } }
  { s1 with lg := { s1.lg with picked := s.lg.picked } }

/-- Header and payload of a frame (R156). -/
def frameBytes (dest src kind seq : Nat) (payload : List Byte) : List Byte :=
  toLe 2 dest ++ toLe 2 src ++ [byteOf kind, byteOf seq] ++ toLe 2 payload.length ++ payload

/-- Eight steps of the CRC-8 of R150 on a register, polynomial 0x07. -/
def crc8Steps : Nat → Nat → Nat
  | 0, c => c
  | k + 1, c => crc8Steps k ((if c ≥ 128 then (2 * c) ^^^ 0x107 else 2 * c) % 256)

/-- The CRC-8 of R150. -/
def crc8 (p : List Nat) : Nat := p.foldl (fun c b => crc8Steps 8 ((c ^^^ b) % 256)) 0

/-- A frame as it stands between SOF and EOF: header, payload, CRC-32 (R155, R156). -/
def ringLine (dest src kind seq : Nat) (payload : List Byte) : List Byte :=
  let p := frameBytes dest src kind seq payload
  p ++ toLe 4 (crc32 p)

/-- A SYNC with its CHECK (R150). -/
def syncOut (ring : Nat) (e : Leaf) (low hop : Nat) : Out := .sync ring e low hop (crc8 [low, hop])

/-- A CHAIN_FRAME item of every trace of the ring (R657). -/
def State.traceFrame (s : State) (r : Nat) (e : Leaf) (dir result : Nat) (bytes : List Byte) : State :=
  s.produce 3 3 (fun n => bit (s.cfg.n Ty.stream n 4) r)
    (toLe 8 s.devTime ++ [byteOf r, byteOf e.num, byteOf dir, byteOf result] ++ bytes)

/-- Frames that Pick held leave, in the order held, traced as altered traffic (R716, R717). -/
def State.release (s : State) (l : List Out) : State :=
  s.each l (fun o s =>
    let s := s.emit o
    match o with
    | .frame r e _ _ line => s.withPick true (fun s => s.traceFrame r e 0 0 (line.take (line.length - 4)))
    | _ => s)

/-- QUEUE_LOSS at the first instant the queue holds fewer than 224 records after a drop (R678). -/
def State.queueLoss (s : State) : State :=
  if (s.lg.dropLow = 0 ∧ s.lg.dropHigh = 0) ∨ (s.leaf s.act).log.queue.length ≥ 224 then s
  else
    let g := s.lg
    ({ s with lg := { g with dropLow := 0, dropHigh := 0 } } : State).evA Ev.queueLoss srcD [p4 g.dropLow, p4 g.dropHigh, p4 g.firstDrop]

/-- The SUPPRESSED record of a code whose count is pending; the count is cleared (R674). -/
def State.suppRaise (s : State) (code : Nat) : State :=
  let b : Bucket := kget {} s.lg.buckets code
  if b.supp = 0 then s
  else
    let s := { s with lg := { s.lg with buckets := kset {} s.lg.buckets code { b with supp := 0, first := 0 } } }
    s.evA Ev.suppressed srcD [p2 code, p4 b.supp, p4 b.first]

end Sys2Proof.Machine
end

