-- ==== Sys2Proof/Machine/Ports.lean ====
section
/-!
DEFINITION. The Ethernet ports and their addresses (R133, R587, R591, R594). An address is a number of 128 bits, IPv4 as an
IPv4-mapped IPv6 address.
-/
namespace Sys2Proof.Machine

/-- PORT_MODE PRP. -/
def Cfg.prp (c : Cfg) : Bool := c.n Ty.network 0 0 == 0

/-- Where a port's fields begin in NETWORK: in PRP both ports carry PORT0's. -/
def Cfg.portBase (c : Cfg) (p : Nat) : Nat := if c.prp then 8 else 8 + 0x28 * p

/-- SPEED of a port. -/
def Cfg.portSpeed (c : Cfg) (p : Nat) : Nat := c.n Ty.network 0 (c.portBase p + 0xA)

/-- An IPv4 address as a mapped IPv6 address. -/
def v4 (a : Nat) : Nat := 0xFFFF00000000 + a % 4294967296

/-- An IPv6 address field: eight 16-bit groups, first group at the lowest offset. -/
def v6At (p : List Byte) (off : Nat) : Nat := (upto 8).foldl (fun n k => n * 65536 + leAt p (off + 2 * k) 2) 0

/-- The configured addresses of a port. -/
def Cfg.portAddrs (c : Cfg) (p : Nat) : List Nat :=
  let b := c.img.payload Ty.network 0
  let o := c.portBase p
  let a4 := leAt b o 4
  let a6 := v6At b (o + 0x10)
  (if a4 = 0 then [] else [v4 a4]) ++ (if a6 = 0 then [] else [a6])

/-- The IPv6 link-local address of the device. DESIGN CHOICE, log 50. -/
def linkLocal : Nat := Config.linkLocal6 Config.deviceUid

/-- Whether an address is a link-local one of this device: the one of IPv6, or one of 169.254.0.0/16. -/
def isLinkLocal (a : Nat) : Bool := a == linkLocal || a / 65536 == 0xFFFFA9FE

/-- An IPv4 link-local address by the procedure of RFC 3927: open within 169.254.1.0 to 169.254.254.255. DESIGN CHOICE, log 50. -/
def State.newV4 (s : State) : Nat := v4 (0xA9FE0100 + Config.freeNat s.free % 65024)

/-- A port. -/
def State.eth (s : State) (p : Nat) : Eth := if p = 0 then s.links.eth0 else s.links.eth1

/-- A port changed; there are two. -/
def State.modEth (s : State) (p : Nat) (f : Eth → Eth) : State :=
  if p = 0 then { s with links := { s.links with eth0 := f s.links.eth0 } }
  else if p = 1 then { s with links := { s.links with eth1 := f s.links.eth1 } } else s

/-- A port keeps its link-local addresses and what is configured, and probes what is newly configured (R594). -/
def Eth.renew (e : Eth) (want : List Nat) : Eth :=
  let keep := fun (l : List Nat) => l.filter (fun a => isLinkLocal a || want.contains a)
  let new := want.filter (fun a => !(e.addrs.contains a) && !(e.detecting.contains a))
  { e with addrs := keep e.addrs, detecting := keep e.detecting ++ (if e.up then new else []) }

/-- Both ports follow NETWORK. -/
def State.portsRenew (s : State) : State :=
  { s with links := { s.links with eth0 := s.links.eth0.renew (s.cfg.portAddrs 0), eth1 := s.links.eth1.renew (s.cfg.portAddrs 1) } }

end Sys2Proof.Machine
end

