-- ==== Sys2Proof/Machine/Host.lean ====
section
/-!
DEFINITION. Session records and answers (R602, R610, R612 to R616, R622, R623), shared by every command a host sends.
-/
namespace Sys2Proof.Machine

/-! ### STATUS codes (R613) -/
namespace St
abbrev ok := 0
abbrev busy := 1
abbrev denied := 2
abbrev bounds := 3
abbrev notReady := 4
abbrev stale := 5
abbrev replay := 6
abbrev badAddr := 7
abbrev badLen := 8
abbrev badKind := 9
abbrev notApplied := 10
abbrev badOp := 11
end St

/-! ### Permissions (R127) -/
namespace Perm
abbrev read := 0
abbrev overlay := 1
abbrev strings := 2
abbrev clear := 3
abbrev image := 4
abbrev subscribe := 5
abbrev pick := 6
abbrev lease := 7
abbrev restart := 8
abbrev mark := 9
abbrev time := 10
abbrev peer := 11
end Perm

/-- Session record index of the SPI session (R602). -/
abbrev sSpi : Nat := 128
/-- Session record index of the factory credential session (R610). -/
abbrev sFactory : Nat := 129
/-- What R127 allows to MAINT. -/
abbrev maintPerms : Nat := 0x77F

/-- A session record. -/
def State.sess (s : State) (k : Nat) : Sess := kget {} s.links.sess k
/-- A session record replaced. -/
def State.setSess (s : State) (k : Nat) (x : Sess) : State := { s with links := { s.links with sess := kset {} s.links.sess k x } }
/-- A session record changed. -/
def State.modSess (s : State) (k : Nat) (f : Sess → Sess) : State := s.setSess k (f (s.sess k))

/-- Whether the SPI port answers: MAINT_EN high for 1 ms (R600). -/
def State.spiOn (s : State) : Bool := s.links.maintEn && decide (s.links.maintSince + 1000000 ≤ s.time.now)

/-- Whether a session is open (R602, R604). -/
def State.sessOpen (s : State) (k : Nat) : Bool := if k = sSpi then s.spiOn else (s.sess k).st == 3

/-- ROLE (R126): 0 HOST, 1 PCS, 2 PEER, 3 MAINT, 4 OBSERVER. -/
def State.role (s : State) (k : Nat) : Nat := if k < 128 then s.cfg.sess k 0 else 3

/-- PERMISSIONS of a session. -/
def State.perms (s : State) (k : Nat) : Nat := if k < 128 then s.cfg.sess k 4 else maintPerms

/-- Whether a session has a permission. -/
def State.may (s : State) (k p : Nat) : Bool := bit (s.perms k) p

/-- Whether a stream's bit stands in a session's STREAM_MASK. -/
def State.streamOk (s : State) (k n : Nat) : Bool := if k < 128 then bit (s.cfg.sess k 0x10) n else true

/-- MAX_OUTSTANDING of a session (R126, R602). -/
def State.maxOut (s : State) (k : Nat) : Nat := if k < 128 then s.cfg.sess k 2 else 8

/-- Transactions outstanding device-wide (R615). -/
def State.outAll (s : State) : Nat := sumN ((upto 130).map (fun k => (s.sess k).outst.length))

/-- A Ward message as bytes (R612), the form in which the SPI port queues answers (R601). -/
def msgBytes (kind status tag : Nat) (body : List Byte) : List Byte :=
  [byteOf kind, byteOf status] ++ toLe 2 tag ++ toLe 2 body.length ++ [0, 0] ++ body

/-- SESSION_ID of a session (R603). The factory credential's slot number does not fit its seven bits: it stands for an open
value. DESIGN CHOICE, log 49. -/
def State.sidOf (s : State) (k : Nat) : Nat :=
  (if k = sFactory then Config.caseCode Ev.sessionOpened k else k) % 128 + 128 * (s.sess k).gen

/-- The 16-byte header of a Ward packet (R603): VERSION 1, TYPE, SESSION_ID, COUNTER, LENGTH of the payload, RESERVED. -/
def wardHeader (ty sid counter len : Nat) : List Byte :=
  [0x01, byteOf ty] ++ toLe 2 sid ++ toLe 8 counter ++ toLe 2 len ++ [0, 0]

/-- The header of the next DATA packet to a session, which carries one message with so long a body (R603, R608, R612). -/
def State.dataHeader (s : State) (k len : Nat) : List Byte := wardHeader 0x10 (s.sidOf k) ((s.sess k).tx + 1) (8 + len)

/-- A message leaves for a session: over Ward in a packet of its own, its counter from the block reserved (R608, R551), or
into the SPI queue (R601, R602); nothing while it is not open. DESIGN CHOICE, log 91. -/
def State.send (s : State) (k kind status tag : Nat) (body : List Byte) : State :=
  if !s.sessOpen k then s
  else if k = sSpi then
    { s with links := { s.links with spiQ := if s.links.spiQ.length < 8 then s.links.spiQ ++ [msgBytes kind status tag body] else s.links.spiQ } }
  else
    let x := s.sess k
    if x.tx + 1 ≥ 2 ^ 48 then s
    else
      (s.setSess k { x with tx := x.tx + 1, txReserved := if x.txReserved < x.tx + 1 then x.txReserved + 4096 else x.txReserved }).emit
        (.ward k (s.dataHeader k body.length) kind status tag body)

/-- Whether a KIND and its result are held under their tag (R614): not reads, and not what was not executed. DEDUCED, log 45. -/
def holdable (kind status : Nat) (readBatch : Bool) : Bool := kind != 1 && !readBatch && status != St.busy && status != St.stale

/-- A transaction is answered: it is outstanding no more, its answer is held and sent, and CONTROL shows it if it is a CMD
(R614, R615, R635). An answer of a session that has closed meanwhile is dropped (R611). -/
def State.answer (s : State) (k tag status : Nat) (body : List Byte) : State :=
  let x := s.sess k
  match x.outst.find? (fun o => o.1 == tag) with
  | none => s
  | some (_, kind, op) =>
    let rd := kind == 5 && op == 1
    let x := { x with outst := x.outst.filter (fun o => o.1 != tag)
                      held := if holdable kind status rd then (({ tag := tag, kind := kind, status := status, result := body } : Held) :: x.held).take 32 else x.held }
    let s := s.setSess k x
    let s := if kind = 3 then
        { s with links := { s.links with lastStatus := status, lastOpcode := op, lastSlot := k, lastTime := s.devTime } }
      else s
    s.send k (kind + 0x80) status tag body

/-- Answer a transaction that waits, if one does. -/
def State.answerOpt (s : State) (w : Option (Nat × Nat)) (status : Nat) (body : List Byte) : State :=
  match w with
  | none => s
  | some (k, tag) => s.answer k tag status body

end Sys2Proof.Machine
end

