-- ==== Sys2Proof/Machine/Deadbolt.lean ====
section
/-!
DEFINITION. The Deadbolt in the AON domain: its gates, its latch, HOLD (R440 to R445), and the episodes that a leaf
fault, a trip or a closing session ends: Pick (R719) and staging (R81).
-/
namespace Sys2Proof.Machine

/-! ### Gates and latch -/

/-- Whether an output pair is permissive (R442). -/
def State.permissive (s : State) (l : Leaf) : Bool :=
  (s.leaf l).rq && !s.fenceLine l && ((s.leaf l.other).rq || s.fenceLine l.other) &&
  !s.aon.dbLatch && !s.aon.thermal && !s.aon.hold

/-- DB_STATE (R452): 0 PERMISSIVE, 1 HELD, 2 TRIPPED. -/
def State.dbState (s : State) : Nat := if s.aon.dbLatch then 2 else if s.aon.hold then 1 else 0

/-- A fast comparator of a leaf above its threshold at an input (R449). -/
def CurSt.aboveOf (x : CurSt) : Leaf → Bool
  | .a => x.aboveCA || x.aboveDA
  | .b => x.aboveCB || x.aboveDB

/-- A fast comparator of an unfenced leaf is above its threshold. -/
def State.compHigh (s : State) : Bool :=
  s.cur.any (fun e => (e.2.aboveOf .a && !s.fenceLine .a) || (e.2.aboveOf .b && !s.fenceLine .b))

/-- DB_LATCH is set (R443): the first cause is recorded in retention and hold cells, every cause is logged.
`inputs`: bit 0 Leaf A, bit 1 Leaf B, bit 2 the thermal latch. DEDUCED, log 66. -/
def State.dbThrow (s : State) (cause source inputs : Nat) : State :=
  let a := s.aon
  let s := if a.dbLatch then s else { s with aon := { a with
    dbLatch := true, dbCause := cause, dbSource := source, dbTime := s.devTime, dbSweep := s.sw.num
    throws := satAdd 16 a.throws 1, holdDb := true, holdDbCause := cause } }
  s.evAon Ev.deadboltThrown srcD [p1 cause, p2 source, p1 inputs]

/-- A cause of HOLD begins (R444). Bit 0 START, 1 RESTART, 2 UNKEYED, 3 HALT, 4 SAFE. -/
def State.holdSet (s : State) (k : Nat) : State :=
  { s with aon := { s.aon with hold := true, holdCause := setBit s.aon.holdCause k true } }

/-- HOLD is released and logged (R444). -/
def State.holdRelease (s : State) : State :=
  if s.aon.hold then
    ({ s with aon := { s.aon with hold := false, holdCause := 0 } } : State).evAon Ev.deadboltReleased srcD [p1 s.aon.holdCause]
  else s

/-- ARMED ends (R449, R450). -/
def State.armEnd (s : State) : State :=
  { s with aon := { s.aon with clearState := 0, armSlot := 0xFF }, prot := { s.prot with confirm := none } }

/-! ### Pick disarms (R719) -/

/-- Pick disarms: held frames are released, sent ones at once, received ones by PICK_HELD_RELEASE from now on. -/
def State.pickDisarm (s : State) (cause : Nat) : State :=
  if !s.pick.armed then s
  else
    let s1 := s.release (s.pick.held.filterMap (·.tx))
    let s1 := { s1 with pick := { s1.pick with
      armed := false, lastDisarm := cause
      held := (s.pick.held.filter (fun (h : PickHeld) => h.rx.isSome)).map
        (fun (h : PickHeld) => ({ h with after := 0, due := s.time.now } : PickHeld)) } }
    s1.evA Ev.pickArmed s.pick.owner [p2 s.pick.tArm, p1 s.pick.count, p1 1, p1 cause]

/-! ### Staging is abandoned (R81, R88) -/

/-- The slot that does not hold the running image; while UNKEYED neither does, and the slot chosen at the write (R84). -/
def State.inactiveSlot (s : State) : Nat := if s.stage.activeSlot = 0 then 1 else if s.stage.activeSlot = 1 then 0 else s.stage.target

/-- A leaf's slot. -/
def LeafRec.slot (x : LeafRec) (k : Nat) : Slot := if k = 0 then x.slot0 else x.slot1

/-- A leaf with one slot changed. -/
def LeafRec.modSlot (x : LeafRec) (k : Nat) (f : Slot → Slot) : LeafRec :=
  if k = 0 then { x with slot0 := f x.slot0 } else { x with slot1 := f x.slot1 }

/-- Every running leaf writes a slot's descriptor WITHDRAWN (R85, R87). -/
def State.withdraw (s : State) (k : Nat) : State :=
  [Leaf.a, Leaf.b].foldl (fun s l => if s.running l then s.modLeaf l (fun x => x.modSlot k (fun d => { d with st := 3 })) else s) s

/-- The staging store is given back and STATE is IDLE. -/
def State.stageIdle (s : State) : State :=
  { s with stage := { s.stage with
             st := 0, image := none, chunks := [], closeReq := none, revert := false
             stagedSeq := 0, received := 0, torn := false }
           la := { s.la with stage := [] }, lb := { s.lb with stage := [] } }

/-- Staging is abandoned before STAGED (R81). `k` numbers the case in the list of R81. DESIGN CHOICE, log 42. -/
def State.stageAbandon (s : State) (k : Nat) : State :=
  if s.stage.st = 1 ∨ s.stage.st = 2 ∨ s.stage.st = 3 then
    let s1 := if s.stage.st = 3 then s.withdraw s.inactiveSlot else s
    let s1 := s1.answerOpt s.stage.closeReq St.denied [0]
    let s1 := s1.stageIdle
    let s1 := { s1 with stage := { s1.stage with reason := Config.caseCode Ev.stagingAborted k % 256 } }
    s1.evA Ev.stagingAborted srcD [p1 (Config.caseCode Ev.stagingAborted k), p4 s.stage.received]
  else s

/-- APPLYING ends without a hinge point: back to STAGED, from where APPLY begins the wait again, for a REVERT too (R88, R91, R99). -/
def State.applyAbandon (s : State) (reason : Nat) : State :=
  if s.stage.st = 5 then
    let seq := match s.stage.image with | some g => g.seq | none => 0
    let s1 := { s with stage := { s.stage with st := 4, reason := reason } }
    s1.evA Ev.imageApplyAbandoned srcD [p1 reason, p4 seq]
  else s

end Sys2Proof.Machine
end

