-- ==== Sys2Proof/Machine/Request.lean ====
section
/-!
DEFINITION. How a session closes (R611), and how a host's request is taken: its tag, its limits, its permission, its
arguments, its answer (R614, R615, R617, R646, R648).
-/
namespace Sys2Proof.Machine

/-! ### Closing -/

/-! CLOSE_CAUSE codes (R623). -/
namespace Cc
abbrev close := 1
abbrev idle := 2
abbrev replaced := 3
abbrev counter := 4
abbrev image := 5
abbrev restart := 6
abbrev safe := 7
abbrev lockout := 8
end Cc

/-- The marks of a session record are freed (R686). -/
def State.freeMarks (s : State) (k : Nat) : State :=
  { s with lg := { s.lg with marks := s.lg.marks.filter (fun e => e.2.owner != k) } }

/-- A session receives no stream any more. -/
def State.unsubscribe (s : State) (k : Nat) : State :=
  (upto 16).foldl (fun (s : State) n => s.setFifo n { s.fifo n with recv := (s.fifo n).recv.filter (· != k) }) s

/-- A session closes with a cause (R611): its subscriptions end, and with it what it bound: staging (R81), Pick (R719),
the arming of DEADBOLT_CLEAR (R450), the factory credential's marks (R686). -/
def State.closeSession (s : State) (k cause : Nat) : State :=
  let x := s.sess k
  if x.st != 3 then s
  else
    let s := s.setSess k { x with st := if x.hs.isSome then 2 else 1, cause := cause, subs := 0, outst := [], held := [] }
    let s := s.unsubscribe k
    let s := s.evA Ev.sessionClosed k [p1 cause]
    let s := if s.stage.sess = k then s.stageAbandon 0 else s
    let s := if s.pick.owner = k then s.pickDisarm 6 else s
    let s := if s.aon.clearState ≠ 0 ∧ s.aon.armSlot = k then s.armEnd else s
    if k = sFactory then s.freeMarks k else s

/-- Every open Ward session closes. -/
def State.closeAll (s : State) (cause : Nat) : State :=
  (s.links.sess.map (·.1)).foldl (fun s k => s.closeSession k cause) s

/-! ### Requests -/

/-- What a request's rule does: the state, and the answer with its STATUS where it is given at once. -/
abbrev HR := State × Option (Nat × List Byte)

/-- Answered at once with a status alone. -/
def State.ans (s : State) (status : Nat) : HR := (s, some (status, []))
/-- Answered OK at once with a result. -/
def State.ansOk (s : State) (r : List Byte) : HR := (s, some (St.ok, r))
/-- Answered DENIED with a reason in result byte 0 (R613). -/
def State.ansWhy (s : State) (reason : Nat) : HR := (s, some (St.denied, [byteOf reason]))
/-- Answered later. -/
def State.later (s : State) : HR := (s, none)

/-- A transaction is outstanding from acceptance on (R615). -/
def State.accept (s : State) (q : HReq) (kind op : Nat) : State :=
  s.modSess q.sess (fun x => { x with outst := x.outst ++ [(q.tag, kind, op)] })

/-- An accepted request runs. -/
def State.serve (s : State) (q : HReq) (kind op : Nat) (h : State → HR) : State :=
  let r := h (s.accept q kind op)
  match r.2 with
  | none => r.1
  | some (st, body) => r.1.answer q.sess q.tag st body

/-- A request of an open session (R614, R615). `rd`: a READ or a BATCH of READs. In SAFE the AON domain answers SPI alone,
and READ alone (R602). DEDUCED, log 44, 45, 46. -/
def State.request (s : State) (q : HReq) (kind op : Nat) (rd : Bool) (h : State → HR) : State :=
  if s.aon.dev = .safe then
    if q.sess = sSpi ∧ s.spiOn then s.serve q kind op (if kind = 1 then h else fun s => s.ans St.denied) else s
  else if !s.up || !s.sessOpen q.sess then s
  else
    let x := s.sess q.sess
    let d := (q.tag + 65536 - x.h) % 65536
    let s := s.setSess q.sess { x with lastAuth := s.time.now }
    if 1 ≤ d ∧ d ≤ 32767 then
      let s := s.modSess q.sess (fun x => { x with h := q.tag % 65536 })
      if x.outst.length + 1 > s.maxOut q.sess ∨ s.outAll + 1 > 64 then s.serve q kind op (fun s => s.ans St.busy)
      else
        let s := s.modSess q.sess (fun x => { x with trans := satAdd 32 x.trans 1 })
        ({ s with sleep := { s.sleep with busy := s.sleep.busy || (kind != 1 && kind != 7) } } : State).serve q kind op h
    else if x.outst.any (fun o => o.1 == q.tag) then s
    else match x.held.find? (fun e => e.tag == q.tag) with
      | some e => s.send q.sess (e.kind + 0x80) e.status e.tag e.result
      | none => if rd then s.serve q kind op h else s.serve q kind op (fun s => s.ans St.stale)

/-- The opcodes accepted while UNKEYED (R648). -/
def unkeyedOp (op : Nat) : Bool :=
  op == 0x0001 || op == 0x0002 || op == 0x0010 || op == 0x0011 || op == 0x0012 || (0x0101 ≤ op && op ≤ 0x0108) ||
  op == 0x0202 || op == 0x0E04

/-- A CMD (R646): permission, the UNKEYED list, ARG_LEN, then its own rule. DEDUCED, log 46. -/
def State.cmd (s : State) (q : HReq) (op : Nat) (ok : State → Bool) (lenOk : Nat → Bool) (h : State → HR) : State :=
  s.request q 3 op false (fun s =>
    if !ok s then s.ans St.denied
    else if s.aon.unkeyed && !unkeyedOp op then s.ans St.denied
    else if !lenOk q.args.length then s.ans St.badLen
    else h s)

/-- A CMD whose own rule answers while UNKEYED, with a reason. DEDUCED, log 46. -/
def State.cmdAny (s : State) (q : HReq) (op : Nat) (ok : State → Bool) (lenOk : Nat → Bool) (h : State → HR) : State :=
  s.request q 3 op false (fun s => if !ok s then s.ans St.denied else if !lenOk q.args.length then s.ans St.badLen else h s)

/-- An argument field of a request. -/
def arg (q : HReq) (off w : Nat) : Nat := leAt q.args off w

end Sys2Proof.Machine
end

