-- ==== Sys2Proof/Machine/Fence.lean ====
section
/-!
DEFINITION. Fencing a leaf (R546, R547), the failover that follows (R548 to R551, R558), and SAFE (R725).
-/
namespace Sys2Proof.Machine

/-! FENCE_CAUSE codes (R546). -/
namespace Fc
abbrev start := 1
abbrev clock := 2
abbrev supply := 3
abbrev watchdog := 4
abbrev sram := 5
abbrev heartbeat := 6
abbrev kat := 7
abbrev link := 8
abbrev queue := 9
abbrev divergence := 0x0A
abbrev image := 0x0B
abbrev role := 0x0C
abbrev command := 0x0D
end Fc

/-- The CAN controller of a leaf (R507, R599): off before RUN, while UNKEYED, in SAFE and while fenced; the HOT STANDBY
monitors, the ACTIVE leaf transmits except in SLEEP; bus-off and error-passive stay until they end. -/
def State.canWant (s : State) (l : Leaf) (cur : Nat) : Nat :=
  if !s.up || s.aon.unkeyed || !s.alive l then 0
  else if cur ≥ 3 then cur
  else if s.kn.active = some l && s.aon.dev != .sleep then 2 else 1

/-- Both CAN controllers follow the leaves. -/
def State.canFollow (s : State) : State :=
  { s with links := { s.links with can0 := s.canWant .a s.links.can0, can1 := s.canWant .b s.links.can1 } }

/-- A ring that is not WHOLE with its A_LAST and B_FIRST, which split it from the next sweep (R222, R226); its probes
start anew. A calibration round in hand is abandoned; after a start round R198 follows (R196, R198, R230). DEDUCED, log 101. -/
def Ring.brokenAt (r : Ring) (aLast bFirst : Nat) : Ring :=
  { r with st := .broken aLast, aLast := aLast, bFirst := bFirst, nxA := aLast, nxB := bFirst, brk := 0, brkSent := false
           brkEnum := false, probedA := false, probedB := false, runCount := 0, sideOk := false
           cal := if r.cal = 1 ∨ r.cal = 2 ∨ r.cal = 3 then 9 else if 5 ≤ r.cal ∧ r.cal ≤ 8 then 0 else r.cal }

/-- A ring broken at a fenced leaf's port (R224): a determination of R223 that is under way goes on, the first probe that
has gone has gone; a ring that was WHOLE is whole but for that end. -/
def Ring.silenced (r : Ring) (aLast bFirst : Nat) : Ring :=
  { r.brokenAt aLast bFirst with
    brk := r.brk, brkNow := r.brkNow, brkSent := r.brkSent, brkEnum := r.brkEnum
    probedA := r.probedA && r.st != .whole, probedB := r.probedB && r.st != .whole
    runCount := 0, sideOk := r.st == .whole && r.brk == 0 }

/-- A ring whose end at a leaf falls silent with it (R224). `n` is NODE_COUNT. -/
def Ring.fenceEnd (r : Ring) (l : Leaf) (n : Nat) : Ring :=
  match r.st with
  | .whole => match l with
    | .a => r.silenced 0 1
    | .b => r.silenced n (n + 1)
  | .broken _ => match l with
    | .a => r.silenced 0 r.bFirst
    | .b => r.silenced r.aLast (n + 1)
  | _ => r

/-- A ring record. -/
def State.ring (s : State) (r : Nat) : Ring := kget {} s.ch.rings r
/-- A ring record replaced. -/
def State.setRing (s : State) (r : Nat) (x : Ring) : State := { s with ch := { s.ch with rings := kset {} s.ch.rings r x } }
/-- A ring record changed. -/
def State.modRing (s : State) (r : Nat) (f : Ring → Ring) : State := s.setRing r (f (s.ring r))

/-- A node of a WHOLE ring is within the reach of the surviving end, which hears it when it asks again (R224, R265). -/
def Node.fenceSee (n : Node) : Leaf → Node
  | .a => { n with seenB := true }
  | .b => { n with seenA := true }

/-- The nodes of a ring that is WHOLE when an end of it falls silent stay within the reach of the other end (R224). -/
def State.fenceNodes (s : State) (l : Leaf) (r : Nat) : State :=
  match (s.ring r).st with
  | .whole => { s with ch := { s.ch with nodes := s.ch.nodes.map (fun e => if e.1 / 64 = r then (e.1, e.2.fenceSee l) else e) } }
  | _ => s

/-- Every ring loses its end at a leaf. -/
def State.fenceRings (s : State) (l : Leaf) : State :=
  s.cfg.rings.foldl (fun (s : State) r => (s.fenceNodes l r).modRing r (fun x => x.fenceEnd l (s.cfg.nodeCount r))) s

/-- Each session continues from the next block of 4,096 transmit counters (R551). -/
def State.nextBlocks (s : State) : State :=
  (s.links.sess.map (·.1)).foldl (fun (s : State) k =>
    s.modSess k (fun x => if x.st = 3 then { x with tx := x.txReserved, txReserved := x.txReserved + 4096 } else x)) s

/-- The device enters SAFE: only the AON domain runs, and no sleep goes on (R725, R726). -/
def State.enterSafe (s : State) : State :=
  if s.aon.dev = .safe ∨ s.aon.dev = .off then s
  else
    let s := s.closeAll Cc.safe
    let s := s.pickDisarm 8
    let s := { s with aon := { s.aon with dev := .safe }, kn := { s.kn with active := none }
                      power := { s.power with kaPath := 0xFF }, sw := { s.sw with phase := .idle }
                      sleep := { s.sleep with st := 0, wakePend := 0 } }
    (s.holdSet 4).canFollow

/-- What the other leaf becomes when the ACTIVE leaf is lost: a leaf that runs, or that took a state copy (R544),
serves; a leaf in a rejoin goes back to FENCED (R558). -/
def State.survivor (s : State) (l : Leaf) : State :=
  let o := s.leaf l.other
  if o.st = .resyncing ∧ o.rejoin = 0 then
    (s.setLeaf l.other { o with st := .running, rq := true } : State) |> fun s => { s with kn := { s.kn with unsynced := true } }
  else if o.st = .rejoining ∨ o.st = .resyncing then s.setLeaf l.other { o with st := .fenced, rejoin := 0 }
  else s

/-- The surviving leaf takes over every duty (R548). The last heartbeat lies at most 50 µs back and the interruption is at
most 400 µs; within these bounds both are free. DESIGN CHOICE, log 21. -/
def State.failover (s : State) (l : Leaf) : State :=
  let s := s.survivor l
  if s.running l.other then
    let tl := s.devTime - min 50000 (Config.freeNat s.free)
    let us := min 400 (Config.freeNat (s.free + 1))
    let s := s.draw.draw
    let s := { s with kn := { s.kn with active := some l.other, failovers := satAdd 16 s.kn.failovers 1, lastFailover := tl, lastInterrupt := us
                                        roleDiffers := s.cfg.roleActive != l.other }
                      power := { s.power with kaPath := l.other.num } }
    s.nextBlocks.fifosOver.canFollow.evA Ev.failover l.other.num [p2 us]
  else s

/-- What a fence puts an end to in the Knuckle: a comparison, a copy, a handover or a self-test in progress. DEDUCED, log 20. -/
def State.knuckleCancel (s : State) : State :=
  let k := s.kn
  let s := s.answerOpt k.handover St.denied []
  let s := s.answerOpt k.selftest St.denied [byteOf k.kat]
  { s with kn := { s.kn with arb := 0, differ := false, handover := none, handoverAsked := false, rolling := 0, selftest := none, selftestWait := false } }

/-- A rejoin fails at a step: the leaf is FENCED again with its old cause. A leaf that a rolling restart reset has none, and
takes the cause of the step. DEDUCED, log 19. -/
def State.rejoinFail (s : State) (l : Leaf) : State :=
  let x := s.leaf l
  let old := if x.cause ≠ 0 then x.cause else if x.rejoin = 3 then Fc.image else if x.rejoin = 4 then Fc.kat else Fc.start
  let s := s.setLeaf l { x with st := .fenced, cause := old, rejoin := 0, fenceTime := if x.cause ≠ 0 then x.fenceTime else s.devTime }
  ({ s with kn := { s.kn with rolling := 0 } } : State).evAon Ev.leafRejoinFailed l.num [p1 x.rejoin]

/-- A snapshot in progress or owed in a leaf is interrupted (R348): its buffer stays WRITING. -/
def State.snapCut (s : State) (l : Leaf) : State :=
  s.modLeaf l (fun x => { x with snapGo := false, snapIdx := 0, snapOwed := false, snapHeld := false })

/-- The AON fences a leaf (R546, R547): FENCE_CAUSE keeps the first cause; the leaf's outputs fall silent; a failover, or
SAFE, follows. DEDUCED, log 30. DESIGN CHOICE, log 37. -/
def State.fence (s : State) (l : Leaf) (cause : Nat) : State :=
  if s.fencedL l then s
  else if s.fenceLine l then s.rejoinFail l
  else
    let wasActive := s.kn.active == some l
    let s := s.modLeaf l (fun x => { x with
      st := .fenced, cause := if x.cause = 0 then cause else x.cause, fenceTime := s.devTime, rejoin := 0
      rq := false, dbReq := false, mramQ := [], log := { x.log with queue := [] } })
    let s := s.snapCut l
    let s := s.evAon Ev.leafFenced l.num [p1 (s.leaf l).cause, p4 s.sw.num]
    let s := s.fenceRings l
    let s := if wasActive then s.failover l else s
    let s := s.knuckleCancel
    let s := s.stageAbandon 4
    let s := if s.cfg.dual then s.applyAbandon (Config.caseCode Ev.imageApplyAbandoned 1) else s
    let s := s.pickDisarm 5
    if !s.running l.other then
      let o := s.leaf l.other
      let s := if o.st = .rejoining ∨ o.st = .resyncing then s.setLeaf l.other { o with st := .fenced, rejoin := 0 } else s
      s.enterSafe
    else s.canFollow

end Sys2Proof.Machine
end

