-- ==== Sys2Proof/Machine/Mram.lean ====
section
/-!
DEFINITION. What each leaf's MRAM holds beside slots, log and snapshots (R25, R26, R325, R430, R484, R197), and the write
queue before it (R420, R553).
-/
namespace Sys2Proof.Machine

/-- A unit is written whole into a leaf's memory (R25). -/
def Mram.write (m : Mram) : MUnit → Mram
  | .learn c e => { m with learn := kset {} m.learn c e }
  | .opens i r => { m with opens := kset {} m.opens i r }
  | .latched t => { m with latched := t }
  | .segs r x => { m with segs := kset {} m.segs r x }

/-- A learning-store entry as a leaf reads it: from its write queue, else from memory (R325). -/
def LeafRec.learnOf (x : LeafRec) (c : Nat) : Learn :=
  match x.mramQ.reverse.findSome? (fun u => match u with | .learn k e => if k = c then some e else none | _ => none) with
  | some e => e
  | none => kget {} x.mram.learn c

/-- The entry of a cell is what a leaf reads again; its bits stay but for LEARN_VALID and RX_ACTIVE where a write was dropped (R553). -/
def State.learnBack (s : State) (l : Leaf) (c : Nat) (lost : Bool) : State :=
  let e := (s.leaf l).learnOf c
  { s with est := { s.est with learn := kmod {} s.est.learn c (fun x =>
      { e with valid := x.valid && !lost, gap := x.gap, rx := x.rx && !lost }) } }

/-- A leaf that runs alone drops a write that does not fit (R553). -/
def State.dropUnit (s : State) (l : Leaf) (u : MUnit) : State :=
  match u with
  | .learn c _ => (s.learnBack l c true).evA Ev.mramQueueOverflow l.num [p2 c]
  | _ => s.evA Ev.mramQueueOverflow l.num [p2 0xFFFF]

/-- Units that meet a leaf's refusal of writes are counted (R420). -/
def State.refuseUnits (s : State) (l : Leaf) (n : Nat) : State :=
  let x := s.leaf l
  if x.writeOk ∨ n = 0 then s
  else
    { s with th := { s.th with refusals := satAdd 16 s.th.refusals n } }

/-- A unit enters the write queue of every running leaf; 512 units fit. DEDUCED, log 94. -/
def State.mramPut (s : State) (u : MUnit) : State :=
  let full := fun (s : State) (l : Leaf) => s.running l && decide ((s.leaf l).mramQ.length ≥ 512)
  let s := if s.bothRun then
      if full s .a ∧ full s .b then s.fence s.act.other Fc.queue
      else if full s .a then s.fence .a Fc.queue else if full s .b then s.fence .b Fc.queue else s
    else s
  s.each [Leaf.a, Leaf.b] (fun l s =>
    if !s.running l then s
    else if full s l then s.dropUnit l u
    else (s.modLeaf l (fun x => { x with mramQ := x.mramQ ++ [u] })).refuseUnits l 1)

/-- The memory that a start reads what the device keeps from: of the supplied leaves the one that has counted more starts, Leaf A on
a tie. DESIGN CHOICE, log 106. -/
def State.mramSrc (s : State) (supA supB : Bool) : Mram :=
  if supA && supB || !supA && !supB then (if s.la.mram.starts < s.lb.mram.starts then s.lb.mram else s.la.mram)
  else if supA then s.la.mram else s.lb.mram

end Sys2Proof.Machine
end

