-- ==== Sys2Proof/Machine/PickCore.lean ====
section
/-!
DEFINITION. How Pick judges a frame (R709, R710, R715, R716, R718): the rules in order, their windows and LFSRs, and the
frames they hold.
-/
namespace Sys2Proof.Machine

/-- A field of a rule as armed (R712). -/
def PickRule.fld (r : PickRule) (off w : Nat) : Nat := leAt r.raw off w

/-- What Pick does to a frame. -/
inductive PickAct where
  /-- Unaltered. -/
  | pass
  | drop
  /-- The mask at the byte offset, CRC left as it was. -/
  | corrupt (off mask : Nat)
  /-- The mask at the byte offset, CRC right. -/
  | silent (off mask : Nat)
  /-- Held: frames of the path to wait for, instant of release at the latest. -/
  | hold (rule after due : Nat)
  | dup
  deriving DecidableEq, Repr

/-- A frame as the rules see it: target, END, DIR, the bit of KIND_MASK, POSITION, SEQ or counter with its width. -/
structure PickSeen where
  target : Nat
  e : Nat := 0
  dir : Nat := 1
  kindBit : Nat
  kind : Nat
  pos : Nat := 0
  seqW : Nat := 1
  seq : Nat := 0
  deriving DecidableEq, Repr

/-- The path whose held frames count together (R716): a port direction, the Ward receive path, a CAN direction. -/
def PickSeen.path (f : PickSeen) : Nat := if f.target < 16 then 4 * f.target + 2 * f.e + f.dir else 62 + 2 * (f.target - 15) + f.dir

/-- Whether a frame passes a rule's filters inside its window; times count from the arming instant. -/
def PickRule.passes (r : PickRule) (f : PickSeen) (elapsed : Nat) : Bool :=
  r.fld 0 1 == f.target && (r.fld 1 1 &&& 2 != 0) == (f.dir == 1) && (f.target ≥ 16 || r.fld 1 1 &&& 1 == f.e) &&
  bit (r.fld 4 2) f.kindBit && (r.fld 6 1 == 0 || r.fld 6 1 == f.pos) &&
  decide (r.fld 0x14 2 * 100000000 ≤ elapsed) && (r.fld 0x16 2 == 0 || decide (elapsed < r.fld 0x16 2 * 100000000))

/-- One step of the LFSR (R715). -/
def lfsrStep (x : Nat) : Nat := if x % 2 = 1 then (x / 2) ^^^ 0x80200003 else x / 2

/-- A rule meets a frame that passed its filters (R715): whether it acts, and the rule after it. -/
def PickRule.meet (r : PickRule) (now : Nat) : Bool × PickRule :=
  let r := { r with matched := satAdd 32 r.matched 1 }
  if r.matched < r.fld 8 2 ∨ (r.fld 0xA 2 ≠ 0 ∧ r.acted = r.fld 0xA 2) then (false, r)
  else if r.fld 0xC 2 ≠ 0 then
    let x := lfsrStep r.lfsr
    let r := { r with lfsr := x }
    if x % 65536 ≥ r.fld 0xC 2 then (false, r) else (true, { r with acted := r.acted + 1, lastAct := now })
  else (true, { r with acted := r.acted + 1, lastAct := now })

/-- The action of a rule that acts (R710). -/
def PickRule.action (r : PickRule) (k now : Nat) : PickAct :=
  let p := r.fld 0x18 4
  match r.fld 2 1 with
  | 0 => .drop
  | 1 => .corrupt (p % 65536) (p / 65536 % 256)
  | 2 => .silent (p % 65536) (p / 65536 % 256)
  | 3 => .hold k p (now + 100000000)
  | 4 => .hold k 0 (now + p * 1000)
  | _ => .dup

/-- The rules in ascending order; the first that acts is the only one that does. -/
def pickRules (f : PickSeen) (elapsed now time held : Nat) : Nat → List PickRule → List PickRule × Option (Nat × PickRule)
  | _, [] => ([], none)
  | k, r :: rest =>
    if !r.passes f elapsed then
      let x := pickRules f elapsed now time held (k + 1) rest
      (r :: x.1, x.2)
    else
      let m := r.meet time
      if m.1 then
        if (r.fld 2 1 = 3 ∨ r.fld 2 1 = 4) ∧ held ≥ 8 then
          (({ m.2 with acted := r.acted, lastAct := r.lastAct, overflow := satAdd 16 r.overflow 1 } : PickRule) :: rest, none)
        else (m.2 :: rest, some (k, m.2))
      else
        let x := pickRules f elapsed now time held (k + 1) rest
        (m.2 :: x.1, x.2)

/-- Later frames of the same path bring held ones nearer to release (R710 REORDER). -/
def PickHeld.later (h : PickHeld) (path now : Nat) : PickHeld :=
  if h.path = path ∧ h.after > 0 then (if h.after = 1 then { h with after := 0, due := now } else { h with after := h.after - 1 }) else h

/-- Pick judges a frame; PICK_INJECT records an action (R718). -/
def State.pickJudge (s : State) (f : PickSeen) : State × PickAct :=
  if !s.pick.armed || (s.pick.bypass && f.dir == 1) then (s, .pass)
  else
    let held := (s.pick.held.filter (fun (h : PickHeld) => h.path == f.path)).length
    let x := pickRules f (s.time.now - s.pick.armNow) s.time.now s.devTime held 0 s.pick.rules
    let s := { s with pick := { s.pick with rules := x.1, held := s.pick.held.map (fun (h : PickHeld) => h.later f.path s.time.now) } }
    match x.2 with
    | none => (s, .pass)
    | some (k, r) =>
      let s := { s with pick := { s.pick with injections := satAdd 32 s.pick.injections 1 } }
      let s := State.raiseN 18 Ev.pickInject srcD s.act.num true
        [p2 k, p1 f.target, p1 (r.fld 2 1), p1 f.kind, p1 f.pos, (f.seqW, f.seq), p4 r.acted] s
      (s, r.action k s.time.now)

/-- A frame goes into Pick's hands. DEDUCED, log 90. -/
def State.pickHold (s : State) (h : PickHeld) : State := { s with pick := { s.pick with held := s.pick.held ++ [h] } }

/-- Held sent frames whose release has come leave. -/
def State.pickRelease (s : State) : State :=
  let go := fun (h : PickHeld) => h.tx.isSome && h.after == 0 && decide (h.due ≤ s.time.now)
  let s1 := s.release ((s.pick.held.filter go).filterMap (·.tx))
  { s1 with pick := { s1.pick with held := s1.pick.held.filter (fun h => !go h) } }

/-- A byte string with one byte masked. -/
def maskAt (p : List Byte) (off mask : Nat) : List Byte := p.mapIdx (fun i b => if i = off then b ^^^ byteOf mask else b)

end Sys2Proof.Machine
end

