-- ==== Sys2Proof/Machine/RingOps.lean ====
section
/-!
DEFINITION. Frames and requests on the rings (R155 to R177, R203 to R208), enumeration, the identity check and quarantine
(R179 to R188), ring states and the split (R222 to R229).
-/
namespace Sys2Proof.Machine

/-! ### Records -/

/-- A node record. -/
def State.node (s : State) (r p : Nat) : Node := kget {} s.ch.nodes (srcN r p)
/-- A node record replaced. -/
def State.setNode (s : State) (r p : Nat) (x : Node) : State := { s with ch := { s.ch with nodes := kset {} s.ch.nodes (srcN r p) x } }
/-- A node record changed. -/
def State.modNode (s : State) (r p : Nat) (f : Node → Node) : State := s.setNode r p (f (s.node r p))
/-- The index of a master port's view of a position. -/
def portKey (r : Nat) (e : Leaf) (p : Nat) : Nat := 128 * r + 64 * e.num + p - 1
/-- A position as one master port sees it. -/
def State.port (s : State) (r : Nat) (e : Leaf) (p : Nat) : PortPos := kget {} s.ch.ports (portKey r e p)
/-- A master port's view of a position replaced. -/
def State.setPort (s : State) (r : Nat) (e : Leaf) (p : Nat) (x : PortPos) : State :=
  { s with ch := { s.ch with ports := kset {} s.ch.ports (portKey r e p) x } }

/-- The positions of a ring. -/
def Cfg.positions (c : Cfg) (r : Nat) : List Nat := (upto (c.nodeCount r)).map (· + 1)
/-- Every configured position. -/
def Cfg.allNodes (c : Cfg) : List (Nat × Nat) := (c.rings.map (fun r => (c.positions r).map (fun p => (r, p)))).flatten
/-- The string node of a string, if its actuation or its current uses one (R113). -/
def Cfg.strNode (c : Cfg) (i : Nat) : Option (Nat × Nat) := if usesNode c i then some (c.strFld i 9, c.strFld i 10) else none
/-- The string whose string node stands at a position. -/
def Cfg.stringAt (c : Cfg) (r p : Nat) : Option Nat := c.strings.find? (fun i => c.strNode i == some (r, p))
/-- Whether a ring carries a cell or the string node of a string. -/
def Cfg.ringOfString (c : Cfg) (r i : Nat) : Bool :=
  (c.stringCells i).any (fun k => (c.cell k).ring == r) || (match c.strNode i with | some x => x.1 == r | none => false)
/-- The strings a ring carries. -/
def Cfg.ringStrings (c : Cfg) (r : Nat) : List Nat := c.strings.filter (c.ringOfString r)

/-- Whether a leaf's port on a ring works. -/
def State.portOn (s : State) (e : Leaf) : Bool := s.alive e
/-- Whether a position is served from the A end, the B end or neither (R222), in this sweep's split. -/
def Ring.serves (r : Ring) (p : Nat) : Option Leaf := if p ≤ r.spA then some .a else if r.spB ≤ p then some .b else none
/-- The same in the split that the next sweep takes, which serves before the first sweep (R226). -/
def Ring.servesNext (r : Ring) (p : Nat) : Option Leaf := if p ≤ r.nxA then some .a else if r.nxB ≤ p then some .b else none
/-- The end that a request to a position goes from: its serving end, or any end that reaches it (R649). -/
def State.reqEnd (s : State) (r p : Nat) : Leaf :=
  let w := if s.sw.started then (s.ring r).serves p else (s.ring r).servesNext p
  match w with
  | some e => if s.portOn e then e else e.other
  | none => if s.portOn .a && ((s.node r p).seenA || (s.node r p).prevA) then .a else if s.portOn .b then .b else .a

/-! ### Frames -/

/-- A frame leaves a port of a leaf that is not fenced, through Pick (R27, R709), in the class order of R208 among what is
ready at the same instant. DEDUCED, log 90. -/
def State.sendFrame (s : State) (r : Nat) (e : Leaf) (cls dest kind seq : Nat) (payload : List Byte) : State :=
  if !s.portOn e then s
  else
    let x := s.pickJudge { target := r, e := e.num, dir := 0, kindBit := kind, kind := kind, pos := if dest ≤ 64 then dest else 0, seq := seq }
    let s := x.1
    let line := frameBytes dest 0 kind seq payload
    let put := fun (s : State) (p : List Byte) (crc : Nat) (picked : Bool) =>
      s.emitFrame (.frame r e cls s.time.now (p ++ toLe 4 crc)) |>.asPick picked (fun s =>
        let s := s.traceFrame r e 0 0 p
        if kind = 7 then s.produce 5 6 (fun _ => true) ([byteOf r, byteOf dest, 0, 0] ++ p.drop 8) else s)
    let s := match x.2 with
      | .pass => put s line (crc32 line) false
      | .drop => s
      | .corrupt off m => put s (maskAt line off m) (crc32 line) true
      | .silent off m => put s (maskAt line off m) (crc32 (maskAt line off m)) true
      | .hold k n due =>
        s.pickHold { rule := k, path := 4 * r + 2 * e.num, tx := some (.frame r e cls s.time.now (line ++ toLe 4 (crc32 line))), after := n, due := due }
      | .dup => put (put s line (crc32 line) true) line (crc32 line) true
    s.pickRelease

/-- The payload of CFG_WR (R168). -/
def cfgWrP (reg : Nat) (data : List Byte) : List Byte := toLe 2 reg ++ toLe 2 data.length ++ data
/-- The payload of CFG_RD. -/
def cfgRdP (reg n : Nat) : List Byte := toLe 2 reg ++ toLe 2 n

/-- A CFG_WR. -/
def reqWr (reg : Nat) (data : List Byte) (p : Purpose) (cls : Nat) : Req :=
  { kind := 3, reg := reg, payload := cfgWrP reg data, purpose := p, cls := cls }
/-- A CFG_RD. -/
def reqRd (reg n : Nat) (p : Purpose) (cls : Nat) (expect : List Byte) : Req :=
  { kind := 4, reg := reg, payload := cfgRdP reg n, purpose := p, cls := cls, expect := expect }
/-- The re-request of a sample (R211). -/
def reqSample : Req := reqRd 0xFF20 64 .sample 2 []

/-! ### Requests -/

/-- A request is placed behind those of its class and above (R208). -/
def insReq (x : Req) : List Req → List Req
  | [] => [x]
  | y :: r => if y.cls ≤ x.cls then y :: insReq x r else x :: y :: r

/-- A request joins a queue; an outstanding one stays in front. -/
def joinReq (x : Req) : List Req → List Req
  | [] => [x]
  | y :: r => if y.sent then y :: insReq x r else insReq x (y :: r)

/-- The answer timeout of R206, ns. -/
def State.answerNs (s : State) : Nat := if s.ch.low then 20000000 else 500000
/-- The retry delay after NACK BUSY. -/
def State.busyNs (s : State) : Nat := if s.ch.low then 2000000 else 100000

/-- The first request of a position is sent under a new SEQ when none is outstanding (R203). -/
def State.pump (s : State) (r : Nat) (e : Leaf) (p : Nat) : State :=
  let x := s.port r e p
  match x.q with
  | [] => s
  | h :: rest =>
    if h.sent then s
    else
      let h := { h with sent := true, seq := x.seqCtr, first := s.time.now, due := s.time.now + s.answerNs }
      (s.setPort r e p { seqCtr := (x.seqCtr + 1) % 256, q := h :: rest }).sendFrame r e h.cls p h.kind h.seq h.payload

/-- What a quarantined node may still be sent (R187): reads of link and calibration registers, host reads. -/
def Req.diag (x : Req) : Bool :=
  x.kind == 4 && (match x.purpose with | .hostR .. => true | .hostWR .. => true | .calSkew => true | .calFwd => true | .reach => true | _ => false)

/-- A quarantined node that no enumeration of R188 has admitted to its configuration. -/
def Node.barred (n : Node) : Bool := n.quar != 0 && !n.trial

/-- A request for a position from an end; a quarantined node is sent diagnostic reads alone (R187). -/
def State.request' (s : State) (r : Nat) (e : Leaf) (p : Nat) (x : Req) : State :=
  if !s.portOn e || (!x.diag && (s.node r p).barred) then s
  else (s.setPort r e p { s.port r e p with q := joinReq x (s.port r e p).q }).pump r e p

/-- The outstanding request of a position is done with; the next is sent. -/
def State.popReq (s : State) (r : Nat) (e : Leaf) (p : Nat) : State :=
  (s.setPort r e p { s.port r e p with q := (s.port r e p).q.drop 1 }).pump r e p

/-- The outstanding request of a position changed. -/
def State.modHead (s : State) (r : Nat) (e : Leaf) (p : Nat) (f : Req → Req) : State :=
  let x := s.port r e p
  match x.q with
  | [] => s
  | h :: rest => s.setPort r e p { x with q := f h :: rest }

/-- The outstanding request of a position. -/
def State.head (s : State) (r : Nat) (e : Leaf) (p : Nat) : Option Req :=
  match (s.port r e p).q with
  | h :: _ => if h.sent then some h else none
  | [] => none

/-- A request is sent again with its SEQ (R207). -/
def State.resend (s : State) (r : Nat) (e : Leaf) (p : Nat) (h : Req) : State :=
  let s := s.modHead r e p (fun h => { h with retries := h.retries + 1, busy := false, due := s.time.now + s.answerNs })
  let s := s.modRing r (fun x => { x with retries := satAdd 32 x.retries 1 })
  s.sendFrame r e h.cls p h.kind h.seq h.payload

/-- Every request of a position is forgotten at both ends but those a predicate keeps. -/
def State.dropReqs (s : State) (r p : Nat) (keep : Req → Bool) : State :=
  [Leaf.a, Leaf.b].foldl (fun (s : State) e => s.setPort r e p { s.port r e p with q := (s.port r e p).q.filter keep }) s

/-! ### Quarantine -/

/-- A node is quarantined and logged (R187, R201). While the count of its ring is wrong, COUNT stays its reason (R181). -/
def State.quarantine (s : State) (r p reason uid cls reg : Nat) : State :=
  let n := s.node r p
  if (n.quar = reason ∧ !n.trial) ∨ (n.quar = 0x0A ∧ (s.ring r).countBad) then s
  else
    let s := s.setNode r p { n with quar := reason, trial := false, cfg := 0, plan := [], planKind := 0, servePend := false }
    let gone := [Leaf.a, Leaf.b].flatMap (fun e => (s.port r e p).q.filter (fun q => !q.diag))
    let s := s.dropReqs r p Req.diag
    let s := s.each gone (fun q s => match q.purpose with
      | .hostW k tag => s.answer k tag St.denied []
      | .pass k tag => s.answer k tag St.denied []
      | _ => s)
    s.ev Ev.nodeQuarantined (srcN r p) ([p1 reason, p8 uid, p1 cls] ++ (if reason = 9 then [p2 reg] else []))

/-- RING_COUNT_MISMATCH, once in each enumeration: every node of the ring is quarantined with reason COUNT (R181). -/
def State.countMismatch (s : State) (r : Nat) : State :=
  let x := s.ring r
  if x.countBad ∧ x.cntDone then s
  else
    let s := (s.setRing r { x with countBad := true, cntDone := true }).ev Ev.ringCountMismatch r
      [p1 (s.cfg.nodeCount r), p1 x.hopAtA, p1 x.hopAtB]
    s.each (s.cfg.positions r) (fun p s => s.quarantine r p 0x0A (s.node r p).uid (s.node r p).cls 0)

/-- Capability bits a node must declare (R184); bits 31:11 are ignored (R183). -/
def Cfg.capsNeeded (c : Cfg) (r p : Nat) : Nat :=
  let cls := c.nodeFld r p 0
  let strs := c.strings.filter (fun i => c.strNode i == some (r, p))
  (c.nodeFld r p 4 &&& 0x7FF) |||
  (if cls = 0 then 0b11 else if cls = 1 then
     0b10 ||| (if strs.any (fun i => !isDirect c i) then 0b11000000 else 0) ||| (if strs.any (fun i => c.strFld i 1 != 0) then 0b100000 else 0)
   else if cls = 2 then 0x202 else 0)

/-- The highest image V_OV_TRIP that applies to a present cell of a node (R185); V_OV_TRIP stands at offset 2 of PROTECTION. -/
def Cfg.ovTripOfNode (c : Cfg) (r p : Nat) : Nat :=
  ((c.nodeCells r p).map (fun k => ({ c with ov := [] } : Cfg).prot (c.cell k).str 2)).foldl max 0

/-- The identity check of R185: 0 when it passes, else the reason. -/
def State.identity (s : State) (r p : Nat) (f : EnumRsp) : Nat :=
  let c := s.cfg
  if f.cls ≠ c.nodeFld r p 0 then 1
  else if f.version ≠ 1 then 2
  else if f.uid = 0 ∨ (c.nodeFld r p 8 ≠ 0 ∧ c.nodeFld r p 8 ≠ f.uid) then 3
  else if s.ch.nodes.any (fun e => e.1 != srcN r p && e.2.known && e.2.uid == f.uid) then 4
  else if f.cells < c.nodeFld r p 1 then 5
  else if f.ntcs < c.nodeFld r p 2 then 6
  else if c.capsNeeded r p &&& f.caps ≠ c.capsNeeded r p then 7
  else if f.cls = 0 ∧ f.vFull ≤ c.ovTripOfNode r p ∧ !(c.nodeCells r p).isEmpty then 8
  else 0

/-- The check of an ENUM_RSP with its consequence; a duplicate UID quarantines both nodes (R185, R187). -/
def State.checkNode (s : State) (r p : Nat) (f : EnumRsp) : State :=
  let w := s.identity r p f
  if w = 0 then s
  else
    let s := s.quarantine r p w f.uid f.cls 0
    if w = 4 then
      match s.ch.nodes.find? (fun e => e.1 != srcN r p && e.2.known && e.2.uid == f.uid) with
      | some (k, n) => s.quarantine (k / 64) (k % 64 + 1) 4 n.uid n.cls 0
      | none => s
    else s

/-! ### ENUM (R179, R203) -/

/-- ENUM leaves an end: every SEQ counter of the port restarts at 1, its answer window opens. R203 gives a SEQ to requests to
a position alone: ENUM carries 0. DESIGN CHOICE, log 108. -/
def State.sendEnum (s : State) (r : Nat) (e : Leaf) : State :=
  if !s.portOn e then s
  else
    let s := s.each (s.cfg.positions r) (fun p s =>
      let s := s.setPort r e p { s.port r e p with seqCtr := 1 }
      s.modNode r p (fun n => match e with | .a => { n with ansA := none } | .b => { n with ansB := none }))
    let s := s.modRing r (fun x => match e with
      | .a => { x with enumA := s.time.now, openA := true, hopRetB := none, probedA := true }
      | .b => { x with enumB := s.time.now, openB := true, hopRetA := none, probedB := true })
    s.sendFrame r e 8 0xFFFF 1 0 [0, byteOf e.num, byteOf (s.cfg.nodeCount r), 0]

/-- The answers of an enumeration or of a probe that has ended are not those of the next one (R180, R181). -/
def State.enumClear (s : State) (r : Nat) : State :=
  let x := s.ring r
  if x.openA ∨ x.openB ∨ x.bPend then s
  else
    (s.each (s.cfg.positions r) (fun p s => s.modNode r p (fun n => { n with ansA := none, ansB := none })))
      |>.modRing r (fun x => { x with hopRetA := none, hopRetB := none, srcBad := false, cntDone := false })

/-- A full enumeration begins (R179): Leaf A's end first, then Leaf B's; a single leaf enumerates from its own end. -/
def State.enumerate (s : State) (r kind : Nat) : State :=
  let s := (s.enumClear r).modRing r (fun x => { x with enumKind := kind })
  if s.portOn .a then (s.modRing r (fun x => { x with bPend := s.portOn .b })).sendEnum r .a else s.sendEnum r .b

/-! ### Reachability, states and the split -/

/-- Whether a good frame of a node arrived at an end in this sweep or the one before (R222). -/
def Node.reach (n : Node) : Leaf → Bool
  | .a => n.seenA || n.prevA
  | .b => n.seenB || n.prevB

/-- A good frame of a node arrives at an end. -/
def Node.see (n : Node) : Leaf → Node
  | .a => { n with seenA := true }
  | .b => { n with seenB := true }

/-- The highest position with a property, 0 when none has it. -/
def topPos (l : List Nat) (f : Nat → Bool) : Nat := ((l.filter f).reverse.head?).getD 0
/-- The lowest position above another with a property, `n + 1` when none has it. -/
def lowPos (l : List Nat) (above n : Nat) (f : Nat → Bool) : Nat := ((l.filter (fun p => decide (above < p) && f p)).head?).getD (n + 1)

/-- Whether a node lies within the reach of the determination in force (R222). -/
def State.reachable (s : State) (r p : Nat) : Bool :=
  let x := s.ring r
  match x.st with
  | .whole => true
  | .broken _ => decide (p ≤ x.aLast) || decide (x.bFirst ≤ p)
  | _ => false

/-! ### Configuration (R199, R245) -/

/-- The configuration records of a node (R110), by fuel. -/
def cfgRecs (p : List Byte) : Nat → Nat → Nat → List (Nat × List Byte)
  | 0, _, _ => []
  | k + 1, off, stop =>
    if off + 4 > stop then []
    else
      let n := leAt p (off + 2) 2
      (leAt p off 2, bytesAt p (off + 4) n) :: cfgRecs p k (off + 4 + (n + 3) / 4 * 4) stop

/-- The records of the entry of a position. -/
def Cfg.nodeRecs (c : Cfg) (r p : Nat) : List (Nat × List Byte) :=
  cfgRecs (c.img.payload Ty.nodeList r) 1024 (c.nodeFld r p 0x14) (c.nodeFld r p 0x14 + c.nodeFld r p 0x18)

/-- The transfer-current ceiling of a node, 10 mA (R186). -/
def State.iCeil (s : State) (r p : Nat) : Nat :=
  match s.cfg.rawAt Ty.nodeList r (32 * (p - 1) + 0x12) with
  | some v => min (s.node r p).balIMax v.toNat
  | none => (s.node r p).balIMax

/-- QUIET_POST, and for a node that balances BAL_I_CEIL and DIST_LIMIT (R245, R379). -/
def State.quietWrites (s : State) (r p : Nat) : List (Nat × List Byte) :=
  (0xFD00, toLe 2 (s.cfg.n Ty.device 0 0x44)) ::
  (if bit (s.node r p).caps 2 ∧ s.iCeil r p > 0 then [(0xFC00, toLe 2 (s.iCeil r p)), (0xFC02, toLe 2 (s.cfg.bal 10).toNat)] else [])

/-- What is written together with the offsets, and both offsets (R195, R245, R379). -/
def State.offWrites (s : State) (r p a b : Nat) : List (Nat × List Byte) :=
  s.quietWrites r p ++ [(0xFF04, toLe 4 a), (0xFF08, toLe 4 b)]

/-- The effective period code as a parent tells it to its group nodes (R579): the start sweep's timing is none. -/
def State.effPeriod (s : State) : Nat :=
  if !s.sw.started then s.cfg.n Ty.device 0 0x41 else if s.sw.dt = 0 then s.sw.base else s.sw.period

/-- What follows the offsets (R199): group address, records, PARENT_PERIOD of a group node (R579), SERVE_PORT last. -/
def State.nodeWrites (s : State) (r p serve : Nat) : List (Nat × List Byte) :=
  let c := s.cfg
  let g := c.nodeFld r p 0x1A
  [(0xFF1E, [byteOf (g / 256)]), (0xFF03, [byteOf g])] ++ c.nodeRecs r p ++
  (if c.nodeFld r p 0 = 2 then [(0xFB02, [byteOf s.effPeriod])] else []) ++ [(0xFF01, [byteOf serve])]

/-- The next write of a node's plan goes out from the end that serves it. -/
def State.planNext (s : State) (r p : Nat) : State :=
  match (s.node r p).plan with
  | [] => s
  | (reg, d) :: _ => s.request' r (s.reqEnd r p) p (reqWr reg d .cfgW 6)

/-- A node gets a plan. A plan in progress is replaced. -/
def State.startPlan (s : State) (r p kind : Nat) (plan : List (Nat × List Byte)) : State :=
  let n := s.node r p
  if n.barred ∨ plan.isEmpty then s
  else
    let s := s.dropReqs r p (fun x => x.purpose != .cfgW && x.purpose != .cfgR || x.sent)
    let busy := [Leaf.a, Leaf.b].any (fun e => (s.port r e p).q.any (fun x => x.purpose == .cfgW || x.purpose == .cfgR))
    let s := s.setNode r p { n with plan := plan, planKind := kind, cfg := if kind = 3 then n.cfg else 1 }
    if busy then s else s.planNext r p

/-- The end number a position's SERVE_PORT takes in the split to come. -/
def Ring.serveWant (r : Ring) (p : Nat) : Nat := if p ≤ r.nxA then 0 else 1

end Sys2Proof.Machine
end

