-- ==== Sys2Proof/Machine/SleepOps.lean ====
section
/-!
DEFINITION. Waking from SLEEP (R700, R703 to R705), shared by every wake source.
-/
namespace Sys2Proof.Machine

/-- A RATE ordered set on both ends of every configured ring that works (R154). -/
def State.sendRate (s : State) (code : Nat) : State :=
  s.each s.cfg.rings (fun r s => s.each [Leaf.a, Leaf.b] (fun e s => if s.portOn e then s.emit (.rate r e code (crc8 [code])) else s))

/-- The first boundary of the sweep grid at or after an instant (R231, R703). DESIGN CHOICE, log 86. -/
def gridAfter (ts period t : Nat) : Nat := if t ≤ ts then ts else ts + ceilDiv (t - ts) period * period

/-- Both Ethernet ports leave or enter low-power idle where NETWORK says so (R595). -/
def State.setLpi (s : State) (on : Bool) : State :=
  let on := on && bit (s.cfg.n Ty.network 0 1) 1
  { s with links := { s.links with eth0 := { s.links.eth0 with lpi := on && s.alive .a }, eth1 := { s.links.eth1 with lpi := on && s.alive .b } } }

/-- A wake source arises (R700). Asleep, the device reaches RUN, or HALT with the thermal latch set (R725); while the
entry runs it is kept until the entry is complete. The time from source to RUN is free within 180 µs. DESIGN CHOICE, log 86. -/
def State.wake (s : State) (bits : Nat) : State :=
  if s.sleep.st = 1 then { s with sleep := { s.sleep with wakePend := s.sleep.wakePend ||| bits } }
  else if s.sleep.st ≠ 2 then s
  else
    let z := s.sleep
    let secs := (s.time.now - z.entryNow) / 1000000000
    let lat := min 180 (Config.freeNat s.free)
    let p := periodNs s.sw.period
    let s := s.draw
    let s := { s with
      sleep := { z with st := 0, wakeCause := bits, wakeTime := s.devTime, total := satAdd 32 z.total secs, latency := lat, wakePend := 0
                        fresh := true, ret := bits != 0 && (bits &&& 0b1100) == bits, idle := 0, refused := false, want := 0 }
      aon := { s.aon with dev := if s.aon.thermal then .halt else .run }
      links := { s.links with sess := s.links.sess.map (fun (e : Nat × Sess) => (e.1, { e.2 with lastAuth := e.2.lastAuth + (s.time.now - z.entryNow) })) }
      sw := { s.sw with next := gridAfter z.gridTs p (s.time.now + 1000000), phase := .idle }
      ch := { s.ch with low := false } }
    let s := if s.aon.thermal then s.holdSet 3 else s
    ((s.sendRate 0).setLpi false).canFollow.evAon Ev.sleepWoke srcD [p2 bits, p4 secs]

/-- A wake source that needs its bit in WAKE_SOURCES (R134, R700). -/
def State.wakeIf (s : State) (k : Nat) : State := if bit (s.cfg.n Ty.sleep 0 0x0C) k then s.wake (2 ^ k) else s

end Sys2Proof.Machine
end

