-- ==== Sys2Proof/Machine/Calib.lean ====
section
/-!
DEFINITION. Delay calibration (R189 to R198, R246) and what follows it: the configuration of a ring's nodes (R199, R220).
-/
namespace Sys2Proof.Machine

/-- What a position contributes to the calculation: SKEW_SUM, SKEW_COUNT, SYNC_FWD_DELAY. -/
abbrev CalIn := Int × Nat × Nat

/-- Mean skew of a position. -/
def CalIn.skew (x : CalIn) : Int := rndDiv x.1 x.2.1

/-- Arrival from the A end (R193), LSB 0.1 ns, for the one-way time `t`. -/
def CalIn.arrA (t : Int) (x : CalIn) : Int := rndDiv (t - x.2.2 - x.skew) 2
/-- Arrival from the B end. -/
def CalIn.arrB (t : Int) (x : CalIn) : Int := t - x.2.2 - x.arrA t

/-- SAMPLE_OFFSET for an arrival, ns; T_LEAD in µs. -/
def sampleOffset (lead : Nat) (arr : Int) : Int := rndDiv ((lead : Int) * 10000 - arr) 10

/-- Segment delays c[2..N] between adjacent positions. -/
def midSegs : List CalIn → List Int
  | x :: y :: r => rndDiv (x.skew - y.skew - x.2.2 - y.2.2) 2 :: midSegs (y :: r)
  | _ => []

/-- Segment delays c[1..N+1] (R193). -/
def calSegs (t : Int) (l : List CalIn) : List Int :=
  (match l.head? with | some x => [x.arrA t] | none => []) ++ midSegs l ++ (match l.getLast? with | some x => [x.arrB t] | none => [])

/-- The first position at which a round fails R194 or R246; none when it is accepted. -/
def calFails (lead : Nat) (t : Int) (l : List CalIn) : Option Nat :=
  let segs := calSegs t l
  let ok := fun (i : Nat) (x : CalIn) =>
    x.2.1 == 8 && (let c := segs.getD i 0; decide (-50 ≤ c) && decide (c ≤ 20000)) &&
    decide (100000 ≤ sampleOffset lead (x.arrA t)) && decide (100000 ≤ sampleOffset lead (x.arrB t))
  let last := segs.getD l.length 0
  match (l.mapIdx (fun i x => (i, ok i x))).find? (fun y => !y.2) with
  | some y => some (y.1 + 1)
  | none => if -50 ≤ last ∧ last ≤ 20000 then none else some l.length

/-- The registers read from a ring's nodes. -/
def State.calIns (s : State) (r : Nat) : List CalIn :=
  (s.cfg.positions r).map (fun p => let n := s.node r p; (n.skewSum, if n.gotSkew ∧ n.gotFwd then n.skewCnt else 0, n.fwd))

/-- The one-way time of the round: means over the SYNCs received, 0.1 ns; none when an end received none. -/
def Ring.oneWay (x : Ring) : Option Int :=
  if x.calAbN = 0 ∨ x.calBaN = 0 then none else some (rndDiv (rndDiv x.calAb x.calAbN + rndDiv x.calBa x.calBaN) 2)

/-- Whether the stored segment delays apply (R198): the stored UIDs equal the enumerated ones at every reachable position. -/
def State.storedOk (s : State) (r : Nat) : Bool :=
  let x := s.ring r
  x.segs.length == s.cfg.nodeCount r + 1 &&
  (s.cfg.positions r).all (fun p => !s.reachable r p || !(s.node r p).known || x.uids.getD (p - 1) 0 == (s.node r p).uid)

/-- Arrivals at a position from both ends by R198, 0.1 ns, from stored or nominal segments. -/
def State.r198 (s : State) (r p : Nat) (stored : Bool) : Int × Int :=
  let n := s.cfg.nodeCount r
  let seg := fun (k : Nat) => if stored then (s.ring r).segs.getD k 0 else 500
  let fwd := fun (k : Nat) => ((s.node r k).fwd : Int)
  let sum := fun (l : List Int) => l.foldl (· + ·) 0
  (sum ((upto p).map seg) + sum ((upto (p - 1)).map (fun k => fwd (k + 1))),
   sum ((upto (n + 1 - p)).map (fun k => seg (p + k))) + sum ((upto (n - p)).map (fun k => fwd (p + 1 + k))))

/-- The offsets of R198 for a position. -/
def State.offs198 (s : State) (r p : Nat) (stored : Bool) : Nat × Nat :=
  let a := s.r198 r p stored
  let lead := s.cfg.n Ty.device 0 0x42
  ((sampleOffset lead a.1).toNat, (sampleOffset lead a.2).toNat)

/-- The offsets in force for a position, or those of R198 where none has been written (R220, R228). -/
def State.offsFor (s : State) (r p : Nat) : Nat × Nat :=
  let n := s.node r p
  if n.offA = 0 ∧ n.offB = 0 then s.offs198 r p (s.storedOk r) else (n.offA, n.offB)

/-- A node's whole configuration with given offsets; the offsets stay as they are where none are given (R199). -/
def State.configNode (s : State) (r p kind : Nat) (offs : Option (Nat × Nat)) : State :=
  let w := s.nodeWrites r p ((s.ring r).serveWant p)
  s.startPlan r p kind ((match offs with | some o => s.offWrites r p o.1 o.2 | none => []) ++ w)

/-- Every node that passed R185 and is reachable is configured. -/
def State.configRing (s : State) (r : Nat) (offs : Nat → Option (Nat × Nat)) : State :=
  s.each (s.cfg.positions r) (fun p s =>
    let n := s.node r p
    if n.known ∧ !n.barred ∧ s.reachable r p then s.configNode r p 1 (offs p) else s)

/-- A plan in hand with new offsets behind its head, which has left (R196). -/
def planOffs (offs : List (Nat × List Byte)) : List (Nat × List Byte) → List (Nat × List Byte)
  | [] => offs
  | h :: rest => h :: (offs ++ rest.filter (fun w => w.1 != 0xFF04 && w.1 != 0xFF08))

/-- New offsets of a background round for a node that is configured, or is being configured (R196). -/
def State.newOffs (s : State) (r p : Nat) (o : Nat × Nat) : State :=
  let n := s.node r p
  let far := fun (a b : Nat) => decide (a ≥ b + 2) || decide (b ≥ a + 2)
  let w := [(0xFF04, toLe 4 o.1), (0xFF08, toLe 4 o.2)]
  if n.cfg = 0 ∨ n.barred ∨ !(far o.1 n.offA || far o.2 n.offB) then s
  else if n.plan.isEmpty then s.startPlan r p 3 w
  else s.setNode r p { n with plan := planOffs w n.plan }

/-- An accepted round is recorded (R196, R197). -/
def State.calAccept (s : State) (r : Nat) (t : Int) (segs : List Int) : State :=
  let s := s.modRing r (fun x => { x with
    calState := 1, t := t.toNat, segs := segs, uids := (s.cfg.positions r).map (fun p => (s.node r p).uid)
    calRounds := satAdd 16 x.calRounds 1, calTime := s.devTime })
  (s.mramPut (.segs r { t := (s.ring r).t, segs := segs, uids := (s.ring r).uids })).ev Ev.calDone r [p1 1, p4 t.toNat]

/-- A round that R194 or R246 rejects. -/
def State.calReject (s : State) (r pos : Nat) : State := s.ev Ev.calDegraded r [p1 pos, p1 (s.ring r).calState]

/-- A round's reads are complete: the offsets are computed (R193), accepted or rejected, and written. After a start round that
a break ended, offsets that are programmed stay (R230). DEDUCED, log 101. -/
def State.calFinish (s : State) (r : Nat) : State :=
  let x := s.ring r
  let lead := s.cfg.n Ty.device 0 0x42
  if x.cal = 4 ∨ x.cal = 10 then
    let stored := s.storedOk r
    let s := s.modRing r (fun x => { x with cal := 0, calState := if stored then 2 else 3 })
    (s.calReject r 0).configRing r (fun p => some (if x.cal = 10 then s.offsFor r p else s.offs198 r p stored))
  else
    let l := s.calIns r
    let s := s.modRing r (fun x => { x with cal := 0 })
    let verdict : Option (Int × List Int) := match x.oneWay with
      | none => none
      | some t => if (calFails lead t l).isSome then none else some (t, calSegs t l)
    let failAt := match x.oneWay with | none => 1 | some t => (calFails lead t l).getD 1
    let offs := fun (t : Int) (p : Nat) =>
      let y := l.getD (p - 1) (0, 0, 0)
      ((sampleOffset lead (y.arrA t)).toNat, (sampleOffset lead (y.arrB t)).toNat)
    match verdict with
    | none => if x.cal = 3 then (s.calReject r failAt).configRing r (fun _ => none) else s.calReject r failAt
    | some (t, segs) =>
      let s := s.calAccept r t segs
      if x.cal = 3 then s.configRing r (fun p => some (offs t p))
      else s.each (s.cfg.positions r) (fun p s => s.newOffs r p (offs t p))

/-- Whether a request of the calibration is outstanding or queued on a ring. -/
def State.calOpen (s : State) (r : Nat) : Bool :=
  (s.cfg.positions r).any (fun p => [Leaf.a, Leaf.b].any (fun e => (s.port r e p).q.any
    (fun x => x.purpose == .calClear || x.purpose == .calSkew || x.purpose == .calFwd)))

/-- The reads of a round go out to every position, or to the reachable ones where only SYNC_FWD_DELAY is needed (R195, R198). -/
def State.calReads (s : State) (r : Nat) : State :=
  let only := (s.ring r).cal == 4 || (s.ring r).cal == 10
  s.each (s.cfg.positions r) (fun p s =>
    if !s.reachable r p ∨ !(s.node r p).known then s
    else
      let s := s.modNode r p (fun n => { n with gotSkew := false, gotFwd := false })
      let e := s.reqEnd r p
      let s := if only then s else s.request' r e p (reqRd 0xFE00 5 .calSkew 6 [])
      s.request' r e p (reqRd 0xFF1C 2 .calFwd 6 []))

/-- The calibration moves on when its requests have all been answered or have failed. -/
def State.calCheck (s : State) (r : Nat) : State :=
  let x := s.ring r
  if s.calOpen r then s
  else if x.cal = 1 then s.modRing r (fun x => { x with cal := 2, calN := 0, calAb := 0, calBa := 0, calAbN := 0, calBaN := 0, calLast := 0 })
  else if x.cal = 5 then s.modRing r (fun x => { x with cal := 6, calN := 0, calAb := 0, calBa := 0, calAbN := 0, calBaN := 0 })
  else if x.cal = 9 then
    let s := (s.modRing r (fun x => { x with cal := 10 })).calReads r
    if s.calOpen r then s else s.calFinish r
  else if x.cal = 3 ∨ x.cal = 4 ∨ x.cal = 7 ∨ x.cal = 10 then s.calFinish r
  else s

/-- SKEW_COUNT of every node that may be written is cleared (R195, R196). `phase` is 1 for a start round, 5 for a
background round. -/
def State.calClear (s : State) (r phase : Nat) : State :=
  let s := s.modRing r (fun x => { x with cal := phase, calFrom := s.time.now })
  let s := s.each (s.cfg.positions r) (fun p s =>
    let n := s.node r p
    if n.known ∧ !n.barred then s.request' r (s.reqEnd r p) p (reqWr 0xFE04 [0] .calClear 6) else s)
  s.calCheck r

/-- Calibration of R195 after an enumeration: a round on a WHOLE ring, R198 otherwise. -/
def State.calBegin (s : State) (r : Nat) : State :=
  if (s.ring r).st = .whole then s.calClear r 1
  else ((s.modRing r (fun x => { x with cal := 4 })).calReads r).calCheck r

end Sys2Proof.Machine
end

