-- ==== Sys2Proof/Machine/RingBreak.lean ====
section
/-!
DEFINITION. How a ring leaves WHOLE, where it is broken, and how its split moves (R211, R222 to R227, R230).
-/
namespace Sys2Proof.Machine

/-- SERVE_PORT is owed to a node whose serving end changes (R226). -/
def State.markServe (s : State) (r : Nat) : State :=
  let x := s.ring r
  s.each (s.cfg.positions r) (fun p s =>
    let want := if p ≤ x.nxA then some 0 else if x.nxB ≤ p then some 1 else none
    s.modNode r p (fun n => if n.cfg ≥ 2 ∧ n.quar = 0 ∧ want.isSome ∧ want ≠ some n.servePort then { n with servePend := true } else n))

/-- A node that a determination of R223 leaves out of an end's reach is not heard there by a frame from before it. -/
def Node.beyond (n : Node) (p aLast bFirst : Nat) : Node :=
  { n with seenA := n.seenA && decide (p ≤ aLast), prevA := n.prevA && decide (p ≤ aLast)
           seenB := n.seenB && decide (bFirst ≤ p), prevB := n.prevB && decide (bFirst ≤ p) }

/-- SERVE_PORT is written to every node that owes it, from its new serving end (R226, R227). -/
def State.serveWrites (s : State) (r : Nat) : State :=
  s.each (s.cfg.positions r) (fun p s =>
    let n := s.node r p
    let e := if (s.ring r).serveWant p = 0 then Leaf.a else Leaf.b
    let busy := [Leaf.a, Leaf.b].any (fun e => (s.port r e p).q.any (fun q => q.purpose == .serveW || q.purpose == .serveR))
    if n.servePend ∧ n.cfg ≥ 2 ∧ n.quar = 0 ∧ s.reachable r p ∧ !busy then
      s.request' r e p (reqWr 0xFF01 [byteOf ((s.ring r).serveWant p)] .serveW 6)
    else s)

/-- The split moves: SPLIT_MOVED, and what SERVE_PORT needs (R226). DEDUCED, log 55. -/
def State.splitMove (s : State) (r : Nat) : State :=
  let x := s.ring r
  let s := if x.nxA = x.mvA ∧ x.nxB = x.mvB then s
    else ((s.setRing r { x with mvA := x.nxA, mvB := x.nxB }).ev Ev.splitMoved r [p1 x.aLast, p1 x.bFirst]).markServe r
  s.serveWrites r

/-- A change that falls between a sweep's collection deadline and the next SYNC moves the split at once (R226). DEDUCED, log 55. -/
def State.splitLate (s : State) (r : Nat) : State :=
  if s.sw.phase = .idle ∨ s.sw.phase = .collecting then s else s.splitMove r

/-- The ring enters BROKEN(j) with the A_LAST and B_FIRST found; the break of R223 is logged when an event began it. A start
round that the break ended is followed by R198 (R230). DEDUCED, log 101. -/
def State.breakRing (s : State) (r aLast bFirst : Nat) : State :=
  let x := s.ring r
  let s := s.each (s.cfg.positions r) (fun p s => s.modNode r p (fun n => n.beyond p aLast bFirst))
  let s := s.setRing r { x.brokenAt aLast bFirst with
    probedA := x.probedA && x.brkEnum, probedB := x.probedB && x.brkEnum
    breaks := if x.brk = 0 then x.breaks else satAdd 16 x.breaks 1, breakTime := if x.brk = 0 then x.breakTime else s.devTime }
  let s := (if x.brk = 0 then s else s.ev Ev.chainBreak r [p1 aLast, p1 bFirst, p1 x.brk]).markServe r
  (s.when ((s.ring r).cal == 9) (fun s => s.calCheck r)).splitLate r

/-- A_LAST and B_FIRST from the answers to ENUMs (R223, R228). -/
def State.fromEnum (s : State) (r : Nat) : Nat × Nat :=
  let n := s.cfg.nodeCount r
  let ps := s.cfg.positions r
  let a := if s.portOn .a then topPos ps (fun p => (s.node r p).ansA.isSome) else 0
  (a, if s.portOn .b then lowPos ps a n (fun p => (s.node r p).ansB.isSome) else n + 1)

/-- A_LAST and B_FIRST from the answers to counting re-requests and the other frames of the sweep (R223); an end that is
fenced has none (R224). -/
def State.fromRereq (s : State) (r : Nat) : Nat × Nat :=
  let n := s.cfg.nodeCount r
  let ps := s.cfg.positions r
  let hearsA := fun (p : Nat) => s.portOn .a && ((s.node r p).reqA || (s.node r p).seenA)
  let rb := ps.filter (fun p => s.portOn .b && (s.node r p).reqB)
  let b := match rb with
    | p :: _ => p
    | [] => lowPos ps (topPos ps hearsA) n (fun p => s.portOn .b && (s.node r p).seenB)
  (topPos ps (fun p => decide (p < b) && hearsA p), b)

/-- The ring enters LOST (R222, R228). -/
def State.loseRing (s : State) (r : Nat) : State :=
  let x := s.ring r
  let n := s.cfg.nodeCount r
  (s.setRing r { x with st := .lost, aLast := 0, bFirst := n + 1, nxA := 0, nxB := n + 1, brk := 0, brkSent := false, brkEnum := false
                        sideOk := false, delivered := false
                        breaks := satAdd 16 x.breaks 1, runCount := 0 }).ev Ev.ringLost r []

/-! ### Times of a sweep (R237) -/

/-- Collection deadline after ts, ns, for a period code. -/
def deadlineNs (code : Nat) : Nat := match code with
  | 0 => 1500000
  | 1 => 3000000
  | _ => periodNs code * 6 / 10

/-- Commit point after ts. -/
def commitNs (code : Nat) : Nat := match code with
  | 0 => 2300000
  | 1 => 4500000
  | _ => deadlineNs code + 3000000

/-- Instant of the collection deadline of the sweep in hand. -/
def State.deadline (s : State) : Nat := s.sw.ts + deadlineNs s.sw.period
/-- Number of positions an end serves in this sweep. -/
def Ring.served (r : Ring) (e : Leaf) (n : Nat) : Nat := match e with
  | .a => min r.spA n
  | .b => n + 1 - r.spB
/-- An end's re-request instant (R211): the end of the window, 200 µs, and 25 µs for each node it serves. -/
def State.rereqAt (s : State) (r : Nat) (e : Leaf) : Nat :=
  s.sw.ts + s.cfg.tLead + 50000 + 200000 + 25000 * (s.ring r).served e (s.cfg.nodeCount r)
/-- Whether the answer timeout of an end's re-requests ends before the collection deadline (R211). -/
def State.rereqFits (s : State) (r : Nat) (e : Leaf) : Bool :=
  s.portOn e && decide (s.rereqAt r e + 500000 < s.deadline)
/-- Whether a re-request instant of this sweep at which requests may go still lies ahead. -/
def State.rereqAhead (s : State) (r : Nat) : Bool :=
  s.sw.phase == .collecting &&
  ((s.rereqFits r .a && !(s.ring r).rrA && decide (s.time.now ≤ s.rereqAt r .a)) ||
   (s.rereqFits r .b && !(s.ring r).rrB && decide (s.time.now ≤ s.rereqAt r .b)))

/-- Whether a sample of a position has been accepted in this sweep. -/
def State.hasSample (s : State) (r p : Nat) : Bool := s.sw.items.any (fun i => i.ring == r && i.pos == p)

/-- Whether a re-request of a missing sample of the ring is still outstanding. -/
def State.rereqOpen (s : State) (r : Nat) : Bool :=
  (s.cfg.positions r).any (fun p => !s.hasSample r p && [Leaf.a, Leaf.b].any (fun e => (s.port r e p).q.any (fun x => x.purpose == .sample)))

/-- ENUMs of R223 go out at once. -/
def State.breakEnum (s : State) (r : Nat) : State :=
  ((((s.enumClear r).modRing r (fun x => { x with brkEnum := true, enumKind := 0 })).sendEnum r .a).sendEnum r .b)

/-- The determination of R223 from re-request answers, once every missing position has answered or is exhausted, and, unless
answers revealed the event, no re-request instant is still awaited; `final` at the collection deadline. -/
def State.settleBreak (s : State) (r : Nat) (final : Bool) : State :=
  let x := s.ring r
  if x.brk ≠ 0 ∧ x.brkSent ∧ !x.brkEnum ∧ (final ∨ (!s.rereqOpen r ∧ (x.brk = 5 ∨ !s.rereqAhead r))) then
    let d := s.fromRereq r
    s.breakRing r d.1 d.2
  else s

/-- An event of R223: the first one on a WHOLE ring begins the determination, and so does LOS at the surviving end of a
ring that is whole but for a fenced leaf (R224). DEDUCED, log 52. -/
def State.ringEvent (s : State) (r code : Nat) : State :=
  let x := s.ring r
  if (x.st ≠ .whole ∧ !(x.sideOk ∧ code ≤ 2)) ∨ x.brk ≠ 0 then s
  else
    let s := s.setRing r { x with
      brk := code, brkNow := s.time.now, brkSent := code == 5, brkEnum := false
      probedA := x.probedA && x.st != .whole, probedB := x.probedB && x.st != .whole }
    if code = 5 then s.settleBreak r false
    else
      let s := s.each (s.cfg.positions r) (fun p s => s.modNode r p (fun n => { n with reqA := false, reqB := false }))
      if s.rereqAhead r then s else s.breakEnum r

end Sys2Proof.Machine
end

