-- ==== Sys2Proof/Machine/RingRx.lean ====
section
/-!
DEFINITION. Frames as they arrive at a master port: Pick on the receive side (R709, R710), the trace (R657), the judgement
of ENUM answers (R179 to R188, R219, R220, R223, R228), and the SYNCs that come round (R182, R191, R263).
-/
namespace Sys2Proof.Machine

/-! ### Payloads -/

/-- The payload of ENUM_RSP (R167). -/
def enumRspP (f : EnumRsp) : List Byte :=
  [byteOf f.cls, byteOf f.cells, byteOf f.ntcs, byteOf f.version] ++ toLe 8 f.uid ++ toLe 4 f.caps ++ toLe 4 f.boot ++
  toLe 2 f.balIMax ++ toLe 2 f.vFull

/-- ENUM_RSP from its payload. -/
def enumRspOf (src : Nat) (p : List Byte) : EnumRsp :=
  { src := src, cls := leAt p 0 1, cells := leAt p 1 1, ntcs := leAt p 2 1, version := leAt p 3 1, uid := leAt p 4 8
    caps := leAt p 12 4, boot := leAt p 16 4, balIMax := leAt p 20 2, vFull := leAt p 22 2 }

/-- The payload of ALARM (R174). -/
def alarmP (f : AlarmFrame) : List Byte := [byteOf f.cause, byteOf f.chan] ++ toLe 2 f.value ++ toLe 4 f.boot

/-- ALARM from its payload. -/
def alarmOf (src seq : Nat) (p : List Byte) : AlarmFrame :=
  { src := src, seq := seq, cause := leAt p 0 1, chan := leAt p 1 1, value := leAt p 2 2, boot := leAt p 4 4 }

/-- The payload of RSP (R168). -/
def rspP (f : RspFrame) : List Byte := [byteOf f.kindAnswered, 0] ++ toLe 2 f.reg ++ f.data

/-- RSP from its payload. -/
def rspOf (pos seq : Nat) (p : List Byte) : RspFrame :=
  { pos := pos, seq := seq, kindAnswered := leAt p 0 1, reg := leAt p 2 2, data := p.drop 4 }

/-! ### The receive side -/

/-- The counters and the trace of a bad frame, and the code errors of a port (R158, R657). -/
def State.badRx (s : State) (r : Nat) (e : Leaf) (codes : Nat) (line : Option (List Byte)) : State :=
  let bad := b2n line.isSome
  let s := s.modRing r (fun x => match e with
    | .a => { x with badA := satAdd 32 x.badA bad, codeA := satAdd 32 x.codeA codes }
    | .b => { x with badB := satAdd 32 x.badB bad, codeB := satAdd 32 x.codeB codes })
  match line with
  | none => s
  | some p => s.traceFrame r e 1 1 p

/-- Whether a frame of a node shows that an end reaches it (R222): of a quarantined node, answers alone do (R230). DEDUCED, log 101. -/
def Node.shows (n : Node) (kind : Nat) : Bool := n.quar == 0 || !(kind == 6 || kind == 9 || kind == 0xB)

/-- A good frame of a node: it is heard at the end, the frame is traced with its RESULT, and its rule runs. -/
def State.takeRx (s : State) (r : Nat) (e : Leaf) (src kind seq : Nat) (judge : List Byte → State → Nat)
    (deliver : List Byte → Nat → State → State) (p : List Byte) : State :=
  let res := judge p s
  let s := s.when (decide (1 ≤ src ∧ src ≤ s.cfg.nodeCount r)) (fun s => (s.modNode r src (fun n => if n.shows kind then n.see e else n)).modRing r (fun x => { x with heard := true }))
  deliver p res (s.traceFrame r e 1 res (frameBytes 0 src kind seq p))

/-- Traffic of a node was altered: the node's next records carry PICK until a sample is used (R669, R717). -/
def State.markPicked (s : State) (r src : Nat) : State :=
  s.when (decide (1 ≤ src ∧ src ≤ s.cfg.nodeCount r)) (fun s => s.modNode r src (fun n => { n with picked := true }))

/-- A frame received good at a port of a leaf that is not fenced goes through Pick and then to its rule (R709, R710).
`again` is the command that brings the frame, kept when Pick holds it. DEDUCED, log 90. -/
def State.rx (s : State) (r : Nat) (e : Leaf) (src kind seq : Nat) (p : List Byte) (again : Instr)
    (judge : List Byte → State → Nat) (deliver : List Byte → Nat → State → State) : State :=
  if !s.portOn e then s
  else
    let x := s.pickJudge { target := r, e := e.num, dir := 1, kindBit := kind, kind := kind, pos := src, seq := seq }
    let s := x.1
    let line := frameBytes 0 src kind seq p
    let take := fun (q : List Byte) (s : State) => s.takeRx r e src kind seq judge deliver q
    let s := if x.2 = .pass then s else s.markPicked r src
    match x.2 with
    | .pass => take p s
    | .drop => s
    | .corrupt off m => s.withPick true (fun s => s.badRx r e 0 (some (maskAt line off m)))
    | .silent off m => s.withPick true (take (maskAt p (off - 8) m))
    | .hold k n due => s.pickHold { rule := k, path := 4 * r + 2 * e.num + 1, rx := some again, after := n, due := due }
    | .dup => s.withPick true (fun s => take p (take p s))

/-! ### The split follows the reach (R222, R226, R228) -/

/-- The split shown and to come is set to A_LAST and B_FIRST of a ring that is not WHOLE; a LOST ring comes back with its
first reachable node. -/
def State.reSplit (s : State) (r aLast bFirst : Nat) : State :=
  let x := s.ring r
  let none' := aLast = 0 ∧ bFirst > s.cfg.nodeCount r
  match x.st with
  | .broken _ =>
    if x.aLast = aLast ∧ x.bFirst = bFirst then s
    else ((s.setRing r { x with st := .broken aLast, aLast := aLast, bFirst := bFirst, nxA := aLast, nxB := bFirst }).markServe r).splitLate r
  | .lost =>
    if none' then s
    else ((s.setRing r { x with st := .broken aLast, aLast := aLast, bFirst := bFirst, nxA := aLast, nxB := bFirst }).markServe r).splitLate r
  | _ => s

/-- A_LAST and B_FIRST by the reach of each node at each end (R222). With both ends at work a node that is heard at an
end, but answers no request there, falls on the other end's side with all beyond it (R225). -/
def State.reachSplit (s : State) (r : Nat) : Nat × Nat :=
  let n := s.cfg.nodeCount r
  let ps := s.cfg.positions r
  let both := s.bothRun
  let deafA := (ps.filter (fun p => both && (s.node r p).deafA)).headD (n + 1)
  let deafB := if both then topPos ps (fun p => decide (p < deafA) && (s.node r p).deafB) else 0
  let a := if s.portOn .a then max deafB (topPos ps (fun p => decide (p < deafA) && (s.node r p).reach .a)) else 0
  (a, if s.portOn .b then lowPos ps a n (fun p => decide (deafA ≤ p) || (s.node r p).reach .b) else n + 1)

/-- A good frame of a position outside the reach moves the split (R212, R228). -/
def State.grow (s : State) (r p : Nat) : State :=
  let x := s.ring r
  let out := match x.st with
    | .broken _ => decide (x.aLast < p ∧ p < x.bFirst)
    | .lost => true
    | _ => false
  if out then (fun d => s.reSplit r d.1 d.2) (s.reachSplit r) else s

/-! ### ENUM answers -/

/-- The ENUM_RSP of a node is recorded (R167). -/
def Node.record (n : Node) (f : EnumRsp) : Node :=
  { n with known := true, ver := f.version, cls := f.cls, cells := f.cells, ntcs := f.ntcs, uid := f.uid, caps := f.caps
           boot := f.boot, balIMax := f.balIMax, vFull := f.vFull }

/-- The recorded answer of a node. -/
def Node.rsp (n : Node) (p : Nat) : EnumRsp :=
  { src := p, cls := n.cls, cells := n.cells, ntcs := n.ntcs, version := n.ver, uid := n.uid, caps := n.caps, boot := n.boot
    balIMax := n.balIMax, vFull := n.vFull }

/-- NODE_RESET_SEEN (R220): the log, and the node waits for its check and its configuration. -/
def State.resetSeen (s : State) (r p boot uid : Nat) : State :=
  let n := s.node r p
  let s := s.setNode r p { n with resets := satAdd 16 n.resets 1, trial := false, cfg := if n.quar = 0 then 1 else 0 }
  s.ev Ev.nodeResetSeen (srcN r p) [p4 n.boot, p4 boot, p8 n.uid, p8 uid]

/-- The steps of R220 after the check: offsets in force, configuration. -/
def State.reconfigure (s : State) (r p : Nat) : State := s.configNode r p 2 (some (s.offsFor r p))

/-- A quarantined node that passes R185 at an enumeration of R188, on a ring that R181 does not hold, may be configured. -/
def State.takeBack (s : State) (r p : Nat) : State :=
  let n := s.node r p
  if n.quar ≠ 0 ∧ !(s.ring r).countBad ∧ s.identity r p (n.rsp p) = 0 then s.setNode r p { n with trial := true } else s

/-- A calibration of R195 or R198 is to configure the ring's nodes. -/
def Ring.calStart (x : Ring) : Bool := (decide (1 ≤ x.cal) && decide (x.cal ≤ 4)) || decide (9 ≤ x.cal)

/-- An ENUM_RSP from a position of the ring (R181, R185, R219, R220, R225, R228): every one is recorded and checked; a node
that has reset, and one that is not configured, are configured. -/
def State.enumAnswer (s : State) (r : Nat) (e : Leaf) (f : EnumRsp) : State :=
  let p := f.src
  let n := s.node r p
  let other := match e with | .a => n.ansB | .b => n.ansA
  let s := s.setNode r p (match e with | .a => { n with ansA := some f.uid, deafA := false } | .b => { n with ansB := some f.uid, deafB := false })
  let s := if other.isSome ∧ other ≠ some f.uid then s.countMismatch r else s
  let reset := n.known && (n.resetPend || n.boot != f.boot || n.uid != f.uid)
  let s := if reset ∧ !n.resetPend then s.resetSeen r p f.boot f.uid else s
  let s := s.modNode r p (fun n => { n.record f with resetPend := false, spoke := n.spoke && !reset })
  let s := (s.checkNode r p f).grow r p
  let s := if reset then s.takeBack r p else s
  let x := s.ring r
  let n := s.node r p
  if n.barred then s
  else if reset then s.reconfigure r p
  else if (x.enumKind = 0 ∨ x.enumKind = 4) ∧ n.cfg = 0 ∧ n.plan.isEmpty ∧ !x.calStart then s.configNode r p 1 (some (s.offsFor r p))
  else s

/-- ENUM_RSP (R185): accepted while the end's answer window is open. -/
def State.deliverEnumRsp (s : State) (r : Nat) (e : Leaf) (f : EnumRsp) (res : Nat) : State :=
  if res ≠ 0 then s.modRing r (fun x => { x with stray := satAdd 32 x.stray 1 })
  else if f.src = 0 ∨ f.src > s.cfg.nodeCount r then (s.modRing r (fun x => { x with srcBad := true })).countMismatch r
  else s.enumAnswer r e f

/-- Whether an end's ENUM answer window is open (R206). -/
def State.enumOpen (s : State) (r : Nat) (e : Leaf) : Bool := match e with | .a => (s.ring r).openA | .b => (s.ring r).openB

/-- The ENUM answer window, ns (R206). -/
def State.enumNs (s : State) : Nat := if s.ch.low then 32000000 else 1000000

/-- ENUM_RSP_RECEIVED. -/
def execEnumRspReceived (t ring : Nat) (e : Leaf) (f : EnumRsp) (s : State) : Ans :=
  at' t (fun s => if !s.cfg.ringOn ring then s else s.rx ring e f.src 2 0 (enumRspP f) (.enumRspReceived t ring e f)
    (fun _ s => if s.enumOpen ring e then 0 else 3)
    (fun p res s => s.deliverEnumRsp ring e (enumRspOf f.src p) res)) s

/-! ### The end of an enumeration -/

/-- Whether both ENUMs came round (R180). -/
def Ring.enumWhole (x : Ring) : Bool := x.hopRetA.isSome && x.hopRetB.isSome

/-- The counts that R181 forbids. DEDUCED, log 51. -/
def State.countWrong (s : State) (r : Nat) : Bool :=
  let x := s.ring r
  let n := s.cfg.nodeCount r
  let ps := s.cfg.positions r
  if x.enumWhole then
    x.hopRetA != some n || x.hopRetB != some n || ps.any (fun p => (s.node r p).ansA.isNone || (s.node r p).ansA != (s.node r p).ansB)
  else ps.any (fun p => (s.node r p).ansA.isSome && (s.node r p).ansB.isSome)

/-- The quarantined nodes of an enumeration that pass R185 are admitted to their configuration, which ends it (R188). -/
def State.releaseNodes (s : State) (r : Nat) : State :=
  let s := s.modRing r (fun x => { x with countBad := false, hopBad := 0 })
  s.each (s.cfg.positions r) (fun p s =>
    let n := s.node r p
    if n.quar ≠ 0 ∧ n.known ∧ (n.ansA.isSome ∨ n.ansB.isSome) then
      (if s.identity r p (n.rsp p) = 0 then s.setNode r p { n with trial := true } else if n.quar = 0x0A then s.checkNode r p (n.rsp p) else s)
    else s)

/-- The split of a WHOLE ring is SPLIT_K; A_LAST and B_FIRST show it, as SPLIT_MOVED does at a restoration (R222, R229). DEDUCED,
log 55. -/
def Ring.wholeAt (x : Ring) (k : Nat) : Ring :=
  { x with st := .whole, aLast := k, bFirst := k + 1, nxA := k, nxB := k + 1, brk := 0, brkSent := false, brkEnum := false, runCount := 0
           sideOk := false }

/-- The end of an enumeration of a start or of a changed ring (R41, R221): the state, then calibration. -/
def State.enumStart (s : State) (r : Nat) (bad : Bool) : State :=
  let x := s.ring r
  let d := s.fromEnum r
  let s := if d.1 = 0 ∧ d.2 > s.cfg.nodeCount r then
      (s.setRing r { x with
        st := .lost, aLast := 0, bFirst := s.cfg.nodeCount r + 1, nxA := 0, nxB := s.cfg.nodeCount r + 1
        probedA := false, probedB := false }).ev Ev.ringLost r []
    else if x.enumWhole then s.setRing r (x.wholeAt (s.cfg.splitK r))
    else s.setRing r (x.brokenAt d.1 d.2)
  let s := s.modRing r (fun x => { x with mvA := x.nxA, mvB := x.nxB })
  if bad ∨ (s.ring r).st = .lost then s else s.calBegin r

/-- The positions of a ring are judged when no answer window of it is open (R179 to R181, R223, R228). -/
def State.enumJudge (s : State) (r : Nat) : State :=
  let x := s.ring r
  if x.openA ∨ x.openB ∨ x.bPend then s
  else
    let full := decide (x.enumKind = 1 ∨ x.enumKind = 2 ∨ x.enumKind = 3)
    let bad := x.srcBad || (x.enumKind != 4 && s.countWrong r)
    let s := if bad then s.countMismatch r else if full then s.releaseNodes r else s
    let d := s.fromEnum r
    if x.enumKind = 1 then s.enumStart r bad
    else
      let s := if x.brkEnum then s.breakRing r d.1 d.2 else if full then s.reSplit r d.1 d.2 else s
      if full ∧ !bad then
        s.each (s.cfg.positions r) (fun p s =>
          let n := s.node r p
          if n.known ∧ !n.barred ∧ n.cfg = 0 ∧ s.reachable r p then s.configNode r p 1 (some (s.offsFor r p)) else s)
      else s

/-- ENUM_RETURNED (R179, R180): an ENUM has come round to an end. -/
def State.deliverEnum (s : State) (r : Nat) (e : Leaf) (hop : Nat) : State :=
  let s := s.modRing r (fun x => match e with
    | .a => { x with hopRetA := some hop, hopAtA := hop, bcast := satAdd 32 x.bcast 1 }
    | .b => { x with hopRetB := some hop, hopAtB := hop, bcast := satAdd 32 x.bcast 1 })
  if e = .b ∧ (s.ring r).bPend then (s.modRing r (fun x => { x with bPend := false })).sendEnum r .b else s

def execEnumReturned (t ring : Nat) (e : Leaf) (hop : Nat) (s : State) : Ans :=
  at' t (fun s => if !s.cfg.ringOn ring then s else
    s.rx ring e 0 1 0 [byteOf hop, byteOf e.other.num, byteOf (s.cfg.nodeCount ring), 0] (.enumReturned t ring e hop)
      (fun _ _ => 0) (fun p _ s => s.deliverEnum ring e (leAt p 0 1))) s

/-- The answer window of an end closes (R179). -/
def State.windowClose (s : State) (r : Nat) (e : Leaf) : State :=
  let x := s.ring r
  let x := match e with | .a => { x with openA := false } | .b => { x with openB := false }
  let s := s.setRing r x
  let s := if e = .a ∧ x.bPend then (s.setRing r { x with bPend := false }).sendEnum r .b else s
  s.enumJudge r

/-- ENUM_WINDOW_CLOSE. -/
def execEnumWindowClose (t ring : Nat) (e : Leaf) (s : State) : Ans :=
  at' t (fun s =>
    let x := s.ring ring
    let at0 := match e with | .a => x.enumA | .b => x.enumB
    if s.cfg.ringOn ring ∧ s.enumOpen ring e ∧ at0 + s.enumNs ≤ s.time.now then s.windowClose ring e else s) s

/-! ### SYNCs that come round -/

/-- The ring's one-way time of R263, ns. -/
def Ring.tNs (x : Ring) : Nat := if x.calState = 1 then x.t / 10 else 200000

/-- A SYNC of the far end arrives (R182, R191): in a start round it counts for the calibration, in a sweep for the ring. -/
def State.syncIn (s : State) (r : Nat) (e : Leaf) (low hop delay : Nat) : State :=
  let n := s.cfg.nodeCount r
  let x := s.ring r
  let add := fun (x : Ring) => match e with
    | .b => { x with calAb := x.calAb + delay, calAbN := x.calAbN + 1 }
    | .a => { x with calBa := x.calBa + delay, calBaN := x.calBaN + 1 }
  if x.cal = 2 then
    if x.calN > 0 ∧ low = 0xF7 + x.calN then s.setRing r (add x) else s
  else if s.sw.started ∧ s.up ∧ low = s.sw.num % 256 ∧ s.time.now ≤ s.sw.ts + x.tNs + 5000 then
    let x := if x.cal = 6 then add x else x
    s.setRing r (match e with
      | .a => { x with syncA := true, hopOkA := hop == n, hopAtA := hop }
      | .b => { x with syncB := true, hopOkB := hop == n, hopAtB := hop })
  else s

def execSyncReceived (t ring : Nat) (e : Leaf) (low hop delay : Nat) (s : State) : Ans :=
  at' t (fun s => if s.cfg.ringOn ring ∧ s.portOn e then s.syncIn ring e low hop delay else s) s

/-- FAR_SYNC_MISSING (R263): event 3 or 4 of R223. A fence alone is no event (R224). -/
def execFarSyncMissing (t ring : Nat) (e : Leaf) (s : State) : Ans :=
  at' t (fun s =>
    let x := s.ring ring
    let got := match e with | .a => x.syncA | .b => x.syncB
    if s.cfg.ringOn ring ∧ s.alive .a ∧ s.alive .b ∧ s.sweeping ∧ s.sw.started ∧ !x.countBad ∧ !got ∧ s.sw.ts + x.tNs + 5000 ≤ s.time.now then
      let s := s.modRing ring (fun x => match e with | .a => { x with missA := true } | .b => { x with missB := true })
      s.ringEvent ring (match e with | .b => 3 | .a => 4)
    else s) s

/-! ### Calibration rows -/

/-- CAL_SYNC_LAUNCH (R195): the next of the eight SYNCs of a start round, 250 µs after the one before, never at LOW (R153); after
the eighth the registers are read. A round that a break has ended goes on by R198 (R230). -/
def execCalSyncLaunch (t ring : Nat) (s : State) : Ans :=
  at' t (fun s =>
    let x := s.ring ring
    if x.cal = 9 then s.calCheck ring
    else if x.cal = 2 ∧ !s.ch.low ∧ (x.calN = 0 ∨ x.calLast + 250000 ≤ s.time.now) then
      if x.calN < 8 then
        let s := s.setRing ring { x with calN := x.calN + 1, calLast := s.time.now }
        s.each [Leaf.a, Leaf.b] (fun e s => if s.portOn e then s.emit (syncOut ring e (0xF8 + x.calN) 0) else s)
      else ((s.setRing ring { x with cal := 3 }).calReads ring).calCheck ring
    else s) s

/-- CAL_ROUND_START (R196): 60 s after the start of the round before, on a WHOLE ring; SKEW_COUNT is cleared after a commit point. -/
def execCalRoundStart (t ring : Nat) (s : State) : Ans :=
  at' t (fun s =>
    let x := s.ring ring
    if x.st = .whole ∧ x.cal = 0 ∧ !x.countBad ∧ s.sweeping ∧ s.sw.phase = .committed ∧ x.calFrom + 60000000000 ≤ s.time.now then s.calClear ring 5
    else s) s

/-! ### Frames that carry nothing to a rule -/

/-- BAD_FRAME_RECEIVED (R158) at a master port. -/
def State.badFrame (s : State) (r : Nat) (e : Leaf) (codes : Nat) (line : Option (List Byte)) : State :=
  if s.cfg.ringOn r ∧ s.portOn e then s.badRx r e codes line else s

/-- The payload of HEARTBEAT (R175). -/
def State.heartbeatP (s : State) : List Byte := toLe 4 s.sw.cSweep ++ [byteOf (b2n s.ch.low), byteOf (b2n (s.aon.dev == .sleep || s.sleep.st == 1)), 0, 0]

/-- BROADCAST_RETURNED (R159): a HEARTBEAT has come round and is counted. -/
def execBroadcastReturned (t ring : Nat) (e : Leaf) (s : State) : Ans :=
  at' t (fun s => if !s.cfg.ringOn ring then s else
    s.rx ring e 0 0x0A 0 s.heartbeatP (.broadcastReturned t ring e) (fun _ _ => 0)
      (fun _ _ s => s.modRing ring (fun x => { x with bcast := satAdd 32 x.bcast 1 }))) s

end Sys2Proof.Machine
end

