-- ==== Sys2Proof/Machine/Current.lean ====
section
/-!
DEFINITION. String currents (R266 to R285): conversion, agreement, exclusion, the value a string uses.
-/
namespace Sys2Proof.Machine

/-! ### Parameters -/

/-- Whether an input is configured. -/
def Cfg.inputOn (c : Cfg) (k : Nat) : Bool := c.img.has Ty.current k
/-- Whether a string takes its current from an integrated input (R113). -/
def Cfg.usesInput (c : Cfg) (i k : Nat) : Bool := c.strFld i 1 != 1 && c.strFld i 2 == k
/-- The strings bound to an input. -/
def Cfg.bound (c : Cfg) (k : Nat) : List Nat := c.strings.filter (fun i => c.usesInput i k)

/-- Current of a path value RAW (R124). -/
def Cfg.toCurrent (c : Cfg) (k : Nat) (raw : Int) : Int :=
  let raw := if c.cur k 2 = 1 then -raw else raw
  satS 32 (rndDiv (raw * c.cur k 4) 16777216 + c.cur k 8)

/-- The thresholds that the codes set (R273). -/
def Cfg.compSet (c : Cfg) (k : Nat) (dis : Bool) : Int :=
  let v := rndDiv (c.compCode k dis * 8192 * ((c.cur k 4).natAbs : Int)) 16777216
  if dis then v - c.cur k 8 else v + c.cur k 8

/-- The agreement of two current values at an input (R275). -/
def Cfg.agree (c : Cfg) (k : Nat) (a b : Int) : Bool :=
  decide (((a - b).natAbs : Int) ≤ c.cur k 0x10 + Int.tdiv ((max a.natAbs b.natAbs : Nat) * c.cur k 0x14) 10000)

/-! ### The decimator (R267) -/

/-- The sums of the first 0, 1, 2, … values. -/
def runningSums (acc : Int) : List Int → List Int
  | [] => [acc]
  | x :: r => acc :: runningSums (acc + x) r

/-- The sums of every `n` consecutive values. -/
def boxSums (n : Nat) (l : List Int) : List Int :=
  let p := runningSums 0 l
  (p.drop n).zipWith (· - ·) p

/-- The sinc³ outputs of oversampling ratio 32: output `m` spans the 94 bits from bit 32 `m`; full density is ±2^15. -/
def sinc3 (bits : List Bool) : List Int :=
  let y := boxSums 32 (boxSums 32 (boxSums 32 (bits.map (fun b => if b then 1 else -1))))
  (upto ((y.length + 31) / 32)).map (fun m => y.getD (32 * m) 0)

/-- The part, in ns, of the span of output `m` that lies in the window of 100 µs: with the group delay compensated the span
is the 32 bits about the middle of the 94. DEDUCED, log 62. -/
def sincOverlap (start : Int) (khz m : Nat) : Int :=
  let edge := fun (bit : Nat) => start + ((bit * 1000000 / khz : Nat) : Int)
  max 0 (min 100000 (edge (32 * m + 63)) - max 0 (edge (32 * m + 31)))

/-- RAW of a path (R267): the weighted mean of the outputs in the window, scaled so that full density is 2^23, saturated. The
rounding, and 0 without any output, are not given. DESIGN CHOICE, log 104. -/
def modRaw (x : ModIn) (khz : Nat) : Int :=
  let y := (sinc3 x.bits).mapIdx (fun m v => (v, sincOverlap x.start khz m))
  let w := y.foldl (fun n p => n + p.2) 0
  satS 24 (rndDiv (256 * y.foldl (fun n p => n + p.1 * p.2) 0) w.toNat)

/-- The mean of the last four sinc³ outputs in the scale of RAW, which a BITSTREAM comparator judges (R271). -/
def compMean (bits : List Bool) : Int := rndDiv (256 * ((sinc3 bits).reverse.take 4).foldl (· + ·) 0) 4

/-! ### One input in one sweep -/

/-- What R268 to R284 find for an input in a sweep. -/
structure CurEval where
  entry : CurIn := {}
  aOk : Bool := false
  bOk : Bool := false
  /-- I_INT_EST and I_INT_PROT; none when absent. -/
  est : Option Int := none
  prot : Option Int := none
  /-- The comparison of the paths: none when not made, else whether they agree. -/
  paths : Option Bool := none
  /-- The comparison of the node with I_INT_EST. -/
  nodes : Option Bool := none
  /-- Cause of a clock fault: 1 absent, 2 frequency. -/
  clock : Nat := 0
  deriving DecidableEq, Repr, Inhabited

/-- Saturation values of RAW (R267). -/
def rawClipped (r : Int) : Bool := r == -8388608 || r == 8388607

/-- The values of the usable paths (R276). -/
def intValues (a b : Int) (aOk bOk : Bool) : Option Int × Option Int :=
  if aOk && bOk then (some (rndDiv (a + b) 2), some (if a.natAbs ≥ b.natAbs then a else b))
  else if aOk then (some a, some a) else if bOk then (some b, some b) else (none, none)

/-- An input is evaluated (R267 to R269, R276, R278, R279). `nodeCur` is the present node current of a bound string,
`both` those of the strings bound to BOTH; `lostA`, `lostB` tell that the path did not reach the leaf that seals. In BITSTREAM
mode the filters of both leaves take the one bitstream, whose bits are `modA` (R266); in ANALOG CLK_TB clocks the modulators
at 20 MHz. -/
def State.evalInput (s : State) (k : Nat) (p : PathIn) (nodeCur : Option Int) (both : List Int) (lostA lostB : Bool) : CurEval :=
  let c := s.cfg
  let bs := c.cur k 0 == 1
  let mhz := (c.cur k 1).toNat
  let off := p.clkKhz * 10 < mhz * 9000 || p.clkKhz * 10 > mhz * 11000
  let clock := if !bs then 0 else if p.clkLost then 1 else if off then 2 else 0
  let aGone := !s.alive .a || lostA
  let bGone := !s.alive .b || lostB
  let aInv := aGone || clock != 0
  let bInv := bGone || clock != 0
  let khz := if bs then p.clkKhz else 20000
  let rawA := modRaw p.modA khz
  let rawB := if bs then rawA else modRaw p.modB khz
  let a := if aInv then 0 else c.toCurrent k rawA
  let b := if bInv then 0 else c.toCurrent k rawB
  let aClip := !aGone && (rawClipped rawA || p.overA)
  let bClip := !bGone && (rawClipped rawB || if bs then p.overA else p.overB)
  let cmp := !aInv && !bInv && !aClip && !bClip
  let agree := c.agree k a b
  let ex := match nodeCur with
    | some n => if cmp && !agree then
        (if c.agree k n a && !c.agree k n b then 2 else if c.agree k n b && !c.agree k n a then 1 else 0) else 0
    | none => 0
  let aOk := !aInv && ex != 1
  let bOk := !bInv && ex != 2
  let v := intValues a b aOk bOk
  let nodes := match both, v.1 with
    | n :: r, some e => some ((n :: r).all (fun n => c.agree k n e))
    | _, _ => none
  let x := kget {} s.cur k
  let status := packBits [aInv, bInv, aClip, bClip, ex == 1, ex == 2, clock != 0, x.tripChg, x.tripDis, cmp && !agree]
  { entry := { a := a, b := b, status := status, rawA := rawA, rawB := rawB, clk := if bs then min p.clkKhz 65535 else 0 }
    aOk := aOk, bOk := bOk, est := v.1, prot := v.2, paths := if cmp then some agree else none, nodes := nodes, clock := clock }

/-- A string-node input entry counts as present: TAG VALID (R277). -/
def State.nodeCurrent (s : State) (strs : KMap StrIn) (i : Nat) : Option Int :=
  match s.cfg.strNode i with
  | some _ => let x := kget {} strs i; if x.tag = 0 ∧ (strs.any (fun e => e.1 == i)) then some x.i else none
  | none => none

/-! ### Counts and records (R279 to R283) -/

/-- An excluded path as CURRENT_PLAUS carries it: 0 none, 1 A, 2 B. -/
def exclOf (status : Nat) : Nat := if bit status 4 then 1 else if bit status 5 then 2 else 0

/-- The counts, episodes and logs of an input in a sweep. -/
def State.countInput (s : State) (k : Nat) (v : CurEval) : State :=
  let x := kget {} s.cur k
  let n := (s.cfg.cur k 3).toNat
  let pc := match v.paths with | none => x.pathCount | some true => 0 | some false => min 255 (x.pathCount + 1)
  let nc := match v.nodes with | none => x.nodeCount | some true => 0 | some false => min 255 (x.nodeCount + 1)
  let compared := v.paths.isSome || v.nodes.isSome
  let good := v.paths != some false && v.nodes != some false
  let run := if !compared then x.agreeRun else if good then min 255 (x.agreeRun + 1) else 0
  let hitP := decide (pc ≥ n ∧ x.pathCount < n)
  let hitN := decide (nc ≥ n ∧ x.nodeCount < n)
  let acting := if x.acting && pc == 0 && nc == 0 && decide (run ≥ n) then false else x.acting || decide (pc ≥ n) || decide (nc ≥ n)
  let clip := bit v.entry.status 2 || bit v.entry.status 3
  let s' := { s with cur := kset {} s.cur k { x with pathCount := pc, nodeCount := nc, agreeRun := run, acting := acting
                                                     clipEp := clip, clkEp := v.clock != 0, tripChg := false, tripDis := false } }
  let plaus := fun (c : Nat) (s : State) =>
    s.ev Ev.currentPlaus k [p1 c, p1 (exclOf v.entry.status), (4, ofSigned 4 v.entry.a), (4, ofSigned 4 v.entry.b)]
  let s' := s'.when hitP (plaus 0)
  let s' := s'.when hitN (plaus 1)
  let s' := s'.when (clip && !x.clipEp) (fun s => s.ev Ev.currentClipped k [p1 (if bit v.entry.status 2 then 0 else 1)])
  s'.when (v.clock != 0 && !x.clkEp) (fun s => s.ev Ev.currentPathLost k [p1 (Config.caseCode Ev.currentPathLost v.clock)])

/-- The currents of a string (R277, R283). -/
def State.strCurrent (s : State) (i : Nat) (node : Option Int) (v : Option CurEval) : State :=
  let x := kget {} s.strCur i
  let int := match v with | some e => (match e.est, e.prot with | some a, some b => some (a, b) | _, _ => none) | none => none
  let larger := fun (n p : Int) => if p.natAbs > n.natAbs then p else n
  let r : Option (Int × Int × Nat) := match s.cfg.strFld i 1 with
    | 0 => int.map (fun p => (p.1, p.2, 0))
    | 1 => node.map (fun n => (n, n, 1))
    | _ => match node, int with
      | some n, some p => some (n, larger n p.2, 2)
      | none, some p => some (p.1, p.2, 3)
      | some n, none => some (n, n, 4)
      | none, none => none
  match r with
  | some (e, p, src) => { s with strCur := kset {} s.strCur i { x with iEst := e, iProt := p, source := src, absent := false, absentCount := 0 } }
  | none =>
    let n := min 255 (x.absentCount + 1)
    let s' := { s with strCur := kset {} s.strCur i { x with source := 0xFF, absent := true, absentCount := n } }
    s'.when (decide (n ≥ s.cfg.prot i 0x19 ∧ x.absentCount < s.cfg.prot i 0x19)) (fun s => s.ev Ev.currentAbsent i [p1 n])

/-- CURRENT_PLAUS acts on a string while an input it is bound to says so (R280). -/
def State.plausActs (s : State) (i : Nat) : Bool :=
  s.cfg.strFld i 1 != 1 && (kget {} s.cur (s.cfg.strFld i 2)).acting

end Sys2Proof.Machine
end

