-- ==== Sys2Proof/Machine/Seal.lean ====
section
/-!
DEFINITION. The sealed input set (R250 to R261): the choice of copies, the entries, the tags, the digest.
-/
namespace Sys2Proof.Machine

/-! ### Items -/

/-- Whether a leaf holds an item. -/
def Item.heldBy (i : Item) : Leaf → Bool
  | .a => i.inA
  | .b => i.inB

/-- The copy of a position's sample that a leaf's set uses (R251). -/
def State.copyOf (s : State) (l : Leaf) (r p : Nat) : Option Item :=
  let mine := s.sw.items.filter (fun i => i.ring == r && i.pos == p && i.heldBy l)
  let want := ((s.ring r).serves p).getD .a
  match mine.find? (fun i => i.e == want) with
  | some i => some i
  | none => mine.head?

/-- A leaf holds the END marker of the other leaf and every item that it counts (R252). -/
def State.holdsAll (s : State) (l : Leaf) : Bool :=
  (match l with | .a => s.sw.endA | .b => s.sw.endB) && s.sw.items.all (fun i => i.heldBy l) && s.sw.lost.all (fun x => x.1 != l.num)

/-- A sample of a position may be used (R212), and its ring is not being configured after a hinge point (R221). -/
def State.usable (s : State) (r p : Nat) : Bool := let n := s.node r p; n.quar == 0 && n.cfg == 3 && !(s.ring r).gated

/-- The sample used of every configured position, in node order. -/
def State.usedItems (s : State) (l : Leaf) : KMap Item :=
  s.cfg.allNodes.filterMap (fun x => match s.copyOf l x.1 x.2 with
    | some i => if (s.node x.1 x.2).quar = 0 then some (srcN x.1 x.2, i) else none
    | none => none)

/-- One item of a table of items. -/
def itemAt (m : KMap Item) (r p : Nat) : Option Item := (m.find? (fun e => e.1 == srcN r p)).map (·.2)

/-! ### Entries -/

/-- A cell is DISTURBED by its node's sample (R257). -/
def distCell (caps dist resid thr chan : Nat) : Bool :=
  bit dist chan || (bit caps 3 && ((chan ≥ 1 && bit dist (chan - 1)) || bit dist (chan + 1))) || decide (resid > thr)

/-- The charge of a channel in a sample as it is kept: channels 0 to 7 stand in the payload (R169). DEDUCED, log 57. -/
def chanQ (p : List Byte) (chan : Nat) : Int := toSigned 2 (leAt p ((if chan < 8 then 0x28 else 0x30) + 2 * chan) 2)

/-- A cell entry (R254, R257, R259). -/
def State.cellEntry (s : State) (m : KMap Item) (i : Nat) : CellIn :=
  let c := s.cfg.cell i
  let n := s.node c.ring c.node
  let old := kget {} s.sw.sealed.cells i
  let align := (s.ring c.ring).calState == 2 || (s.ring c.ring).calState == 3
  let more := min 255 (old.stale + 1)
  if !c.present then {}
  else if n.quar ≠ 0 then { v := 0xFFFF, q := 0, tag := 5, align := align, gap := false, stale := more }
  else match itemAt m c.ring c.node with
    | none => { v := old.v, q := 0, tag := 4, align := align, gap := false, stale := more }
    | some it =>
      let p := it.payload
      let v := leAt p (2 * c.chan) 2
      let tag :=
        if bit (leAt p 0x3C 2) c.chan || bit (leAt p 0x39 1) 2 then 3
        else if v = 0 ∨ v ≥ n.vFull then 2
        else if distCell n.caps (leAt p 0x3A 2) (leAt p 0x3E 2) (s.cfg.bal 10).toNat c.chan then 1 else 0
      { v := v, q := chanQ p c.chan, tag := tag, align := align
        gap := old.tag == 4 || old.tag == 5, stale := if tag = 3 then more else 0 }

/-- The sensor-table indices of a node with their node and place. -/
def Cfg.sensorsOf (c : Cfg) (r p : Nat) : List (Nat × Nat) :=
  (upto (c.nodeFld r p 2)).map (fun j => (c.nodeFld r p 0x10 + j, j))

/-- Where the node sensors of a class stand in its payload (R169, R170). -/
def tempOff (cls : Nat) : Nat := if cls = 1 then 0x10 else 0x20

/-- A sensor entry (R254). -/
def State.sensEntry (s : State) (m : KMap Item) (r p idx j : Nat) : SensIn :=
  let old := kget {} s.sw.sealed.sens idx
  if (s.node r p).quar ≠ 0 then { old with tag := 5 }
  else match itemAt m r p with
    | none => { old with tag := 4 }
    | some it =>
      let code := leAt it.payload (tempOff (s.cfg.nodeFld r p 0) + j) 1
      { code := code, tag := if bit (leAt it.payload 0x39 1) 2 then 3 else 0
        t := if code = 0 ∨ code = 255 then 0x7FFF else 5 * (code : Int) - 400 }

/-- The sensor part. -/
def State.sensPart (s : State) (m : KMap Item) : KMap SensIn :=
  s.cfg.allNodes.foldl (fun k x => (s.cfg.sensorsOf x.1 x.2).foldl (fun k y => kput k y.1 (s.sensEntry m x.1 x.2 y.1 y.2)) k) []

/-- A node entry (R254); of a group node its summary gives SWEEP_LOW alone (R566). -/
def State.nodeEntry (s : State) (m : KMap Item) (r p : Nat) : NodeIn :=
  let old := kget {} s.sw.sealed.nodes (srcN r p)
  let more := min 255 (old.stale + 1)
  if (s.node r p).quar ≠ 0 then { tag := 5, stale := more }
  else match itemAt m r p with
    | none => { tag := 4, stale := more }
    | some it =>
      let q := it.payload
      if s.cfg.nodeFld r p 0 = 2 then { low := leAt q 0x3E 1, tag := 0, src := it.e.num, stale := 0 } else
      { low := leAt q 0x38 1, flags := leAt q 0x39 1, tag := 0, src := it.e.num, dist := leAt q 0x3A 2, susp := leAt q 0x3C 2
        resid := leAt q 0x3E 2, stale := 0 }

/-- A string-node input entry (R253, R261). -/
def State.strEntry (s : State) (m : KMap Item) (i : Nat) : StrIn :=
  let old := kget {} s.sw.sealed.strs i
  match s.cfg.strNode i with
  | none => {}
  | some (r, p) =>
    let more := min 255 (old.stale + 1)
    if (s.node r p).quar ≠ 0 then { old with tag := 5, stale := more }
    else match itemAt m r p with
      | none => { old with tag := 4, stale := more }
      | some it =>
        let q := it.payload
        { i := toSigned 4 (leAt q 0 4), vStr := leAt q 4 4, vBus := leAt q 8 4, vPos := leAt q 12 2, vNeg := leAt q 14 2
          contacts := leAt q 0x18 1, tag := 0, stale := 0 }

/-! ### The digest (R255) -/

/-- The bytes of a cell entry. -/
def CellIn.bytes (x : CellIn) : List Byte :=
  toLe 2 x.v ++ toLe 2 (ofSigned 2 x.q) ++ [byteOf (x.tag + 8 * b2n x.align + 16 * b2n x.gap), byteOf x.stale, 0, 0]

/-- The bytes of a sensor entry. -/
def SensIn.bytes (x : SensIn) : List Byte := [byteOf x.code, byteOf x.tag] ++ toLe 2 (ofSigned 2 x.t)

/-- The bytes of a node entry. -/
def NodeIn.bytes (x : NodeIn) : List Byte :=
  [byteOf x.low, byteOf x.flags, byteOf x.tag, byteOf x.src] ++ toLe 2 x.dist ++ toLe 2 x.susp ++ toLe 2 x.resid ++ [byteOf x.stale, 0, 0, 0, 0, 0]

/-- The bytes of a string-node input entry. -/
def StrIn.bytes (x : StrIn) : List Byte :=
  toLe 4 (ofSigned 4 x.i) ++ toLe 4 x.vStr ++ toLe 4 x.vBus ++ toLe 2 x.vPos ++ toLe 2 x.vNeg ++
  [byteOf x.contacts, byteOf x.tag, byteOf x.stale] ++ List.replicate 13 0

/-- The bytes of a current input entry. -/
def CurIn.bytes (x : CurIn) : List Byte :=
  toLe 4 (ofSigned 4 x.a) ++ toLe 4 (ofSigned 4 x.b) ++ toLe 2 x.status ++ List.replicate 6 0

/-- Signed 16-bit values, `n` of them. -/
def s16s (l : List Int) (n : Nat) : List Byte := ((upto n).map (fun k => toLe 2 (ofSigned 2 (l.getD k 0)))).flatten

/-- The bytes of the device input entry. -/
def devBytes (d : DevIn) : List Byte :=
  s16s d.ts 4 ++ s16s d.die 8 ++ s16s d.pdie 28 ++ ((upto 24).map (fun k => toLe 2 (d.swCur.getD k 0))).flatten ++ toLe 2 d.aux ++ List.replicate 126 0

/-- The 64-byte header (R253). -/
def Sealed.headerBytes (x : Sealed) : List Byte :=
  toLe 4 x.sweep ++ [byteOf x.period, 0, 0, 0] ++ toLe 8 x.sampleTime ++ toLe 4 x.imageSeq ++ toLe 4 x.ovGen ++
  ((upto 16).map (fun r => let y := x.ends.getD r (0, 0); [byteOf y.1, byteOf y.2])).flatten ++ List.replicate 8 0

/-- The input digest of a sealed set. DESIGN CHOICE, log 59. -/
def State.inputDigest (s : State) (x : Sealed) : List Byte :=
  let cellChunk := fun (k : Nat) => ((upto 1024).map (fun j => (kget {} x.cells (1024 * k + j)).bytes)).flatten
  let sens := ((upto 4096).map (fun k => if x.sens.any (fun e => e.1 == k) then (kget {} x.sens k).bytes else [0, 0, 0, 0])).flatten
  let nodes := ((upto 1024).map (fun k => if x.nodes.any (fun e => e.1 == k) then (kget {} x.nodes k).bytes else List.replicate 16 0)).flatten
  let rest := ((upto 64).map (fun k => if (s.cfg.strNode k).isSome then (kget {} x.strs k).bytes else List.replicate 32 0)).flatten ++
    ((upto 16).map (fun k => if s.cfg.inputOn k then (kget {} x.curs k).bytes else List.replicate 16 0)).flatten ++ devBytes x.dev
  let h := sha256
  h (h x.headerBytes ++ ((upto 16).map (fun k => h (cellChunk k))).flatten ++ h sens ++ h nodes ++ h rest)

/-! ### Sealing -/

/-- The parts of the set that come from the rings. -/
def State.sealRings (s : State) (l : Leaf) (d : DevIn) : Sealed :=
  let m := s.usedItems l
  { sweep := s.sw.num, period := s.sw.period, sampleTime := s.sw.start + s.cfg.tLead
    imageSeq := s.cfg.img.seq, ovGen := s.ovl.gen, ends := (upto 16).map (fun r => ((s.ring r).aLast, (s.ring r).bFirst))
    cells := ktab {} (upto s.cfg.cellCount) (s.cellEntry m)
    sens := s.sensPart m
    nodes := s.cfg.allNodes.map (fun x => (srcN x.1 x.2, s.nodeEntry m x.1 x.2))
    strs := (s.cfg.strings.filter (fun i => (s.cfg.strNode i).isSome)).map (fun i => (i, s.strEntry m i))
    dev := d }

/-- SAMPLE_COPY_DIFFER for every position whose two copies differ (R251). -/
def State.copyDiffer (s : State) : State :=
  s.each s.cfg.allNodes (fun x s =>
    match s.sw.items.filter (fun i => i.ring == x.1 && i.pos == x.2) with
    | a :: r => s.when (r.any (fun b => b.payload != a.payload)) (fun s => s.ev Ev.sampleCopyDiffer (srcN x.1 x.2) [p4 s.sw.num])
    | [] => s)

/-- The present node current of a string bound to an input, and those of the strings bound to BOTH (R278, R279). -/
def State.nodeRefs (s : State) (strs : KMap StrIn) (k : Nat) : Option Int × List Int :=
  let l := s.cfg.bound k
  ((l.filterMap (fun i => s.nodeCurrent strs i)).head?, (l.filter (fun i => s.cfg.strFld i 1 == 2)).filterMap (fun i => s.nodeCurrent strs i))

/-- The inputs of a sweep evaluated. -/
def State.evalInputs (s : State) (l : Leaf) (x : Sealed) : KMap CurEval :=
  ((upto 16).filter s.cfg.inputOn).map (fun k =>
    let n := s.nodeRefs x.strs k
    let miss := s.sw.lost.any (fun y => y.1 == l.num && y.2 == k)
    (k, s.evalInput k (x.dev.paths.getD k {}) n.1 n.2 (l == .b && miss) (l == .a && miss)))

/-- The input set of a leaf, and its inputs as evaluated (R253). -/
def State.inputSet (s : State) (l : Leaf) (d : DevIn) : Sealed × KMap CurEval :=
  let x := s.sealRings l d
  let v := s.evalInputs l x
  ({ x with curs := v.map (fun e => (e.1, e.2.entry)) }, v)

/-- Two sets that list the same entries have the same bytes in every part that the leaves form themselves. -/
def Sealed.sameBytes (x y : Sealed) : Bool :=
  x.headerBytes == y.headerBytes && x.cells.map (fun e => (e.1, e.2.bytes)) == y.cells.map (fun e => (e.1, e.2.bytes)) &&
  x.sens.map (fun e => (e.1, e.2.bytes)) == y.sens.map (fun e => (e.1, e.2.bytes)) &&
  x.nodes.map (fun e => (e.1, e.2.bytes)) == y.nodes.map (fun e => (e.1, e.2.bytes)) &&
  x.strs.map (fun e => (e.1, e.2.bytes)) == y.strs.map (fun e => (e.1, e.2.bytes)) &&
  x.curs.map (fun e => (e.1, e.2.bytes)) == y.curs.map (fun e => (e.1, e.2.bytes))

/-- Whether the input digests of the leaves agree (R256): the digests of equal bytes, and of no others. DESIGN CHOICE, log 59. -/
def State.setsAgree (s : State) (d : DevIn) : Bool := (s.inputSet .a d).1.sameBytes (s.inputSet .b d).1

/-- Currents of inputs and strings enter the state (R276 to R283). -/
def State.sealCurrents (s : State) (x : Sealed) (v : KMap CurEval) : State :=
  let s := v.foldl (fun (s : State) e => s.countInput e.1 e.2) s
  s.each s.cfg.strings (fun i s =>
    s.strCurrent i (s.nodeCurrent x.strs i) (if s.cfg.strFld i 1 = 1 then none else (v.find? (fun e => e.1 == s.cfg.strFld i 2)).map (·.2)))

/-- Pick altered the sample that a cell's entry comes from, or one since its last used sample (R669, R717). -/
def State.cellPicked (s : State) (k : Nat) : Bool := (s.node (s.cfg.cell k).ring (s.cfg.cell k).node).picked
/-- The same for a string's node. -/
def State.strPicked (s : State) (i : Nat) : Bool := match s.cfg.strNode i with | some (r, p) => (s.node r p).picked | none => false

/-- At the commit point the mark ends for nodes whose sample was used. -/
def State.pickedEnd (s : State) : State :=
  s.each s.cfg.allNodes (fun y s => s.modNode y.1 y.2 (fun n => { n with picked := n.picked && (kget {} s.sw.sealed.nodes (srcN y.1 y.2)).tag != 0 }))

/-- CELL_STALE and SAMPLE_DISTURBED (R260) against the set sealed before. -/
def State.sealEvents (s : State) (old x : Sealed) : State :=
  s.each s.cfg.allNodes (fun y s =>
    let cells := s.cfg.nodeCells y.1 y.2
    let n := s.node y.1 y.2
    let at' := fun (z : Sealed) (k : Nat) => decide ((kget {} z.cells k).stale ≥ s.cfg.prot (s.cfg.cell k).str 0x19)
    let mask := cells.foldl (fun a k => if at' x k then setBit a (s.cfg.cell k).chan true else a) 0
    let new := cells.any (fun k => at' x k && !at' old k)
    let cnt := (cells.map (fun k => if at' x k then (kget {} x.cells k).stale else 0)).foldl max 0
    let dis := cells.any (fun k => (kget {} x.cells k).tag == 1)
    let e := kget {} x.nodes (srcN y.1 y.2)
    let s := s.when new (fun s => s.withPick n.picked (fun s => s.ev Ev.cellStale (srcN y.1 y.2) [p2 mask, p1 cnt]))
    let s := s.when (dis && !n.wasDisturbed) (fun s => s.withPick n.picked (fun s => s.ev Ev.sampleDisturbed (srcN y.1 y.2) [p2 e.dist, p2 e.resid]))
    s.modNode y.1 y.2 (fun n => { n with wasDisturbed := dis }))

/-- A leaf's input set is sealed and its currents are formed (R252, R253). -/
def State.sealSet (s : State) (l : Leaf) (d : DevIn) : State :=
  let s := s.copyDiffer
  let x := s.inputSet l d
  let old := s.sw.sealed
  let s := s.sealCurrents x.1 x.2
  let s := { s with sw := { s.sw with sealed := x.1, phase := .sealed } }
  s.sealEvents old x.1

end Sys2Proof.Machine
end

