-- ==== Sys2Proof/Machine/Switch.lean ====
section
/-!
DEFINITION. The protected switch channels of the power die (R13 to R15, R32, R509 to R533, R763).
-/
namespace Sys2Proof.Machine

/-! ### Records -/

/-- A channel record. -/
def State.chan (s : State) (k : Nat) : Chan := kget {} s.power.chans k
/-- A channel record replaced. -/
def State.setChan (s : State) (k : Nat) (x : Chan) : State := { s with power := { s.power with chans := kset {} s.power.chans k x } }
/-- A bank record. -/
def State.bank (s : State) (b : Nat) : Bank := kget {} s.power.banks b
/-- A bank record replaced. -/
def State.setBank (s : State) (b : Nat) (x : Bank) : State := { s with power := { s.power with banks := kset {} s.power.banks b x } }
/-- The channels of a bank (R509). -/
def bankChans (b : Nat) : List Nat := (upto 6).map (fun k => 6 * b + k)
/-- Currents of the codes of I_LAT, LSB 10 mA (R122). -/
def iLat : List Nat := [25, 50, 75, 100, 125, 150, 200, 250, 300, 350, 400, 450, 500, 600, 700, 800]

/-- The string whose DIRECT actuation names a channel (R113). -/
def Cfg.chanString (c : Cfg) (k : Nat) : Option Nat :=
  c.strings.find? (fun i => isDirect c i && (c.strFld i 4 == k || c.strFld i 5 == k || c.strFld i 6 == k))

/-- Whether a channel's output is to be on (R511, R515, R526, R533, R763). -/
def State.chanWant (s : State) (k : Nat) : Bool :=
  let x := s.chan k
  let b := s.bank (k / 6)
  let mode := s.cfg.sw k 1
  b.powered && b.live && !b.off && !b.ov && x.latch == 0 && !(s.aon.thermal && s.cfg.sw k 0 == 3) &&
  (s.up || s.aon.dev == .safe) &&
  (match mode with | 1 => x.logic | 2 => x.pin | 3 => x.logic || x.pin | _ => false)

/-- A channel follows its inputs: a turn-on may start blanking, a turn-off starts the off time (R511, R515). -/
def State.chanFollow (s : State) (k : Nat) : State :=
  let x := s.chan k
  let w := s.chanWant k
  if w = x.on then s
  else if w then
    let blank := (x.fresh || decide (x.offNow + 10000000 ≤ s.time.now)) && s.cfg.sw k 4 != 0
    s.setChan k { x with on := true, fresh := false, blank := blank, blankEnd := s.time.now + 1000000 * s.cfg.sw k 4, onSince := s.time.now }
  else
    s.setChan k { x with on := false, blank := false, offNow := s.time.now, onTime := x.onTime + (s.time.now - x.onSince) }

/-- Every channel follows its inputs. -/
def State.chansFollow (s : State) : State := s.each (upto 24) (fun k s => s.chanFollow k)

/-- The ACTIVE leaf's command path is the one that the power die accepts (R11, R13). -/
def State.pathTaken (s : State) : Bool := match s.kn.active with | some l => l.num == s.power.kaPath | none => false

/-- The power die sets a channel's logic enable by command on the accepted path; it discards any other (R13, R14). -/
def State.chanSet (s : State) (k : Nat) (on : Bool) : State :=
  if s.pathTaken then (s.setChan k { s.chan k with logic := on }).chanFollow k else s

/-- HEATER channels turn off and lose their enable when the thermal latch is set, whatever leaf commands (R416, R526). -/
def State.heatersOff (s : State) : State :=
  s.each ((upto 24).filter (fun k => s.cfg.sw k 0 == 3 && s.cfg.img.has Ty.switch k)) (fun k s =>
    (s.setChan k { s.chan k with logic := false }).chanFollow k)

/-- A channel enters a latched state: 0 OC, 1 SHORT, 2 FW, 3 THERMAL (R516, R521, R523). -/
def State.chanLatch (s : State) (k bitNo peak : Nat) : State :=
  let x := s.chan k
  (s.setChan k { x with latch := setBit x.latch bitNo true, latches := satAdd 16 x.latches 1, latchTime := s.devTime
                        latchNow := s.time.now, latchPeak := if bitNo ≤ 1 then peak else x.latchPeak }).chanFollow k

/-- STATE of a channel (R525, R532). -/
def State.chanState (s : State) (k : Nat) : Nat :=
  let x := s.chan k
  let b := s.bank (k / 6)
  if bit x.latch 3 then 5 else if bit x.latch 2 then 4 else if bit x.latch 1 then 3 else if bit x.latch 0 then 2
  else if b.off then 6 else if !b.powered then 7 else if x.on then 1 else 0

/-- The threshold in force, LSB 10 mA (R515). -/
def State.threshold (s : State) (k : Nat) : Nat :=
  if (s.chan k).blank then 5 * s.cfg.sw k 5 else iLat.getD (s.cfg.sw k 2) 0

/-- Power-die events reach the leaves while a leaf runs. DEDUCED, log 84. -/
def State.chanOk (s : State) (k : Nat) : Bool := decide (k < 24) && s.aon.vaon

/-! ### Commands -/

/-- SW_SET (R513). -/
def State.swSet (s : State) (k en : Nat) : HR :=
  if k ≥ 24 ∨ en > 1 then s.ans St.bounds
  else if (s.cfg.chanString k).isSome then s.ans St.denied
  else if s.cfg.sw k 1 = 0 ∨ s.cfg.sw k 1 = 2 then s.ans St.denied
  else if s.aon.thermal ∧ s.cfg.sw k 0 = 3 ∧ en = 1 then s.ans St.denied
  else (s.chanSet k (en == 1)).ans St.ok

def execSwSet (t : Nat) (q : HReq) (s : State) : Ans :=
  at' t (fun s => s.cmd q 0x0D01 (fun s => s.may q.sess Perm.strings) (· == 4) (fun s => s.swSet (arg q 0 1) (arg q 1 1))) s

/-- The string of a DIRECT channel is not OPEN. -/
def State.stringBusy (s : State) (k : Nat) : Bool :=
  match s.cfg.chanString k with
  | some i => (kget {} s.hasp.strs i).st != 0
  | none => false

/-- SW_REENABLE (R527): the first row that applies. -/
def State.swReenable (s : State) (k : Nat) : HR :=
  let x := s.chan k
  let why := fun (n : Nat) (s : State) => s.ansWhy (Config.caseCode 0x0D02 n)
  if k ≥ 24 then s.ans St.bounds
  else if x.latch = 0 then why 1 s
  else if bit x.latch 3 then why 2 s
  else if s.stringBusy k then why 3 s
  else if s.time.now < x.latchNow + 100000000 * s.cfg.sw k 7 then s.ans St.busy
  else if x.restarts ≥ s.cfg.sw k 6 ∧ !x.grant then why 4 (s.evA Ev.swRestartDenied k [p1 x.restarts])
  else
    let s := s.setChan k { x with restarts := min 255 (x.restarts + 1), fwCount := 0, grant := false, latch := 0, fresh := true, decayFrom := s.time.now }
    ((s.chanFollow k).evA Ev.swReenabled k [p1 (s.chan k).restarts]).ans St.ok

def execSwReenable (t : Nat) (q : HReq) (s : State) : Ans :=
  at' t (fun s => s.cmd q 0x0D02 (fun s => s.may q.sess Perm.clear) (· == 4) (fun s => s.swReenable (arg q 0 1))) s

/-- SW_RESTART_RESET (R528). -/
def State.swRestartReset (s : State) (k : Nat) : HR :=
  let x := s.chan k
  if k ≥ 24 then s.ans St.bounds
  else if bit x.latch 3 ∨ s.stringBusy k then s.ans St.denied
  else (s.setChan k { x with restarts := 0, grant := true }).ans St.ok

def execSwRestartReset (t : Nat) (q : HReq) (s : State) : Ans :=
  at' t (fun s => s.cmd q 0x0D03 (fun s => s.role q.sess == 3 && s.may q.sess Perm.clear) (· == 4) (fun s => s.swRestartReset (arg q 0 1))) s

/-! ### Events of the power die -/

/-- SW_OC_LATCH (R516). `peak` has LSB 10 mA. -/
def execSwOcLatch (t ch peak : Nat) (s : State) : Ans :=
  at' t (fun s => if s.chanOk ch ∧ (s.chan ch).on then
    (s.chanLatch ch 0 (min 2550 peak)).ev Ev.swOcLatch ch [p2 (s.threshold ch), p2 (min 2550 peak)] else s) s

/-- SW_SHORT_LATCH (R516): the hard short acts whether or not the channel is blanking. -/
def execSwShortLatch (t ch peak : Nat) (s : State) : Ans :=
  at' t (fun s => if s.chanOk ch ∧ (s.chan ch).on then
    (s.chanLatch ch 1 (min 2550 peak)).ev Ev.swShortLatch ch [p2 (s.threshold ch), p2 (min 2550 peak)] else s) s

/-- SW_OPEN_LOAD (R517 to R519): a flag sets or clears; it is logged when it sets. The off-state reading is free. DEDUCED, log 84. -/
def execSwOpenLoad (t ch : Nat) (on flag : Bool) (s : State) : Ans :=
  at' t (fun s =>
    let x := s.chan ch
    let judged := if on then x.on else !x.on && s.cfg.sw ch 10 == 1
    if !s.chanOk ch ∨ (flag ∧ !judged) then s
    else
      let was := if on then x.olOn else x.olOff
      let s := s.setChan ch (if on then { x with olOn := flag } else { x with olOff := flag })
      if flag ∧ !was then
        let reading := if on then s.sw.sealed.dev.swCur.getD ch 0 else Config.freeNat s.free
        (if on then s else s.draw).ev Ev.swOpenLoad ch [p1 (b2n on), p2 reading]
      else s) s

/-- SW_FREEWHEEL_FAULT (R521): the third event latches the channel. `volt` is the lowest output voltage, 0.1 V. -/
def execSwFreewheelFault (t ch : Nat) (volt : Int) (s : State) : Ans :=
  at' t (fun s =>
    let x := s.chan ch
    if s.chanOk ch ∧ !x.on ∧ s.time.now ≤ x.offNow + 100000 then
      let n := min 255 (x.fwCount + 1)
      let s := (s.setChan ch { x with fwCount := n }).ev Ev.swFreewheelFault ch [(2, ofSigned 2 volt), p1 n]
      if n ≥ 3 ∧ !bit x.latch 2 then s.chanLatch ch 2 0 else s
    else s) s

/-- SW_THERMAL_WARN (R522): reaching the threshold sets the flag, 10 °C below clears it. A warning wakes the device (R700). -/
def execSwThermalWarn (t ch : Nat) (temp : Int) (s : State) : Ans :=
  at' t (fun s =>
    let x := s.chan ch
    if !s.chanOk ch then s
    else if x.warn then s.setChan ch { x with warn := false }
    else ((s.setChan ch { x with warn := true }).ev Ev.swThermalWarn ch [(2, ofSigned 2 temp)]).wake 0x20) s

/-- SW_THERMAL_LATCH (R523, R525). -/
def execSwThermalLatch (t ch : Nat) (temp : Int) (s : State) : Ans :=
  at' t (fun s => if s.chanOk ch ∧ !bit (s.chan ch).latch 3 then
    (s.chanLatch ch 3 0).ev Ev.swThermalLatch ch [(2, ofSigned 2 temp)] else s) s

/-- The UV flags of the sealed device input (R529). -/
def State.banksSeal (s : State) : State :=
  { s with power := { s.power with banks := s.power.banks.map (fun (e : Nat × Bank) => (e.1, { e.2 with uv := e.2.uvPend, uvPend := false })) } }

/-- The powered banks have their modes and enables at the commit point after VBB rose (R514). -/
def State.banksLive (s : State) : State :=
  ({ s with power := { s.power with banks := s.power.banks.map (fun (e : Nat × Bank) => (e.1, { e.2 with live := e.2.powered && !s.aon.unkeyed })) } } : State).chansFollow

/-- SW_BANK_UV (R529): nothing turns off; one record per sweep. `volt` has LSB 0.1 V. -/
def execSwBankUv (t bank volt : Nat) (s : State) : Ans :=
  at' t (fun s =>
    let b := s.bank bank
    if bank < 4 ∧ b.powered ∧ s.aon.vaon then
      let s := s.setBank bank { b with uvPend := true, uvEvents := satAdd 16 b.uvEvents 1 }
      if b.uvPend then s else s.ev Ev.swBankUv bank [p2 volt]
    else s) s

/-- SW_BANK_UNPOWERED (R32, R529). -/
def execSwBankUnpowered (t bank : Nat) (s : State) : Ans :=
  at' t (fun s =>
    let b := s.bank bank
    if bank < 4 ∧ b.powered then
      (s.setBank bank { b with powered := false, live := false, ov := false }).chansFollow.ev Ev.swBankUnpowered bank []
    else s) s

/-- BANK_POWER_UP (R32, R514, R524): latches are held by the AON; modes and enables follow at the next commit point. -/
def execBankPowerUp (t bank : Nat) (s : State) : Ans :=
  at' t (fun s => if bank < 4 ∧ !(s.bank bank).powered then s.setBank bank { s.bank bank with powered := true, live := false } else s) s

/-- SW_BANK_OV (R763). `volt` is the highest voltage, LSB 0.1 V. -/
def execSwBankOv (t bank volt : Nat) (s : State) : Ans :=
  at' t (fun s =>
    let b := s.bank bank
    if bank < 4 ∧ b.powered ∧ !b.ov then (s.setBank bank { b with ov := true }).chansFollow.ev Ev.swBankOv bank [p2 volt] else s) s

/-- BANK_OV_END (R763): the next turn-on of each channel is a blanking start. -/
def execBankOvEnd (t bank : Nat) (s : State) : Ans :=
  at' t (fun s =>
    if bank < 4 ∧ (s.bank bank).ov then
      let s := s.setBank bank { s.bank bank with ov := false }
      (s.each (bankChans bank) (fun k s => s.setChan k { s.chan k with fresh := true })).chansFollow
    else s) s

/-- IN_PIN_CHANGE (R511, R512). -/
def execInPinChange (t pin : Nat) (level : Bool) (s : State) : Ans :=
  at' t (fun s => if pin < 24 then (s.setChan pin { s.chan pin with pin := level }).chanFollow pin else s) s

/-- KEEPALIVE_LOSS (R15, R511): every logic enable is cleared. -/
def execKeepaliveLoss (t : Nat) (s : State) : Ans :=
  at' t (fun s =>
    let s := s.each (upto 24) (fun k s => s.setChan k { s.chan k with logic := false })
    ({ s with power := { s.power with kaLost := true } } : State).chansFollow) s

/-- BLANKING_END (R515). -/
def execBlankingEnd (t ch : Nat) (s : State) : Ans :=
  at' t (fun s => if (s.chan ch).blank ∧ (s.chan ch).blankEnd ≤ s.time.now then s.setChan ch { s.chan ch with blank := false } else s) s

/-- RESTART_DECAY (R528): a full 600 s without a latch. -/
def execRestartDecay (t ch : Nat) (s : State) : Ans :=
  at' t (fun s =>
    let x := s.chan ch
    if x.latch = 0 ∧ x.restarts > 0 ∧ x.decayFrom + 600000000000 ≤ s.time.now then
      s.setChan ch { x with restarts := x.restarts - 1, decayFrom := s.time.now }
    else s) s

end Sys2Proof.Machine
end

