-- ==== Sys2Proof/Machine/Hasp.lean ====
section
/-!
DEFINITION. Hasp: commands to contactors, feedback, closing, opening, welds, the queue of closes (R456 to R486).
-/
namespace Sys2Proof.Machine

/-! ### Records and feedback -/

/-- A string's contactor record. -/
def State.hs (s : State) (i : Nat) : HaspStr := kget {} s.hasp.strs i
/-- A string's contactor record replaced. -/
def State.setHs (s : State) (i : Nat) (x : HaspStr) : State := { s with hasp := { s.hasp with strs := kset {} s.hasp.strs i x } }
/-- A string's contactor record changed. -/
def State.modHs (s : State) (i : Nat) (f : HaspStr → HaspStr) : State := s.setHs i (f (s.hs i))

/-- The part of a contactor record that MRAM keeps (R484, R485). -/
def HaspStr.opens (x : HaspStr) : Opens :=
  { opensPos := x.opensPos, loadPos := x.loadPos, opensNeg := x.opensNeg, loadNeg := x.loadNeg
    iLast := x.iLast, iMax := x.iMax, closes := x.closes, weldCount := x.weldCount }

/-- A contactor record at its "After start" values: OPEN (R483), with the counts of R484. -/
def Opens.record (x : Opens) : HaspStr :=
  { opensPos := x.opensPos, loadPos := x.loadPos, opensNeg := x.opensNeg, loadNeg := x.loadNeg
    iLast := x.iLast, iMax := x.iMax, closes := x.closes, weldCount := x.weldCount }

/-- The opening record of a string goes to its MRAM unit (R484). -/
def State.opensPut (s : State) (i : Nat) : State := s.mramPut (.opens i (s.hs i).opens)

/-- T_SETTLE, ns (R114). -/
def State.settleNs (s : State) (i : Nat) : Nat := 1000000 * s.cfg.haspFld i 7
/-- I_OPEN_SAFE, 100 µA. -/
def State.openSafe (s : State) (i : Nat) : Nat := s.cfg.haspFld i 0x0C
/-- I_PROT of a string. -/
def State.iProt (s : State) (i : Nat) : Int := (kget {} s.strCur i).iProt
/-- I_Q of R303: the smallest I_QUASI among the chemistries of the string's cells; 0 without cells. -/
def Cfg.iQ (c : Cfg) (i : Nat) : Nat :=
  match (c.stringCells i).map (fun k => (c.chem (c.cell k).chem 0x10).toNat) with
  | [] => 0
  | x :: r => r.foldl min x
/-- The current lies above I_OPEN_SAFE. -/
def State.heavy (s : State) (i : Nat) : Bool := decide ((s.iProt i).natAbs > s.openSafe i)
/-- Sample instant of the sweep in hand. -/
def State.sampleAt (s : State) : Nat := s.sw.ts + s.cfg.tLead

/-- The string-node entry in the sealed set. -/
def State.strSealed (s : State) (i : Nat) : StrIn := kget { tag := 4 } s.sw.sealed.strs i

/-- Feedback of a string (R458): usable, main+ closed, main− closed, pre-charge driven. DEDUCED, log 74. -/
def State.feedback (s : State) (i : Nat) : Bool × Bool × Bool × Bool :=
  if isDirect s.cfg i then
    (true, bit s.sw.sealed.dev.aux (s.cfg.strFld i 7), bit s.sw.sealed.dev.aux (s.cfg.strFld i 8), (s.chan (s.cfg.strFld i 6)).on)
  else
    let e := s.strSealed i
    (e.tag == 0, bit e.contacts 0, bit e.contacts 1, bit e.contacts 2)

/-- Whether a string's node supplies its voltages in this sweep (R461). -/
def State.nodeVolts (s : State) (i : Nat) : Bool :=
  match s.cfg.strNode i with
  | some (r, p) => bit (s.node r p).caps 6 && (s.strSealed i).tag == 0
  | none => false

/-- Whether a string's node declares BUS_VOLTAGE: the voltage method (R468). -/
def State.voltMethod (s : State) (i : Nat) : Bool :=
  match s.cfg.strNode i with
  | some (r, p) => bit (s.node r p).caps 6
  | none => false

/-- V_STR, 10 mV (R461). -/
def State.vStr (s : State) (i : Nat) : Nat :=
  if s.nodeVolts i then (s.strSealed i).vStr
  else (rndDiv ((sumN ((s.cfg.stringCells i).map (fun k => (kget {} s.sw.sealed.cells k).v)) : Nat) : Int) 100).toNat

/-- The CLOSED strings, lowest first. -/
def State.closedStrs (s : State) : List Nat := s.cfg.strings.filter (fun i => (s.hs i).st == 3)

/-- V_BUS, 10 mV, where one is known (R461). DEDUCED, log 76. -/
def State.vBus (s : State) (i : Nat) : Option Nat :=
  if s.nodeVolts i then some (s.strSealed i).vBus
  else match s.closedStrs with
    | j :: _ => some (s.vStr j)
    | [] => none

/-! ### Commands -/

/-- ACT_CMD to a string node (R173, R215): EMERGENCY from both ends, else from the serving end. -/
def State.sendAct (s : State) (i code : Nat) (em : Bool) : State :=
  match s.cfg.strNode i with
  | none => s
  | some (r, p) =>
    if (s.node r p).quar ≠ 0 then s
    else
      let tok := s.ch.actTok
      let s := { s with ch := { s.ch with actTok := tok + 1 } }
      let q : Req := { kind := 8, payload := [byteOf code, byteOf (b2n em), 0, 0], purpose := .act i tok, cls := if em then 1 else 3 }
      if em then s.each [Leaf.a, Leaf.b] (fun e s => s.request' r e p q) else s.request' r (s.reqEnd r p) p q

/-- What a command asks of the three contactors: some true close, some false open. -/
structure Drive where
  pos : Option Bool := none
  neg : Option Bool := none
  pc : Option Bool := none
  deriving DecidableEq, Repr

/-- All three open. -/
def Drive.allOpen : Drive := { pos := some false, neg := some false, pc := some false }

/-- An opening of a main contactor is counted (R484). -/
def State.countOpen (s : State) (i : Nat) (pos : Bool) : State :=
  let x := s.hs i
  let h := b2n (s.heavy i)
  let ip := s.iProt i
  let x := if pos then { x with opensPos := satAdd 32 x.opensPos 1, loadPos := satAdd 32 x.loadPos h }
    else { x with opensNeg := satAdd 32 x.opensNeg 1, loadNeg := satAdd 32 x.loadNeg h }
  (s.setHs i { x with iLast := ip, iMax := max x.iMax ip.natAbs }).opensPut i

/-- Hasp commands contactors (R457, R477): each command sets a state. Without an ACTIVE leaf nothing commands them (R11). -/
def State.drive (s : State) (i : Nat) (d : Drive) (em : Bool) : State :=
  if s.kn.active.isNone then s else
  let x := s.hs i
  let s := s.when (d.pos == some false && x.cmdPos) (fun s => s.countOpen i true)
  let s := s.when (d.neg == some false && x.cmdNeg) (fun s => s.countOpen i false)
  let s := s.modHs i (fun x => { x with cmdPos := d.pos.getD x.cmdPos, cmdNeg := d.neg.getD x.cmdNeg, cmdPc := d.pc.getD x.cmdPc
                                        cmdNow := s.time.now, stepTime := s.devTime })
  if isDirect s.cfg i then
    let put := fun (o : Option Bool) (off : Nat) (s : State) => match o with | some b => s.chanSet (s.cfg.strFld i off) b | none => s
    put d.pc 6 (put d.neg 5 (put d.pos 4 s))
  else if d.pos = some false ∧ d.neg = some false then s.sendAct i 0 em
  else
    let s := match d.neg with | some true => s.sendAct i 1 em | some false => s.sendAct i 6 em | none => s
    let s := match d.pos with | some true => s.sendAct i 3 em | some false => s.sendAct i 5 em | none => s
    match d.pc with | some true => s.sendAct i 2 em | some false => s.sendAct i 4 em | none => s

/-! ### Confirmation (R459) -/

/-- The verdict on a commanded state: none while it is open, some true confirmed, some false failed. -/
def State.confirm (s : State) (i : Nat) (ok : Bool × Bool × Bool × Bool → Bool) : Option Bool :=
  let x := s.hs i
  let fb := s.feedback i
  let due := decide (x.cmdNow + s.settleNs i ≤ s.sampleAt)
  if due && fb.1 then some (ok fb)
  else if decide (x.cmdNow + s.settleNs i + 1000000000 < s.sampleAt) then some false else none

/-! ### Opening -/

/-- Causes of an opening: those STRING_OPENED names (R478), and the silence of the PCS (R499). -/
inductive OpenCause where
  | request | protection | abort | contactLost | thermal | silence
  deriving DecidableEq, Repr

/-- The number of a cause. -/
def OpenCause.num : OpenCause → Nat
  | .request => 0
  | .protection => 1
  | .abort => 2
  | .contactLost => 3
  | .thermal => 4
  | .silence => 5

/-- An opening begins (R474, R476, R477): EMERGENCY at once; NORMAL with the ramp wait, or without it for a string that was
not closed. -/
def State.beginOpen (s : State) (i : Nat) (em ramp : Bool) (c : OpenCause) : State :=
  let ip := s.iProt i
  let s := s.modHs i (fun x => { x with st := 4, mode := if em then 2 else 1, openCause := c.num, openI := ip, unans := false, stuck := 0 })
  if em then (s.modHs i (fun x => { x with step := 9, ramp := false })).drive i Drive.allOpen true
  else if ramp then s.modHs i (fun x => { x with step := 8, ramp := true, rampFrom := s.time.now })
  else (s.modHs i (fun x => { x with step := 9, ramp := false })).drive i { pos := some false, pc := some false } false

/-- A closing sequence aborts (R474). -/
def State.abortClose (s : State) (i reason : Nat) (em : Bool) (c : OpenCause) : State :=
  let x := s.hs i
  let s := s.modHs i (fun x => { x with reason := reason, abortAt := some s.time.now })
  let s := s.when (reason == 6) (fun s => s.ev Ev.prechargeTimeout i [p4 x.x1, p4 x.x, p1 x.method])
  let s := s.ev Ev.closeAborted i [p1 reason]
  s.beginOpen i (em || s.heavy i) false c

/-- A queued entry is removed with its reason (R465, R486). DEDUCED, log 70. -/
def State.unqueue (s : State) (i reason : Nat) : State :=
  if s.hasp.queue.any (fun e => e.1 == i) then
    let s := { s with hasp := { s.hasp with queue := s.hasp.queue.filter (fun e => e.1 != i) } }
    (s.modHs i (fun x => { x with reason := reason })).ev Ev.closeAborted i [p1 reason]
  else s

/-- A string is to open (R463, R466, R486), by the ACTIVE leaf (R11). DEDUCED, log 70. -/
def State.openStr (s : State) (i : Nat) (em : Bool) (c : OpenCause) : State :=
  let x := s.hs i
  let reason := if c = .request ∨ c = .silence then 0x0A else 9
  if s.kn.active.isNone then s else
  match x.st with
  | 0 => s.unqueue i reason
  | 1 => s.abortClose i reason em c
  | 2 => s.abortClose i reason em c
  | 3 => s.beginOpen i em true c
  | 4 => if em ∧ x.mode = 1 then (s.modHs i (fun x => { x with mode := 2, step := 9, ramp := false })).drive i Drive.allOpen true else s
  | _ => s

/-- The evidence of a weld (R481): none, or the evidence and the contactor, numbered. -/
def State.weldEvidence (s : State) (i : Nat) : Option (Nat × Nat) :=
  let fb := s.feedback i
  let e := s.strSealed i
  let w := s.cfg.haspFld i 0x12
  let node := !isDirect s.cfg i && e.tag == 0
  if fb.1 && fb.2.1 then some (0, 0) else if fb.1 && fb.2.2.1 then some (0, 1)
  else if (s.iProt i).natAbs > s.cfg.iQ i then some (1, 2)
  else if node && decide (e.vPos < w) && decide (e.vNeg ≥ 10 * w) then some (2, 0)
  else if node && decide (e.vNeg < w) && decide (e.vPos ≥ 10 * w) then some (2, 1)
  else none

/-- WELD_SUSPECT (R482): the first repeat of the EMERGENCY opening goes at entry. DEDUCED, log 71, 72. -/
def State.weldEnter (s : State) (i : Nat) (ev : Nat × Nat) : State :=
  let s := s.modHs i (fun x => { x with st := 5, step := 11, welds := 0, ramp := false, testing := true, weldCount := satAdd 16 x.weldCount 1 })
  let s := (s.opensPut i).ev Ev.weldSuspect i [p1 (Config.caseCode Ev.weldSuspect (10 + ev.2)), p1 (Config.caseCode Ev.weldSuspect ev.1)]
  s.drive i Drive.allOpen true

/-- The end of an opening without evidence (R478). -/
def State.opened (s : State) (i : Nat) : State :=
  let x := s.hs i
  (s.modHs i (fun x => { x with st := 0, step := 0, mode := 0, unans := false })).ev Ev.stringOpened i
    [p1 x.mode, p1 (Config.caseCode Ev.stringOpened x.openCause), (4, ofSigned 4 x.openI)]

/-- The steps of OPENING at a commit point (R476, R477, R480, R481). DEDUCED, log 71, 72. -/
def State.openStep (s : State) (i : Nat) : State :=
  let x := s.hs i
  let safe := decide ((s.iProt i).natAbs < s.openSafe i)
  if x.unans then
    if x.lastOpen + s.settleNs i + 1000000000 < s.sampleAt then s.weldEnter i ((s.weldEvidence i).getD (3, 2))
    else (s.modHs i (fun x => { x with step := 9, mode := 2, ramp := false })).drive i Drive.allOpen true
  else if x.step = 8 then
    if safe ∨ x.rampFrom + 1000000 * s.cfg.haspFld i 0x10 ≤ s.time.now then
      (s.modHs i (fun x => { x with ramp := false, step := 9, openI := s.iProt i })).drive i { pos := some false, pc := some false } false
    else s
  else
    let v := s.confirm i (fun fb => if x.mode = 2 then !fb.2.1 && !fb.2.2.1 else if x.step = 10 then !fb.2.2.1 else !fb.2.1)
    match v with
    | none => s
    | some false => s.weldEnter i ((s.weldEvidence i).getD (3, 2))
    | some true =>
      if x.step = 9 ∧ x.mode ≠ 2 then (s.modHs i (fun x => { x with step := 10 })).drive i { neg := some false } false
      else match s.weldEvidence i with
        | some ev => s.weldEnter i ev
        | none => s.opened i

/-- A weld test of a WELD_SUSPECT string at a commit point (R482). -/
def State.weldStep (s : State) (i : Nat) : State :=
  if !(s.hs i).testing then s
  else
    let late := decide ((s.hs i).cmdNow + s.settleNs i + 1000000000 < s.sampleAt)
    match s.confirm i (fun _ => true) with
    | none => s
    | some _ =>
      let bad := (s.weldEvidence i).isSome || (late && !(s.feedback i).1)
      if !bad then s.modHs i (fun x => { x with st := 0, step := 0, mode := 0, welds := 0, testing := false })
      else
        let n := (s.hs i).welds + 1
        if n ≥ 3 then (s.modHs i (fun x => { x with st := 6, step := 0, welds := n, testing := false })).ev Ev.stringLocked i []
        else s.modHs i (fun x => { x with welds := n, testing := false })

/-- STRING_UNLOCK: the weld test of a LOCKED string at the next sweep (R483). -/
def State.unlockStep (s : State) (i : Nat) : State :=
  match (s.hs i).unlock with
  | none => s
  | some (k, tag) =>
    let s := s.modHs i (fun x => { x with unlock := none })
    if (s.hs i).st = 6 ∧ (s.feedback i).1 ∧ (s.weldEvidence i).isNone then
      ((s.modHs i (fun x => { x with st := 0, step := 0, mode := 0, welds := 0 })).evA Ev.stringUnlocked i [p1 k]).answer k tag St.ok []
    else s.answer k tag St.denied []

/-! ### Closing -/

/-- The quantity x of R468 in this sweep, where it is known. -/
def State.pcX (s : State) (i : Nat) : Option Nat :=
  if (s.hs i).method = 1 then
    (if s.nodeVolts i then some (((s.vStr i : Int) - (s.strSealed i).vBus).natAbs) else none)
  else some (kget {} s.strCur i).iEst.natAbs

/-- Pre-charge ends: main+ is commanded (R470). -/
def State.mainPos (s : State) (i : Nat) : State := (s.modHs i (fun x => { x with step := 6 })).drive i { pos := some true } false

/-- Steps 3 and 4: the first value, the time constant, the end (R468 to R470). DEDUCED, log 72. -/
def State.pcStep (s : State) (i : Nat) : State :=
  let h := s.hs i
  let smp := s.sampleAt
  let c := s.cfg
  match s.pcX i with
  | none => s
  | some x =>
    if h.step = 3 then
      if smp < h.cmdNow + s.settleNs i then s
      else
        let xEnd := if h.method = 1 then c.haspFld i 2 * s.vStr i / 10000 else x * c.haspFld i 2 / 10000
        let s := s.modHs i (fun y => { y with x1 := x, x := x, t1 := smp, tPrev := smp, tauOk := false, step := 4, quarter := 0 })
        if h.method = 2 ∧ x < c.iQ i then s.abortClose i 5 false .abort
        else if h.method = 1 ∧ x ≤ xEnd then s.mainPos i else s
    else
      let us := (smp - h.t1) / 1000
      let prev := (h.tPrev - h.t1) / 1000
      let tau := c.haspFld i 8
      let tol := c.haspFld i 6
      let lo := 1386 * tau * (100 - tol)
      let hi := 1386 * tau * (100 + tol)
      let q := h.x1 / 4
      let xEnd := if h.method = 1 then c.haspFld i 2 * s.vStr i / 10000 else h.x1 * c.haspFld i 2 / 10000
      let s := s.modHs i (fun y => { y with x := x, tPrev := smp })
      if !h.tauOk ∧ x ≤ q ∧ us * 100000 < lo then s.abortClose i 3 false .abort
      else if !h.tauOk ∧ x ≤ q ∧ prev * 100000 > hi then s.abortClose i 4 false .abort
      else if !h.tauOk ∧ x > q ∧ us * 100000 > hi then s.abortClose i 4 false .abort
      else if !h.tauOk ∧ x > q then s
      else
        let s := s.when (!h.tauOk) (fun s => s.modHs i (fun y => { y with tauOk := true, quarter := us }))
        if us > c.haspFld i 0 * 1000 then s.abortClose i 6 false .abort
        else if x ≤ xEnd then s.mainPos i else s

/-- A condition of the closing sequence is lost (R475). -/
def State.closeLost (s : State) (i : Nat) : Bool :=
  (kget {} s.strCur i).absent || !s.inRun || s.dbState != 0 ||
  (!isDirect s.cfg i && (s.strSealed i).tag != 0 && decide ((s.hs i).lastTag + s.settleNs i + 1000000000 < s.sampleAt))

/-- Step 5: waiting for a matched voltage (R471). -/
def State.joinStep (s : State) (i : Nat) : State :=
  let h := s.hs i
  if h.joinFrom + 1000000 * s.cfg.haspFld i 0 < s.sampleAt then s.abortClose i 7 false .abort
  else match s.vBus i with
    | none => s
    | some b =>
      let v := s.vStr i
      if ((v : Int) - b).natAbs * 10000 ≤ s.cfg.haspFld i 4 * v then
        (s.modHs i (fun x => { x with method := 3 })).mainPos i
      else s

/-- The steps of PRECHARGING and JOINING at a commit point (R467 to R475). DEDUCED, log 72. -/
def State.closeStep (s : State) (i : Nat) : State :=
  let h := s.hs i
  if s.closeLost i then s.abortClose i 0x0B false .abort
  else if h.step = 2 then
    match s.confirm i (fun fb => fb.2.2.1) with
    | none => s
    | some false => s.abortClose i 1 false .abort
    | some true =>
      if h.st = 1 then (s.modHs i (fun x => { x with step := 3, method := if s.voltMethod i then 1 else 2 })).drive i { pc := some true } false
      else (s.modHs i (fun x => { x with step := 5, joinFrom := s.sampleAt })).joinStep i
  else if h.step = 5 then s.joinStep i
  else if h.step = 6 then
    match s.confirm i (fun fb => fb.2.1) with
    | none => s
    | some false => s.abortClose i 2 false .abort
    | some true =>
      let s := s.modHs i (fun x => { x with st := 3, step := 7, stuck := 0, stuckLogged := false, closes := satAdd 16 x.closes 1 })
      let s := (s.opensPut i).drive i { pc := some false } false
      s.ev Ev.stringClosed i [p1 h.method, p4 h.x1]
  else s.pcStep i

/-- A CLOSED string at a commit point: a lost contact (R479), the release of the pre-charge path (R473). -/
def State.closedStep (s : State) (i : Nat) : State :=
  let h := s.hs i
  let fb := s.feedback i
  if fb.1 && (!fb.2.1 || !fb.2.2.1) then
    let s := s.when (!fb.2.1) (fun s => s.ev Ev.contactorLost i [p1 (Config.caseCode Ev.contactorLost 0)])
    let s := s.when (!fb.2.2.1) (fun s => s.ev Ev.contactorLost i [p1 (Config.caseCode Ev.contactorLost 1)])
    s.beginOpen i true false .contactLost
  else if h.step = 7 ∧ (h.stuck > 0 ∨ h.cmdNow + s.settleNs i ≤ s.sampleAt) then
    if isDirect s.cfg i ∨ (fb.1 ∧ !fb.2.2.2) then s.modHs i (fun x => { x with step := 0 })
    else if !fb.1 then s
    else if h.stuck ≥ 3 then s.beginOpen i false true .abort
    else
      let s := s.when (!h.stuckLogged) (fun s => s.ev Ev.prechargeStuck i [])
      (s.modHs i (fun x => { x with stuck := x.stuck + 1, stuckLogged := true })).drive i { pc := some false } false
  else s

/-- What the record of a string shows of this sweep (R485). -/
def State.haspSee (s : State) (i : Nat) : State :=
  let fb := s.feedback i
  let smp := s.sampleAt
  let v := s.vStr i
  let b := (s.vBus i).getD 0xFFFFFFFF
  s.modHs i (fun x => { x with fbPos := fb.2.1, fbNeg := fb.2.2.1, fbPc := fb.2.2.2, usable := fb.1, vStr := v, vBus := b, sweep := s.sw.num
                               lastTag := if fb.1 then smp else x.lastTag })

/-- One string at a commit point (R460). -/
def State.strStep (s : State) (i : Nat) : State :=
  let s := s.haspSee i
  match (s.hs i).st with
  | 1 => s.closeStep i
  | 2 => s.closeStep i
  | 3 => s.closedStep i
  | 4 => s.openStep i
  | 5 => s.weldStep i
  | 6 => s.unlockStep i
  | _ => s

/-! ### The queue (R464, R465) -/

/-- A trip is latched on a string, a function acts on it at OPEN or above, or one acts on the bank (R426, R464). -/
def State.tripHolds (s : State) (i : Nat) : Bool :=
  let x := kget {} s.prot.strs i
  x.latched != 0 || (x.level != 0xFF && decide (x.level ≥ 2)) || s.aon.bankActing != 0

/-- Every ring that carries a string's cells or string node has delivered (R43). -/
def State.delivered (s : State) (i : Nat) : Bool := s.cfg.rings.all (fun r => !s.cfg.ringOfString r i || ((s.ring r).delivered && (s.ring r).st != .lost))

/-- A rule with CORRUPT_SILENT that Pick holds armed names the string (R713, R714). -/
def State.silentArmed (s : State) (i : Nat) : Bool :=
  s.pick.armed && s.pick.rules.any (fun r => r.fld 2 1 == 2 && (r.fld 0 1 == 17 || s.cfg.ringOfString (r.fld 0 1) i))

/-- The first row of R464 that applies: none means that the string is queued. DEDUCED, log 69. -/
def State.closeRow (s : State) (i : Nat) (parent queued : Bool) : Option Nat :=
  let st := (s.hs i).st
  if !s.cfg.img.has Ty.string i then some St.denied
  else if s.cfg.strFld i 3 = 1 ∧ !parent then some St.denied
  else if s.aon.dev = .sleep ∨ s.sleep.st = 1 then some St.busy
  else if !s.inRun ∨ s.aon.unkeyed then some St.denied
  else if st = 4 ∨ st = 5 ∨ st = 6 then some St.denied
  else if st ≠ 0 ∨ (s.hasp.queue.any (fun e => e.1 == i) ∧ !queued) then some St.ok
  else if s.tripHolds i then some St.denied
  else if s.dbState ≠ 0 then some St.denied
  else if s.silentArmed i then some St.denied
  else if !s.delivered i then some St.busy
  else none

/-- A close request of one string. -/
def State.closeOne (s : State) (i : Nat) (parent : Bool) : State × Nat :=
  match s.closeRow i parent false with
  | some st => (s, st)
  | none => ({ s with hasp := { s.hasp with queue := s.hasp.queue ++ [(i, s.time.now)] } }, St.ok)

/-- The checks of R465 for an entry before it leaves: 0 none fails, else the reason of its removal. DEDUCED, log 70. -/
def State.queueFails (s : State) (i at0 : Nat) : Nat :=
  if (s.closeRow i true true).isSome ∨ (kget {} s.strCur i).absent ∨ (!isDirect s.cfg i ∧ (s.strSealed i).tag ≠ 0) then 0x0B
  else if at0 + 60000000000 ≤ s.time.now then 0x0C else 0

/-- The head of the queue may leave (R465). -/
def State.mayLeave (s : State) (i : Nat) : Bool :=
  let busy := s.cfg.strings.filter (fun j => (s.hs j).st == 1 || (s.hs j).st == 2)
  decide (busy.length < s.cfg.n Ty.device 0 0x46) && !busy.any (fun j => (s.hs j).st == 1) && s.stage.st != 5 &&
  (match (s.hs i).abortAt with | some a => decide (a + 60000000000 ≤ s.time.now) | none => true)

/-- An entry leaves the queue: the pre-close check, then main− (R463, R467). -/
def State.leaveQueue (s : State) (i : Nat) : State :=
  let s := { s with hasp := { s.hasp with queue := s.hasp.queue.filter (fun e => e.1 != i) } }
  let fb := s.feedback i
  if fb.1 && (fb.2.1 || fb.2.2.1) then s.weldEnter i (0, if fb.2.1 then 0 else 1)
  else
    let st := if s.closedStrs.isEmpty then 1 else 2
    (s.modHs i (fun x => { x with st := st, step := 2, method := 0, x1 := 0, mode := 0 })).drive i { neg := some true } false

/-- The queue from its head, by fuel. -/
def State.runQueue : Nat → State → State
  | 0, s => s
  | k + 1, s =>
    match s.hasp.queue with
    | (i, _) :: _ => if s.mayLeave i then State.runQueue k (s.leaveQueue i) else s
    | [] => s

/-- Hasp at a commit point (R460): requests, every string, then the queue. -/
def State.haspCommit (s : State) : State :=
  let reqs := s.hasp.reqs
  let s := { s with hasp := { s.hasp with reqs := [] } }
  let s := s.each reqs (fun r s => s.openStr r.1 r.2 .request)
  let s := s.each s.cfg.strings (fun i s => s.strStep i)
  let s := s.each s.hasp.queue (fun e s => let w := s.queueFails e.1 e.2; if w = 0 then s else s.unqueue e.1 w)
  State.runQueue 64 s

/-! ### Requests -/

/-- The strings a request names. -/
def State.named (s : State) (k : Nat) : List Nat := if k = 0xFF then s.cfg.strings else [k]

/-- STRING_CLOSE for each string named (R464): for all strings, OK when any was queued, else the lowest string's answer. DEDUCED, log 69. -/
def State.stringClose (s : State) (k : Nat) (parent : Bool) : State × Nat :=
  if k ≥ 64 ∧ k ≠ 0xFF then (s, St.bounds)
  else
    let n0 := s.hasp.queue.length
    let r := (s.named k).foldl (fun (a : State × List Nat) i => let x := a.1.closeOne i parent; (x.1, a.2 ++ [x.2])) (s, [])
    if r.1.hasp.queue.length > n0 then (r.1, St.ok) else (r.1, r.2.headD St.denied)

def execStringClose (t : Nat) (q : HReq) (s : State) : Ans :=
  at' t (fun s => s.cmd q 0x0B01 (fun s => s.may q.sess Perm.strings) (· == 4) (fun s =>
    let r := s.stringClose (arg q 0 1) false; r.1.ans r.2)) s

/-- STRING_OPEN (R466): a queued entry goes at once, an opening begins at the next commit point (R460). -/
def State.stringOpen (s : State) (k : Nat) (em : Bool) : State :=
  s.each (s.named k) (fun i s =>
    let s := s.unqueue i 0x0A
    { s with hasp := { s.hasp with reqs := s.hasp.reqs ++ [(i, em)] } })

def execStringOpen (t : Nat) (q : HReq) (s : State) : Ans :=
  at' t (fun s => s.cmd q 0x0B02 (fun s => s.may q.sess Perm.strings) (· == 4) (fun s =>
    if arg q 0 1 ≥ 64 ∧ arg q 0 1 ≠ 0xFF then s.ans St.bounds
    else (s.stringOpen (arg q 0 1) (bit (arg q 1 1) 0)).ans St.ok)) s

/-- STRING_UNLOCK (R483): answered when the test of the next sweep has run. DEDUCED, log 69. -/
def State.stringUnlock (s : State) (q : HReq) : HR :=
  let i := arg q 0 1
  if i ≥ 64 then s.ans St.bounds
  else if (s.hs i).st ≠ 6 ∨ (s.hs i).unlock.isSome then s.ans St.denied
  else (s.modHs i (fun x => { x with unlock := some (q.sess, q.tag), step := 11 })).later

def execStringUnlock (t : Nat) (q : HReq) (s : State) : Ans :=
  at' t (fun s => s.cmd q 0x0B03 (fun s => s.may q.sess Perm.strings && s.may q.sess Perm.clear) (· == 4) (fun s => s.stringUnlock q)) s

/-- WELD_RETEST (R482): once per second the ACTIVE leaf repeats the EMERGENCY opening and a weld test. -/
def execWeldRetest (t str : Nat) (s : State) : Ans :=
  at' t (fun s =>
    let x := s.hs str
    if s.kn.active.isSome ∧ x.st = 5 ∧ !x.testing ∧ x.cmdNow + 1000000000 ≤ s.time.now then
      (s.modHs str (fun x => { x with testing := true })).drive str Drive.allOpen true
    else s) s

end Sys2Proof.Machine
end

