-- ==== Sys2Proof/Machine/Lease.lean ====
section
/-!
DEFINITION. Leases with the power conversion system: publication, CAN frames, acknowledgements, silence, compliance and
rest windows (R487 to R507, R599, R620).
-/
namespace Sys2Proof.Machine

/-! ### Bank values -/

/-- The strings that are not OPEN. -/
def State.notOpen (s : State) : List Nat := s.cfg.strings.filter (fun i => (s.hs i).st != 0)

/-- I_BANK of R500 as far as the currents of the strings not OPEN go. -/
def State.iBank (s : State) : Int := (s.notOpen.map s.iProt).foldl (· + ·) 0

/-- Every string not OPEN has its current (R500). -/
def State.bankWhole (s : State) : Bool := s.notOpen.all (fun i => !(kget {} s.strCur i).absent)

/-- V_BUS of R461 for the bank: that of the lowest string that knows one. DEDUCED, log 76. -/
def State.bankBus (s : State) : Nat := ((s.cfg.strings.filterMap s.vBus).head?).getD 0xFFFFFFFF

/-- Ticks of a sweep period. -/
def State.periodTicks (s : State) : Nat := periodNs s.sw.period / 10

/-- What a sweep adds to a time that is counted on the tick grid (R406). -/
def State.tickAdd (s : State) : Nat := min s.sw.dt s.periodTicks

/-- Ticks of ms. -/
def msTicks (n : Nat) : Nat := 100000 * n
/-- Ticks of s. -/
def secTicks (n : Nat) : Nat := 100000000 * n

/-! ### Lease numbers (R489, R497) -/

/-- The number after a lease number. -/
def nextNo (n : Nat) : Nat := if n ≥ 0xFFFFFFFF then 1 else n + 1
/-- The number before a lease number. -/
def prevNo (n : Nat) : Nat := if n ≤ 1 then 0xFFFFFFFF else n - 1
/-- `n` is newer than `m`. -/
def newerNo (n m : Nat) : Bool := let d := (n + 4294967296 - m) % 4294967296; decide (1 ≤ d ∧ d ≤ 2147483647)

/-! ### The lease (R487, R488, R490) -/

/-- FAULT by DB_STATE or HALT (R490). -/
def State.faultNow (s : State) : Bool := s.aon.dev == .halt || s.dbState != 0

/-- The published current magnitude and power of a limit: index of the lists of four (R488). -/
def State.leasePair (s : State) (zero : Bool) (k : Nat) : Nat × Nat :=
  let b := s.com.lim.lim.getD k 0
  let p := s.com.lim.pow.getD k 0
  let c := s.lease.pubCeil.getD (k % 2) 0
  let i := if zero then 0 else min b c
  (i, if i = 0 then 0 else if i = b then p else p * i / b)

/-- REST_REQUEST stands in leases (R503). -/
def State.restAsk (s : State) : Bool := s.com.strs.any (fun e => e.2.restWanted) && decide (s.lease.restSt ≤ 1)

/-- FLAGS of a lease from those of a sweep: REST_REQUEST, SILENCE and FAULT as they stand. -/
def State.leaseFlags (s : State) (base : Nat) : Nat :=
  base ||| packBits [s.restAsk, false, false, false, decide (s.lease.st ≥ 2), false, s.faultNow, false]

/-- The lease of this instant (R487). -/
def State.leaseNow (s : State) (zero : Bool) (base : Nat) : LeaseMsg :=
  let c := s.cfg
  let v := s.devTime + 1000000 * c.lease 0
  let x := fun k => s.leasePair zero k
  let no := nextNo s.lease.no
  let cur := fun k => toLe 4 (x k).1 ++ toLe 4 (ofSigned 4 (-((x (k + 1)).1 : Int)))
  { no := no, validUntil := v, sus := [(x 2).1, (x 3).1], peak := [(x 0).1, (x 1).1]
    bytes := toLe 4 no ++ toLe 2 s.lease.startId ++ toLe 2 (s.leaseFlags base) ++ toLe 8 v ++ toLe 2 (c.lease 0) ++
      toLe 2 (if s.restAsk then c.lease 0x24 else 0) ++ toLe 4 s.com.lim.sweep ++ cur 2 ++ cur 0 ++
      toLe 4 (x 2).2 ++ toLe 4 (x 3).2 ++ toLe 4 (x 0).2 ++ toLe 4 (x 1).2 ++ toLe 4 (c.lease 0x18) ++ toLe 4 (c.lease 0x1C) }

/-! ### CAN (R505) -/

/-- The controller of the ACTIVE leaf, where it transmits. -/
def State.canTx (s : State) : Option Nat :=
  match s.kn.active with
  | some .a => if s.links.can0 = 2 then some 0 else none
  | some .b => if s.links.can1 = 2 then some 1 else none
  | none => none

/-- A CAN frame of the device, through Pick (R709, R710). A mask at offsets below 8 falls into the header. -/
def State.sendCan (s : State) (ident : Nat) (data : List Byte) : State :=
  match s.canTx with
  | none => s
  | some k =>
    if !bit (s.cfg.lease 0x0E) 0 then s
    else
      let x := s.pickJudge { target := 17, e := 0, dir := 0, kindBit := ident, kind := ident, seq := Config.caseCode Ev.pickInject ident }
      let s := x.1
      let put := fun (s : State) (d : List Byte) (good : Bool) => s.emit (.can k ident d good)
      let s := match x.2 with
        | .pass => put s data true
        | .drop => s
        | .corrupt off m => put s (if off < 8 then data else maskAt data (off - 8) m) false
        | .silent _ _ => put s data true
        | .hold r n due => s.pickHold { rule := r, path := 66, tx := some (.can k ident data true), after := n, due := due }
        | .dup => put (put s data true) data true
      s.pickRelease

/-- The bank status frame after a commit (R505). -/
def State.canStatus (s : State) : State :=
  s.sendCan 2 (toLe 4 s.lease.no ++ toLe 4 (ofSigned 4 s.iBank) ++ toLe 4 s.bankBus ++ [byteOf s.closedStrs.length, byteOf s.lease.st, 0, 0])

/-! ### Publication (R491 to R493, R504 to R506) -/

/-- Sessions that receive leases (R506). -/
def State.leaseSessions (s : State) : List Nat :=
  (s.links.sess.map (·.1)).filter (fun k => k < 128 && (s.sess k).st == 3 && s.role k == 1 && s.may k Perm.lease)

/-- A lease leaves on every transport and into the traces; REST_REQUEST first published begins REQUESTED. -/
def State.putLease (s : State) (m : LeaseMsg) : State :=
  let l := s.lease
  let s := { s with lease := { l with
    no := m.no, last := m, lastPub := s.time.now, pubTime := s.devTime, published := satAdd 32 l.published 1
    valid := (m :: l.valid).filter (fun x => decide (s.devTime < x.validUntil))
    restSt := if s.restAsk ∧ l.restSt = 0 then 1 else l.restSt
    st := if l.st = 0 then 1 else l.st
    silence := if l.st = 0 then 0 else l.silence, silFrom := if l.st = 0 then s.time.now else l.silFrom } }
  let s := s.sendCan 0 m.bytes
  let s := if bit (s.cfg.lease 0x0E) 1 then s.each s.leaseSessions (fun k s => s.send k 0x90 0 0 m.bytes) else s
  s.produce 4 4 (fun _ => true) (toLe 8 s.devTime ++ m.bytes)

/-- Whether leases are published: RUN or HALT, keyed, after the first validated sweep (R491, R493). -/
def State.leasing (s : State) : Bool := s.sweeping && !s.aon.unkeyed && s.kn.active.isSome && s.sw.everValidated

/-- A lease after a commit point or an interim lease: zero until the commit that includes the decision of R492. -/
def State.publish (s : State) : State :=
  if s.leasing then s.putLease (s.leaseNow (decide (s.lease.zeroFor > 0)) s.com.lease.flags) else s

/-- An immediate zero lease (R492); `n` commit points pass before a lease carries limits again. DEDUCED, log 75. -/
def State.zeroLease (s : State) (n flags : Nat) : State :=
  if s.leasing ∧ s.lease.st ≠ 0 then
    let s := { s with lease := { s.lease with zeroFor := max s.lease.zeroFor n } }
    s.putLease (s.leaseNow true flags)
  else s

/-- An immediate zero lease outside a protection pass: a commit that is already sealed does not include its cause. DEDUCED, log 75. -/
def State.zeroLeaseNow (s : State) : State := s.zeroLease (if s.sw.phase = .sealed then 2 else 1) s.com.lease.flags

/-! ### Silence (R498, R499) -/

/-- CEIL falls to 0, in the leases at once; the record shows it from the commit point (R499, R643). -/
def State.ceilZero (s : State) : State := { s with lease := { s.lease with ceil := [0, 0], pubCeil := [0, 0] } }

/-- The silence time, in ticks, is judged. -/
def State.silenceEval (s : State) (ticks : Nat) : State :=
  let l := s.lease
  let s := if l.st = 1 ∧ ticks ≥ 3 * msTicks (s.cfg.lease 0) then
      ({ s with lease := { l with st := 2, silBase := ticks } } : State).ceilZero.ev Ev.leaseSilence srcD [p4 l.a, p4 l.no, p4 (ticks / 100000)]
    else s
  if s.lease.st = 2 ∧ ticks - s.lease.silBase ≥ msTicks (s.cfg.lease 2) then
    let s := ({ s with lease := { s.lease with st := 3 } } : State).ev Ev.leaseSilenceOpen srcD [p4 l.a, p4 l.no]
    s.each s.notOpen (fun i s => s.openStr i false .silence)
  else s

/-- Silence at a seal. -/
def State.silenceSeal (s : State) : State :=
  let l := s.lease
  if l.st = 0 then s
  else
    let add := min ((s.sampleAt - l.silFrom) / 10) s.periodTicks
    let s := { s with lease := { l with silence := l.silence + add, silFrom := s.sampleAt } }
    s.silenceEval s.lease.silence

/-- A string that reached CLOSED while the state is SILENT_OPEN opens at the next commit point (R499). -/
def State.silenceOpens (s : State) : State :=
  if s.lease.st = 3 then s.each s.closedStrs (fun i s => s.openStr i false .silence) else s

/-- INTERIM_LEASE (R491): silence is judged, then the lease of the last commit is published anew. -/
def execInterimLease (t : Nat) (s : State) : Ans :=
  at' t (fun s =>
    if s.leasing ∧ s.lease.st ≠ 0 ∧ s.lease.lastPub + 500000 * s.cfg.lease 0 ≤ s.time.now then
      (s.silenceEval (s.lease.silence + min ((s.time.now - s.lease.silFrom) / 10) s.periodTicks)).publish
    else s) s

/-! ### Acknowledgements (R495 to R497, R503) -/

/-- A protocol error is counted and logged (R497). -/
def State.ackError (s : State) (cause no : Nat) : State :=
  ({ s with lease := { s.lease with errors := satAdd 32 s.lease.errors 1 } } : State).ev Ev.leaseAckError srcD
    [p1 (Config.caseCode Ev.leaseAckError cause), p4 no, p4 s.lease.no]

/-- The row of R497 that applies to a payload. -/
def State.ackRow (s : State) (p : List Byte) : Nat :=
  let n := leAt p 0 4
  let c := s.lease.no
  if p.length ≠ 24 ∨ leAt p 4 2 ≠ s.lease.startId ∨ leAt p 6 1 ≥ 4 ∨ leAt p 7 1 ≠ 0 ∨ leAt p 12 4 ≠ 0 then 1
  else if newerNo n c then 2
  else if newerNo (prevNo c) n then 3
  else if !newerNo n s.lease.a then 4
  else 5

/-- The rest flags of an accepted acknowledgement (R503). -/
def State.restFlags (s : State) (p : List Byte) : State :=
  let fl := leAt p 6 1
  let st := leAt p 16 8
  let now := s.devAt s.sampleAt
  if s.lease.restSt ≠ 1 then s
  else if bit fl 0 then
    if now ≤ st ∧ st ≤ now + 86400000000000 then
      ({ s with lease := { s.lease with restSt := 2, restStart := st } } : State).ev Ev.restGranted srcD [p8 st]
    else
      let s := s.ackError 4 (leAt p 0 4)
      ({ s with lease := { s.lease with restSt := 4, restTicks := 0 } } : State).ev Ev.restRefused srcD [p1 (Config.caseCode Ev.restRefused 1)]
  else if bit fl 1 then
    ({ s with lease := { s.lease with restSt := 4, restTicks := 0 } } : State).ev Ev.restRefused srcD [p1 (Config.caseCode Ev.restRefused 0)]
  else s

/-- One acknowledgement at a seal. -/
def State.judgeAck (s : State) (a : Ack) : State :=
  let row := s.ackRow a.payload
  let n := leAt a.payload 0 4
  s.withPick a.picked (fun s =>
    let s := s.produce 4 5 (fun _ => true) (toLe 8 a.time ++ [byteOf a.via, byteOf row, 0, 0] ++ a.payload)
    match row with
    | 1 => s.ackError (if leAt a.payload 4 2 ≠ s.lease.startId then 0 else if a.payload.length ≠ 24 then 2 else 1) n
    | 2 => s.ackError 3 n
    | 5 =>
      let l := s.lease
      let s := { s with lease := { l with
        a := n, iPcs := toSigned 4 (leAt a.payload 8 4), ackTime := s.devAt s.sampleAt, silence := 0, silFrom := s.sampleAt
        st := if l.st ≥ 2 then 1 else l.st } }
      (s.when (decide (l.st ≥ 2)) (fun s => s.ev Ev.leaseResumed srcD [p4 n])).restFlags a.payload
    | _ => s)

/-- Every acknowledgement that arrived before the seal, in order of arrival (R496). -/
def State.judgeAcks (s : State) : State :=
  let l := s.lease.acks
  s.each l (fun a s => s.judgeAck a) |> fun s => { s with lease := { s.lease with acks := [] } }

/-- An acknowledgement waits for the next seal. -/
def State.takeAck (s : State) (via : Nat) (payload : List Byte) : State :=
  { s with lease := { s.lease with acks := s.lease.acks ++ [{ time := s.devTime, via := via, picked := s.lg.picked, payload := payload }] } }

/-- LEASE_ACK (R620): OK at acceptance, whatever R497 makes of it. -/
def execLeaseAck (t : Nat) (q : HReq) (s : State) : Ans :=
  at' t (fun s => s.cmd q 0x0C01 (fun s => s.may q.sess Perm.lease) (· == 24) (fun s => (s.takeAck 1 q.args).ans St.ok)) s

/-! ### CAN frames received (R505, R599) -/

/-- Whether the controller of a leaf hears the bus. -/
def canHears (st : Nat) : Bool := st == 1 || st == 2 || st == 3

/-- A frame on one of the four identifiers is taken: an acknowledgement of 24 bytes, or a protocol error. A frame that both
controllers received is one acknowledgement (R496). -/
def State.canTake (s : State) (ident : Nat) (data : List Byte) : State :=
  if ident = 1 ∧ data.length = 24 then s.takeAck 0 data
  else s.ackError 5 (leAt data 0 4)

/-- A received CAN frame through Pick (R709): one decision for both controllers' copies. Controller 0 and 1 stand for a
frame that only CAN0 or only CAN1 received; any other number for a frame that both did. -/
def State.canRx (s : State) (ctl ident : Nat) (data : List Byte) (again : Instr) : State :=
  let hears := (ctl ≠ 1 ∧ canHears s.links.can0) ∨ (ctl ≠ 0 ∧ canHears s.links.can1)
  if ¬hears ∨ ident > 3 ∨ !bit (s.cfg.lease 0x0E) 0 then s
  else
    let x := s.pickJudge { target := 17, e := 0, dir := 1, kindBit := ident, kind := ident, seq := Config.caseCode Ev.pickInject ident }
    let s := x.1
    let take := fun (d : List Byte) (s : State) => s.canTake ident d
    match x.2 with
    | .pass => take data s
    | .drop => s
    | .corrupt _ _ => s.withPick true (fun s => s.ackError 5 (leAt data 0 4))
    | .silent off m => if ident = 1 then s.withPick true (take (maskAt data (off - 8) m)) else take data s
    | .hold k n due => s.pickHold { rule := k, path := 67, rx := some again, after := n, due := due }
    | .dup => s.withPick true (fun s => take data (take data s))

def execCanAckFrame (t : Nat) (f : CanFrame) (s : State) : Ans :=
  at' t (fun s => s.canRx f.ctl f.ident f.data (.canAckFrame t f)) s

/-- CAN_TIME_FRAME (R505): once per second. -/
def execCanTimeFrame (t : Nat) (s : State) : Ans :=
  at' t (fun s =>
    if s.canTx.isSome && (s.lease.canTime == 0 || decide (s.lease.canTime + 1000000000 ≤ s.time.now)) then
      ({ s with lease := { s.lease with canTime := s.time.now } } : State).sendCan 3 (toLe 8 s.devTime ++ toLe 4 s.lease.no ++ [0, 0, 0, 0])
    else s) s

/-- CAN_BUS_OFF (R599): a controller leaves the bus and comes back. -/
def execCanBusOff (t ctl : Nat) (recovered : Bool) (s : State) : Ans :=
  at' t (fun s =>
    let cur := if ctl = 0 then s.links.can0 else s.links.can1
    let put := fun (v : Nat) (s : State) => { s with links := if ctl = 0 then { s.links with can0 := v } else { s.links with can1 := v } }
    if ctl > 1 ∨ cur = 0 then s
    else if recovered then (if cur = 4 then put (s.canWant (if ctl = 0 then .a else .b) 0) s else s)
    else if cur = 4 then s
    else (put 4 s).raiseO Ev.canBusOff ctl ctl []) s

/-! ### Compliance (R500 to R502) -/

/-- The reference of a direction among the leases still valid at the sample instant: sustained, peak. -/
def State.leaseRef (s : State) (d : Nat) : Nat × Nat :=
  let l := s.lease.valid.filter (fun m => decide (s.devAt s.sampleAt < m.validUntil))
  ((l.map (fun m => m.sus.getD d 0)).foldl max 0, (l.map (fun m => m.peak.getD d 0)).foldl max 0)

/-- A reference with its tolerance. -/
def Cfg.withTol (c : Cfg) (r : Nat) : Nat := r + c.lease 8 + r * c.lease 4 / 10000

/-- The magnitude of a current in a direction (0 charge, 1 discharge). -/
def inDir (d : Nat) (i : Int) : Nat := if d = 0 then i.toNat else (-i).toNat

/-- One direction of the check: excess run, penalty, and the decision of PCS_NONCOMP with its cause and reference. -/
def State.complyDir (s : State) (d : Nat) (i : Int) (mean : Int × Nat) : State × Option (Nat × Nat × Int × Nat) × Bool :=
  let c := s.cfg
  let l := s.lease
  let r := s.leaseRef d
  let peak := decide (inDir d i > c.withTol r.2)
  -- the mean is the exact quotient of the sum and the number of sweeps
  let sus := decide (inDir d mean.1 > c.withTol r.1 * mean.2)
  let ex := peak || sus
  let ref := if peak || !sus then r.2 else r.1
  let was := l.inExc.getD d false
  let old := l.exc.getD d 0
  let t := if !ex then 0 else if was then old + s.tickAdd else 0
  let pen := ex && decide (t ≥ msTicks (c.lease 6)) && !(was && l.fired.getD d false)
  let calm := if ex then 0 else l.calm.getD d 0 + s.tickAdd
  let held := (l.penalty.getD d false || pen) && !decide (calm ≥ secTicks 30)
  let s := { s with lease := { l with inExc := l.inExc.set d ex, fired := l.fired.set d (ex && (pen || (was && l.fired.getD d false))), exc := l.exc.set d t, calm := l.calm.set d calm, penalty := l.penalty.set d held } }
  let s := s.when pen (fun s => s.ev Ev.leaseViolation srcD [p1 (Config.caseCode Ev.leaseViolation d), (4, ofSigned 4 i), p4 ref])
  let hard := decide (inDir d i > c.lease (0x10 + 4 * d))
  let time := ex && decide (t ≥ msTicks (c.lease 0x0C))
  (s, if hard then some (d, 1, i, ref) else if time then some (d, 0, i, ref) else none, !ex && !hard)

/-- The check of a sweep; its timers hold while a current is missing. -/
def State.comply (s : State) : State :=
  if !s.bankWhole then { s with lease := { s.lease with ncDec := none } }
  else
    let i := s.iBank
    let w := ((s.sampleAt, i) :: s.lease.window).filter (fun e => decide (s.sampleAt < e.1 + 10000000000))
    let s := { s with lease := { s.lease with window := w } }
    let mean := ((w.map (·.2)).foldl (· + ·) 0, w.length)
    let a := s.complyDir 0 i mean
    let b := a.1.complyDir 1 i mean
    let dec := match a.2.1 with | some x => some x | none => b.2.1
    { b.1 with lease := { b.1.lease with ncDec := dec, ncGone := a.2.2 && b.2.2 } }

/-! ### Rest windows (R503) -/

/-- I_R of R385: the smallest I_REST among the chemistries of the string's cells; 0 without cells. -/
def Cfg.iRest (c : Cfg) (i : Nat) : Nat :=
  match (c.stringCells i).map (fun k => (c.chem (c.cell k).chem 0x0C).toNat) with
  | [] => 0
  | x :: r => r.foldl min x

/-- The rest state at a seal. -/
def State.restStep (s : State) : State :=
  let l := s.lease
  let put := fun (st ticks : Nat) => ({ s with lease := { l with restSt := st, restTicks := ticks } } : State)
  match l.restSt with
  | 2 => if l.restStart ≤ s.devAt s.sampleAt then put 3 0 else s
  | 3 =>
    let t := l.restTicks + s.tickAdd
    let bad := s.notOpen.find? (fun i => decide ((kget {} s.strCur i).iEst.natAbs > s.cfg.iRest i))
    match bad with
    | some i => (put 4 0).ev Ev.restViolated i [(4, ofSigned 4 (kget {} s.strCur i).iEst)]
    | none => if t ≥ secTicks (s.cfg.lease 0x24) then put 0 0 else put 3 t
  | 4 => let t := l.restTicks + s.tickAdd; if t ≥ secTicks 3600 then put 0 0 else put 4 t
  | _ => s

/-- The lease engine at a seal, ahead of the protection decisions: acknowledgements, silence, rest, compliance. -/
def State.leaseSeal (s : State) : State := s.judgeAcks.silenceSeal.restStep.comply

/-! ### CEIL (R488, R490) -/

/-- The zero conditions of a sweep as FLAGS: RAMP_DOWN, SILENCE, REST_ACTIVE, FAULT. -/
def State.zeroFlags (s : State) : Nat :=
  packBits [false, s.hasp.strs.any (fun e => e.2.ramp), false, false, decide (s.lease.st ≥ 2), s.lease.restSt == 3, s.faultNow, false]

/-- FAULT's further case: both bank 10 s targets are 0, each with a closed string whose ZERO_CAUSE says why (R490). -/
def State.faultTargets (s : State) : Bool :=
  [0, 1].all (fun d => s.lim.target.getD (2 + d) 0 == 0 && s.closedStrs.any (fun i => (kget {} s.lim.strs i).zero.getD d 0 != 0))

/-- CEIL and FLAGS of a sweep, after its limits. `step` is the bank step of R367. -/
def State.leaseCeil (s : State) (step : Nat) : State :=
  let z := s.zeroFlags
  let l := s.lease
  let up := fun (d : Nat) => if z ≠ 0 then 0 else min (l.ceil.getD d 0 + step) (max (s.lim.lim.getD d 0) (s.lim.lim.getD (2 + d) 0))
  { s with lease := { l with
      ceil := [up 0, up 1]
      flags := z ||| packBits [false, false, l.penalty.getD 0 false, l.penalty.getD 1 false, false, false, s.faultTargets, false] } }

end Sys2Proof.Machine
end

