-- ==== Sys2Proof/Machine/Protect.lean ====
section
/-!
DEFINITION. Protection and the Deadbolt (R426 to R455): the protection pass, alarms, reactions, the clearing of trips and
of DB_LATCH, the fast comparators (R271 to R273), the request RQ and the clock monitors.
-/
namespace Sys2Proof.Machine

/-! ### Functions and levels -/

/-- The reaction level of a function on a string (R120); 9 is ALARM_OT, fixed OPEN. -/
def Cfg.fnLevel (c : Cfg) (i n : Nat) : Nat := if n ≥ 9 then 2 else c.prot i (0x1A + n)

/-- A string's protection record. -/
def State.sp (s : State) (i : Nat) : StrProt := kget {} s.prot.strs i
/-- A string's protection record changed. -/
def State.modSp (s : State) (i : Nat) (f : StrProt → StrProt) : State :=
  { s with prot := { s.prot with strs := kmod {} s.prot.strs i f } }
/-- A cell's protection word. -/
def State.cp (s : State) (k : Nat) : CellProt := kget {} s.prot.cells k
/-- A cell's protection word changed. -/
def State.modCp (s : State) (k : Nat) (f : CellProt → CellProt) : State :=
  { s with prot := { s.prot with cells := kmod {} s.prot.cells k f } }

/-- LEVEL of a string and BANK_ACTING follow the functions that act (R427, R452, R453). -/
def State.levels (s : State) : State :=
  let lvl := fun (i : Nat) (x : StrProt) =>
    if bit x.acting 10 then 4
    else match ((upto 10).filter (fun n => bit x.acting n)).map (s.cfg.fnLevel i) with
      | [] => 0xFF
      | l => l.foldl max 0
  let s := { s with prot := { s.prot with strs := ktab {} s.cfg.strings (fun i => let x := s.sp i; { x with level := lvl i x }) } }
  let acts := fun (n : Nat) => s.cfg.strings.any (fun i => bit (s.sp i).acting n && decide (s.cfg.fnLevel i n ≥ 3))
  { s with aon := { s.aon with bankActing := packBits ((upto 9).map acts) } }

/-- The latched trips of a string change; the change goes to the MRAM unit (R430). -/
def State.setLatched (s : State) (i v : Nat) : State :=
  if (s.sp i).latched = v then s
  else
    let s := s.modSp i (fun x => { x with latched := v })
    s.mramPut (.latched ((s.prot.strs.map (fun e => (e.1, e.2.latched))).filter (fun e => e.2 != 0)))

/-- The leaves present RQ while they hold no DEADBOLT-level decision (R441): a decision stops it, its end starts it anew. -/
def State.rqFollow (s : State) : State :=
  let db := s.cfg.strings.any (fun i => (upto 10).any (fun n => bit (s.sp i).acting n && s.cfg.fnLevel i n == 4))
  s.modLeaves (fun x => if x.supplied ∧ x.st = .running then { x with dbReq := db, rq := x.rq || (x.dbReq && !db) } else x)

/-! ### The Deadbolt is thrown (R426, R438, R443) -/

/-- Every string opens by a protection decision. -/
def State.openAll (s : State) (em : Nat → Bool) (c : OpenCause) : State := s.each s.cfg.strings (fun i s => s.openStr i (em i) c)

/-- DB_LATCH is set: it reaches every string's record. A cause already recorded is not logged again. DEDUCED, log 66. -/
def State.throwDb (s : State) (cause source inputs : Nat) : State :=
  if s.aon.dbLatch ∧ s.aon.dbCause = cause ∧ s.aon.dbSource = source then s
  else
    let s := s.dbThrow cause source inputs
    s.each s.cfg.strings (fun i s => (s.modSp i (fun x => { x with acting := setBit x.acting 10 true })).setLatched i (setBit (s.sp i).latched 10 true))

/-- Input bits of the unfenced leaves (R443). DEDUCED, log 66. -/
def State.leafBits (s : State) : Nat := packBits [s.running .a, s.running .b]

/-! ### One decision (R426, R427, R429) -/

/-- A decision of a function for a string, with the record it raises at its onset. -/
structure Dec where
  str : Nat
  fn : Nat
  cell : Nat := 0xFFFF
  code : Nat := 0
  src : Nat := 0
  ps : List Param := []
  deriving DecidableEq, Repr, Inhabited

/-- The trip record of a cell decision sets the cell's TRIPPED bit (R454, R786). -/
def State.tripCell (s : State) (d : Dec) : State × Bool :=
  let x := s.cp d.cell
  if d.fn = 0 then (s.modCp d.cell (fun x => { x with ovTrip := true }), !x.ovTrip)
  else (s.modCp d.cell (fun x => { x with uvTrip := true }), !x.uvTrip)

/-- A decision marks its string: acting, latched at OPEN and above, and the first latched trip. -/
def State.markDec (s : State) (d : Dec) : State :=
  let lv := s.cfg.fnLevel d.str d.fn
  let x := s.sp d.str
  let first := lv ≥ 2 ∧ x.latched &&& 0x3FF = 0
  let firstCell := lv ≥ 2 ∧ x.latched &&& 3 = 0 ∧ d.cell ≠ 0xFFFF
  let s := s.modSp d.str (fun x => { x with
    acting := setBit x.acting d.fn true
    tripFunc := if first then d.fn else x.tripFunc, tripSweep := if first then s.sw.num else x.tripSweep
    tripTime := if first then s.devTime else x.tripTime, tripCell := if firstCell then d.cell else x.tripCell })
  if lv ≥ 2 then s.setLatched d.str (setBit (s.sp d.str).latched d.fn true) else s

/-- The openings of a decision (R429): its string, or every string from BANK up. -/
def State.decOpens (s : State) (d : Dec) : State :=
  let lv := s.cfg.fnLevel d.str d.fn
  let em := fun (i : Nat) => lv == 4 || (kget {} s.strCur i).absent || s.heavy i
  if lv ≥ 3 then s.openAll em .protection else if lv = 2 then s.openStr d.str (em d.str) .protection else s

/-- A decision takes effect. `onset` tells that it is new at its string; `log` that its record is raised. -/
def State.takeDec (s : State) (d : Dec) : State :=
  let lv := s.cfg.fnLevel d.str d.fn
  let x := s.sp d.str
  let new := !bit x.acting d.fn && !bit x.latched d.fn
  let t := if d.cell = 0xFFFF then (s, new) else s.tripCell d
  let rec' := fun (s : State) => s.when (t.2 && d.code != 0) (fun s =>
    s.withPick (if d.cell = 0xFFFF then s.strPicked d.str else s.cellPicked d.cell) (fun s => s.ev d.code d.src d.ps))
  let s := if d.code < Ev.deadboltThrown then rec' t.1 else t.1
  let s := s.markDec d
  let s := s.when (lv == 4 && new) (fun s => s.throwDb (0x10 + d.fn) d.str s.leafBits)
  let s := if d.code < Ev.deadboltThrown then s else rec' s
  let s := s.decOpens d
  if lv ≥ 2 ∧ new then
    let s := s.pickDisarm 3
    { s with lease := { s.lease with zeroDue := true } }
  else s

/-- Decisions take effect; PCS_NONCOMP raises one record for the bank (R786). -/
def State.decideAll (s : State) (l : List Dec) : State := (s.each l (fun d s => s.takeDec d)).levels.rqFollow

/-! ### Cells (R431, R432) -/

/-- One cell in the pass: its word, and the decisions it takes. -/
def State.cellPass (s : State) (k : Nat) : State × List Dec :=
  let i := (s.cfg.cell k).str
  let c := s.cfg
  let e := kget {} s.sw.sealed.cells k
  if e.tag ≥ 3 then (s, [])
  else
    let m := if e.tag = 1 then c.prot i 0x16 else 0
    let ov := e.v + m
    let uv := e.v - m
    let h := c.prot i 0x26
    let x := s.cp k
    let ovW := if ov ≥ c.prot i 0 then true else if ov + h < c.prot i 0 then false else x.ovWarn
    let uvW := if uv ≤ c.prot i 4 then true else if uv > c.prot i 4 + h then false else x.uvWarn
    let ovHit := decide (ov ≥ c.prot i 2)
    let uvHit := decide (uv ≤ c.prot i 6)
    let n := c.prot i 0x18
    let ovC := if ovHit then min n (x.ovCount + 1) else 0
    let uvC := if uvHit then min n (x.uvCount + 1) else 0
    let s := s.modCp k (fun x => { x with ovWarn := ovW, uvWarn := uvW, ovCount := ovC, uvCount := uvC
                                          ovGone := decide (ov + h < c.prot i 2), uvGone := decide (uv > c.prot i 6 + h) })
    let warn := fun (b : Bool) (code : Nat) (s : State) => s.when b (fun s => s.withPick (s.cellPicked k) (fun s => s.ev code k [p2 e.v]))
    let s := warn (uvW && !x.uvWarn) Ev.cellUvWarn (warn (ovW && !x.ovWarn) Ev.cellOvWarn s)
    let dec := fun (fn code : Nat) => ({ str := i, fn := fn, cell := k, code := code, src := k, ps := [p2 e.v, p1 e.tag, p1 (c.fnLevel i fn)] } : Dec)
    (s, (if ovHit && decide (ovC ≥ n) then [dec 0 Ev.cellOvTrip] else []) ++ (if uvHit && decide (uvC ≥ n) then [dec 1 Ev.cellUvTrip] else []))

/-! ### Strings (R433 to R437) -/

/-- An alarm within the last second. -/
def State.recent (s : State) (a : Option Nat) : Bool := match a with | some t => decide (s.time.now < t + 1000000000) | none => false

/-- The string node of a string reports ISO_FAULT (R437). -/
def State.isoMonitor (s : State) (i : Nat) : Bool := match s.cfg.strNode i with | some (r, p) => bit (s.node r p).caps 8 | none => false

/-- A cell or the current of a string is STALE (R259, R283). -/
def State.staleActs (s : State) (i : Nat) : Bool :=
  (s.cfg.stringCells i).any (fun k => decide ((kget {} s.sw.sealed.cells k).stale ≥ s.cfg.prot i 0x19)) ||
  decide ((kget {} s.strCur i).absentCount ≥ s.cfg.prot i 0x19)

/-- A contactor of the string is under suspicion or locked (R482, R483). -/
def State.weldActs (s : State) (i : Nat) : Bool := (s.hs i).st == 5 || (s.hs i).st == 6

/-- Whether the cause of a function is gone (R437). -/
def State.fnGone (s : State) (i n : Nat) : Bool :=
  let cells := s.cfg.stringCells i
  let x := s.sp i
  match n with
  | 0 => cells.all (fun k => (s.cp k).ovGone && !s.recent (s.cp k).ovAlarm)
  | 1 => cells.all (fun k => (s.cp k).uvGone && !s.recent (s.cp k).uvAlarm)
  | 2 => !x.ocLast
  | 3 => decide (x.e ≤ s.cfg.prot i 0x10 * 9 / 10 * 1000000)
  | 4 => !s.plausActs i
  | 5 => !s.staleActs i
  | 6 => !s.weldActs i
  | 7 => s.lease.ncGone
  | 8 => (decide (x.isoClear ≥ 2) || !s.isoMonitor i) && !s.recent x.isoAlarm
  | 9 => !s.recent x.otAlarm
  | _ => !s.aon.dbLatch

/-- E of R434 after a sweep with a present current. -/
def i2tStep (e : Nat) (i : Int) (dt tau : Nat) : Nat :=
  let tt := tau * 100000000
  satU 64 (rndDiv ((e * tt : Nat) : Int) (tt + dt) + rndDiv (i * i * dt) 10000000000)

/-- One string in the pass. -/
def State.strPass (s : State) (i : Nat) : State × List Dec :=
  let c := s.cfg
  let cur := kget {} s.strCur i
  let ip := cur.iProt
  let entry := s.strSealed i
  let isoNow := (c.strNode i).isSome && entry.tag == 0
  let s := s.modSp i (fun x =>
    let iso := bit entry.contacts 3
    let x := if !isoNow then x else { x with
      isoSet := if iso then min 2 (x.isoSet + 1) else 0, isoClear := if iso then 0 else min 2 (x.isoClear + 1)
      flags := setBit x.flags 2 iso }
    if cur.absent then x else { x with
      ocLast := decide (ip > c.prot i 8 ∨ ip < -(c.prot i 0x0C : Int)), e := i2tStep x.e ip s.sw.dt (c.prot i 0x14) })
  let x := s.sp i
  let put := fun (b : Bool) (fn code : Nat) (ps : List Param) => if b then [({ str := i, fn := fn, code := code, src := i, ps := ps } : Dec)] else []
  (s, put (x.ocLast && !cur.absent) 2 Ev.stringOcTrip [(4, ofSigned 4 ip), p1 cur.source] ++
    put (decide (x.e > c.prot i 0x10 * 1000000)) 3 Ev.stringI2tTrip [p8 x.e] ++
    put (s.plausActs i) 4 0 [] ++ put (s.staleActs i) 5 0 [] ++ put (s.weldActs i) 6 0 [] ++
    put (isoNow && decide (x.isoSet ≥ 2)) 8 Ev.isolationFault [p1 0])

/-- PCS_NONCOMP for every string (R501). The record goes with the first string, when the function stands on none. -/
def State.noncompDecs (s : State) : List Dec :=
  match s.lease.ncDec with
  | none => []
  | some (d, c, i, r) =>
    let quiet := s.cfg.strings.all (fun j => !bit (s.sp j).acting 7 && !bit (s.sp j).latched 7)
    s.cfg.strings.mapIdx (fun k j => { str := j, fn := 7, code := if k = 0 ∧ quiet then Ev.pcsNoncompTrip else 0, src := srcD
                                       ps := [p1 (Config.caseCode Ev.pcsNoncompTrip d), p1 (Config.caseCode Ev.pcsNoncompTrip (2 + c)), (4, ofSigned 4 i), p4 r] })

/-- What a leaf decides on its sealed set. -/
def State.evalPass (s : State) : State × List Dec :=
  let a := s.cfg.cells.foldl (fun (a : State × List Dec) k => let x := a.1.cellPass k; (x.1, a.2 ++ x.2)) (s, [])
  let b := s.cfg.strings.foldl (fun (a : State × List Dec) i => let x := a.1.strPass i; (x.1, a.2 ++ x.2)) a
  (b.1, b.2 ++ b.1.noncompDecs)

/-! ### The end of a trip (R430, R437, R447) -/

/-- The TRIPPED bits of a string's cells are cleared for the functions in a mask (R786). -/
def State.untripCells (s : State) (i fns : Nat) : State :=
  if fns &&& 3 = 0 then s
  else s.each (s.cfg.stringCells i) (fun k s => s.modCp k (fun x => { x with ovTrip := x.ovTrip && !bit fns 0, uvTrip := x.uvTrip && !bit fns 1 }))

/-- Functions that acted and are neither decided, nor latched, nor still caused, act no more. -/
def State.endActing (s : State) (decs : List Dec) : State :=
  s.each s.cfg.strings (fun i s =>
    let x := s.sp i
    let fns := (upto 10).filter (fun n => bit x.acting n && !bit x.latched n && s.fnGone i n && !decs.any (fun d => d.str == i && d.fn == n))
    let off := fns.foldl (fun a n => setBit a n true) 0
    let s := s.modSp i (fun x => { x with acting := fns.foldl (fun a n => setBit a n false) x.acting })
    s.untripCells i off)

/-- FLAGS of the string records. -/
def State.warnFlags (s : State) : State :=
  s.each s.cfg.strings (fun i s =>
    let cells := s.cfg.stringCells i
    s.modSp i (fun x => { x with flags := setBit (setBit x.flags 0 (cells.any (fun k => (s.cp k).ovWarn))) 1 (cells.any (fun k => (s.cp k).uvWarn)) }))

/-- Latched trips of a string whose cause is gone are cleared; `db` includes those of level DEADBOLT. DEDUCED, log 65. -/
def State.clearTrips (s : State) (i : Nat) (db : Bool) : State :=
  let x := s.sp i
  let fns := (upto 10).filter (fun n => bit x.latched n && (db || s.cfg.fnLevel i n != 4) && s.fnGone i n)
  if fns.isEmpty then s
  else
    let m := fns.foldl (fun a n => setBit a n true) 0
    let s := s.setLatched i (fns.foldl (fun a n => setBit a n false) x.latched)
    let s := (s.modSp i (fun x => { x with acting := fns.foldl (fun a n => setBit a n false) x.acting })).untripCells i m
    s.ev Ev.tripCleared i [p2 m]

/-- TRIP_CLEAR at the seal (R447). DEDUCED, log 65. -/
def State.doClears (s : State) : State :=
  let l := s.prot.clears
  let s := { s with prot := { s.prot with clears := [] } }
  s.each l (fun c s =>
    let strs := if c.2.2 = 0xFF then s.cfg.strings else [c.2.2]
    let s := (s.each strs (fun i s => s.clearTrips i false)).levels
    s.answer c.1 c.2.1 (if strs.all (fun i => (s.sp i).latched == 0) then St.ok else St.denied) [])

/-! ### DEADBOLT_CLEAR (R448, R449) -/

/-- The first condition that keeps DB_LATCH set at a pass, as a cause code of R452. DEDUCED, log 64. -/
def State.clearBlocked (s : State) (decs : List Dec) : Option Nat :=
  let fns := s.cfg.strings.flatMap (fun i => ((upto 10).filter (fun n => s.cfg.fnLevel i n == 4 &&
    (decs.any (fun d => d.str == i && d.fn == n) || ((bit (s.sp i).acting n || bit (s.sp i).latched n) && !s.fnGone i n)))))
  match fns with
  | n :: _ => some (0x10 + n)
  | [] =>
    if s.compHigh then some (if s.cur.any (fun e => e.2.aboveCA || e.2.aboveCB) then 1 else 2)
    else if s.aon.thermal then some 3
    else if !s.inRun then some (Config.caseCode Ev.clearRefused 0) else none

/-- CONFIRM at the protection pass. -/
def State.doConfirm (s : State) (decs : List Dec) : State :=
  match s.prot.confirm with
  | none => s
  | some (k, tag) =>
    match s.clearBlocked decs with
    | some c =>
      let s := { s.armEnd with aon := { s.armEnd.aon with clearResult := 3 } }
      (s.evA Ev.clearRefused srcD [p1 c]).answer k tag St.denied [3]
    | none =>
      let s := { s.armEnd with aon := { s.armEnd.aon with clearResult := 1, dbLatch := false, dbCause := 0, holdDb := false, holdDbCause := 0 } }
      let s := s.evA Ev.deadboltCleared srcD [p1 k]
      let s := s.each s.cfg.strings (fun i s =>
        ((s.modSp i (fun x => { x with acting := setBit x.acting 10 false })).setLatched i (setBit (s.sp i).latched 10 false)).clearTrips i true)
      s.levels.rqFollow.answer k tag St.ok [1]

/-- DEADBOLT_CLEAR (R448, R449): PHASE 0 ARM, 1 CONFIRM. DEDUCED, log 64. -/
def State.deadboltClear (s : State) (q : HReq) : HR :=
  let no := fun (s : State) (code : Nat) => ({ s with aon := { s.aon with clearResult := code } }, some (St.denied, [byteOf code]))
  match arg q 0 1 with
  | 0 =>
    if !s.aon.dbLatch then no s 6
    else if s.aon.thermal then no s 4
    else if s.aon.dev = .sleep ∨ s.sleep.st = 1 then s.ans St.busy
    else
      let a := { s.aon with clearState := max 1 s.aon.clearState, armSlot := q.sess, armTime := s.devTime, armNow := s.time.now }
      ({ s with aon := a } : State).ansOk [byteOf a.clearResult]
  | 1 =>
    if s.aon.clearState = 0 then no s 2
    else if s.aon.armSlot ≠ q.sess then no s 5
    else if s.aon.clearState = 2 then s.ans St.busy
    else if s.aon.armNow + 5000000000 < s.time.now then no s.armEnd 2
    else ({ s with aon := { s.aon with clearState := 2 }, prot := { s.prot with confirm := some (q.sess, q.tag) } } : State).later
  | _ => s.ans St.bounds

def execDeadboltClearArm (t : Nat) (q : HReq) (s : State) : Ans :=
  at' t (fun s => s.cmd q 0x0A02 (fun s => s.may q.sess Perm.clear) (· == 4) (fun s => s.deadboltClear q)) s

def execDeadboltClearConfirm (t : Nat) (q : HReq) (s : State) : Ans :=
  at' t (fun s => s.cmd q 0x0A02 (fun s => s.may q.sess Perm.clear) (· == 4) (fun s => s.deadboltClear q)) s

/-- TRIP_CLEAR (R447): judged at the seal of the next sweep. -/
def execTripClear (t : Nat) (q : HReq) (s : State) : Ans :=
  at' t (fun s => s.cmd q 0x0A01 (fun s => s.may q.sess Perm.clear) (· == 4) (fun s =>
    let k := arg q 0 1
    if k ≥ 64 ∧ k ≠ 0xFF then s.ans St.bounds
    else ({ s with prot := { s.prot with clears := s.prot.clears ++ [(q.sess, q.tag, k)] } } : State).later)) s

/-! ### Fast comparators (R271 to R273) -/

/-- Whether a comparator is set: its field is written (R123). -/
def Cfg.compOn (c : Cfg) (k : Nat) (dis : Bool) : Bool := c.inputOn k && (c.rawAt Ty.current k (if dis then 0x1C else 0x18)).isSome

/-- Whether a RAW lies at or above a comparator's threshold (R273): the direction follows from GAIN and INVERT. -/
def Cfg.compAbove (c : Cfg) (k : Nat) (dis : Bool) (raw : Int) : Bool :=
  let r := if c.cur k 2 = 1 then -raw else raw
  let r := if c.cur k 4 < 0 then -r else r
  c.compOn k dis && decide ((if dis then -r else r) ≥ c.compCode k dis * 8192)

/-- A comparator's state. -/
def CurSt.setAbove (x : CurSt) (l : Leaf) (dis b : Bool) : CurSt :=
  match l, dis with
  | .a, false => { x with aboveCA := b }
  | .b, false => { x with aboveCB := b }
  | .a, true => { x with aboveDA := b }
  | .b, true => { x with aboveDB := b }

/-- At a seal a comparator stands as the RAW of its path shows; a path without a value leaves it as it was. -/
def State.compSeal (s : State) : State :=
  s.each ((upto 16).filter s.cfg.inputOn) (fun k s =>
    let e := kget {} s.sw.sealed.curs k
    let put := fun (l : Leaf) (raw : Int) (x : CurSt) =>
      (x.setAbove l false (s.cfg.compAbove k false raw)).setAbove l true (s.cfg.compAbove k true raw)
    { s with cur := kmod {} s.cur k (fun x =>
        let x := if bit e.status 0 then x else put .a e.rawA x
        if bit e.status 1 then x else put .b e.rawB x) })

/-- COMP_TRIP (R272, R438): the AON sets DB_LATCH, every string opens EMERGENCY. A fenced leaf's comparators are out of
the trip path (R281). In BITSTREAM `x.mod` are the modulator bits behind its four outputs, and it trips where their mean lies at
or above its threshold (R271). -/
def execCompTrip (t : Nat) (l : Leaf) (input : Nat) (x : CompInput) (s : State) : Ans :=
  at' t (fun s =>
    let dis := x.dis
    let trips := s.cfg.compOn input dis && (s.cfg.cur input 0 != 1 || s.cfg.compAbove input dis (compMean x.mod))
    if !s.alive l || !trips || s.aon.dev == .off then s
    else
      let c := kget {} s.cur input
      let c := { c.setAbove l dis true with trips := satAdd 16 c.trips 1, tripChg := c.tripChg || !dis, tripDis := c.tripDis || dis }
      let s := { s with cur := kset {} s.cur input c }
      let s := s.raiseO Ev.currentFastTrip input l.num [p1 (Config.caseCode Ev.currentFastTrip (b2n dis)), p1 l.num]
      let s := s.wake 0x40
      let s := s.throwDb (if dis then 2 else 1) input (2 ^ l.num)
      let s := s.openAll (fun _ => true) .protection
      (s.pickDisarm 3).levels.zeroLeaseNow) s

/-! ### RQ and clocks (R439, R441) -/

/-- RQ_LAPSE (R441): RQ of a leaf is judged invalid, and the steering removes permission. -/
def execRqLapse (t : Nat) (l : Leaf) (s : State) : Ans :=
  at' t (fun s => s.modLeaf l (fun x => { x with rq := false })) s

/-- CLOCK_FAULT (R439): the AON fences the leaf and CLOCK_LOSS is logged; with Leaf A's clock the network time unit and the
Knuckle take their reference from XB (R9). -/
def execClockFault (t : Nat) (l : Leaf) (offFreq : Bool) (s : State) : Ans :=
  at' t (fun s =>
    if !(s.leaf l).supplied || s.fencedL l || s.aon.dev == .off then s
    else
      let s := { s with aon := { s.aon with xaGood := s.aon.xaGood && l != Leaf.a } }
      ((s.fence l Fc.clock).wake 0x100).evAon Ev.clockLoss l.num [p1 (b2n offFreq)]) s

/-! ### The pass (R17, R428) -/

/-- A decision that one leaf alone took is logged (R428). -/
def State.differ (s : State) (l : Leaf) (mine other : List Dec) : State :=
  let key := fun (d : Dec) => (d.str, d.fn, d.cell)
  let lone := fun (a b : List Dec) => a.filter (fun d => !b.any (fun e => key e == key d))
  let log := fun (w : Leaf) (s : State) (d : Dec) => s.ev Ev.protDecisionDiffer (if d.fn = 7 then srcD else d.str) [p1 d.fn, p1 w.num]
  let a := lone mine other
  let b := lone other mine
  let s := b.foldl (log l.other) (a.foldl (log l) s)
  if a.isEmpty && b.isEmpty then s else { s with kn := { s.kn with decDiffer := true } }

/-- The protection pass on the sealed set. `other` are the decisions of the other leaf where its set differs. -/
def State.protPass (s : State) (other : Option (List Dec)) : State :=
  let s := s.compSeal
  let s := { s with kn := { s.kn with decDiffer := false } }
  let r := s.evalPass
  let s := r.1
  let decs : List Dec := match other with
    | none => r.2
    | some o => r.2 ++ o.filter (fun d => !r.2.any (fun e => e.str == d.str && e.fn == d.fn && e.cell == d.cell))
  let s := match other with
    | none => s
    | some o => s.differ s.act r.2 o
  let hit := fun (n : Nat) => (decs.filter (fun d => d.fn == n)).map (·.cell)
  let s := { s with prot := { s.prot with ovNow := hit 0, uvNow := hit 1, decs := decs.map (fun (d : Dec) => (d.str, d.fn, d.cell)) } }
  let s := (s.endActing decs).decideAll decs
  let s := s.doClears
  let s := s.doConfirm decs
  (s.warnFlags.levels).rqFollow

/-- WELD decides when Hasp finds evidence (R482). -/
def State.weldDecs (s : State) : State :=
  let l := s.cfg.strings.filter (fun i => s.weldActs i && !bit (s.sp i).acting 6)
  if l.isEmpty then s else s.decideAll (l.map (fun i => { str := i, fn := 6 }))

/-! ### Alarms (R213, R436) -/

/-- The strings of a node: of its cells, or its own for a string node (R436, the OT row). -/
def Cfg.alarmStrs (c : Cfg) (r p : Nat) : List Nat :=
  let own := match c.stringAt r p with | some i => [i] | none => []
  c.strings.filter (fun i => own.contains i || (c.nodeCells r p).any (fun k => (c.cell k).str == i))

/-- An alarm from a node that is not quarantined is decided (R435, R436). ISO decides for the string of a string node alone.
DEDUCED, log 67. -/
def State.protAlarm (s : State) (r p : Nat) (f : AlarmFrame) : State :=
  let c := s.cfg
  let now := s.time.now
  let cells := (c.nodeCells r p).filter (fun k => f.chan == 0xFF || (c.cell k).chan == f.chan)
  let strs := c.alarmStrs r p
  let own := match c.stringAt r p with | some i => [i] | none => []
  let s := s.when (bit f.cause 0) (fun s => s.each cells (fun k s => s.modCp k (fun x => { x with ovAlarm := some now })))
  let s := s.when (bit f.cause 1) (fun s => s.each cells (fun k s => s.modCp k (fun x => { x with uvAlarm := some now })))
  let s := s.when (bit f.cause 2) (fun s => s.each strs (fun i s => s.modSp i (fun x => { x with otAlarm := some now })))
  let s := s.when (bit f.cause 3) (fun s => s.each own (fun i s => s.modSp i (fun x => { x with isoAlarm := some now })))
  let cellDecs := fun (fn code : Nat) => cells.map (fun k =>
    let i := (c.cell k).str
    ({ str := i, fn := fn, cell := k, code := code, src := k, ps := [p2 f.value, p1 0xFF, p1 (c.fnLevel i fn)] } : Dec))
  let decs :=
    (if bit f.cause 0 then cellDecs 0 Ev.cellOvTrip else []) ++ (if bit f.cause 1 then cellDecs 1 Ev.cellUvTrip else []) ++
    (if bit f.cause 2 then strs.map (fun i => ({ str := i, fn := 9 } : Dec)) else []) ++
    (if bit f.cause 3 then own.map (fun i => ({ str := i, fn := 8, code := Ev.isolationFault, src := i, ps := [p1 1] } : Dec)) else [])
  let s := s.decideAll decs
  let s := s.ev Ev.nodeAlarm (srcN r p) [p1 f.cause, p1 f.chan, p2 f.value]
  if s.lease.zeroDue then ({ s with lease := { s.lease with zeroDue := false } } : State).zeroLeaseNow else s

end Sys2Proof.Machine
end

