-- ==== Sys2Proof/Machine/Thermal.lean ====
section
/-!
DEFINITION. Temperature and thermal management (R400 to R425): sensors, zones, throttle steps, rate of rise, thermal
shutdowns and the latch, the device's own dies, the refusal of MRAM writes.
-/
namespace Sys2Proof.Machine

/-! ### The thermal latch (R415 to R417) -/

/-- The thermal latch is set, or a later cause is logged. Sources and values are those of R417. -/
def State.thermalLatch (s : State) (cause src : Nat) (val : Int) : State :=
  let a := s.aon
  let first := !a.thermal
  let s := if first then { s with
      stage := { s.stage with torn := s.stage.torn || s.stage.st == 3 }
      aon := { a with
        thermal := true, thCause := cause, thSource := src, thTime := s.devTime, thValue := val, thSweep := s.sw.num
        holdThermal := true, holdThermalCause := cause } } else s
  let s := s.evAon Ev.thermalLatch src [p1 cause, (2, ofSigned 2 val), p4 s.sw.num]
  if !first then s
  else
    let s := (s.snapCut .a).snapCut .b
    let s := s.wake 0x40
    let s := s.throwDb 3 0xFFFF 4
    let s := s.heatersOff
    let s := s.each s.cfg.strings (fun i s => s.openStr i (s.heavy i) .thermal)
    let s := s.pickDisarm 3
    let s := if s.aon.dev = .run then { s with aon := { s.aon with dev := .halt } } else s
    (if s.aon.dev = .halt then s.holdSet 3 else s).levels

/-- LOGIC_DIE_SHUTDOWN (R415): two of the eight sensors at or above 135 °C. -/
def execLogicDieShutdown (t : Nat) (temps : List Int) (s : State) : Ans :=
  at' t (fun s =>
    let hot := (upto 8).filter (fun i => decide (temps.getD i 0 ≥ 1350))
    let top := hot.foldl (fun (m : Int) i => max m (temps.getD i 0)) 0
    match hot.find? (fun i => temps.getD i 0 == top) with
    | some i => if hot.length ≥ 2 ∧ s.aon.dev ≠ .off then (s.thermalLatch 4 (0x2000 + i) top).zeroLeaseNow else s
    | none => s) s

/-- POWER_DIE_BANK_SHUTDOWN (R415): a bank sensor at or above 165 °C; the bank's six channels turn off at once. -/
def execPowerDieBankShutdown (t bank : Nat) (temp : Int) (s : State) : Ans :=
  at' t (fun s =>
    if bank ≥ 4 ∨ temp < 1650 ∨ s.aon.dev = .off then s
    else
      let s := (s.setBank bank { s.bank bank with off := true }).chansFollow
      (s.thermalLatch 5 (0x2118 + bank) temp).zeroLeaseNow) s

/-! ### Sensors (R402 to R405) -/

/-- A sensor's record. -/
def State.sens (s : State) (k : Nat) : Sensor := kget {} s.th.sens k
/-- A zone's record. -/
def State.zone (s : State) (z : Nat) : Zone := kget {} s.th.zones z
/-- A zone's record replaced. -/
def State.setZone (s : State) (z : Nat) (x : Zone) : State := { s with th := { s.th with zones := kset {} s.th.zones z x } }

/-- The sensors in use: sensor-table indices of the nodes' NTCs, and 0x1000 + k for a used TSk. -/
def Cfg.sensors (c : Cfg) : List Nat :=
  let idx := (c.allNodes.flatMap (fun x => c.sensorsOf x.1 x.2)).map (·.1)
  (upto c.sensorCount).filter (fun i => idx.contains i) ++ ((upto 4).filter (fun k => c.tsZone k != 0xFFFF)).map (· + 0x1000)

/-- The zone of a sensor; 0xFFFF none. -/
def Cfg.zoneOf (c : Cfg) (k : Nat) : Nat := if k ≥ 0x1000 then c.tsZone (k - 0x1000) else c.sensorZone k

/-- What a sensor's entry in the sealed set shows: T, a reading, and the bits OPEN and SHORT (R403). -/
def State.sensSeen (s : State) (k : Nat) : Int × Bool × Nat :=
  if k ≥ 0x1000 then
    let t := s.sw.sealed.dev.ts.getD (k - 0x1000) 0x7FFF
    (t, t != 0x7FFF && t != 0x7FFE, if t = 0x7FFF then 1 else if t = 0x7FFE then 2 else 0)
  else
    let e := kget {} s.sw.sealed.sens k
    if e.tag ≠ 0 then (e.t, false, 0)
    else (e.t, e.code != 0 && e.code != 0xFF, if e.code = 0xFF then 1 else if e.code = 0 then 2 else 0)

/-- One sensor in the pass. States of R422: 0 UNUSED, 1 READING, 2 HELD, 3 SUBSTITUTED, 4 BROKEN, 5 NEVER_READ. -/
def State.sensPass (s : State) (k : Nat) : State :=
  let c := s.cfg
  let x := s.sens k
  let e := s.sensSeen k
  let z := c.zoneOf k
  let sub := if z = 0xFFFF then 0x7FFF else c.zoneFld z 0x3C
  let jump := e.2.1 && x.hadReading && decide ((e.1 - x.last).natAbs > c.n Ty.zone 0 6)
  let bad := e.2.2 + (if jump then 4 else 0)
  let add := s.tickAdd
  let absent := !e.2.1 && e.2.2 == 0
  let y := { x with sealedT := e.1, last := if e.2.1 then e.1 else x.last, hadReading := e.2.1 }
  let put := fun (y : Sensor) (s : State) => ({ s with th := { s.th with sens := kset {} s.th.sens k y } } : State)
  if x.st = 4 then
    if bad ≠ 0 then put { y with good := 0, absent := 0 } s
    else if e.2.1 then
      if x.good + add ≥ secTicks 10 then
        (put { y with st := 1, t := e.1, good := 0, absent := 0, cause := 0 } s).ev Ev.sensorRestored k [p2 z]
      else put { y with good := x.good + add, absent := 0 } s
    else put { y with absent := x.absent + add } s
  else if bad ≠ 0 then
    (put { y with st := 4, t := sub, cause := bad, good := 0, absent := 0, broken := satAdd 16 x.broken 1 } s).ev
      Ev.sensorBroken k [p2 z, p1 bad, (2, ofSigned 2 e.1)]
  else if e.2.1 then put { y with st := 1, t := e.1, absent := 0, cause := 0 } s
  else if absent then
    let n := x.absent + add
    let st := if x.st = 1 then 2 else x.st
    if (st = 2 ∧ n ≥ secTicks 10) ∨ (st = 5 ∧ n ≥ secTicks 60) then
      (put { y with st := 3, t := sub, absent := n, cause := 8 } s).ev Ev.sensorSubstituted k [p2 z]
    else put { y with st := st, absent := n, cause := 8 } s
  else put y s

/-! ### Zones (R408 to R414) -/

/-- Threshold k (1 to 7) of a counter: 0 HOT_CHG, 1 HOT_DIS, 2 COLD_CHG, 3 COLD_DIS. -/
def Cfg.stepThr (c : Cfg) (z ctr k : Nat) : Int := c.zoneFld z (0x0E * ctr + 2 * (k - 1))

/-- Whether a counter has reached, or cleared, a step (R409). -/
def Cfg.stepReached (c : Cfg) (z ctr k : Nat) (x : Int) : Bool :=
  if ctr < 2 then decide (x ≥ c.stepThr z ctr k) else decide (x ≤ c.stepThr z ctr k)
def Cfg.stepCleared (c : Cfg) (z ctr k : Nat) (x : Int) : Bool :=
  let h : Int := c.n Ty.zone 0 4
  if ctr < 2 then decide (x < c.stepThr z ctr k - h) else decide (x > c.stepThr z ctr k + h)

/-- A step counter advances with its dwells, in ticks (R409). -/
def StepCtr.advance (x : StepCtr) (top add up down : Nat) (reached cleared : Nat → Bool) : StepCtr :=
  let u := if decide (x.s < top) && reached (x.s + 1) then x.up + add else 0
  let d := if decide (x.s > 0) && cleared x.s then x.down + add else 0
  if u ≥ up ∧ x.s < top then { s := x.s + 1 } else if d ≥ down ∧ x.s > 0 then { s := x.s - 1 } else { x with up := u, down := d }

/-- The counters of a zone. -/
def Zone.ctr (x : Zone) : Nat → StepCtr
  | 0 => x.hotChg
  | 1 => x.hotDis
  | 2 => x.coldChg
  | _ => x.coldDis

/-- One counter of a zone replaced. -/
def Zone.setCtr (x : Zone) (k : Nat) (v : StepCtr) : Zone :=
  match k with
  | 0 => { x with hotChg := v }
  | 1 => { x with hotDis := v }
  | 2 => { x with coldChg := v }
  | _ => { x with coldDis := v }

/-- Whether any multiple of g seconds of the tick grid lies in the sweep (R413). -/
def State.gridMark (s : State) (g : Nat) : Bool :=
  let tk := fun (t : Nat) => (t - s.sw.firstSample) / 10
  decide (s.sw.dt > 0) && decide (tk s.sw.prevSample / secTicks g < tk s.sampleAt / secTicks g)

/-- The rate of one window (R413). -/
def rorOf (h : List (Int × Nat)) (w tau : Nat) (r : Int) : Option Int :=
  let age := fun (p : Int × Nat) => (tau + 4294967296 - p.2) % 4294967296
  (h.find? (fun p => decide (w * 100000 ≤ age p ∧ age p ≤ 2 * w * 100000))).map (fun p => Int.tdiv ((r - p.1) * 10000000) (age p))

/-- Charging is forbidden by a zone (R362, R423 FLAGS bit 4), for the present cells given. -/
def State.zoneForbids (s : State) (z : Nat) (x : Zone) (was : Bool) : Bool :=
  let c := s.cfg
  let cells := c.cells.filter (fun k => (c.cell k).zone == z)
  let h : Int := c.n Ty.zone 0 4
  let out := cells.any (fun k => let ch := (c.cell k).chem; decide (x.tMax > c.chem ch 0x36) || decide (x.tMin < c.chem ch 0x34)) || x.nRead == 0
  let back := x.nRead != 0 && cells.all (fun k => let ch := (c.cell k).chem; decide (x.tMax ≤ c.chem ch 0x36 - h) && decide (x.tMin ≥ c.chem ch 0x34 + h))
  if out then true else if back then false else was

/-- The values of a zone in a sweep (R408). -/
def State.zoneValues (s : State) (z : Nat) (x : Zone) : Zone × List Int × Bool :=
  let c := s.cfg
  let mem := (c.sensors.filter (fun k => c.zoneOf k == z)).map (fun k => (k, s.sens k))
  let mx := mem.filter (fun e => 1 ≤ e.2.st && e.2.st ≤ 4)
  let mn := mem.filter (fun e => e.2.st == 1 || e.2.st == 2)
  let rd := mem.filter (fun e => e.2.st == 1)
  let hi := fun (l : List (Nat × Sensor)) => l.foldl (fun (a : Option (Int × Nat)) e =>
    match a with | none => some (e.2.t, e.1) | some (v, k) => if e.2.t > v then some (e.2.t, e.1) else some (v, k)) none
  let lo := fun (l : List (Nat × Sensor)) => l.foldl (fun (a : Option (Int × Nat)) e =>
    match a with | none => some (e.2.t, e.1) | some (v, k) => if e.2.t < v then some (e.2.t, e.1) else some (v, k)) none
  let cold := min (c.zoneFld z (0x1C + 10)) (c.zoneFld z (0x2A + 10)) - 10
  let rmax := (hi rd).map (·.1)
  ({ x with
      tMax := match hi mx with | some v => v.1 | none => x.tMax
      hot := match hi mx with | some v => v.2 | none => 0xFFFF
      tMin := match lo mn with | some v => v.1 | none => cold
      cold := match lo mn with | some v => v.2 | none => 0xFFFF
      rMax := rmax.getD 0x7FFF
      nRead := rd.length, nBroken := (mem.filter (fun e => e.2.st == 4)).length, nSubst := (mem.filter (fun e => e.2.st == 3)).length
      readers := rd.map (·.1), admitted := x.admitted || !mx.isEmpty, everRead := x.everRead || !rd.isEmpty, sweep := s.sw.num },
    rmax.toList, !mx.isEmpty)

/-- The counters of a zone step (R409 to R412). -/
def State.zoneSteps (s : State) (z : Nat) (old x : Zone) : State × Zone :=
  let c := s.cfg
  let inOf := fun (k : Nat) => if k < 2 then x.tMax else x.tMin
  let first := x.everRead && !old.everRead
  let step := fun (a : State × Zone) (k : Nat) =>
    let v := a.2.ctr k
    let n : StepCtr :=
      if first then { s := ((upto 7).map (· + 1)).foldl (fun m j => if c.stepReached z k j (inOf k) then j else m) 0 }
      else if !x.admitted || (x.coldStop && k ≥ 2) then v
      else v.advance 7 s.tickAdd (msTicks (c.n Ty.zone 0 8)) (msTicks (c.n Ty.zone 0 0x0A))
        (fun j => c.stepReached z k j (inOf k)) (fun j => c.stepCleared z k j (inOf k))
    (a.1.when (n.s != v.s) (fun s => s.ev Ev.throttleStep z
      [p1 (Config.caseCode Ev.throttleStep k), p1 v.s, p1 n.s, (2, ofSigned 2 (inOf k))]), a.2.setCtr k n)
  let r := (upto 4).foldl step (s, x)
  let s := r.1
  let x := r.2
  -- COLD_STOP (R412)
  let run := if x.tMin ≤ c.zoneFld z 0x3A then min 2 (x.coldRun + 1) else 0
  let x := { x with coldRun := run }
  if !x.coldStop && run ≥ 2 then
    let set := fun (a : State × Zone) (k : Nat) =>
      (a.1.when ((a.2.ctr k).s != 7) (fun s => s.ev Ev.throttleStep z
        [p1 (Config.caseCode Ev.throttleStep k), p1 (a.2.ctr k).s, p1 7, (2, ofSigned 2 x.tMin)]), a.2.setCtr k { s := 7 })
    let r := [2, 3].foldl set (s, { x with coldStop := true, coldOut := 0 })
    (r.1.ev Ev.coldStop z [(2, ofSigned 2 x.tMin)], r.2)
  else if x.coldStop then
    let out := if x.tMin > c.zoneFld z 0x3A + c.n Ty.zone 0 4 then x.coldOut + s.tickAdd else 0
    if out ≥ msTicks (c.n Ty.zone 0 0x0A) then (s, { x with coldStop := false, coldOut := 0 }) else (s, { x with coldOut := out })
  else (s, x)

/-- A thermal shutdown decided in a pass: cause, source, value. -/
abbrev Shut := Nat × Nat × Int

/-- Rate of rise of a zone (R413, R414). -/
def State.zoneRise (s : State) (z : Nat) (old x : Zone) (r : List Int) : State × Zone × List Shut :=
  let c := s.cfg
  let tau := (s.sampleAt - s.sw.firstSample) / 10 / 1000 % 4294967296
  let clear := x.readers != old.readers
  let add := fun (h : List (Int × Nat)) (g : Nat) =>
    let h := if clear then [] else h
    match r with
    | v :: _ => if s.gridMark g then ((v, tau) :: h).take 7 else h
    | [] => h
  let h10 := add x.h10 2
  let h60 := add x.h60 12
  let h300 := add x.h300 60
  let rate := fun (h : List (Int × Nat)) (w : Nat) => match r with | v :: _ => rorOf h w tau v | [] => none
  let armed := match r with | v :: _ => decide (v ≥ c.eff Ty.zone 0 0x12) | [] => false
  let r10 := rate h10 10
  let r60 := rate h60 60
  let r300 := rate h300 300
  let run := fun (q : Option Int) (off n : Nat) => match q with | some v => if armed && decide (v > c.n Ty.zone 0 off) then n + 1 else 0 | none => 0
  let n10 := run r10 0x0C x.riseRun10
  let n60 := run r60 0x0E x.riseRun60
  let n300 := run r300 0x10 x.riseRun300
  let log := fun (n : Nat) (q : Option Int) (w : Nat) (s : State) => s.when (n == 2) (fun s => s.ev Ev.riseTrip z
    [p1 (Config.caseCode Ev.riseTrip w), (2, ofSigned 2 (satS 16 (q.getD 0))), (2, ofSigned 2 x.rMax)])
  let s := log n300 r300 2 (log n60 r60 1 (log n10 r10 0 s))
  let hits := (if n10 = 2 then r10.toList else []) ++ (if n60 = 2 then r60.toList else []) ++ (if n300 = 2 then r300.toList else [])
  (s, { x with h10 := h10, h60 := h60, h300 := h300, ror10 := (r10.map (satS 16)).getD (-32768), ror60 := (r60.map (satS 16)).getD (-32768)
               ror300 := (r300.map (satS 16)).getD (-32768), riseRun10 := min 3 n10, riseRun60 := min 3 n60, riseRun300 := min 3 n300
               flags := b2n armed },
    hits.head?.toList.map (fun v => (3, z, satS 16 v)))

/-- One zone in the pass: values, steps, rise, shutdowns (R415). -/
def State.zonePass (s : State) (z : Nat) : State × List Shut :=
  let c := s.cfg
  let old := s.zone z
  let v := s.zoneValues z old
  let a := s.zoneSteps z old v.1
  let b := a.1.zoneRise z old a.2 v.2.1
  let x := b.2.1
  let hot := if x.tMax ≥ c.zoneFld z 0x38 then min 3 (x.shutRun + 1) else 0
  let brk := decide (x.nBroken > c.n Ty.zone 0 0x14)
  let shut : List Shut := (if hot = 2 then [(1, z, x.tMax)] else []) ++ (if brk && !x.brk then [(2, z, (x.nBroken : Int))] else []) ++ b.2.2
  let forb := s.zoneForbids z x (bit old.flags 4)
  let x := { x with shutRun := hot, brk := brk
                    flags := packBits [bit x.flags 0, x.coldStop, x.nRead == 0, bit old.flags 3, forb] }
  (b.1.setZone z x, shut)

/-- The step of a zone in a direction: 0 charge, 1 discharge (R410). -/
def Zone.step (x : Zone) (d : Nat) : Nat := if d = 0 then max x.hotChg.s x.coldChg.s else max x.hotDis.s x.coldDis.s

/-- DEV_STEP (R419). -/
def State.devStep (s : State) : State :=
  let d := s.sw.sealed.dev
  let top := match d.die with | [] => 0 | v :: r => r.foldl max v
  let x := s.th.dev
  let n := x.advance 4 s.tickAdd (secTicks 1) (secTicks 30) (fun _ => decide (top ≥ 1150)) (fun _ => decide (top < 1100))
  let s := { s with th := { s.th with die := d.die, pdie := d.pdie, dieMax := top, dev := n, sweep := s.sw.num } }
  s.when (n.s != x.s) (fun s => s.ev Ev.deviceThermalStep srcD [p1 x.s, p1 n.s, (2, ofSigned 2 top)])

/-- Thermal management in the protection pass (R17, R400). The lower cause code is recorded first (R425). -/
def State.thermalPass (s : State) : State :=
  let s := s.each s.cfg.sensors (fun k s => s.sensPass k)
  let a := (upto s.cfg.zoneCount).foldl (fun (a : State × List Shut) z => let x := a.1.zonePass z; (x.1, a.2 ++ x.2)) (s, [])
  let s := a.1.devStep
  let order := [1, 2, 3].flatMap (fun c => a.2.filter (fun x => x.1 == c))
  let s := s.each order (fun x s =>
    let first := !s.aon.thermal
    let s := s.thermalLatch x.1 x.2.1 x.2.2
    if first then s.setZone x.2.1 { s.zone x.2.1 with flags := setBit (s.zone x.2.1).flags 3 true } else s)
  if order.isEmpty then s else { s with lease := { s.lease with zeroDue := true } }

/-- Every sensor in use has not been read yet (R402, R425). -/
def State.thermalStart (s : State) : State :=
  { s with th := { s.th with sens := ktab {} s.cfg.sensors (fun k => let x := s.sens k; if x.st = 0 then { x with st := 5 } else x) } }

/-! ### MRAM writes (R420) -/

/-- The mark that a leaf's deferral has been logged. -/
def State.snapMark (s : State) (l : Leaf) (b : Bool) : State := s.modLeaf l (fun x => { x with snapHeld := b })

/-- A deferral ends. -/
def State.snapUndefer (s : State) (l : Leaf) : State := s.snapMark l false

/-- SNAPSHOT_DEFERRED, once per deferral, with the number the snapshot will carry (R347). -/
def State.snapDefer (s : State) (l : Leaf) : State :=
  if (s.leaf l).snapHeld then s
  else (s.snapMark l true).raiseO Ev.snapshotDeferred l.num l.num [p4 (max (s.leaf l).snapA.seq (s.leaf l).snapB.seq + 1)]

/-- MRAM_WRITE_REFUSE (R420): a sensor of the leaf's half lies outside the window; the episode is logged, every unit that waits is
refused. -/
def execMramWriteRefuse (t : Nat) (l : Leaf) (temp : Int) (s : State) : Ans :=
  at' t (fun s =>
    if !(s.leaf l).supplied || !(s.leaf l).writeOk || (decide (-400 ≤ temp) && decide (temp ≤ 1150)) then s
    else
      let s := (s.modLeaf l (fun x => { x with writeOk := false, refuseNow := s.time.now })).raiseO Ev.mramWriteHeld l.num l.num [(2, ofSigned 2 temp)]
      let s := s.refuseUnits l ((s.leaf l).mramQ.length + b2n (s.stage.st == 3))
      s.when (s.leaf l).snapOwed (fun s => s.snapDefer l)) s

/-- MRAM_WRITE_ALLOW (R420): the leaf's writes are allowed again. -/
def execMramWriteAllow (t : Nat) (l : Leaf) (s : State) : Ans :=
  at' t (fun s => s.modLeaf l (fun x => { x with writeOk := true })) s

end Sys2Proof.Machine
end

