-- ==== Sys2Proof/Machine/Estim.lean ====
section
/-!
DEFINITION. The charge-state estimator (R286 to R321): counting, uncertainty, corrected voltage, still periods, anchors,
conflicts, drift and string values, all in exact integers.
-/
namespace Sys2Proof.Machine

/-! ### Arithmetic (R286) -/

/-- The integer square root by bits, from bit `k - 1` down. -/
def isqrtBits : Nat → Nat → Nat → Nat
  | 0, _, r => r
  | k + 1, x, r => isqrtBits k x (if (r + 2 ^ k) * (r + 2 ^ k) ≤ x then r + 2 ^ k else r)

/-- isqrt_ceil: the smallest s with s² ≥ x, for x below 2^128. -/
def isqrtCeil (x : Nat) : Nat := let r := isqrtBits 64 x 0; if r * r = x then r else r + 1

/-- Rounded quotient with a divisor of either sign. -/
def rndQ (n d : Int) : Int := if d < 0 then rndDiv (-n) d.natAbs else rndDiv n d.natAbs

/-- Ceiling of the quotient of an integer by a positive number. -/
def ceilQ (n : Int) (d : Nat) : Int := -((-n) / (d : Int))

/-! ### Tables of a chemistry (R115, R301, R302, R353, R354) -/

/-- A CHEMISTRY payload. -/
abbrev Cfg.chemP (c : Cfg) (h : Nat) : List Byte := c.img.payload Ty.chemistry h

/-- SOC_AXIS. -/
def socAxis (p : List Byte) (i : Nat) : Int := leAt p (0x80 + 2 * i) 2
/-- TEMP_AXIS. -/
def tempAxis (p : List Byte) (j : Nat) : Int := toSigned 2 (leAt p (0x180 + 2 * j) 2)

/-- The largest index from 0 to `n` whose value a test accepts; 0 when none does. -/
def lastIdx (n : Nat) (ok : Nat → Bool) : Nat := (upto (n + 1)).foldl (fun a i => if ok i then i else a) 0

/-- Index and weight of a temperature (R301). -/
def tempJW (p : List Byte) (t : Int) : Nat × Int :=
  let j := lastIdx 6 (fun j => decide (tempAxis p j ≤ t))
  (j, if t ≤ tempAxis p 0 then 0 else if t ≥ tempAxis p 7 then 65536
      else rndQ ((t - tempAxis p j) * 65536) (tempAxis p (j + 1) - tempAxis p j))

/-- Interpolation between two table values with a weight (R301, R353). -/
def mix (a b w : Int) : Int := a + rndDiv ((b - a) * w) 65536

/-- A temperature-interpolated column of a curve: `base` is the curve, `o` 0 the voltage, 2 the uncertainty. -/
def ocvCol (p : List Byte) (base o : Nat) (jw : Nat × Int) (i : Nat) : Int :=
  let at' := fun (j : Nat) => (leAt p (base + 4 * (8 * i + j) + o) 2 : Int)
  mix (at' jw.1) (at' (jw.1 + 1)) jw.2

/-- OCV_CHG and OCV_DIS. -/
abbrev ocvChg : Nat := 0x220
abbrev ocvDis : Nat := 0x1220

/-- SIGMA_O of a segment (R302, steps 4 and 5). -/
def segSigma (p : List Byte) (base : Nat) (jw : Nat × Int) (i : Nat) (a : Int) : Nat :=
  let rise := ocvCol p base 0 jw (i + 1) - ocvCol p base 0 jw i
  let u := 10 * max (ocvCol p base 2 jw i) (ocvCol p base 2 jw (i + 1)) + a
  if rise ≤ 0 then 10000
  else (clampI 1 10000 (ceilQ (u * (socAxis p (i + 1) - socAxis p i)) (10 * rise).toNat)).toNat

/-- SOC_O and SIGMA_O of a corrected voltage with its allowance (R302). -/
def ocvInvert (p : List Byte) (base : Nat) (jw : Nat × Int) (v a : Int) : Nat × Nat :=
  let col := ocvCol p base 0 jw
  if v < 10 * col 0 then (0, segSigma p base jw 0 a)
  else if v ≥ 10 * col 127 then (10000, segSigma p base jw 126 a)
  else
    let i := lastIdx 126 (fun i => decide (10 * col i ≤ v))
    let soc := socAxis p i + rndQ ((v - 10 * col i) * (socAxis p (i + 1) - socAxis p i)) (10 * (col (i + 1) - col i))
    (soc.toNat, segSigma p base jw i a)

/-- OCV_L (R354). -/
def ocvAt (p : List Byte) (base : Nat) (jw : Nat × Int) (x : Int) : Int :=
  let i := lastIdx 126 (fun i => decide (socAxis p i ≤ x))
  let col := ocvCol p base 0 jw
  col i + rndQ ((col (i + 1) - col i) * (x - socAxis p i)) (socAxis p (i + 1) - socAxis p i)

/-- The factor f of R353, in 2^−12. -/
def rFactor (p : List Byte) (jw : Nat × Int) : Int :=
  let f := fun (j : Nat) => (leAt p (0x190 + 2 * j) 2 : Int)
  mix (f jw.1) (f (jw.1 + 1)) jw.2

/-- r_t (R353). -/
def rAtT (p : List Byte) (jw : Nat × Int) (rOhm : Nat) : Int := max 1 (rndDiv ((rOhm : Int) * rFactor p jw) 4096)

/-! ### Records -/

/-- A cell's record. -/
def State.cellR (s : State) (k : Nat) : Cell := kget {} s.est.cells k
/-- A cell's record replaced. -/
def State.setCell (s : State) (k : Nat) (x : Cell) : State := { s with est := { s.est with cells := kset {} s.est.cells k x } }
/-- A string's estimator values. -/
def State.strE (s : State) (i : Nat) : StrEst := kget {} s.est.strs i

/-- The record of a present cell at commissioning (R315, R322). -/
def Cfg.newCell (c : Cfg) (k : Nat) : Cell :=
  let h := (c.cell k).chem
  let cap := (c.chem h 4).toNat
  let r := (c.chem h 8).toNat
  { tag := 0, cap := cap, cSigma := (c.chem h 0x3E).toNat, rOhm := r, rPol := r, sigmaQ := cap }

/-- The usable margin M of a cell (R312). -/
def Cfg.margin (c : Cfg) (k : Nat) (x : Cell) : Nat :=
  if x.drift then ceilDiv ((c.chem (c.cell k).chem 0x20).toNat * x.sigma) 256 else 0

/-! ### What a sweep feeds into a cell (R289 to R291, R295, R298) -/

/-- What a string gives its cells in a sweep. -/
structure StrFeed where
  iEst : Int := 0
  iPrev : Int := 0
  absent : Bool := false
  steady : Bool := false
  /-- dq_str, µC. -/
  dq : Int := 0
  gain : Nat := 500
  offset : Nat := 2000
  deriving DecidableEq, Repr, Inhabited

/-- What a sweep gives one cell. -/
structure CellFeed where
  f : StrFeed := {}
  e : CellIn := {}
  dt : Nat := 0
  /-- Whole seconds of the sweep, and the second of its SAMPLE_TIME. -/
  secs : Nat := 0
  nowS : Nat := 0
  startS : Nat := 0
  /-- First sweep of a balancing epoch; ETA; the node's ceiling; STALE_COUNT of the previous set. -/
  opening : Bool := false
  eta : Nat := 0
  ceil : Nat := 0
  stale : Nat := 0
  tRef : Option Int := none
  uv : Bool := false
  ov : Bool := false
  deriving DecidableEq, Repr, Inhabited

/-- Δt in ticks and whole seconds of the sweep in hand (R289). -/
def State.sweepSecs (s : State) : Nat :=
  let tk := fun (t : Nat) => (t - s.sw.firstSample) / 10 / 100000000
  if s.sw.dt = 0 then 0 else tk s.sampleAt - tk s.sw.prevSample

/-- SAMPLE_TIME in whole seconds. -/
def State.sampleSec (s : State) : Nat := s.sw.sealed.sampleTime / 1000000000

/-- GAIN_ERR and OFFSET_ERR that apply to a string (R295). -/
def Cfg.curErr (c : Cfg) (i : Nat) : Nat × Nat :=
  let k := c.strFld i 2
  if c.strFld i 1 ≠ 1 ∧ c.inputOn k then ((c.cur k 0x0C).toNat, (c.cur k 0x0E).toNat) else (500, 2000)

/-- A string's feed, with its steadiness (R290, R291, R303, R702). -/
def State.strFeed (s : State) (i : Nat) : StrFeed × Int :=
  let x := kget {} s.strCur i
  let p := (kget {} s.com.strCur i).iEst
  let r := (s.strE i).iRef
  let ok := !x.absent && decide ((x.iEst - r).natAbs ≤ s.cfg.iQ i / 4)
  let dq := if s.sleep.fresh ∧ s.cfg.strFld i 1 ≠ 1 then rndDiv (kget 0 s.sleep.q i) 1000000
    else rndDiv ((p + x.iEst) * s.sw.dt) 2000000
  let er := s.cfg.curErr i
  ({ iEst := x.iEst, iPrev := p, absent := x.absent, steady := ok, dq := dq, gain := er.1, offset := er.2 },
    if ok || x.absent then r else x.iEst)

/-- T_REF of a zone in this sweep (R298). -/
def State.zoneRef (s : State) (z : Nat) : Option Int :=
  let l := (s.cfg.sensors.filter (fun k => s.cfg.zoneOf k == z && (s.sens k).st == 1)).map (fun k => (s.sens k).sealedT)
  if l.isEmpty then none else some (rndDiv (l.foldl (· + ·) 0) l.length)

/-- A cell's feed. -/
def State.cellFeed (s : State) (k : Nat) (f : StrFeed) (tRef : Option Int) : CellFeed :=
  let c := s.cfg.cell k
  { f := f, e := kget {} s.sw.sealed.cells k, dt := s.sw.dt, secs := s.sweepSecs, nowS := s.sampleSec, startS := s.est.startS
    opening := s.bal.opening, eta := (s.cfg.bal 4).toNat, ceil := s.iCeil c.ring c.node
    stale := (kget {} s.com.sealed.cells k).stale, tRef := tRef, uv := s.prot.uvNow.contains k, ov := s.prot.ovNow.contains k }

/-! ### The steps of R319 -/

/-- i_bal and i_cell (R290). -/
def CellFeed.iBal (u : CellFeed) : Int := if u.dt = 0 then 0 else rndDiv (u.e.q * 1000000000) u.dt
def CellFeed.iCell (u : CellFeed) : Int := u.f.iEst + u.iBal

/-- The growth of SIGMA_Q, mC (R295). -/
def CellFeed.growth (u : CellFeed) (iQuasi : Nat) : Nat :=
  let cur := if u.f.absent then (u.f.iEst.natAbs + iQuasi) * u.dt else u.f.gain * u.f.dq.natAbs * 10 + u.f.offset * u.dt
  let gap := if u.e.gap then 100 * u.ceil * u.stale * u.dt else 0
  let bal := (65536 - u.eta) * (u.e.q * 1000).natAbs
  ceilDiv ((cur + gap) * 65536 + bal * 1000000) (1000000 * 65536 * 1000)

/-- V_POL after a step (R297). -/
def vPolStep (vPol : Int) (tau rPol : Nat) (i : Int) (dt : Nat) : Int :=
  let tt := tau * 10000000
  satS 16 (rndDiv (vPol * tt * 100000 + rPol * i * dt) ((tt + dt) * 100000))

/-- What a cell's update yields beside its record. -/
structure CellOut where
  x : Cell := {}
  /-- Class of R304: 0 Moving, 1 Low, 2 Quasi; and whether a new period starts. -/
  cls : Nat := 0
  fresh : Bool := false
  /-- Event code, v_c, soc_raw and E × 10 of a conflict that begins. -/
  conflict : Option (Nat × Int × Int × Int) := none
  /-- The anchor taken: kind, SOC_C, SOC_O, SIGMA_O, SIGMA_N. -/
  anchor : Option (Nat × Nat × Nat × Nat × Nat) := none
  deriving DecidableEq, Repr, Inhabited

/-- Counting up to HYST_CHG, V_POL and T_REF (R291 to R300). -/
def Cell.count (x : Cell) (u : CellFeed) (iQuasi : Nat) : Cell :=
  let i := u.iCell
  { x with
    qAcc := satS 48 (x.qAcc + u.f.dq + u.e.q * 1000)
    qBalEpoch := if u.opening then u.e.q else clampI (-32767) 32767 (x.qBalEpoch + u.e.q)
    sigmaQ := min 4294967295 (x.sigmaQ + u.growth iQuasi)
    hyst := if i ≥ iQuasi then true else if i ≤ -(iQuasi : Int) then false else x.hyst
    vPol := vPolStep x.vPol x.tau x.rPol i u.dt
    tRef := u.tRef.getD x.tRef }

/-- The clamp of R309: the record, soc_raw, E × 10. -/
def Cell.clampSoc (x : Cell) : Cell × Int × Int :=
  let d := x.qAcc - x.ancQ
  let raw := (x.ancSoc : Int) + rndDiv (d * 10) x.cap
  if raw < 0 then ({ x with ancSoc := 0, ancQ := x.qAcc, soc := 0 }, raw, -((x.ancSoc * x.cap : Nat) + 10 * d))
  else if raw > 10000 then
    ({ x with ancSoc := 10000, ancQ := x.qAcc, soc := 10000 }, raw, (x.ancSoc * x.cap : Nat) + 10 * d - 10000 * x.cap)
  else ({ x with soc := raw.toNat }, raw, 0)

/-- A new still period (R304). -/
def Cell.newPeriod (x : Cell) (low : Bool) (v : Nat) : Cell :=
  { x with still := 0, stillLow := low, ancState := if x.ancState = 3 then 2 else x.ancState, vRef := v, slopeOk := false }

/-- The still period of a sweep (R304): the record before the advance of STILL_TIME, and whether a new period starts. -/
def Cell.period (x : Cell) (cls v : Nat) : Cell × Bool :=
  match cls with
  | 0 => (x.newPeriod false v, true)
  | 1 => if x.stillLow then (x, false) else if x.still > 0 then (x.newPeriod true v, true) else ({ x with stillLow := true }, false)
  | _ => if x.stillLow then (x.newPeriod false v, true) else (x, false)

/-- The anchor kind that triggers first (R306): UV 3, OV 4, START 0, REST 2, QUASI 1. `before` is STILL_TIME before the
sweep's advance. -/
def Cell.anchorKind (x : Cell) (u : CellFeed) (before tRest tQuasi : Nat) : Option Nat :=
  let ok := u.e.tag == 0 && u.tRef.isSome
  if u.uv ∧ x.soc > 0 then some 3
  else if u.ov ∧ x.soc < 10000 then some 4
  else if ok && x.ancState == 0 then some 0
  else if ok && x.stillLow && decide (x.still ≥ tRest) && x.slopeOk && x.ancState != 3 then some 2
  else if ok && decide (before < tQuasi ∧ tQuasi ≤ x.still) then some 1 else none

/-- An anchor (R307, R308). `old` is SIGMA_SOC of the previous commit, `vc` the corrected voltage, `drop` the ohmic part. -/
def Cell.anchor (x : Cell) (p : List Byte) (u : CellFeed) (kind old : Nat) (vc drop : Int) (margin : Nat) :
    Cell × (Nat × Nat × Nat × Nat × Nat) :=
  let jw := tempJW p x.tRef
  let al : Int := (drop.natAbs + x.vPol.natAbs) / 2
  let o : Nat × Nat := match kind with
    | 3 => (0, segSigma p ocvDis jw 0 0)
    | 4 => (10000, segSigma p ocvChg jw 126 0)
    | _ => ocvInvert p (if x.hyst then ocvChg else ocvDis) jw vc (if kind = 0 then al + 10 * margin else al)
  let a := old * old
  let b := o.2 * o.2
  let n : Nat × Nat := if kind ≥ 3 then o
    else ((rndDiv ((x.soc * b + o.1 * a : Nat) : Int) (a + b)).toNat, isqrtCeil (ceilDiv (a * b) (a + b)))
  let sus := (kind == 3 && decide (x.soc > old)) || (kind == 4 && decide (10000 - x.soc > old))
  ({ x with ancSoc := n.1, ancQ := x.qAcc, soc := n.1, sigmaQ := ceilDiv (n.2 * x.cap) 10000, confE := false, confF := false
            capSus := x.capSus || sus
            ancState := if kind = 2 then 3 else if kind = 1 ∧ x.ancState ≥ 2 then x.ancState else 1
            ancTime := if kind = 2 then u.nowS % 4294967296 else x.ancTime },
    (kind, x.soc, o.1, o.2, n.2))

/-- SIGMA_SOC (R296). -/
def Cell.sigmaNow (x : Cell) : Nat :=
  min 10000 (max 1 (ceilDiv (x.sigmaQ * 10000) x.cap + ceilDiv (((x.soc : Int) - x.ancSoc).natAbs * x.cSigma) 10000))

/-- One cell through the estimator (R319). -/
def Cell.estimate (old : Cell) (c : Cfg) (h num : Nat) (u : CellFeed) : CellOut :=
  let p := c.chemP h
  let n := fun (off : Nat) => (c.chem h off).toNat
  let x := old.count u (n 0x10)
  let jw := tempJW p x.tRef
  let drop := rndDiv (u.iCell * rAtT p jw x.rOhm) 100000
  let vc := 10 * (u.e.v : Int) - drop - x.vPol
  -- R292, R309
  let cl := x.clampSoc
  let x := cl.1
  let raw := cl.2.1
  let e10 := cl.2.2
  -- R310
  let may := u.e.tag == 0 && x.ancState != 0
  let hitE := may && decide (raw ≤ 0) && decide (vc > 10 * (ocvCol p ocvChg 0 jw 0 + n 0x0A))
  let hitF := may && decide (raw ≥ 10000) && decide (vc < 10 * (ocvCol p ocvDis 0 jw 127 - n 0x0A))
  let conf := if hitE && !x.confE then some (Ev.socConflictEmpty, vc, raw, e10)
    else if hitF && !x.confF then some (Ev.socConflictFull, vc, raw, e10) else none
  let x := { x with confE := x.confE || hitE, confF := x.confF || hitF, capSus := x.capSus || hitE || hitF
                    sigmaQ := if hitE || hitF then satU 32 (x.sigmaQ + ceilQ e10 10000) else x.sigmaQ }
  -- R304, R305
  let cls := if u.f.absent || !u.f.steady || decide (u.iCell.natAbs > n 0x10) then 0
    else if u.f.iEst.natAbs ≤ n 0x0C ∧ u.iBal.natAbs ≤ n 0x0C then 1 else 2
  let pr := x.period cls u.e.v
  let before := pr.1.still
  let x : Cell := { pr.1 with still := if cls = 0 then 0 else min 65535 (before + u.secs) }
  let span := decide (before / 600 < x.still / 600)
  let x := if span then { x with slopeOk := u.e.tag == 0 && decide (10 * ((u.e.v : Int) - x.vRef).natAbs ≤ n 0x16), vRef := u.e.v } else x
  -- R306 to R308
  let an := (x.anchorKind u before (n 0x14) (n 0x18)).map (fun kind => x.anchor p u kind old.sigma vc drop (n 0x0A))
  let x := match an with | some a => a.1 | none => x
  -- R296, R311
  let x := { x with sigma := x.sigmaNow }
  let age : Int := (u.nowS : Int) - max x.ancTime u.startS
  let x := { x with drift := decide (age ≥ n 0x1C) || decide (x.sigma > n 0x1A) }
  let use := decide (u.e.tag ≤ 2)
  { cls := cls, fresh := pr.2, conflict := conf, anchor := an.map (·.2)
    x := { x with v := u.e.v, tag := u.e.tag, align := u.e.align, gap := u.e.gap, sweep := num, moving := cls == 0, moved := cls == 0 || (cls == 2 && old.moved)
                  vMin := if use then min x.vMin u.e.v else x.vMin, vMax := if use then max x.vMax u.e.v else x.vMax } }

/-- The records an estimator step raises. -/
def State.estEvents (s : State) (k : Nat) (o : CellOut) : State :=
  let s := match o.conflict with
    | some (code, vc, raw, e10) => s.ev code k [(4, ofSigned 4 (satS 32 vc)), (4, ofSigned 4 (satS 32 raw)), (4, ofSigned 4 (satS 32 (rndDiv e10 10000)))]
    | none => s
  match o.anchor with
  | some (kind, socC, socO, _, sigN) => s.ev Ev.anchorTaken k [p1 kind, p2 socC, p2 socO, p2 sigN]
  | none => s

/-! ### String values (R303, R311 to R314) -/

/-- Q_DIS and Q_CHG of a cell with its margin. -/
def Cfg.usable (c : Cfg) (k : Nat) (x : Cell) : Nat × Nat :=
  let m := c.margin k x
  ((x.soc - m) * x.cap / 10000, (10000 - x.soc - m) * x.cap / 10000)

/-- The least of some numbers; 0 of none. -/
def minOf : List Nat → Nat
  | [] => 0
  | x :: r => r.foldl min x

/-- The values of a string once its cells are done. -/
def State.strValues (s : State) (i : Nat) (steady : Bool) (iRef : Int) : State :=
  let cells := (s.cfg.stringCells i).map (fun k => (k, s.cellR k))
  let q := cells.map (fun e => s.cfg.usable e.1 e.2)
  let dis := minOf (q.map (·.1))
  let chg := minOf (q.map (·.2))
  let n := (cells.filter (·.2.drift)).length
  let top := (cells.map (·.2.sigma)).foldl max 0
  let old := s.strE i
  let s := { s with est := { s.est with strs := kset {} s.est.strs i {
      iRef := iRef, steady := steady, qDis := dis, qChg := chg
      soc := if dis + chg = 0 then 0 else (rndDiv ((dis * 10000 : Nat) : Int) (dis + chg)).toNat
      sigMax := top, drift := n, restWanted := decide (n > 0), conflict := cells.any (fun e => e.2.confE || e.2.confF) } } }
  let worst := ((cells.filter (·.2.drift)).map (·.2.sigma)).foldl max 0
  s.when (decide (n > 0 ∧ old.drift = 0)) (fun s => s.ev Ev.estimateDrift i [p2 n, p2 worst])

/-! ### Starts, hinge points, clears (R315, R316, R318) -/

/-- Cells that a test keeps go on; the others start as at commissioning. -/
def State.estStart (s : State) (keep : Nat → Bool) : State :=
  { s with est := { s.est with cells := ktab {} s.cfg.cells (fun k => if keep k then s.cellR k else s.cfg.newCell k) } }

/-- A record restored from a snapshot entry: CAPACITY, C_SIGMA, R_OHM, R_POL, TAU_POL, SOC, SIGMA_SOC (R316, R342, R344). -/
def Cfg.restored (c : Cfg) (k : Nat) (b : List Byte) : Cell :=
  let x := c.newCell k
  let e := c.cell k
  let cap := max 1 (leAt b 0 4)
  let r := leAt b 6 2
  let rate := max (c.strFld e.str 0x0C) (c.strFld e.str 0x10)
  let sg := min 10000 (leAt b 14 2 + ceilDiv (rate * c.n Ty.device 0 0x48 * 6 * 10000) cap)
  { x with cap := cap, cSigma := leAt b 4 2, rOhm := r, rPol := leAt b 8 2, tau := leAt b 10 2, soc := leAt b 12 2, sigma := sg
           sigmaQ := ceilDiv (sg * cap) 10000, ancSoc := leAt b 12 2
           sohC := satU 16 (rndDiv (cap * 10000 : Nat) (c.chem e.chem 4).toNat), sohR := satU 16 (rndQ (c.chem e.chem 8 * 10000) (max 1 r)) }

/-- CELL_MINMAX_CLEAR at a commit point: the lowest and highest restart with this sweep's usable sample. -/
def State.minmaxClear (s : State) : State :=
  let l := s.est.clears
  let s := { s with est := { s.est with clears := [] } }
  if l.isEmpty then s
  else s.each (s.cfg.cells.filter (fun k => l.any (fun e => decide (e.1 ≤ k ∧ k < e.1 + e.2)))) (fun k s =>
    let x := s.cellR k
    s.setCell k (if x.tag ≤ 2 then { x with vMin := x.v, vMax := x.v } else { x with vMin := 0xFFFF, vMax := 0 }))

end Sys2Proof.Machine
end

