-- ==== Sys2Proof/Machine/Learn.lean ====
section
/-!
DEFINITION. Capacity, resistance and health (R322 to R350): learning anchors, measurements, ohmic steps, relaxations, weak
cells, and the snapshots.
-/
namespace Sys2Proof.Machine

/-! ### Logarithm of R341 -/

/-- Terms of 2·artanh(n/d) in units of 2^−96, from the term of index `i` whose power is `t`. -/
def artanhTerms (n d : Nat) : Nat → Nat → Nat → Nat
  | 0, _, _ => 0
  | k + 1, i, t => t / (2 * i + 1) + artanhTerms n d k (i + 1) (t * n * n / (d * d))

/-- 2·artanh(n/d), LSB 2^−96. DEDUCED, log 82. -/
def artanh2 (n d : Nat) : Nat := artanhTerms n d 40 0 (2 * n * 2 ^ 96 / d)

/-- L of R341: −ln(r16 / 65536) × 65536, rounded. The series leaves far less than the distance to any tie. DEDUCED, log 82. -/
def negLn (r : Nat) : Nat :=
  let k := lastIdx 7 (fun k => decide (r * 2 ^ k ≤ 65536))
  let a := r * 2 ^ k
  ((artanh2 (65536 - a) (65536 + a) + k * artanh2 1 3) * 65536 + 2 ^ 95) / 2 ^ 96

/-! ### Learning switches -/

/-- DEVICE.LEARNING is ON (R324). -/
def Cfg.learning (c : Cfg) : Bool := c.n Ty.device 0 0x47 == 1

/-- An admitted sweep (R328). -/
def State.admitted (s : State) : Bool := s.sw.sealed.dev.die.all (fun t => decide (-350 ≤ t ∧ t ≤ 1100))

/-- A cell's learning-store entry with its bits. -/
def State.learnR (s : State) (k : Nat) : Learn := kget {} s.est.learn k

/-! ### Capacity (R329 to R335) -/

/-- What a qualifying anchor finds (R332): the measurement with its variance, or a refusal and whether the older anchor stays. -/
inductive Meas where
  | got (c v : Nat)
  | refused (keep : Bool)
  deriving DecidableEq, Repr

/-- A measurement at a qualifying anchor. -/
def Learn.measure (a : Learn) (q : Int) (soc sig nowS gain offset span dsoc : Nat) : Meas :=
  let dQ := q - a.q
  let dS := (soc : Int) - a.socO
  let el := (nowS : Int) - a.time
  if !a.gap && decide (el ≤ span) && decide (dS.natAbs ≥ dsoc) && decide (dQ * dS > 0) then
    let sq := gain * (dQ.natAbs : Int) + offset * el * 10000000
    let num := (a.sigO * a.sigO + sig * sig) * 100000000 * 100 * (dQ.natAbs * dQ.natAbs) + (sq * sq).natAbs * (dS.natAbs * dS.natAbs)
    .got (rndDiv (dQ.natAbs * 10 : Nat) dS.natAbs).toNat (ceilDiv num (100 * (dQ.natAbs * dQ.natAbs) * (dS.natAbs * dS.natAbs)))
  else .refused (!a.gap && decide (el ≤ span) && decide (dS.natAbs < dsoc))

/-- Consistency of two outliers (R335). -/
def consistent (a b cap lim : Nat) : Bool :=
  ((decide (a > cap) && decide (b > cap)) || (decide (a < cap) && decide (b < cap))) && decide (((a : Int) - b).natAbs * 10000 ≤ lim / 2 * b)

/-- A measurement updates a cell (R333 to R335): entry, record, events. -/
def measUpdate (a : Learn) (x : Cell) (c v outlier sigma0 : Nat) : Learn × Cell × List (Nat × List Param) :=
  let out := !x.capSus && decide (((c : Int) - x.cap).natAbs * 10000 > outlier * x.cap)
  if !out then
    let vc := if x.capSus then max (x.cSigma * x.cSigma) (outlier * outlier / 4) else x.cSigma * x.cSigma
    let k := (rndDiv (vc * 65536 : Nat) (vc + v)).toNat
    let cap := max 1 (satU 32 (x.cap + rndDiv (((c : Int) - x.cap) * k) 65536))
    ({ a with outCount := 0 },
      { x with cap := cap, cSigma := min 10000 (max 100 (isqrtCeil (ceilDiv (vc * v) (vc + v)))), capSus := false },
      [(Ev.capacityUpdate, [p4 x.cap, p4 cap, p4 c, p4 k])])
  else
    let log := fun (n : Nat) => (Ev.capOutlier, [p4 c, p4 x.cap, p1 n])
    if a.outCount ≥ 1 ∧ consistent c a.outC1 x.cap outlier then
      if a.outCount = 1 then ({ a with outC2 := c, outCount := 2 }, x, [log 2])
      else
        let cap := max 1 (rndDiv (a.outC1 + a.outC2 + c : Nat) 3).toNat
        ({ a with outCount := 0 }, { x with cap := cap, cSigma := sigma0, capSus := false },
          [log 0, (Ev.capacityStep, [p4 x.cap, p4 cap])])
    else ({ a with outC1 := c, outCount := 1 }, x, [log 1])

/-- A qualifying anchor (R329, R331): entry, record, events. -/
def Cell.capLearn (x : Cell) (a : Learn) (c : Cfg) (h : Nat) (u : CellFeed) (socO sigO : Nat) : Learn × Cell × List (Nat × List Param) :=
  let n := fun (off : Nat) => (c.chem h off).toNat
  let m : Option Meas := if a.valid then some (a.measure x.qAcc socO sigO u.nowS u.f.gain u.f.offset (n 0x28) (n 0x22)) else none
  let r := match m with
    | some (.got cm v) => measUpdate a x cm v (n 0x2E) (n 0x3E)
    | _ => (a, x, [])
  if m = some (.refused true) then r
  else ({ r.1 with q := x.qAcc, socO := socO, sigO := sigO, tRef := x.tRef, time := u.nowS % 4294967296, valid := true, gap := false }, r.2)

/-! ### Ohmic resistance (R337) -/

/-- R_OHM after an ohmic step from r_m. -/
def ohmicStep (rOhm : Nat) (rm f : Int) : Nat :=
  let r := rndQ (rm * 4096) f
  if r < (rOhm / 4 : Nat) ∨ r > 4 * (rOhm : Int) then rOhm
  else (clampI 1 65535 ((rOhm : Int) + rndDiv ((r - rOhm) * 4096) 65536)).toNat

/-! ### Relaxation (R339 to R341) -/

/-- The fit of R341: TAU_POL and R_POL. -/
def relaxFit (x : Cell) (a : Learn) (v : Nat) : Cell :=
  let d1 := (a.rxV1 : Int) - a.rxV0
  let d2 := (v : Int) - a.rxV1
  let r16 := rndQ (d2 * 65536) d1
  if d1.natAbs ≥ 5 ∧ d1 * a.rxDi > 0 ∧ d2 * a.rxDi > 0 ∧ 655 ≤ r16 ∧ r16 ≤ 64880 then
    let tm := rndDiv (a.rxT1 * 10 * 65536 : Nat) (negLn r16.toNat)
    let rp := rndQ (d1 * 65536 * 1000000) ((65536 - r16) * a.rxDi)
    { x with tau := (clampI 1 65535 ((x.tau : Int) + rndDiv ((tm - x.tau) * 16384) 65536)).toNat
             rPol := (clampI 1 65535 ((x.rPol : Int) + rndDiv ((rp - x.rPol) * 16384) 65536)).toNat }
  else x

/-- A relaxation in a sweep (R340): its checkpoints and its end; `was` is STILL_TIME of the previous sweep. DEDUCED, log 80. -/
def relaxStep (x : Cell) (a : Learn) (u : CellFeed) (was : Nat) (fresh adm : Bool) : Learn × Cell :=
  if !a.rx then (a, x)
  else
    let off : Learn := { a with rx := false }
    let n := x.still - a.rxS0
    let o := was - a.rxS0
    let hit := fun (t : Nat) => decide (o < t ∧ t ≤ n)
    let good := fun (t : Nat) => n == t && u.e.tag == 0
    if fresh || !adm then (off, x)
    else if hit a.rxT1 && hit (2 * a.rxT1) then (off, x)
    else if hit a.rxT1 then (if good a.rxT1 then { a with rxV1 := u.e.v } else off, x)
    else if hit (2 * a.rxT1) then (off, if good (2 * a.rxT1) then relaxFit x a u.e.v else x)
    else (a, x)

/-- A relaxation starts (R339). `old` is the record of the previous commit. DEDUCED, log 81. -/
def relaxStart (old x : Cell) (a : Learn) (u : CellFeed) (cls diMin : Nat) (adm : Bool) : Learn :=
  let di := u.f.iEst - u.f.iPrev
  let pol := (old.rPol : Int) * u.f.iPrev
  if !a.rx && cls == 1 && old.moved && adm && u.e.tag == 0 && decide (di.natAbs ≥ diMin) && decide (u.dt ≤ 10000000) &&
      decide (10 * (old.vPol * 100000 - pol).natAbs ≤ pol.natAbs) then
    { a with rx := true, rxDi := di, rxV0 := u.e.v, rxS0 := x.still, rxT1 := (clampI 10 300 (rndDiv x.tau 10)).toNat }
  else a

/-! ### One cell -/

/-- Health figures (R342). -/
def Cfg.health (c : Cfg) (h : Nat) (x : Cell) : Cell :=
  { x with sohC := satU 16 (rndQ (x.cap * 10000 : Nat) (c.chem h 4)), sohR := satU 16 (rndQ (c.chem h 8 * 10000) x.rOhm) }

/-- The gap condition of a sweep (R330). -/
def State.gapNow (s : State) (k : Nat) (e : CellIn) : Bool :=
  let c := s.cfg.cell k
  let g := (s.cfg.chem c.chem 0x2C).toNat * 100000000
  let x := kget {} s.strCur c.str
  decide (s.sw.dt > g) || (x.absent && decide (x.absentCount * s.sw.dt > g)) ||
  ((e.tag == 4 || e.tag == 5) && decide (e.stale * s.sw.dt > g))

/-- An entry as MRAM holds it, without the bits in SRAM. -/
def Learn.stored (a : Learn) : Learn := { a with valid := false, gap := false, rx := false }

/-- The learned values of a record. -/
def Cell.learnedVals (x : Cell) : Learned :=
  { cap := x.cap, cSigma := x.cSigma, rOhm := x.rOhm, rPol := x.rPol, tau := x.tau, sohC := x.sohC, sohR := x.sohR, capSus := x.capSus }

/-- Learned values enter a record at the commit point; a changed CAPACITY moves the anchor to the SOC of that commit (R293, R323). -/
def Cell.learnIn (x : Cell) (v : Learned) : Cell :=
  let y := { x with cap := v.cap, cSigma := v.cSigma, rOhm := v.rOhm, rPol := v.rPol, tau := v.tau, sohC := v.sohC, sohR := v.sohR, capSus := v.capSus }
  if v.cap = x.cap then y else { y with ancSoc := x.soc, ancQ := x.qAcc }

/-- The deferred updates of the sealed sweep come into the records (R18, R323). -/
def State.learnCommit (s : State) : State :=
  let l := s.est.learned
  let s := { s with est := { s.est with learned := [] } }
  s.each l (fun e s => s.setCell e.1 ((s.cellR e.1).learnIn e.2))

/-- Learning of a cell after its estimate (R324, R328 to R342): what it learns waits for the commit point. DESIGN CHOICE, log 79. -/
def State.learnCell (s : State) (k : Nat) (old : Cell) (u : CellFeed) (o : CellOut) : State :=
  if !s.cfg.learning then s
  else
    let c := s.cfg
    let h := (c.cell k).chem
    let adm := s.admitted
    let a0 := s.learnR k
    let x := o.x
    let a := { a0 with gap := a0.gap || (a0.valid && s.gapNow k u.e) }
    -- relaxation, then capacity: both write the one entry (R350)
    let r := relaxStep x a u old.still o.fresh adm
    let a := relaxStart old x r.1 u o.cls (c.chem h 0x30).toNat adm
    let x := r.2
    let cap := match o.anchor with
      | some (2, _, socO, sigO, _) =>
        if adm && decide (sigO ≤ (c.chem h 0x22).toNat / 10) && decide (c.chem h 0x24 ≤ x.tRef ∧ x.tRef ≤ c.chem h 0x26) then
          x.capLearn a c h u socO sigO
        else (a, x, [])
      | _ => (a, x, [])
    let a := cap.1
    let x := cap.2.1
    -- ohmic step
    let was := kget {} s.com.strCur (c.cell k).str
    let now := kget {} s.strCur (c.cell k).str
    let di := u.f.iEst - u.f.iPrev
    let ohm := u.e.tag == 0 && !u.e.align && old.tag == 0 && !old.align && !was.absent && !now.absent && was.source == now.source &&
      decide (di.natAbs ≥ (c.chem h 0x30).toNat) && decide (0 < u.dt ∧ u.dt ≤ 10000000) && u.e.q == 0 && !u.opening && old.qBalEpoch == 0
    let rm := if di = 0 then Config.freeInt s.free else rndQ (((u.e.v : Int) - old.v) * 1000000) di
    let x := if ohm then { x with rOhm := ohmicStep old.rOhm rm (rFactor (c.chemP h) (tempJW (c.chemP h) x.tRef)) } else x
    let x := if x.cap ≠ old.cap ∨ x.rOhm ≠ old.rOhm then c.health h x else x
    let s := if ohm && di == 0 then s.draw else s
    let s := { s with est := { s.est with
      learn := kset {} s.est.learn k a
      learned := if x.learnedVals = o.x.learnedVals then s.est.learned else kput s.est.learned k x.learnedVals } }
    let s := if a.stored = a0.stored then s else s.mramPut (.learn k a.stored)
    s.each cap.2.2 (fun e s => s.ev e.1 k e.2)

/-! ### Weak cells (R343) -/

/-- The element of ascending index floor((n − 1) / 2). -/
def lowMedian (l : List Nat) : Nat := (l.insertionSort (· ≤ ·)).getD ((l.length - 1) / 2) 0

/-- WEAK_CELL of a string's cells, from the capacities of the last commit. -/
def State.weakString (s : State) (i : Nat) : State :=
  let cells := s.cfg.stringCells i
  let caps := cells.map (fun k => (s.cellR k).cap)
  let m := lowMedian caps
  let sstr := ceilDiv (lowMedian (caps.map (fun (x : Nat) => ((x : Int) - m).natAbs)) * 97163) 65536
  s.each cells (fun k s =>
    let x := s.cellR k
    let sg := max sstr (ceilDiv (x.cSigma * x.cap) 10000)
    let wk := (s.cfg.chem (s.cfg.cell k).chem 0x3C).toNat
    let weak := decide (x.cap * 256 + wk * sg < m * 256)
    (s.setCell k { x with weak := weak }).when (weak && !x.weak) (fun s => s.ev Ev.weakCell k [p4 x.cap, p4 m, p4 ((m * 256 - wk * sg) / 256)]))

/-- The evaluation that a trigger asked for. -/
def State.weakPass (s : State) : State :=
  if s.est.weakPending then s.each s.cfg.strings (fun i s => s.weakString i) |> fun s => { s with est := { s.est with weakPending := false } }
  else s

/-- The estimator and the learning of a sweep, for every present cell and string (R319, R323). -/
def State.estimPass (s : State) : State :=
  let s := s.weakPass
  let s := { s with est := { s.est with learned := [] } }
  let refs := (upto s.cfg.zoneCount).map s.zoneRef
  s.each s.cfg.strings (fun i s =>
    let f := s.strFeed i
    let s := s.each (s.cfg.stringCells i) (fun k s =>
      let old := s.cellR k
      let u := s.cellFeed k f.1 (refs.getD (s.cfg.cell k).zone none)
      let o := old.estimate s.cfg (s.cfg.cell k).chem s.sw.num u
      ((s.setCell k o.x).estEvents k o).learnCell k old u o)
    s.strValues i f.1.steady f.2)

/-- Learning at a hinge point (R324, R327): the bits of a cell that a test does not keep are cleared; LEARNING turned on begins with an
empty store, and turned off ends every relaxation. -/
def State.learnStart (s : State) (keep : Nat → Bool) (on : Bool) : State :=
  { s with est := { s.est with learn := if on then [] else s.est.learn.map (fun e =>
      (e.1, if !keep e.1 then e.2.stored else if s.cfg.learning then e.2 else { e.2 with rx := false })) } }

/-! ### Snapshots (R344 to R348) -/

/-- The buffer that a leaf writes next, true for its second: the one that does not hold its newest VALID snapshot. -/
def LeafRec.nextSnap (x : LeafRec) : Bool := x.snapA.st == 2 && (x.snapB.st != 2 || decide (x.snapA.seq > x.snapB.seq))

/-- SNAP_SEQ of the next snapshot of a leaf. -/
def LeafRec.snapSeq (x : LeafRec) : Nat := max x.snapA.seq x.snapB.seq + 1

/-- A leaf's buffer being written, changed. -/
def LeafRec.modSnap (x : LeafRec) (f : Snap → Snap) : LeafRec := if x.nextSnap then { x with snapB := f x.snapB } else { x with snapA := f x.snapA }

/-- The buffer being written. -/
def LeafRec.snap (x : LeafRec) : Snap := if x.nextSnap then x.snapB else x.snapA

/-- A leaf owes a snapshot: triggered and not yet complete. -/
def State.snapOwed (s : State) (l : Leaf) : Bool := (s.leaf l).snapOwed

/-- The owed mark replaced. -/
def State.setSnap (s : State) (l : Leaf) (b : Bool) : State := s.modLeaf l (fun x => { x with snapOwed := b })

/-- An owed snapshot begins where the leaf's writes are allowed, its descriptor first; one that was deferred goes on from its unit. A
deferral is logged once (R346, R347). -/
def State.snapRetry (s : State) (l : Leaf) : State :=
  let x := s.leaf l
  if !s.snapOwed l || !s.running l || s.aon.thermal then s
  else if x.writeOk then
    let s := s.snapUndefer l
    if x.snapGo then s
    else
      let x := x.modSnap (fun b => { b with st := 1, firstSweep := s.sw.cSweep, startTime := s.devTime, imageSeq := s.cfg.img.seq, cells := [] })
      s.setLeaf l { x with snapGo := true, snapIdx := 0 }
  else s.snapDefer l

/-- A snapshot trigger (R346): one that falls due while a snapshot is owed is absorbed into it. Under the thermal latch no snapshot
begins (R421). -/
def State.snapTrigger (s : State) : State :=
  let s := { s with est := { s.est with weakPending := true } }
  s.each [Leaf.a, Leaf.b] (fun l s => s.when (s.running l && !s.aon.thermal) (fun s => s.setSnap l true))

/-- Snapshots at a commit point: the trigger by the tick grid, or at a hinge point, which restarts the count. DEDUCED, log 94. -/
def State.snapCommit (s : State) (hinge : Bool) : State :=
  let n := (s.time.now - s.est.snapFrom) / (60000000000 * s.cfg.n Ty.device 0 0x48)
  let s := if hinge then { s.snapTrigger with est := { s.snapTrigger.est with snapFrom := s.time.now, snapNo := 0 } }
    else if n > s.est.snapNo then { s.snapTrigger with est := { s.snapTrigger.est with snapNo := n } } else s
  s.each [Leaf.a, Leaf.b] (fun l s => s.snapRetry l)

/-- A cell's snapshot entry (R344). -/
def Cell.snapBytes (x : Cell) : List Byte :=
  toLe 4 x.cap ++ toLe 2 x.cSigma ++ toLe 2 x.rOhm ++ toLe 2 x.rPol ++ toLe 2 x.tau ++ toLe 2 x.soc ++ toLe 2 x.sigma

/-- The entries of units `a` to `b - 1`, from the commit current as they are written (R346). -/
def State.snapUnits (s : State) (cells : KMap (List Byte)) (a b : Nat) : KMap (List Byte) :=
  (s.cfg.cells.filter (fun k => decide (4 * a ≤ k ∧ k < 4 * b))).foldl (fun m k => kput m k (kget {} s.com.cells k).snapBytes) cells

/-- The 256 KiB of a buffer (R344). -/
def Snap.bytes (x : Snap) : List Byte := (upto 16384).flatMap (fun k => padTo 16 (kget [] x.cells k))

/-- A buffer counts: its descriptor reads VALID and its CRC matches (R349). -/
def Snap.counts (x : Snap) : Bool := x.st == 2 && x.crc == crc32 x.bytes

/-- The next unit of the snapshot in hand is written. -/
def State.snapUnit (s : State) (l : Leaf) : State :=
  let x := s.leaf l
  let i := x.snapIdx
  let x := x.modSnap (fun b => { b with cells := s.snapUnits b.cells i (i + 1), firstSweep := if i = 0 then s.sw.cSweep else b.firstSweep })
  s.setLeaf l { x with snapIdx := i + 1 }

/-- SNAPSHOT_COMPLETE (R346): the units still to be written come from the commit current now, the buffer is read back, the descriptor
is written VALID. -/
def execSnapshotComplete (t : Nat) (l : Leaf) (ok : Bool) (s : State) : Ans :=
  at' t (fun s =>
    let x := s.leaf l
    if !s.snapOwed l || !x.snapGo || !x.writeOk || s.aon.thermal || !s.running l || !ok then s
    else
      let n := x.snapSeq
      let x' := x.modSnap (fun b =>
        let b := { b with cells := s.snapUnits b.cells x.snapIdx 4096, firstSweep := if x.snapIdx = 0 then s.sw.cSweep else b.firstSweep }
        { b with st := 2, seq := n, lastSweep := s.sw.cSweep, crc := crc32 b.bytes })
      ((s.setLeaf l { x' with snapGo := false, snapIdx := 0 }).setSnap l false).raiseO Ev.snapshotWritten l.num l.num [p4 n, p4 s.sw.cSweep]) s

end Sys2Proof.Machine
end

