-- ==== Sys2Proof/Machine/Limits.lean ====
section
/-!
DEFINITION. Current and power limits of strings and bank (R351 to R371). Lists of four run charge 2 s, discharge 2 s, charge
10 s, discharge 10 s; lists of two run charge, discharge.
-/
namespace Sys2Proof.Machine

/-- The horizon of an entry of a list of four, 0.1 s. -/
def horizonOf (k : Nat) : Nat := if k < 2 then 20 else 100

/-! ### One cell (R353 to R356, R365) -/

/-- What the limits need of a cell in a sweep. -/
structure CellLim where
  rt : Int := 0
  tau : Nat := 0
  rPol : Nat := 0
  vPol : Int := 0
  /-- Open-circuit voltage at the edge of the usable window, charge and discharge. -/
  ocvC : Int := 0
  ocvD : Int := 0
  vMax : Int := 0
  vMin : Int := 0
  taperC : Nat := 32768
  taperD : Nat := 32768
  deriving DecidableEq, Repr, Inhabited

/-- The taper factor at a state of charge (R356). -/
def taperAt (p : List Byte) (base : Nat) (x : Int) : Nat :=
  let sk := fun (k : Nat) => (leAt p (base + 4 * k) 2 : Int)
  let fk := fun (k : Nat) => (leAt p (base + 4 * k + 2) 2 : Int)
  if x ≤ sk 0 then (fk 0).toNat
  else if x ≥ sk 15 then (fk 15).toNat
  else
    let k := lastIdx 14 (fun k => decide (sk k ≤ x))
    if sk (k + 1) = sk k then (fk k).toNat else (fk k + rndQ ((fk (k + 1) - fk k) * (x - sk k)) (sk (k + 1) - sk k)).toNat

/-- The limit values of a cell. -/
def Cfg.cellLim (c : Cfg) (k : Nat) (x : Cell) : CellLim :=
  let h := (c.cell k).chem
  let p := c.chemP h
  let jw := tempJW p x.tRef
  let m := c.margin k x
  let xc : Int := min 10000 (x.soc + m)
  let xd : Int := x.soc - m
  let xd := max 0 xd
  { rt := rAtT p jw x.rOhm, tau := x.tau, rPol := x.rPol, vPol := x.vPol, ocvC := ocvAt p ocvChg jw xc, ocvD := ocvAt p ocvDis jw xd
    vMax := c.chem h 0, vMin := c.chem h 2, taperC := taperAt p 0x1A0 xc, taperD := taperAt p 0x1E0 xd }

/-- The denominator of R355. -/
def CellLim.den (x : CellLim) (h : Nat) : Int := x.rt * (x.tau + h) + x.rPol * h

/-- Headroom current of a cell (R355): entry of a list of four. -/
def CellLim.head (x : CellLim) (k : Nat) : Nat :=
  let h := horizonOf k
  let n := if k % 2 = 0 then 10 * (x.vMax - x.ocvC) * (x.tau + h) - x.vPol * x.tau else 10 * (x.ocvD - x.vMin) * (x.tau + h) + x.vPol * x.tau
  min 2147483647 ((n * 100000) / x.den h).toNat

/-- Predicted voltages summed exactly, as numerator and denominator (R365). -/
def voltSum (l : List CellLim) (k : Nat) (cur : Int) : Int × Nat :=
  let h := horizonOf k
  l.foldl (fun (a : Int × Nat) x =>
    let d := (x.tau + h) * 100000
    let n := (10 * (if k % 2 = 0 then x.ocvC else x.ocvD) * (x.tau + h) + x.vPol * x.tau) * 100000 + cur * x.den h
    (a.1 * d + n * a.2, a.2 * d)) (0, 1)

/-- Power at a published magnitude (R365), 0.1 W. -/
def powerOf (l : List CellLim) (k mag : Nat) : Nat :=
  let v := voltSum l k (if k % 2 = 0 then (mag : Int) else -(mag : Int))
  min 4294967295 (mag * v.1.toNat / (v.2 * 100000000))

/-! ### One string (R356 to R364) -/

/-- The factor of a throttle step (R357). -/
def thermFactor (step : Nat) : Nat := [32768, 27853, 22938, 18022, 13107, 8192, 3277, 0].getD step 0

/-- Steps of a string: the highest of its cells' zones, charge and discharge (R357). -/
def State.strSteps (s : State) (i : Nat) : List Nat :=
  let zs := (s.cfg.stringCells i).map (fun k => s.zone (s.cfg.cell k).zone)
  [0, 1].map (fun d => (zs.map (fun z => z.step d)).foldl max 0)

/-- The temperature window of R362 in a sweep: forbidden or not, with the cell that decided. -/
def State.tempWindow (s : State) (i : Nat) (was : Bool) : Bool × Nat :=
  let c := s.cfg
  let hy : Int := c.n Ty.zone 0 4
  let cells := c.stringCells i
  let out := cells.find? (fun k =>
    let z := s.zone (c.cell k).zone
    let h := (c.cell k).chem
    decide (z.tMax > c.chem h 0x36) || decide (z.tMin < c.chem h 0x34) || z.nRead == 0)
  let back := cells.all (fun k =>
    let z := s.zone (c.cell k).zone
    let h := (c.cell k).chem
    z.nRead != 0 && decide (z.tMax ≤ c.chem h 0x36 - hy) && decide (z.tMin ≥ c.chem h 0x34 + hy))
  match out with
  | some k => (true, k)
  | none => (was && !back, cells.headD 0xFFFF)

/-- The zone temperature that an event on the window reports: the maximum above it, else the minimum. -/
def State.windowTemp (s : State) (k : Nat) : Int :=
  let z := s.zone (s.cfg.cell k).zone
  if z.tMax > s.cfg.chem (s.cfg.cell k).chem 0x36 then z.tMax else z.tMin

/-- FAULT of R361. -/
def State.limFault (s : State) (i : Nat) : Bool := (s.sp i).acting != 0 || s.aon.dev == .halt || s.aon.dev == .safe || s.aon.dbLatch

/-- ZERO_CAUSE of a string for a direction, with the headroom of one horizon (R361). -/
def State.zeroCause (s : State) (i d : Nat) (noChg : Bool) (steps : List Nat) (iv : Nat) : Nat :=
  let cells := s.cfg.stringCells i
  let e := s.strE i
  packBits [s.limFault i, cells.any (fun k => if d = 0 then (s.cp k).ovWarn else (s.cp k).uvWarn), d == 0 && noChg,
    (if d = 0 then e.qChg else e.qDis) == 0, steps.getD d 0 == 7, iv == 0]

/-- RAMP of a string (R364). -/
def Cfg.rampUp (c : Cfg) (i : Nat) : Nat := minOf ((c.stringCells i).map (fun k => (c.chem (c.cell k).chem 0x38).toNat))

/-- A magnitude moves toward its target (R364). -/
def rampTo (l t step : Nat) : Nat := if t ≤ l then t else min t (l + step)

/-- The code of the lowest factor: 0 none below 1.0, 1 TAPER, 2 THERM, 3 SOH, 4 SENSOR, 5 PCS. -/
def lowestFactor (l : List Nat) : Nat :=
  let m := l.foldl min 32768
  if m = 32768 then 0 else l.findIdx (· == m) + 1

/-- A string's record (R355 to R368). -/
def State.strLim (s : State) (i : Nat) (old : StrLim) (noChg : Bool) : StrLim :=
  let c := s.cfg
  let cells := c.stringCells i
  let ls := cells.map (fun k => c.cellLim k (s.cellR k))
  let heads := (upto 4).map (fun k => ls.map (fun (x : CellLim) => x.head k))
  let iv := heads.map minOf
  let recs := cells.map s.cellR
  let soh := (recs.map (fun x => min x.sohC x.sohR)).foldl min 65535
  let steps := s.strSteps i
  let src := (kget {} s.strCur i).source
  let fTaper := [(ls.map CellLim.taperC).foldl min 32768, (ls.map CellLim.taperD).foldl min 32768]
  let fTherm := steps.map thermFactor
  let fSoh := min 32768 (soh * 32768 / 10000)
  let fSens := if src ≤ 2 ∧ !(kget {} s.strCur i).absent then 32768 else 16384
  let pcs := fun (d : Nat) => if s.lease.penalty.getD d false then 16384 else 32768
  let fs := fun (d : Nat) => [fTaper.getD d 0, fTherm.getD d 0, fSoh, fSens, pcs d]
  let rate := fun (d : Nat) => c.strFld i (0x0C + 4 * d)
  let tgt := (upto 4).map (fun k =>
    let d := k % 2
    if s.zeroCause i d noChg steps (iv.getD k 0) ≠ 0 then 0
    else min (iv.getD k 0) (rate d) * (fs d).foldl min 32768 / 32768)
  let step := c.rampUp i * min s.sw.dt 100000000 / 100000000
  let lim := (upto 4).map (fun k => rampTo (old.lim.getD k 0) (tgt.getD k 0) step)
  let low := fun (d : Nat) => ((cells.zip (heads.getD (2 + d) [])).find? (fun (e : Nat × Nat) => e.2 == iv.getD (2 + d) 0)).elim 0xFFFF (·.1)
  { lim := lim, target := tgt, pow := (upto 4).map (fun k => powerOf ls k (lim.getD k 0)), cell := [low 0, low 1]
    fTaper := fTaper, fTherm := fTherm, fSoh := fSoh, fSensor := fSens
    rStr := ((ls.map CellLim.rt).foldl (· + ·) 0).toNat, noCharge := noChg, steps := steps, ramp := step
    bind := [0, 1].map (fun d => packBits [decide (rate d ≤ iv.getD (2 + d) 0)] + 2 * lowestFactor (fs d) +
      16 * b2n (decide (lim.getD (2 + d) 0 < tgt.getD (2 + d) 0)))
    zero := [0, 1].map (fun d => s.zeroCause i d noChg steps (iv.getD (2 + d) 0)) }

/-- One string in the pass, with its events (R370). -/
def State.limString (s : State) (i : Nat) : State :=
  let old := kget {} s.lim.strs i
  let w := s.tempWindow i old.noCharge
  let x := s.strLim i old w.1
  let s := { s with lim := { s.lim with strs := kset {} s.lim.strs i x } }
  let s := s.when (w.1 != old.noCharge) (fun s => s.ev Ev.chargeTempBlock i
    [p1 (b2n w.1), p2 w.2, p2 (s.cfg.cell w.2).zone, (2, ofSigned 2 (s.windowTemp w.2))])
  s.each [0, 1] (fun d s => s.when (x.target.getD (2 + d) 0 == 0 && old.target.getD (2 + d) 0 != 0 && (s.hs i).st == 3)
    (fun s => s.ev Ev.limitZero i [p1 (Config.caseCode Ev.limitZero d), p2 (x.zero.getD 0 0 + 256 * x.zero.getD 1 0)]))

/-! ### The bank (R366, R367, R369) -/

/-- G of a string. -/
def condOf (rStr : Nat) : Nat := 2 ^ 40 / rStr

/-- The bank limits, and the sum of the closed strings' steps. -/
def State.limBank (s : State) : State × Nat :=
  let closed := s.closedStrs
  let recs := closed.map (fun i => (i, kget {} s.lim.strs i))
  let sum := (recs.map (fun e => condOf e.2.rStr)).foldl (· + ·) 0
  let share := fun (v : Nat) (e : Nat × StrLim) => v * sum / condOf e.2.rStr
  let hard := fun (d : Nat) => s.cfg.lease (0x10 + 4 * d)
  let cands := (upto 4).map (fun k => recs.map (fun e => share (e.2.lim.getD k 0) e))
  let tgt := (upto 4).map (fun k => if recs.isEmpty then 0 else min (hard (k % 2)) (minOf (cands.getD k [])))
  let step := (recs.map (fun e => e.2.ramp)).foldl (· + ·) 0
  let old := s.lim
  let lim := (upto 4).map (fun k => rampTo (old.lim.getD k 0) (tgt.getD k 0) step)
  let pow := (upto 4).map (fun k =>
    let pb := if recs.isEmpty then 0 else min 4294967295 (minOf (recs.map (fun e => share (e.2.pow.getD k 0) e)))
    if lim.getD k 0 < tgt.getD k 0 then pb * lim.getD k 0 / tgt.getD k 0 else pb)
  let name := fun (d : Nat) =>
    let m := minOf (cands.getD (2 + d) [])
    if recs.isEmpty ∨ hard d < m then 0xFF else ((recs.zip (cands.getD (2 + d) [])).find? (fun e => e.2 == m)).elim 0xFF (·.1.1)
  let s := { s with lim := { old with
    lim := lim, pow := pow, target := tgt, closed := closed.foldl (fun a i => setBit a i true) 0, limStr := [name 0, name 1]
    fPcs := [0, 1].map (fun d => if s.lease.penalty.getD d false then 16384 else 32768), sweep := s.sw.num } }
  let s := s.each [0, 1] (fun d s =>
    s.when (!recs.isEmpty && ((tgt.getD d 0 == 0 && old.target.getD d 0 != 0) || (tgt.getD (2 + d) 0 == 0 && old.target.getD (2 + d) 0 != 0)))
      (fun s => s.ev Ev.bankLimitZero srcD [p1 (Config.caseCode Ev.bankLimitZero d), p1 (name d)]))
  (s, step)

/-- The limits of a sweep, and CEIL after them (R351, R488). -/
def State.limitPass (s : State) : State :=
  let s := s.each s.cfg.strings (fun i s => s.limString i)
  let r := s.limBank
  r.1.leaseCeil r.2

end Sys2Proof.Machine
end

