-- ==== Sys2Proof/Machine/Balance.lean ====
section
/-!
DEFINITION. Active balancing (R372 to R399): epochs, suspension, the plan, what is sent, accounts.
-/
namespace Sys2Proof.Machine

/-! ### Records -/

/-- A string's balancing record. -/
def State.sb (s : State) (i : Nat) : StrBal := kget {} s.bal.strs i
/-- The same, changed. -/
def State.modSb (s : State) (i : Nat) (f : StrBal → StrBal) : State := { s with bal := { s.bal with strs := kmod {} s.bal.strs i f } }
/-- A node's balancing record. -/
def State.nb (s : State) (r p : Nat) : NodeBal := kget {} s.bal.nodes (srcN r p)
/-- The same, changed. -/
def State.modNb (s : State) (r p : Nat) (f : NodeBal → NodeBal) : State := { s with bal := { s.bal with nodes := kmod {} s.bal.nodes (srcN r p) f } }
/-- DUTY of a cell. -/
def State.dutyOf (s : State) (k : Nat) : Int := kget 0 s.bal.duty k

/-! ### State of balancing (R396) -/

/-- HOLD_CAUSE (R398). -/
def State.holdCause (s : State) : Nat := packBits [s.aon.dev == .sleep, s.aon.dev == .halt, s.aon.dev == .safe, s.aon.unkeyed]

/-- STATE as it now is. -/
def State.balWant (s : State) : Nat := if s.cfg.bal 0 = 0 then 0 else if s.holdCause ≠ 0 then 2 else 1

/-- STATE follows; on leaving ON zero plans are owed, on returning the next sweep opens an epoch. -/
def State.balState (s : State) : State :=
  let w := s.balWant
  let o := s.bal.st
  let h := if w = 2 then s.holdCause else 0
  let s := { s with bal := { s.bal with
    st := w, holdCause := h, zeroPlans := s.bal.zeroPlans || (o == 1 && w != 1), force := s.bal.force || (o != 1 && w == 1) } }
  if w = o then s else s.evA Ev.balStateChanged srcD [p1 o, p1 w, p1 h]

/-! ### Epochs (R380, R381) -/

/-- Effective epoch in sweeps: the smallest whole number of effective periods not shorter than T_BAL (R235, R380). -/
def State.epochSweeps (s : State) : Nat := ceilDiv ((s.cfg.bal 2).toNat * 1000000) (periodNs s.sw.period)

/-- Whether the sweep in hand opens an epoch is decided before its estimates (R380, R294). -/
def State.epochDecide (s : State) : State :=
  let b := s.bal
  let tb := (s.cfg.bal 2).toNat
  let opening := !b.begun || b.force || decide ((s.sw.num + 4294967296 - b.openSweep) % 4294967296 ≥ b.nE) || b.period != s.sw.period || b.tBal != tb
  if !opening then { s with bal := { b with opening := false } }
  else
    let n := s.epochSweeps
    let t := (periodNs s.sw.period / 1000 : Nat) - (s.cfg.n Ty.device 0 0x42 : Int) - 50 - s.cfg.n Ty.device 0 0x44
    { s with bal := { b with
      opening := true, begun := true, force := false, epoch := if b.begun then (b.epoch + 1) % 4294967296 else 0
      openSweep := s.sw.num, nE := n, tEff := n * periodNs s.sw.period / 1000000, tAv := n * t.toNat, period := s.sw.period, tBal := tb
      eta := (s.cfg.bal 4).toNat } }

/-! ### Nodes (R372, R383, R386, R387) -/

/-- A node takes part in the plan (R372). -/
def State.balNode (s : State) (r p : Nat) : Bool :=
  let n := s.node r p
  s.cfg.nodeFld r p 0 == 0 && bit n.caps 2 && decide (s.iCeil r p > 0) && decide (n.cfg ≥ 2) && n.quar == 0

/-- A node's temperature (R383): none known where neither a sensor nor a zone of its cells shows one. -/
def State.nodeTemp (s : State) (r p : Nat) : Option Int :=
  let l := ((s.cfg.sensorsOf r p).map (fun x => s.sens x.1)).filterMap (fun (x : Sensor) =>
    if x.st = 4 then some x.t else if x.sealedT = 0x7FFF then none else some x.sealedT)
  let zs := ((s.cfg.nodeCells r p).map (fun k => (s.cfg.cell k).zone)).filterMap (fun z => if (s.zone z).admitted then some (s.zone z).tMax else none)
  match if l.isEmpty then zs else l with
  | [] => none
  | x :: r => some (r.foldl max x)

/-- One node in the pass: DIST_RUN, suspension, temperature, admission. -/
def State.balNodePass (s : State) (r p : Nat) : State :=
  let c := s.cfg
  let x := s.nb r p
  let used := (kget { tag := 4 } s.sw.sealed.nodes (srcN r p)).tag == 0
  let e := kget {} s.sw.sealed.nodes (srcN r p)
  let cells := c.nodeCells r p
  let dis := cells.any (fun k => (kget {} s.sw.sealed.cells k).tag == 1)
  let run := if !used then x.distRun else if dis then min 255 (x.distRun + 1) else 0
  let open' := s.bal.opening
  let add := s.sw.dt
  let x := { x with distRun := run, suspTicks := x.suspTicks + add, backTicks := x.backTicks.map (· + add) }
  let adm := s.balNode r p
  let t := s.nodeTemp r p
  let tm := c.bal 0x0C
  let hot := match t with | some v => decide (v ≥ tm) | none => false
  let warm := match t with | some v => decide (v ≥ tm - 100) | none => false
  let ceil := s.iCeil r p
  let self := bit e.flags 1 && used && cells.any (fun k => s.dutyOf k != 0)
  let unreach := if open' then !used else bit x.cause 0
  let x := { x with iCeil := if warm then ceil / 2 else ceil, cause := packBits [unreach, hot, warm && !hot, self, x.refused] }
  let susp := decide (x.st = 3 ∨ x.st = 4)
  let put := fun (x : NodeBal) (s : State) => s.modNb r p (fun _ => x)
  if susp then
    if x.st = 3 ∧ open' ∧ x.suspTicks ≥ secTicks 60 then
      (put { x with st := if !adm then 0 else if hot || unreach then 2 else 1, distRun := 0, backTicks := some 0 } s).ev Ev.balNodeResumed (srcN r p) []
    else put x s
  else if adm && decide (run > (c.bal 0x10).toNat) then
    let again := match x.backTicks with | some k => decide (k ≤ secTicks 600) | none => false
    (put { x with st := if again then 4 else 3, susp := min 255 (x.susp + 1), suspTicks := 0 } s).ev Ev.balNodeSuspended (srcN r p) [p1 r, p1 p, p2 e.resid, p2 e.dist]
  else
    let st := if !adm then 0 else if hot then 2 else if open' then (if unreach then 2 else 1) else if x.st = 0 then 2 else x.st
    put { x with st := st } s

/-! ### Strings (R384, R385) -/

/-- One string in the pass: LOW_TIME, rest yield, suspension. -/
def State.balStrPass (s : State) (i : Nat) : State :=
  let c := s.cfg
  let cells := c.stringCells i
  let x := s.sb i
  let cur := kget {} s.strCur i
  let low := if !cur.absent && (s.strE i).steady && decide (cur.iEst.natAbs ≤ c.iRest i) then min 65535 (x.lowTime + s.sweepSecs) else 0
  let rest := cells.all (fun k => (s.cellR k).ancState == 3)
  let tRest := (cells.map (fun k => (c.chem (c.cell k).chem 0x14).toNat)).foldl max 0
  let armed := x.armed || low == 0
  let ticks := x.yieldTicks + s.sw.dt
  let leave := x.yield && (rest || low == 0 || decide (ticks ≥ secTicks (tRest + 1200)))
  let enter := !x.yield && armed && !rest && decide (x.lowTime < 600 ∧ 600 ≤ low)
  let yield := (x.yield && !leave) || enter
  let zt := (cells.map (fun k => (s.zone (c.cell k).zone).tMax))
  let lim := c.bal 0x0E
  let hot := if zt.any (fun t => decide (t > lim)) then true
    else if zt.all (fun t => decide (t ≤ lim - c.n Ty.zone 0 4)) then false else x.hot
  let fault := ((kget {} s.lim.strs i).zero).any (fun z => bit z 0)
  let armed := if enter || (leave && low != 0) then false else armed
  let causes := packBits [fault, hot, yield, s.bal.st != 1]
  let was := x.suspend &&& 7
  let now := causes &&& 7
  let s := s.modSb i (fun x => { x with
    lowTime := low, armed := armed, yield := yield, yieldTicks := if enter then 0 else ticks, hot := hot, suspend := causes + 16 * b2n armed })
  let s := s.when enter (fun s => s.ev Ev.balRestYield i [p1 0, p2 low])
  let s := s.when leave (fun s => s.ev Ev.balRestYield i [p1 1, p2 low])
  let s := s.when (was == 0 && now != 0) (fun s => s.ev Ev.balStringSuspended i [p1 now])
  s.when (was != 0 && now == 0) (fun s => s.ev Ev.balStringResumed i [p1 was])

/-- A string takes no part: a cause of R384, or STATE not ON. -/
def State.balOff (s : State) (i : Nat) : Bool := (s.sb i).suspend &&& 15 != 0

/-! ### The plan (R382, R388 to R393) -/

/-- A cell is eligible (R382). -/
def State.eligible (s : State) (k : Nat) : Bool :=
  let e := s.cfg.cell k
  let x := s.cellR k
  decide (x.tag ≤ 1) && decide ((x.sigma : Int) ≤ s.cfg.bal 6) && (s.nb e.ring e.node).st == 1 && !s.balOff e.str

/-- The effective mode of a string (R388). -/
def State.balMode (s : State) (i : Nat) : Nat :=
  let m := (s.cfg.bal 1).toNat
  if m ≠ 0 then m
  else
    let e := (kget {} s.strCur i).iEst
    let q : Int := s.cfg.iQ i
    let soc := (s.strE i).soc
    if e ≥ q then 2 else if e ≤ -q then 1 else if soc ≥ 7000 then 2 else if soc ≤ 3000 then 1 else 3

/-- A planned cell: index, ring, position, s_i, w_i × 10,000, D_i, c_i. -/
structure PlanCell where
  k : Nat := 0
  r : Nat := 0
  p : Nat := 0
  s : Int := 0
  w : Nat := 10000
  d : Int := 0
  c : Int := 0
  deriving DecidableEq, Repr, Inhabited

/-- The level value and the weight of a cell in a mode (R389). -/
def planCell (mode k r p : Nat) (x : Cell) : PlanCell :=
  match mode with
  | 1 => { k := k, r := r, p := p, s := (x.soc * x.cap / 10000 : Nat) }
  | 2 => { k := k, r := r, p := p, s := -(((10000 - x.soc) * x.cap / 10000 : Nat) : Int) }
  | _ => { k := k, r := r, p := p, s := x.soc, w := x.cap }

/-- The condition on a level (R389). -/
def levelOk (eta : Nat) (g : List PlanCell) (l : Int) : Bool :=
  decide (65536 * (g.map (fun x => (l - x.s).toNat * x.w)).foldl (· + ·) 0 ≤ eta * (g.map (fun x => (x.s - l).toNat * x.w)).foldl (· + ·) 0)

/-- Bisection for the largest level that meets it, between `lo`, which does, and `hi`, which does not. -/
def levelFind (eta : Nat) (g : List PlanCell) : Nat → Int → Int → Int
  | 0, lo, _ => lo
  | k + 1, lo, hi =>
    if hi - lo ≤ 1 then lo
    else
      let m := (lo + hi) / 2
      if levelOk eta g m then levelFind eta g k m hi else levelFind eta g k lo m

/-- The level of a group and its desires; a group of fewer than two cells desires nothing (R389). -/
def groupPlan (eta dead : Nat) (g : List PlanCell) : Int × List PlanCell :=
  match g with
  | x :: y :: r =>
    let ss := (y :: r).map (·.s)
    let l := levelFind eta g 80 (ss.foldl min x.s) (ss.foldl max x.s + 1)
    (l, g.map (fun x =>
      let d : Int := ((l - x.s).natAbs * x.w / 10000 : Nat)
      if d < dead * 1000 then { x with d := 0 } else { x with d := if l ≥ x.s then d else -d }))
  | g => (0, g)

/-- What one module of a string can move (R391). -/
structure ModPlan where
  r : Nat := 0
  p : Nat := 0
  q : Nat := 0
  cells : List PlanCell := []
  ps : Nat := 0
  ns : Nat := 0
  v : Nat := 0
  u : Nat := 0
  x : Nat := 0
  y : Nat := 0
  deriving DecidableEq, Repr, Inhabited

/-- A module's volumes. -/
def modPlan (eta r p q : Nat) (link : Bool) (cells : List PlanCell) : ModPlan :=
  let rs := (cells.map (fun x => x.d.toNat))
  let gs := (cells.map (fun x => (-x.d).toNat))
  let rc := (rs.map (min q)).foldl (· + ·) 0
  let gc := (gs.map (min q)).foldl (· + ·) 0
  let v := min rc (gc * eta / 65536)
  let u := ceilDiv (v * 65536) eta
  { r := r, p := p, q := q, cells := cells, ps := rs.foldl (· + ·) 0, ns := gs.foldl (· + ·) 0, v := v, u := u
    x := if link ∧ v = rc then min (gc - u) q else 0, y := if link ∧ v ≠ rc then min (rc - v) q else 0 }

/-- A string's plan (R389 to R393): the level of its linked group, K, the cells with their charges, the link plans. -/
def State.stringPlan (s : State) (i mode : Nat) : Int × Nat × List PlanCell × List (Nat × Nat × Int) :=
  let c := s.cfg
  let eta := s.bal.eta
  let dead := (c.bal 8).toNat
  let cells := ((c.stringCells i).filter s.eligible).map (fun k => planCell mode k (c.cell k).ring (c.cell k).node (s.cellR k))
  let linkOf := fun (x : PlanCell) => bit (s.node x.r x.p).caps 4
  let mods := (cells.map (fun x => srcN x.r x.p)).dedup
  let lg := groupPlan eta dead (cells.filter linkOf)
  let own := mods.flatMap (fun m => (groupPlan eta dead (cells.filter (fun x => srcN x.r x.p == m && !linkOf x))).2)
  let all := (lg.2 ++ own).map (fun x =>
    if (x.d > 0 ∧ (s.cp x.k).ovWarn) ∨ (x.d < 0 ∧ (s.cp x.k).uvWarn) then { x with d := 0 } else x)
  let plans := mods.map (fun m =>
    let r := m / 64
    let p := m % 64 + 1
    modPlan eta r p ((s.nb r p).iCeil * s.bal.tAv / 100000) (bit (s.node r p).caps 4) (all.filter (fun x => srcN x.r x.p == m)))
  let xs := (plans.map (·.x)).foldl (· + ·) 0
  let ys := (plans.map (·.y)).foldl (· + ·) 0
  let kk := min ys (xs * eta / 65536)
  let ku := ceilDiv (kk * 65536) eta
  let km := fun (m : ModPlan) => m.y * kk / ys
  let xm := fun (m : ModPlan) => ceilDiv (m.x * ku) xs
  (lg.1, kk,
    plans.flatMap (fun m => m.cells.map (fun x =>
      if x.d > 0 then { x with c := (min m.q (x.d.toNat * (m.v + km m) / m.ps) : Nat) }
      else if x.d < 0 then { x with c := -((min m.q ((-x.d).toNat * (m.u + xm m) / m.ns) : Nat) : Int) } else x)),
    plans.map (fun m => (m.r, m.p, if km m > 0 then (km m : Int) else -(xm m : Int))))

/-- The duty code of a planned charge (R393). -/
def dutyCode (c : Int) (qf : Nat) : Int := if qf = 0 then 0 else rndDiv (127 * c) qf

/-- A string is planned at an opening sweep; its accounts are closed (R397). -/
def State.planString (s : State) (i : Nat) : State :=
  let x := s.sb i
  let mode := s.balMode i
  let r := s.stringPlan i mode
  let ins := (r.2.2.1.map (fun y => y.c.toNat)).foldl (· + ·) 0
  let outs := (r.2.2.1.map (fun y => (-y.c).toNat)).foldl (· + ·) 0
  let codes := r.2.2.1.map (fun y => (y.k, dutyCode y.c (s.iCeil y.r y.p * s.bal.tAv / 100000)))
  let s := s.modSb i (fun x => { x with
    mode := mode, level := r.1, inPl := ins, outPl := outs, link := r.2.1, inMv := x.accIn, outMv := x.accOut, accIn := 0, accOut := 0
    etaSeen := if x.accOut = 0 then 0 else min 65535 (rndDiv (x.accIn * 65536 : Nat) x.accOut).toNat })
  let s := codes.foldl (fun (s : State) y => { s with bal := { s.bal with duty := kset 0 s.bal.duty y.1 y.2 } }) s
  let s := s.each r.2.2.2 (fun y s => s.modNb y.1 y.2.1 (fun n => { n with link := y.2.2 }))
  s.when (x.mode != 0 && x.mode != mode) (fun s => s.ev Ev.balModeChanged i [p1 x.mode, p1 mode])

/-- The plan of an opening sweep. -/
def State.planAll (s : State) : State :=
  let s := { s with bal := { s.bal with
    duty := if s.bal.zeroPlans then s.bal.duty else [], nodes := s.bal.nodes.map (fun (e : Nat × NodeBal) => (e.1, { e.2 with link := 0 })) } }
  let s := s.each s.cfg.strings (fun i s => s.planString i)
  { s with bal := { s.bal with
    zeroCells := [], sendIn := if s.bal.st ≠ 1 then 0 else if s.sw.period = 0 then 2 else 1
    cellsPlanned := s.bal.duty.length, cellsOut := (s.cfg.cells.filter (fun k => !s.eligible k)).length } }

/-- Cells whose code falls to 0 between opening sweeps (R395). -/
def State.dropsNow (s : State) : List Nat :=
  (s.bal.duty.map (·.1)).filter (fun k =>
    let e := s.cfg.cell k
    let d := s.dutyOf k
    s.balOff e.str || (s.nb e.ring e.node).st != 1 || (decide (d > 0) && (s.cp k).ovWarn) || (decide (d < 0) && (s.cp k).uvWarn))

/-- Balancing in a sweep, after the limits. -/
def State.balancePass (s : State) : State :=
  let s := s.each s.cfg.allNodes (fun x s => s.balNodePass x.1 x.2)
  let s := s.each s.cfg.strings (fun i s => s.balStrPass i)
  let s := if s.bal.opening then s.planAll
    else { s with bal := { s.bal with zeroCells := if s.bal.st = 1 then s.dropsNow else [] } }
  let s := s.each s.cfg.strings (fun i s =>
    let q := (s.cfg.stringCells i).map (fun k => (kget {} s.sw.sealed.cells k).q)
    s.modSb i (fun x => { x with accIn := x.accIn + (q.map Int.toNat).foldl (· + ·) 0, accOut := x.accOut + (q.map (fun v => (-v).toNat)).foldl (· + ·) 0 }))
  { s with bal := { s.bal with
    planned := (s.bal.nodes.filter (fun e => e.2.st == 1)).length
    suspended := (s.bal.nodes.filter (fun e => e.2.st == 3 || e.2.st == 4)).length } }

/-! ### Plans on the rings (R394 to R396) -/

/-- A node's 16 duty codes. -/
def State.nodeCodes (s : State) (r p : Nat) : List Byte :=
  (upto 16).map (fun ch => match (s.cfg.nodeCells r p).find? (fun k => (s.cfg.cell k).chan == ch) with
    | some k => byteOf (ofSigned 1 (s.dutyOf k))
    | none => 0)

/-- The BAL_PLAN of a node from its serving end. -/
def State.sendPlan (s : State) (r p : Nat) (codes : List Byte) : State :=
  let b := s.bal
  let q : Req := { kind := 7, payload := toLe 2 b.epoch ++ toLe 2 b.tEff ++ codes, purpose := .bal, cls := 5 }
  (s.modNb r p (fun x => { x with epoch := b.epoch % 65536, refused := false })).request' r (s.reqEnd r p) p q

/-- Zero plans to the nodes whose last plan held a code other than 0 (R396). -/
def State.sendZero (s : State) : State :=
  let ns := s.cfg.allNodes.filter (fun x => (s.cfg.nodeCells x.1 x.2).any (fun k => s.dutyOf k != 0))
  let s := s.each ns (fun x s => if s.node x.1 x.2 |>.quar |> (· == 0) then s.sendPlan x.1 x.2 (List.replicate 16 0) else s)
  { s with bal := { s.bal with duty := [], zeroPlans := false, zeroCells := [], sendIn := 0, cellsPlanned := 0 } }

/-- What balancing sends after a commit point. -/
def State.balCommit (s : State) : State :=
  if s.bal.zeroPlans then s.sendZero
  else
    let n := s.bal.sendIn
    if n = 1 ∧ s.bal.st = 1 then
      let s := { s with bal := { s.bal with sendIn := 0, zeroCells := [] } }
      let s := { s with bal := { s.bal with duty := s.bal.duty.filter (fun (e : Nat × Int) => !s.dropsNow.contains e.1) } }
      s.each s.cfg.allNodes (fun x s =>
        if s.balNode x.1 x.2 && s.reachable x.1 x.2 then s.sendPlan x.1 x.2 (s.nodeCodes x.1 x.2) else s)
    else
      let zs := s.bal.zeroCells
      let ns := (zs.map (fun k => srcN (s.cfg.cell k).ring (s.cfg.cell k).node)).dedup
      let duty := s.bal.duty.filter (fun (e : Nat × Int) => !zs.contains e.1)
      let s := { s with bal := { s.bal with zeroCells := [], sendIn := n - 1, duty := duty, cellsPlanned := duty.length } }
      if n > 1 then s
      else s.each ns (fun m s => s.sendPlan (m / 64) (m % 64 + 1) (s.nodeCodes (m / 64) (m % 64 + 1)))

/-- What the commit point shows of balancing: at 2.5 ms the plan of an opening sweep waits for the next one (R238). -/
def State.balShown (s : State) : Bal :=
  let b := s.bal
  if b.sendIn = 0 then b
  else
    let o := s.com.bal
    { b with
      duty := o.duty, cellsPlanned := o.cellsPlanned, cellsOut := o.cellsOut
      strs := b.strs.map (fun (e : Nat × StrBal) =>
        let y : StrBal := kget {} o.strs e.1
        (e.1, { e.2 with mode := y.mode, level := y.level, inPl := y.inPl, outPl := y.outPl, link := y.link }))
      nodes := b.nodes.map (fun (e : Nat × NodeBal) => (e.1, { e.2 with link := (kget {} o.nodes e.1).link })) }

/-- An answer, refusal or silence to a BAL_PLAN (R394): the last plan sent is marked. -/
def State.planRefused (s : State) (r p : Nat) (b : Bool) : State := s.modNb r p (fun x => { x with refused := b })

/-- BAL_NODE_RESUME (R387, R647): a node in LOCKED_OUT waits for the next opening sweep to be admitted again. -/
def execBalNodeResume (t : Nat) (q : HReq) (s : State) : Ans :=
  at' t (fun s => s.cmd q 0x0801 (fun s => s.may q.sess Perm.overlay) (· == 4) (fun s =>
    let r := arg q 0 1
    let p := arg q 1 1
    if r ≥ 16 ∨ p = 0 ∨ p > s.cfg.nodeCount r then s.ans St.bounds
    else if (s.nb r p).st ≠ 4 then s.ans St.ok
    else (s.modNb r p (fun x => { x with st := 3, suspTicks := secTicks 60, backTicks := none })).ans St.ok)) s

/-- CELL_MINMAX_CLEAR (R647). -/
def execCellMinmaxClear (t : Nat) (q : HReq) (s : State) : Ans :=
  at' t (fun s => s.cmd q 0x0501 (fun s => s.may q.sess Perm.overlay) (· == 4) (fun s =>
    let f := arg q 0 2
    let n := arg q 2 2
    if n = 0 ∨ f + n > 16384 then s.ans St.bounds
    else ({ s with est := { s.est with clears := s.est.clears ++ [(f, n)] } } : State).ans St.ok)) s

end Sys2Proof.Machine
end

