-- ==== Sys2Proof/Machine/RingSweep.lean ====
section
/-!
DEFINITION. The rings in a sweep (R211 to R213, R219, R222 to R229, R231 to R249): SYNC, samples, re-requests, alarms, the
collection deadline, loss of signal, probes.
-/
namespace Sys2Proof.Machine

/-! ### Answers -/

/-- An answer of a position at an end: it hears requests there (R225). -/
def State.heardAt (s : State) (r : Nat) (e : Leaf) (p : Nat) : State :=
  s.modNode r p (fun n => match e with | .a => { n with deafA := false } | .b => { n with deafB := false })

/-- The re-request of a sample at the other end is done with: dropped where it has not left, muted where it has (R211). DEDUCED, log 53. -/
def State.muteSample (s : State) (r : Nat) (e : Leaf) (p : Nat) : State :=
  let x := s.port r e p
  s.setPort r e p { x with q := (x.q.filter (fun q => q.purpose != .sample || q.sent)).map (fun (q : Req) =>
    if q.purpose = .sample then { q with muted := true } else q) }

/-- A re-request has been answered at an end: it counts for the determination of R223, and the end that does not serve the
node makes it event 5. `first` is the instant of its first sending. DEDUCED, log 52. -/
def State.rereqAnswered (s : State) (r : Nat) (e : Leaf) (p first : Nat) : State :=
  let x := s.ring r
  let counts := x.brk = 0 ∨ x.brk = 5 ∨ x.brkNow ≤ first
  let s := if counts then s.modNode r p (fun n => match e with | .a => { n with reqA := true } | .b => { n with reqB := true }) else s
  if x.serves p ≠ some e then s.ringEvent r 5 else s

/-! ### PASS (R572, R574) -/

/-- A port of the group node. -/
def State.upPort (s : State) (e : Leaf) : UpPort := match e with | .a => s.nest.portA | .b => s.nest.portB
/-- A port of the group node replaced. -/
def State.setUpPort (s : State) (e : Leaf) (x : UpPort) : State :=
  match e with
  | .a => { s with nest := { s.nest with portA := x } }
  | .b => { s with nest := { s.nest with portB := x } }

/-- What a PASS of the parent asked for is answered: its answer is held for the repeats. -/
def State.upDone (s : State) (e : Leaf) (seq kind : Nat) (payload : List Byte) : State :=
  let x := s.upPort e
  if x.busy = some seq then s.setUpPort e { x with held := some (seq, kind, payload), busy := none } else s

/-- The answer to NEST_PASS (R574, R646). -/
def State.passDone (s : State) (k tag kind : Nat) (payload : List Byte) : State :=
  s.answer k tag St.ok ([byteOf kind, 0, 0, 0] ++ payload.take 28)

/-! ### Samples (R205, R211, R212, R249) -/

/-- SWEEP_LOW of a sample's payload. -/
def sampleLow (p : List Byte) : Nat := leAt p 0x38 1

/-- The sweep in hand collects. -/
def State.collecting (s : State) : Bool := s.sw.phase == .collecting && decide (s.time.now < s.deadline)

/-- The RESULT of a SAMPLE_RSP (R657): 0 good, 2 late, 3 discarded. -/
def State.judgeSample (s : State) (r : Nat) (e : Leaf) (pos seq : Nat) (solicited : Bool) (low : Nat) : Nat :=
  let answers := match s.head r e pos with
    | some h => ((h.kind == 4 && h.reg == 0xFF20) || h.kind == 0xC) && h.seq == seq && !h.busy
    | none => false
  if pos = 0 ∨ pos > s.cfg.nodeCount r ∨ (solicited ∧ !answers) then 3
  else if s.sw.started ∧ (if low = s.sw.num % 256 then !s.collecting else decide (low < s.sw.num)) then 2
  else 0

/-- A late sample is discarded and counted (R249); the count enters LATE_FRAMES and SAMPLE_LATE at the next commit point.
DEDUCED, log 100. -/
def State.lateSample (s : State) (r : Nat) : State :=
  let s := s.modRing r (fun x => { x with late := satAdd 16 x.late 1 })
  { s with sw := { s.sw with late := satAdd 16 s.sw.late 1 }, time := { s.time with lateTotal := satAdd 32 s.time.lateTotal 1 } }

/-- A sample that counts enters the sweep's items (R212, R250). -/
def State.takeSample (s : State) (r : Nat) (e : Leaf) (p low : Nat) (payload : List Byte) : State :=
  if s.collecting ∧ low = s.sw.num % 256 ∧ s.usable r p then
    let s := s.modRing r (fun x => { x with used := true })
    if s.sw.items.any (fun i => i.ring == r && i.pos == p && i.e == e) then s
    else { s with sw := { s.sw with items := s.sw.items ++ [{ ring := r, pos := p, e := e, payload := payload, inA := true, inB := true }] } }
  else s

/-- The request that a SAMPLE_RSP or a GROUP_SUMMARY answers is done with. -/
def State.sampleAnswer (s : State) (r : Nat) (e : Leaf) (p kind : Nat) (payload : List Byte) : State :=
  match s.head r e p with
  | none => s
  | some h =>
    let s := (s.heardAt r e p).popReq r e p
    match h.purpose with
    | .hostR k tag n => s.answer k tag St.ok (payload.take n)
    | .pass k tag => s.passDone k tag kind payload
    | .upPass port seq => s.upDone port seq kind (payload.take 64)
    | .sample => s.rereqAnswered r e p h.first
    | _ => s

/-- A SAMPLE_RSP or a GROUP_SUMMARY at a master port; the answer to a PASS is no sample of the node that sent it. -/
def State.deliverSample (s : State) (r : Nat) (e : Leaf) (p kind : Nat) (solicited : Bool) (low : Nat) (payload : List Byte) (res : Nat) : State :=
  let viaPass := solicited && (match s.head r e p with | some h => h.kind == 0xC | none => false)
  if res = 3 then s.modRing r (fun x => { x with stray := satAdd 32 x.stray 1 })
  else if viaPass then s.sampleAnswer r e p kind payload
  else
    let s := s.modNode r p (fun n => { n with smp := true, spoke := true })
    let s := if res = 2 then s.lateSample r else s.takeSample r e p low payload
    let s := s.when (res == 0 && s.hasSample r p) (fun s => s.muteSample r e.other p)
    let s := if solicited then s.sampleAnswer r e p kind payload else s
    (s.grow r p).settleBreak r false

/-- A sample as it is kept: the 64 bytes of its payload, then the charges of channels 8 to 15. DEDUCED, log 57. -/
def keptSample (f : SampleRsp) (p : List Byte) : List Byte := padTo 64 p ++ ((upto 8).map (fun j => toLe 2 (ofSigned 2 (f.qHigh.getD j 0)))).flatten

/-- SAMPLE_RSP_RECEIVED. -/
def execSampleRspReceived (t ring : Nat) (e : Leaf) (f : SampleRsp) (s : State) : Ans :=
  at' t (fun s => if !s.cfg.ringOn ring then s else
    s.rx ring e f.pos 6 f.seq f.payload (.sampleRspReceived t ring e f)
      (fun p s => s.judgeSample ring e f.pos f.seq f.solicited (sampleLow p))
      (fun p res s => s.deliverSample ring e f.pos 6 f.solicited (sampleLow p) (keptSample f p) res)) s

/-- PARENT_SWEEP_LOW of a summary's payload (R564). -/
def summaryLow (p : List Byte) : Nat := leAt p 0x3E 1

/-- GROUP_SUMMARY_RECEIVED (R566): collected and chosen as a SAMPLE_RSP is. -/
def execGroupSummaryReceived (t ring : Nat) (e : Leaf) (f : SampleRsp) (s : State) : Ans :=
  at' t (fun s => if !s.cfg.ringOn ring then s else
    s.rx ring e f.pos 0x0B f.seq f.payload (.groupSummaryReceived t ring e f)
      (fun p s => s.judgeSample ring e f.pos f.seq f.solicited (summaryLow p))
      (fun p res s => s.deliverSample ring e f.pos 0x0B f.solicited (summaryLow p) p res)) s

/-! ### Alarms (R213, R219, R220, R436) -/

/-- An alarm that has not been seen within 10 ms is passed to protection; a new BOOT_COUNT shows a reset. DEDUCED, log 56. -/
def State.deliverAlarm (s : State) (r : Nat) (e : Leaf) (f : AlarmFrame) (res : Nat) : State :=
  if res ≠ 0 then s.modRing r (fun x => { x with stray := satAdd 32 x.stray 1 })
  else
    let key := (r, f.src, f.seq, f.cause)
    let keep := s.ch.alarms.filter (fun a => decide (s.time.now < a.1 + 10000000))
    let copy := keep.any (fun a => a.2 == key)
    let n := s.node r f.src
    let s := { s with ch := { s.ch with alarms := if copy then keep else (s.time.now, key) :: keep } }
    let s := s.grow r f.src
    if copy then s
    else
      let s := if n.quar ≠ 0 then s
        else if f.cause &&& 15 ≠ 0 then (s.wake 2).protAlarm r f.src f
        else (s.wakeIf 1).protAlarm r f.src f
      if n.known ∧ n.boot ≠ f.boot ∧ !n.resetPend then
        let s := (s.resetSeen r f.src f.boot n.uid).modNode r f.src (fun n => { n with resetPend := true })
        let x := s.ring r
        let s := if x.openA ∨ x.openB ∨ x.bPend then s else (s.enumClear r).modRing r (fun x => { x with enumKind := 4 })
        s.sendEnum r e
      else s

/-- ALARM_RECEIVED. -/
def execAlarmReceived (t ring : Nat) (e : Leaf) (f : AlarmFrame) (s : State) : Ans :=
  at' t (fun s => if !s.cfg.ringOn ring then s else
    s.rx ring e f.src 9 f.seq (alarmP f) (.alarmReceived t ring e f)
      (fun _ s => if f.src = 0 ∨ f.src > s.cfg.nodeCount ring then 3 else 0)
      (fun p res s => s.deliverAlarm ring e (alarmOf f.src f.seq p) res)) s

/-! ### Re-requests (R211, R223, R265) -/

/-- Whether a leaf that works holds a sample of a position (R265). -/
def State.heldSample (s : State) (r p : Nat) : Bool :=
  s.sw.items.any (fun i => i.ring == r && i.pos == p && ((s.portOn .a && i.inA) || (s.portOn .b && i.inB)))

/-- The positions that an end asks for at its re-request instant: those it serves, those of an end whose leaf does not
run, and those that no end serves, as far as their samples may be used and are missing (R211, R265). DEDUCED, log 53. -/
def State.rereqList (s : State) (r : Nat) (e : Leaf) : List Nat :=
  let x := s.ring r
  (s.cfg.positions r).filter (fun p =>
    let own := x.serves p == some e || (x.serves p).isNone || (x.serves p == some e.other && !s.portOn e.other)
    own && s.usable r p && !s.heldSample r p && !([Leaf.a, Leaf.b].any (fun e => (s.port r e p).q.any (fun q => q.purpose == .sample))))

/-- An end's re-request instant: CFG_RD of SAMPLE_LAST goes from both ends; a break that waits for it moves on (R223). -/
def State.rereqRun (s : State) (r : Nat) (e : Leaf) : State :=
  let s := s.modRing r (fun x => match e with | .a => { x with rrA := true } | .b => { x with rrB := true })
  let ps := if s.rereqFits r e then s.rereqList r e else []
  let s := s.each ps (fun p s => s.each [Leaf.a, Leaf.b] (fun e s => s.request' r e p reqSample))
  let x := s.ring r
  if x.brk = 0 ∨ x.brkEnum then s
  else
    let s := if ps.isEmpty then s else s.modRing r (fun x => { x with brkSent := true })
    if s.rereqAhead r then s
    else if (s.ring r).brkSent then s.settleBreak r false else s.breakEnum r

/-- REREQUEST_INSTANT. -/
def execRerequestInstant (t ring : Nat) (e : Leaf) (s : State) : Ans :=
  at' t (fun s =>
    let done := match e with | .a => (s.ring ring).rrA | .b => (s.ring ring).rrB
    if s.cfg.ringOn ring ∧ s.sw.phase = .collecting ∧ !done ∧ s.rereqAt ring e ≤ s.time.now then s.rereqRun ring e else s) s

/-! ### The collection deadline -/

/-- R182: two consecutive sweeps with a wrong HOP on a WHOLE ring. -/
def State.hopJudge (s : State) (r : Nat) : State :=
  let x := s.ring r
  let n := s.cfg.nodeCount r
  let bad := (x.syncA && x.hopAtA != n && x.hopAtA != 0xFF) || (x.syncB && x.hopAtB != n && x.hopAtB != 0xFF)
  if x.st ≠ .whole then s
  else
    let s := s.setRing r { x with hopBad := if bad then x.hopBad + 1 else 0 }
    if bad ∧ x.hopBad ≥ 1 then s.countMismatch r else s

/-- The determination of R223 ends at the deadline at the latest; without counting re-requests an ENUM makes it. -/
def State.breakFinal (s : State) (r : Nat) : State :=
  let x := s.ring r
  if x.brk = 0 ∨ x.brkEnum then s
  else if x.brkSent then s.settleBreak r true else s.breakEnum r

/-- R219: a node that sent samples, or whose reset is known, and is silent for two sweeps while one farther from the same end
answers: that end sends an ENUM. DEDUCED, log 56. -/
def State.silentJudge (s : State) (r : Nat) : State :=
  let ps := s.cfg.positions r
  let s := s.each ps (fun p s => s.modNode r p (fun n =>
    { n with silent := if (n.spoke ∨ n.resetPend) ∧ !n.smp then n.silent + 1 else 0 }))
  let x := s.ring r
  if x.openA ∨ x.openB ∨ x.bPend then s
  else
    let far := fun (e : Leaf) (p : Nat) => match e with
      | .a => ps.any (fun q => decide (p < q) && x.serves q == some .a && (s.node r q).smp)
      | .b => ps.any (fun q => decide (q < p) && x.serves q == some .b && (s.node r q).smp)
    let hits := fun (e : Leaf) => ps.filter (fun p => decide ((s.node r p).silent ≥ 2) && x.serves p == some e && far e p)
    let ends := [Leaf.a, Leaf.b].filter (fun e => s.portOn e && !(hits e).isEmpty)
    if ends.isEmpty then s
    else
      let s := s.each (ends.flatMap hits) (fun p s => s.modNode r p (fun n => { n with silent := 0 }))
      ((s.enumClear r).modRing r (fun x => { x with enumKind := 4 })).each ends (fun e s => s.sendEnum r e)

/-- R229: the run of sweeps in which both SYNCs came round; the restoration. The calibration round begins after the next
commit point (R196). -/
def State.restoreJudge (s : State) (r : Nat) : State :=
  let x := s.ring r
  let pass := s.bothRun && x.syncA && x.syncB && x.hopOkA && x.hopOkB && !x.losA && !x.losB
  match x.st with
  | .whole => s
  | .idle => s
  | .uplink => s
  | _ =>
    let start := if x.runCount = 0 then s.sw.ts else x.runStart
    let n := if pass then x.runCount + 1 else 0
    let s := s.setRing r { x with runStart := start, runCount := n }
    if n ≥ 2 ∧ start + 1000000000 ≤ s.time.now then
      let s := ((s.modRing r (fun x => { x.wholeAt (s.cfg.splitK r) with cal := 8 })).markServe r).enumerate r 2
      s.ev Ev.chainRestored r []
    else s

/-- The reach of a ring that is not WHOLE follows the frames of this sweep and the last (R222). -/
def State.reachJudge (s : State) (r : Nat) : State :=
  match (s.ring r).st with
  | .broken _ => (fun d => s.reSplit r d.1 d.2) (s.reachSplit r)
  | _ => s

/-- On a ring that is not WHOLE, the reach of a quarantined node is judged by a read of LINK_STATUS from the end that has it
within its reach (R230). DEDUCED, log 101. -/
def State.reachReads (s : State) (r : Nat) : State :=
  match (s.ring r).st with
  | .broken _ => s.each (s.cfg.positions r) (fun p s =>
      let busy := [Leaf.a, Leaf.b].any (fun e => (s.port r e p).q.any (fun q => q.purpose == .reach))
      match (s.ring r).servesNext p with
      | some e => if (s.node r p).quar ≠ 0 ∧ !busy then s.request' r e p (reqRd 0xFF02 1 .reach 6 []) else s
      | none => s)
  | _ => s

/-- After a hinge point that changed QUIET_POST, BAL_I_CEIL or DIST_LIMIT: they are written anew (R245, R379). -/
def State.quietRewrite (s : State) (r : Nat) : State :=
  if !(s.ring r).quietDue then s
  else
    let s := s.modRing r (fun x => { x with quietDue := false })
    s.each (s.cfg.positions r) (fun p s =>
      let n := s.node r p
      if n.cfg < 2 ∨ n.quar ≠ 0 then s
      else if n.plan.isEmpty then s.startPlan r p 3 (s.quietWrites r p)
      else s.setNode r p { n with plan := n.plan ++ s.quietWrites r p })

/-- A background round reads its registers after its eighth sweep (R196). -/
def State.calSweeps (s : State) (r : Nat) : State :=
  let x := s.ring r
  if x.cal = 6 ∧ x.calN ≥ 8 then ((s.setRing r { x with cal := 7 }).calReads r).calCheck r else s

/-- One ring at the collection deadline. -/
def State.ringDeadline (s : State) (r : Nat) : State :=
  ((((((((s.hopJudge r).breakFinal r).silentJudge r).restoreJudge r).reachJudge r).splitMove r).reachReads r).quietRewrite r).calSweeps r

/-- COLLECTION_DEADLINE (R249, R250): missing samples stay missing; the END markers are sent. DESIGN CHOICE, log 92. -/
def execCollectionDeadline (t : Nat) (s : State) : Ans :=
  at' t (fun s =>
    if s.sw.phase = .collecting ∧ s.deadline ≤ s.time.now then
      let s := s.each s.cfg.rings (fun r s => s.ringDeadline r)
      { s with sw := { s.sw with phase := .exchanging, endA := s.bothRun, endB := s.bothRun, expect := s.bothRun } }
    else s) s

/-! ### Ports -/

/-- LOS at an uplink port of the group node (R147, R178). -/
def State.upLos (s : State) (e : Leaf) : State :=
  let x := s.upPort e
  if x.los then s
  else (s.setUpPort e { x with up := false, los := true }).modRing 15 (fun r => match e with
    | .a => { r with losCntA := satAdd 32 r.losCntA 1 }
    | .b => { r with losCntB := satAdd 32 r.losCntB 1 })

/-- PORT_LOS (R147): events 1 and 2 of R223; it wakes the device (R700). -/
def execPortLos (t ring : Nat) (e : Leaf) (s : State) : Ans :=
  at' t (fun s =>
    let x := s.ring ring
    let was := match e with | .a => x.losA | .b => x.losB
    if ring = 15 ∧ s.cfg.uplink ∧ s.portOn e then s.upLos e
    else if !s.cfg.ringOn ring || !s.portOn e || was then s
    else
      let s := s.setRing ring (match e with
        | .a => { x with losA := true, losCntA := satAdd 32 x.losCntA 1 }
        | .b => { x with losB := true, losCntB := satAdd 32 x.losCntB 1 })
      (s.wake 0x80).ringEvent ring (e.num + 1)) s

/-- PORT_LINK_UP (R147), at a master port or at an uplink port. -/
def execPortLinkUp (t ring : Nat) (e : Leaf) (s : State) : Ans :=
  at' t (fun s =>
    if ring = 15 ∧ s.cfg.uplink ∧ s.portOn e then s.setUpPort e { s.upPort e with up := true, los := false }
    else if s.cfg.ringOn ring ∧ s.portOn e then
      s.modRing ring (fun x => match e with | .a => { x with losA := false } | .b => { x with losB := false })
    else s) s

/-! ### Probes (R228) -/

/-- The ring's state asks for probes. -/
def RingSt.probes : RingSt → Bool
  | .broken _ => true
  | .lost => true
  | _ => false

/-- A probe leaves an end. -/
def State.probe (s : State) (r : Nat) (e : Leaf) : State :=
  let x := s.ring r
  let s := if x.openA ∨ x.openB ∨ x.bPend then s else (s.enumClear r).modRing r (fun x => { x with enumKind := 0 })
  s.sendEnum r e

/-- ENUM_PROBE: each later probe follows the end's previous ENUM by 1 s. -/
def execEnumProbe (t ring : Nat) (e : Leaf) (s : State) : Ans :=
  at' t (fun s =>
    let x := s.ring ring
    let last := match e with | .a => x.enumA | .b => x.enumB
    let first : Bool := match e with | .a => x.probedA | .b => x.probedB
    if s.cfg.ringOn ring ∧ s.sweeping ∧ x.st.probes ∧ first ∧ s.portOn e ∧ last + 1000000000 ≤ s.time.now then s.probe ring e else s) s

/-! ### SYNC (R231 to R240) -/

/-- The start sweep may be launched: at its bound, or when every ring has been enumerated, calibrated and configured (R41). -/
def State.startReady (s : State) : Bool :=
  decide (s.sw.next ≤ s.time.now) ||
  s.cfg.rings.all (fun r =>
    let x := s.ring r
    x.st != .idle && !x.openA && !x.openB && !x.bPend && x.cal == 0 && (s.cfg.positions r).all (fun p => (s.node r p).cfg != 1))

/-- Whether the configuration of a ring after a hinge point still runs (R221). -/
def State.ringBusy (s : State) (r : Nat) : Bool :=
  let x := s.ring r
  x.openA || x.openB || x.bPend || x.calStart || (s.cfg.positions r).any (fun p => let n := s.node r p; !n.plan.isEmpty && n.planKind != 3)

/-- A ring as a new sweep finds it: the loss of R228, the split of the sweep, nothing received yet, the SYNCs, the first
probes; a ring that a hinge point changed is used again from the first SYNC after its configuration (R221). DEDUCED, log 55. -/
def State.ringLaunch (s : State) (r : Nat) : State :=
  let x := s.ring r
  let ps := s.cfg.positions r
  let s := match x.st with
    | .broken _ => if s.sw.num = 0 ∨ x.heard ∨ x.runCount > 0 then s else s.loseRing r
    | _ => s
  let s := if s.sw.num = 0 then s else s.splitMove r
  let busy := s.ringBusy r
  let s := s.each ps (fun p s => s.modNode r p (fun n => { n with
    smp := false
    prevA := n.seenA, prevB := n.seenB, seenA := false, seenB := false, reqA := false, reqB := false, cfg := if n.cfg = 2 then 3 else n.cfg }))
  let s := s.modRing r (fun x => { x with
    gated := x.gated && busy
    spA := x.nxA, spB := x.nxB, syncA := false, syncB := false, hopOkA := false, hopOkB := false, missA := false, missB := false
    rrA := false, rrB := false, heard := false, used := false, calN := if x.cal = 6 ∧ x.calN < 8 then x.calN + 1 else x.calN })
  let s := if x.countBad then s
    else s.each [Leaf.a, Leaf.b] (fun e s => s.when (s.portOn e) (fun s => s.emit (syncOut r e (s.sw.num % 256) 0)))
  let x := s.ring r
  if !x.st.probes then s
  else
    let s := if x.probedA then s else s.probe r .a
    if x.probedB then s else s.probe r .b

/-- The sweep period of the start sweep: 10 ms at the most (R42). -/
def startCode (code : Nat) : Nat := min code 2

/-- The first CLK_TB edge at or after an instant, ns (R20, R231). -/
def edge (t : Nat) : Nat := ceilDiv t 10 * 10

/-- SYNC of a sweep leaves every port at once, on a CLK_TB edge (R20, R232, R240). DEDUCED, log 54. -/
def State.launch (s : State) : State :=
  let w := s.sw
  let start := !w.started
  let num := if start then 0 else (w.num + 1) % 4294967296
  let ts := edge (if start then s.time.now else w.next)
  let due := w.pend.filter (fun e => e.1 == num)
  let conf := s.cfg.n Ty.device 0 0x41
  let period := if start then startCode conf else match due.getLast? with
    | some e => e.2.1
    | none => if w.dt = 0 then w.base else w.period
  let cause := match due.getLast? with | some e => e.2.2 | none => w.cause
  let step := periodNs (if start then conf else period)
  let s := { s with sw := { w with
    num := num, started := true, ts := ts, next := ts + step, start := s.devAt ts, phase := .collecting, items := [], endA := false, endB := false, expect := false, lost := []
    flags := 0, period := period, base := if start then conf else w.base, cause := cause, pend := w.pend.filter (fun e => e.1 != num), fresh := false
    dt := if start then 0 else (ts + s.cfg.tLead - w.prevSample) / 10, firstSample := if start then ts + s.cfg.tLead else w.firstSample } }
  let s := if start then { s with est := { s.est with startS := s.devAt s.sampleAt / 1000000000, snapFrom := s.sampleAt, snapNo := 0 } } else s
  s.each s.cfg.rings (fun r s => s.ringLaunch r)

/-- SWEEP_LAUNCH: in RUN and HALT, keyed, after the sweep before it has been committed (R238). -/
def execSweepLaunch (t : Nat) (s : State) : Ans :=
  at' t (fun s =>
    if s.sweeping ∧ !s.aon.unkeyed ∧ s.sleep.st = 0 ∧ (s.sw.phase = .idle ∨ s.sw.phase = .committed) ∧
      (if s.sw.started then s.sw.next ≤ s.time.now else s.startReady) then s.launch else s) s

end Sys2Proof.Machine
end

