-- ==== Sys2Proof/Machine/Nest.lean ====
section
/-!
DEFINITION. Nesting (R559 to R586): the group node on the parent's ring, its registers and held answers, the sweep lock,
PASS routing, summaries and child records.
-/
namespace Sys2Proof.Machine

/-! ### The uplink ports -/

/-- Whether a leaf's slots hold an image with an uplink; before the image is applied the bridge knows no other source. -/
def LeafRec.slotUplink (x : LeafRec) (keys : List KeySlot) : Bool :=
  [x.slot0, x.slot1].any (fun d => match (judgeSlot keys d).1 with
    | some g => ({ img := g, ov := [] } : Cfg).uplink
    | none => false)

/-- The uplink bridge works at a port (R560): ROLE SUB, the leaf not fenced, from t0 + 1.0 ms on. -/
def State.upOn (s : State) (e : Leaf) : Bool :=
  s.portOn e && s.aon.dev != .off && s.aon.dev != .safe && decide (s.time.t0 + 1000000 ≤ s.time.now) &&
  (s.cfg.uplink || (s.aon.dev == .start && (s.leaf e).slotUplink s.stage.keys))

/-- A frame can arrive at an uplink port: the bridge works there and its receiver has declared the link up (R784). -/
def State.upRx (s : State) (e : Leaf) : Bool := s.upOn e && (s.upPort e).up

/-- The bridge forwards between its ports (R784): both work, and both receivers have declared the link up. -/
def State.upThrough (s : State) : Bool := s.upRx .a && s.upRx .b

/-- What a node sends as its SRC (R156, R166): its position, 0xFFFF while it has none. -/
def State.upSrc (s : State) : Nat := if s.nest.position = 0 then 0xFFFF else s.nest.position

/-! ### The transmitters (R161, R162) -/

/-- The time a frame of `n` bytes occupies a line, ns: SOF, EOF, an IDLE, a FILL after every 48 characters (R148, R149). -/
def lineNs (low : Bool) (n : Nat) : Nat := (n + n / 48 + 6) * (if low then 8000 else 250)

/-- The frames that have left a transmitter by an instant, oldest first, by fuel: those to be forwarded before any of the node's own. -/
def UpPort.drain (low : Bool) (now : Nat) : Nat → UpPort → List (List Byte × Bool) × UpPort
  | 0, x => ([], x)
  | k + 1, x =>
    if now < x.txEnd then ([], x)
    else match x.fwd, x.own with
      | f :: r, _ =>
        let y := UpPort.drain low now k { x with fwd := r, txEnd := x.txEnd + lineNs low f.1.length }
        (f :: y.1, y.2)
      | [], p :: r =>
        let y := UpPort.drain low now k { x with own := r, txEnd := x.txEnd + lineNs low p.length }
        ((p, true) :: y.1, y.2)
      | [], [] => ([], x)

/-- The frames that a port has sent since it was last looked at leave it; a silent port sends none (R27, R560). -/
def State.upDrain (s : State) (e : Leaf) : State :=
  let x := s.upPort e
  if x.fwd.isEmpty && x.own.isEmpty then s
  else if !s.upOn e then s.setUpPort e { x with fwd := [], own := [] }
  else
    let y := x.drain s.nest.low s.time.now (x.fwd.length + x.own.length)
    (s.setUpPort e y.2).emits (y.1.map (fun f => .up e f.1 f.2))

/-- Both ports. -/
def State.upDrains (s : State) : State := (s.upDrain .a).upDrain .b

/-- A frame for a port's transmitter: it leaves at once where the line is free, else it waits; the node's own frames wait for
those that it forwards (R162). The time that frames wait is shown at the next command of the uplink. DESIGN CHOICE, log 102. -/
def State.upPut (s : State) (e : Leaf) (line : List Byte) (eof own : Bool) : State :=
  let s := s.upDrain e
  let x := s.upPort e
  if x.fwd.isEmpty && x.own.isEmpty && decide (x.txEnd ≤ s.time.now) then
    (s.setUpPort e { x with txEnd := s.time.now + lineNs s.nest.low line.length }).emit (.up e line eof)
  else if own then s.setUpPort e { x with own := x.own ++ [line] }
  else s.setUpPort e { x with fwd := x.fwd ++ [(line, eof)] }

/-- A frame that arrives at a port goes out of the other one unchanged, ended by EOF or by ABORT (R160, R161). -/
def State.upForward (s : State) (e : Leaf) (line : List Byte) (eof : Bool) : State :=
  if s.upThrough then s.upPut e.other line eof false else s

/-- A frame of the group node leaves a port toward the parent (R163). -/
def State.upSend (s : State) (e : Leaf) (seq kind : Nat) (payload : List Byte) : State :=
  s.upPut e (ringLine 0 s.upSrc kind seq payload) true true

/-- BAD_FRAME_RECEIVED at an uplink port: it is counted; the copy that is being forwarded ends with ABORT (R158, R161). -/
def State.upBad (s : State) (e : Leaf) (codes : Nat) (line : Option (List Byte)) : State :=
  if !s.upRx e then s
  else
    let s := s.upDrains.badRx 15 e codes line
    match line with
    | some p => if p.length < 2 ∨ leAt p 0 2 = s.nest.position then s else s.upForward e p false
    | none => s

/-- BAD_FRAME_RECEIVED (R158): at a master port, or at an uplink port. -/
def execBadFrameReceived (t ring : Nat) (e : Leaf) (x : BadLine) (s : State) : Ans :=
  at' t (fun s => if ring = 15 ∧ s.cfg.uplink then s.upBad e x.codes x.line else s.badFrame ring e x.codes x.line) s

/-! ### Requests (R164, R165, R204, R560) -/

/-- The payload of NACK (R176). -/
def nackP (reason kind : Nat) : List Byte := [byteOf reason, byteOf kind, 0, 0]

/-- The answer to a request of the parent: the state, KIND and payload; none where the request has no answer. -/
abbrev UpAns := State × Option (Nat × List Byte)

/-- Refused with a NACK of a reason. -/
def State.upNack (s : State) (reason kind : Nat) : UpAns := (s, some (0xD, nackP reason kind))
/-- A write answered. -/
def State.upOk (s : State) : UpAns := (s, some (5, [3, 0, 0, 0]))

/-- A request that is executed: its answer is held unless it is NACK BUSY, and sent. An answer that an earlier PASS still
waits for is not held any more. -/
def State.upRun (s : State) (e : Leaf) (seq : Nat) (h : State → UpAns) : State :=
  let r := h (s.setUpPort e { s.upPort e with busy := none })
  match r.2 with
  | none => r.1
  | some (k, p) =>
    let s := if k = 0xD ∧ p.headD 0 = 4 then r.1 else r.1.setUpPort e { r.1.upPort e with held := some (seq, k, p) }
    s.upSend e seq k p

/-- A request to the group node's position (R204, R560): BUSY before RUN; a held answer again; a PASS in hand is BUSY; else it
runs, and its answer is held unless it is NACK BUSY. In SLEEP it wakes the device. -/
def State.upRequest (s : State) (e : Leaf) (seq kind : Nat) (h : State → UpAns) : State :=
  let s := s.wakeIf 3
  let x := s.upPort e
  if !s.sweeping then s.upSend e seq 0xD (nackP 4 kind)
  else if x.busy = some seq then s.upSend e seq 0xD (nackP 4 kind)
  else match x.held with
    | some (q, k, p) => if q = seq then s.upSend e seq k p else s.upRun e seq h
    | none => s.upRun e seq h

/-- The port a request names. -/
def upEnd (n : Nat) : Leaf := if n = 0 then .a else .b

/-- ENUM at an uplink port (R160, R166, R560): the group node takes its position, forgets the port's held answer, answers under
the ENUM's SEQ, and forwards the ENUM with HOP incremented. -/
def State.upEnum (s : State) (e : Leaf) (src seq hop endNo count : Nat) : State :=
  let pos : Int := if endNo = 0 then (hop : Int) + 1 else (count : Int) - hop
  let ok := decide (1 ≤ pos ∧ pos ≤ count)
  let s := s.upForward e (ringLine 0xFFFF src 1 seq [byteOf (hop + 1), byteOf endNo, byteOf count, 0]) true
  let s := s.setUpPort e { s.upPort e with held := none, busy := none }
  let s := { s with nest := { s.nest with position := if ok then pos.toNat else 0 } }
  s.upSend e seq 2 (enumRspP { src := 0, cls := 2, cells := 0, ntcs := 0, version := 1, uid := Config.deviceUid, caps := 0x202
                               boot := s.nest.boot, balIMax := 0, vFull := 0 })

/-- UPLINK_ENUM. -/
def execUplinkEnum (t : Nat) (e : Leaf) (seq hop : Nat) (p : EnumBody) (s : State) : Ans :=
  at' t (fun s => if s.upRx e then s.upDrains.upEnum e 0 seq hop p.endNo p.count else s) s

/-! ### Registers (R178, R189, R244, R562) -/

/-- A register of the group node as its bytes; none where it cannot be read. DESIGN CHOICE, log 85. -/
def State.upBytes (s : State) (reg : Nat) : Option (List Byte) :=
  let n := s.nest
  let x := s.ring 15
  match reg with
  | 0xFB00 => some [byteOf n.sys]
  | 0xFB01 => some [byteOf n.lock]
  | 0xFB02 => some [byteOf n.parentPeriod]
  | 0xFB03 => some [byteOf n.cmdResult]
  | 0xFB06 => some (bytesAt n.summary 0x1C 2)
  | 0xFB08 => some (toLe 4 (s.cfg.n Ty.nesting 0 4))
  | 0xFB0C => some (toLe 4 (s.cfg.n Ty.nesting 0 8))
  | 0xFD00 => some (toLe 2 n.quietPost)
  | 0xFE00 => some (toLe 4 (ofSigned 4 n.skewSum))
  | 0xFE04 => some [byteOf n.skewCount]
  | 0xFE05 => some [byteOf n.skewSweep]
  | 0xFE06 => some [0, 0]
  | 0xFF00 => some [byteOf n.position]
  | 0xFF01 => some [byteOf n.servePort]
  | 0xFF02 => some [byteOf (packBits [n.portA.los, n.portB.los, n.low])]
  | 0xFF03 => some [byteOf n.groupAddr]
  | 0xFF04 => some (toLe 4 n.offA)
  | 0xFF08 => some (toLe 4 n.offB)
  | 0xFF0C => some (toLe 2 (min 65535 x.badA))
  | 0xFF0E => some (toLe 2 (min 65535 x.badB))
  | 0xFF10 => some (toLe 2 (min 65535 x.codeA))
  | 0xFF12 => some (toLe 2 (min 65535 x.codeB))
  | 0xFF14 => some (toLe 4 n.boot)
  | 0xFF18 => some (toLe 2 (min 65535 x.losCntA))
  | 0xFF1A => some (toLe 2 (min 65535 x.losCntB))
  | 0xFF1C => some (toLe 2 (Config.freeNat 0))
  | 0xFF1E => some [byteOf (n.groupAddr / 256)]
  | 0xFF1F => some [0]
  | _ => none

/-- `n` bytes of consecutive registers from an address, by fuel; none where one of them cannot be read. -/
def State.upRead (s : State) : Nat → Nat → Nat → Option (List Byte)
  | 0, _, _ => none
  | k + 1, reg, n =>
    if n = 0 then some []
    else match s.upBytes reg with
      | none => none
      | some b => if b.length ≥ n then some (b.take n) else (State.upRead s k (reg + b.length) (n - b.length)).map (b ++ ·)

/-- FREE when the node is not configured: SERVE_PORT not written, or no PARENT_PERIOD (R576). -/
def State.setLock (s : State) (v : Nat) : State :=
  let o := s.nest.lock
  if o = v then s
  else
    let s := { s with nest := { s.nest with lock := v, outPhase := 0, lockTime := if v = 2 then s.devTime else s.nest.lockTime } }
    s.ev Ev.nestLock srcD [p1 o, p1 v, (4, ofSigned 4 s.nest.phaseErr)]

/-- The lock needs a configured node. -/
def State.lockConfig (s : State) : State :=
  let s := if !s.nest.serveWritten ∨ s.nest.parentPeriod = 0xFF then s.setLock 0 else s
  let mult := s.nest.parentPeriod ≤ 8 ∧ periodNs s.effPeriod % periodNs s.nest.parentPeriod = 0
  { s with nest := { s.nest with lockCause := packBits [decide (s.nest.lock = 1 ∧ ¬mult), s.nest.lock == 3, decide (s.nest.lock = 0)] } }

/-- One write to a rw register with data of its width: none where the register is not rw; otherwise the reason of a refusal
(0 accepted) and the state. -/
def State.upWrite1 (s : State) (reg : Nat) (d : List Byte) : Option (Nat × Nat × State) :=
  let v := fun w => leAt d 0 w
  let put := fun (w : Nat) (f : Nest → Nest) => some (w, 0, ({ s with nest := f s.nest } : State))
  match reg with
  | 0xFB02 => if v 1 > 8 ∧ v 1 ≠ 0xFF then some (1, 6, s)
    else some (1, 0, ({ s with nest := { s.nest with parentPeriod := v 1, newPeriod := true } } : State).lockConfig)
  | 0xFB04 =>
    let i := v 1
    let c := leAt d 1 1
    if (i ≥ 64 ∧ i ≠ 0xFF) ∨ c = 0 ∨ c > 3 then some (2, 6, s)
    else put 2 (fun n => { n with cmd := some (i, c), cmdResult := 4 })
  | 0xFD00 => if v 2 > 500 then some (2, 6, s) else put 2 (fun n => { n with quietPost := v 2 })
  | 0xFE04 => put 1 (fun n => { n with skewSum := 0, skewCount := 0 })
  | 0xFF01 => some (1, 0, ({ s with nest := { s.nest with servePort := v 1, serveWritten := true } } : State).lockConfig)
  | 0xFF03 => put 1 (fun n => { n with groupAddr := n.groupAddr / 256 * 256 + v 1 })
  | 0xFF04 => put 4 (fun n => { n with offA := v 4 })
  | 0xFF08 => put 4 (fun n => { n with offB := v 4 })
  | 0xFF1E => put 1 (fun n => { n with groupAddr := v 1 * 256 + n.groupAddr % 256 })
  | _ => none

/-- Consecutive registers written, by fuel: none where one is not rw; otherwise the first refusal's reason. -/
def State.upWriteAll : Nat → Nat → List Byte → State → Option (Nat × State)
  | 0, _, _, _ => none
  | k + 1, reg, d, s =>
    if d.isEmpty then some (0, s)
    else match s.upWrite1 reg d with
      | none => none
      | some (w, why, t) =>
        if d.length < w then none else if why ≠ 0 then some (why, t) else State.upWriteAll k (reg + w) (d.drop w) t

/-- A CFG_WR to the group node; a refused one changes nothing. -/
def State.upCfgWr (s : State) (p : List Byte) : UpAns :=
  let n := leAt p 2 2
  if p.length < 5 ∨ p.length > 512 ∨ p.length ≠ 4 + n then s.upNack 2 3
  else match State.upWriteAll (n + 1) (leAt p 0 2) (p.drop 4) s with
    | none => s.upNack 3 3
    | some (0, t) => t.upOk
    | some (why, _) => s.upNack why 3

/-- The summary as sent. -/
def State.summaryP (s : State) (low : Nat) : List Byte := s.nest.summary.set 0x3E (byteOf low)

/-- A CFG_RD of the group node; SAMPLE_LAST is answered with a GROUP_SUMMARY of the last commit (R168, R565). -/
def State.upCfgRd (s : State) (p : List Byte) : UpAns :=
  let reg := leAt p 0 2
  if p.length ≠ 4 then s.upNack 2 4
  else if reg = 0xFF20 then (s, some (0x0B, s.summaryP (s.nest.lastLow.getD 0)))
  else match s.upRead (leAt p 2 2 + 1) reg (leAt p 2 2) with
    | none => s.upNack 3 4
    | some b => (s, some (5, [4, 0] ++ toLe 2 reg ++ b))

/-! ### PASS (R177, R570 to R572) -/

/-- A PASS taken apart: hops, inner KIND, inner payload. -/
structure PassParts where
  hops : List (Nat × Nat) := []
  kind : Nat := 0
  inner : List Byte := []
  /-- The inner frame with its header. -/
  frame : List Byte := []
  deriving DecidableEq, Repr

/-- The parts of a PASS payload of at most 512 bytes; none where its lengths do not fit. -/
def passParts (p : List Byte) : Option PassParts :=
  let n := leAt p 0 1
  let at0 := 1 + 2 * n
  let len := leAt p (at0 + 6) 2
  if p.length < 11 ∨ p.length > 512 ∨ n = 0 ∨ n > 251 ∨ p.length ≠ at0 + 8 + len then none
  else some { hops := (upto n).map (fun k => (leAt p (1 + 2 * k) 1, leAt p (2 + 2 * k) 1)), kind := leAt p (at0 + 4) 1
              inner := p.drop (at0 + 8), frame := p.drop at0 }

/-- The reason that refuses a PASS at a group node; 0 none (R570, R571). -/
def State.passWhy (s : State) (x : PassParts) : Nat :=
  match x.hops with
  | [] => 2
  | (r, p) :: rest =>
    if !s.cfg.ringOn r ∨ p = 0 ∨ p > s.cfg.nodeCount r ∨ (s.node r p).quar ≠ 0 then 6
    else if !rest.isEmpty ∧ s.cfg.nodeFld r p 0 ≠ 2 then 6
    else if x.kind ≠ 3 ∧ x.kind ≠ 4 then 5
    else if x.kind = 3 ∧ leAt x.inner 0 2 + leAt x.inner 2 2 > 0xFB00 ∧
      !(leAt x.inner 0 2 = 0xFB04 ∧ (!rest.isEmpty ∨ s.cfg.nodeFld r p 0 = 2)) then 5
    else 0

/-- The request that carries a PASS one hop on (R570). -/
def passReq (x : PassParts) (pu : Purpose) : Req :=
  match x.hops with
  | _ :: y :: rest =>
    { kind := 0xC, purpose := pu, cls := 7
      payload := byteOf (rest.length + 1) :: ((y :: rest).flatMap (fun h => [byteOf h.1, byteOf h.2])) ++ x.frame }
  | _ => { kind := x.kind, reg := leAt x.inner 0 2, payload := x.inner, purpose := pu, cls := 7 }

/-- A PASS at the group node: one that is accepted is BUSY until its inner request is done. -/
def State.upPass (s : State) (e : Leaf) (seq : Nat) (payload : List Byte) : UpAns :=
  match passParts payload with
  | none => s.upNack 2 0xC
  | some x =>
    let why := s.passWhy x
    if why ≠ 0 then s.upNack why 0xC
    else
      let h := x.hops.headD (0, 0)
      let s := s.setUpPort e { s.upPort e with busy := some seq }
      (s.request' h.1 (s.reqEnd h.1 h.2) h.2 (passReq x (.upPass e seq))).upNack 4 0xC

/-! ### Frames of the parent's ring (R157, R159, R160, R164) -/

/-- What a frame addressed to the group node's position asks, by its KIND (R164, R165, R173, R176). BAL_PLAN is refused as
ACT_CMD is: a group node balances nothing. A kind that no master sends to a node has no answer. DEDUCED, log 105. -/
def State.upJudge (s : State) (e : Leaf) (r : UpReq) : UpAns :=
  match r.kind with
  | 3 => s.upCfgWr r.payload
  | 4 => s.upCfgRd r.payload
  | 7 => s.upNack (if r.payload.length = 20 then 5 else 2) 7
  | 8 => s.upNack (if r.payload.length = 4 then 5 else 2) 8
  | 0xC => s.upPass e r.seq r.payload
  | 1 => (s, none)
  | 2 => (s, none)
  | 5 => (s, none)
  | 6 => (s, none)
  | 9 => (s, none)
  | 0xA => (s, none)
  | 0xB => (s, none)
  | 0xD => (s, none)
  | k => s.upNack 1 k

/-- What a frame accepted through the group address or as a broadcast does (R164, R206, R217): a write without an answer, a
HEARTBEAT that ends master loss; every other kind is ignored. -/
def State.upGroup (s : State) (r : UpReq) : State :=
  if r.kind = 3 ∧ s.sweeping then (s.upCfgWr r.payload).1
  else if r.kind = 0xA ∧ r.payload.length = 8 then { s with nest := { s.nest with lastParent := s.time.now, uplinkLost := false } }
  else s

/-- Whether a frame is accepted through the node's group address or as a broadcast (R157, R159). -/
def State.upToGroup (s : State) (dest : Nat) : Bool :=
  dest == 0xFFFF || (s.nest.position != 0 && decide (0xFF00 ≤ dest) && dest == s.nest.groupAddr)

/-- A good frame at an uplink port (R159, R160): one for the node's own position is consumed, every other is forwarded, and
accepted where it is for its group or for every node. -/
def State.upFrame (s : State) (r : UpReq) : State :=
  let e := upEnd r.port
  if !s.upRx e then s
  else
    let s := s.upDrains
    if r.kind = 1 ∧ r.dest = 0xFFFF ∧ r.payload.length = 4 then
      s.upEnum e r.src r.seq (leAt r.payload 0 1) (leAt r.payload 1 1) (leAt r.payload 2 1)
    else if s.nest.position ≠ 0 ∧ r.dest = s.nest.position then s.upRequest e r.seq r.kind (fun s => s.upJudge e r)
    else
      let s := s.upForward e (ringLine r.dest r.src r.kind r.seq r.payload) true
      if s.upToGroup r.dest then s.upGroup r else s

/-- NODE_REGISTER_WRITE (R178, R189, R562): a register without a row of its own. Every frame of the parent's ring that has no
row of its own comes here too. DESIGN CHOICE, log 85. -/
def execNodeRegisterWrite (t : Nat) (r : UpReq) (s : State) : Ans := at' t (fun s => s.upFrame r) s

/-- STRING_CMD (R562, R563): judged at the next commit point, PENDING until then. -/
def execStringCmd (t : Nat) (r : UpReq) (s : State) : Ans := at' t (fun s => s.upFrame r) s

/-- PARENT_PERIOD (R562, R579). -/
def execParentPeriod (t : Nat) (r : UpReq) (s : State) : Ans := at' t (fun s => s.upFrame r) s

/-- UPLINK_SAMPLE_LAST_READ (R565): a CFG_RD of SAMPLE_LAST. -/
def execUplinkSampleLastRead (t : Nat) (r : UpReq) (s : State) : Ans := at' t (fun s => s.upFrame r) s

/-- UPLINK_PASS (R570 to R572): a PASS to the group node's position. -/
def execUplinkPass (t : Nat) (e : Leaf) (seq : Nat) (payload : List Byte) (s : State) : Ans :=
  at' t (fun s => s.upFrame { port := e.num, dest := s.nest.position, src := 0, kind := 0xC, seq := seq, payload := payload }) s

/-! ### The sample (R565) -/

/-- UPLINK_WINDOW_END: the window closes 50 µs after its centre; the summary goes unsolicited out of SERVE_PORT, not at LOW (R171). -/
def execUplinkWindowEnd (t : Nat) (s : State) : Ans :=
  at' t (fun s =>
    match s.nest.window with
    | none => s
    | some (c, low) =>
      if c + 50000 ≤ s.time.now then
        let s := ({ s with nest := { s.nest with window := none } } : State).upDrains
        let e := upEnd s.nest.servePort
        if s.nest.serveWritten ∧ s.upOn e ∧ !s.nest.low then
          ({ s with nest := { s.nest with seqOut := (s.nest.seqOut + 1) % 256 } } : State).upSend e s.nest.seqOut 0x0B (s.summaryP low)
        else s
      else s) s

/-! ### The lock (R575 to R580) -/

/-- The own sample instant nearest to an instant: of the sweep in hand or of the next one. -/
def State.ownSample (s : State) (c : Nat) : Nat :=
  let a := s.sampleAt
  let b := s.sw.next + s.cfg.tLead
  if ((c : Int) - a).natAbs ≤ ((c : Int) - b).natAbs then a else b

/-- R578: the next SYNC is postponed to the first predicted parent sample instant, less T_LEAD, that is not earlier. -/
def State.realign (s : State) (c tp : Nat) : State :=
  let base := c - s.cfg.tLead
  let next := edge (gridAfter base tp s.sw.next)
  { s with sw := { s.sw with next := next }, nest := { s.nest with realigned := some (next + s.cfg.tLead) } }

/-- FREQ is entered, and the Tumbler realigns where the period allows it. -/
def State.enterFreq (s : State) (c tp : Nat) (mult : Bool) : State :=
  let s := s.setLock 1
  if mult && s.sw.started then s.realign c tp else { s with nest := { s.nest with realigned := none } }

/-- A window centre of the parent: rate, phase and lock state (R576, R580). -/
def State.lockCentre (s : State) (c : Nat) (inRow : Bool) : State :=
  let n := s.nest
  if n.parentPeriod > 8 ∨ !n.serveWritten then { s with nest := { n with centre := some c } }
  else
    let tp := periodNs n.parentPeriod
    let own := s.ownSample c
    let err : Int := (c : Int) - own
    let near := s.sw.started && decide (2 * err.natAbs < tp)
    let mult := decide (periodNs s.effPeriod % tp = 0)
    let first := n.centre.isNone
    let pair := match n.centre with | some o => inRow && decide (o < c) | none => false
    let rate := match n.centre with
      | some o => if pair then rndDiv (((c : Int) - o - tp) * 1000000000) tp else n.rateErr
      | none => n.rateErr
    let s := { s with nest := { n with centre := some c, rateErr := satS 32 rate, phaseErr := if near then satS 32 err else n.phaseErr } }
    let s := match n.lock with
      | 0 => if pair then s.enterFreq c tp mult else s
      | 3 => if near ∧ first ∧ mult ∧ err.natAbs ≤ 1000 then s.setLock 2 else if pair then s.enterFreq c tp mult else s
      | 1 =>
        if near ∧ mult ∧ n.realigned = some own then
          (if err.natAbs ≤ 50 then { s.setLock 2 with nest := { (s.setLock 2).nest with realigned := none } } else if pair then s.realign c tp else s)
        else if n.realigned.isNone ∧ mult ∧ pair ∧ s.sw.started then s.realign c tp else s
      | _ =>
        if !mult then s.enterFreq c tp mult
        else if !near then s
        else if err.natAbs ≤ 500 then { s with nest := { s.nest with outPhase := 0 } }
        else if n.outPhase ≥ 1 then s.enterFreq c tp mult
        else { s with nest := { s.nest with outPhase := 1 } }
    s.lockConfig

/-- The skew of a pair of SYNCs, one at each port within 200 µs (R190), LSB 0.1 ns. -/
def State.skewPair (s : State) (e : Leaf) (low : Nat) : State :=
  let now := s.time.now
  let mate := (s.upPort e.other).sync
  match mate with
  | some (l, at0) =>
    if l = low ∧ now ≤ at0 + 200000 then
      let d : Int := 10 * (match e with | .b => (now : Int) - at0 | .a => (at0 : Int) - now)
      let s := s.setUpPort e.other { s.upPort e.other with sync := none }
      { s with nest := { s.nest with skewSum := satS 32 (s.nest.skewSum + d), skewCount := min 255 (s.nest.skewCount + 1), skewSweep := low } }
    else s.setUpPort e { s.upPort e with sync := some (low, now) }
  | none => s.setUpPort e { s.upPort e with sync := some (low, now) }

/-- HOP of a SYNC as it is forwarded (R151). -/
def hopOn (low hop check : Nat) : Nat := if check = crc8 [low, hop] ∧ hop < 0xFF then hop + 1 else 0xFF

/-- A SYNC of the parent (R151, R153, R190, R576): it is forwarded; a right one with a new SWEEP_LOW opens a window and steers
the lock. -/
def State.upSync (s : State) (e : Leaf) (low hop check : Nat) : State :=
  let s := s.when s.upThrough (fun s => s.emit (syncOut 15 e.other low (hopOn low hop check)))
  let s := { s with nest := { s.nest with lastSync := s.time.now, lastParent := s.time.now, uplinkLost := false } }
  if check ≠ crc8 [low, hop] ∨ hop ≥ 0xFF then s
  else
    let s := s.skewPair e low
    if s.nest.lastLow = some low then s
    else
      let c := s.time.now + (match e with | .a => s.nest.offA | .b => s.nest.offB)
      let inRow := s.nest.lastLow = some ((low + 255) % 256)
      let s := { s with nest := { s.nest with lastLow := some low, window := some (c, low) } }
      s.lockCentre c inRow

/-- A RATE of the parent (R154): forwarded at the old rate as it came; with a right CHECK the node's transmitters switch. -/
def State.upRate (s : State) (e : Leaf) (code check : Nat) : State :=
  let s := s.when s.upThrough (fun s => s.emit (.rate 15 e.other code check))
  if check = crc8 [code] ∧ code ≤ 1 then { s with nest := { s.nest with low := code == 1 } } else s

/-- PARENT_SYNC: an ordered set of the parent arrives at an uplink port. RATE has no row of its own and comes here. DESIGN CHOICE, log 85. -/
def execParentSync (t : Nat) (e : Leaf) (code : Nat) (hop : Option Nat) (check : Nat) (s : State) : Ans :=
  at' t (fun s =>
    if !s.upRx e then s
    else match hop with
      | some hop => s.upDrains.upSync e code hop check
      | none => s.upDrains.upRate e code check) s

/-- HOLDOVER_TIMEOUT (R576): no parent SYNC for four expected periods. -/
def execHoldoverTimeout (t : Nat) (s : State) : Ans :=
  at' t (fun s =>
    let n := s.nest
    if (n.lock = 1 ∨ n.lock = 2) ∧ n.parentPeriod ≤ 8 ∧ n.lastSync + 4 * periodNs n.parentPeriod ≤ s.time.now then
      let s := s.setLock 3
      ({ s with nest := { s.nest with centre := none, realigned := none } } : State).lockConfig
    else s) s

/-- UPLINK_MASTER_LOSS (R206, R561): neither SYNC nor HEARTBEAT for 3 s, judged from 2.9 s on. -/
def execUplinkMasterLoss (t : Nat) (s : State) : Ans :=
  at' t (fun s =>
    if (s.upOn .a || s.upOn .b) && !s.nest.uplinkLost && decide (s.nest.lastParent + 2900000000 ≤ s.time.now) then
      ({ s with nest := { s.nest with uplinkLost := true } } : State).ev Ev.nestUplinkLost srcD []
    else s) s

/-! ### PASS of this device (R573, R574) -/

/-- The PASS outstanding at a position. -/
def State.passHead (s : State) (r : Nat) (e : Leaf) (p : Nat) : Option Req :=
  match s.head r e p with
  | some h => if h.kind = 0xC then some h else none
  | none => none

/-- PASS_REPEAT (R573): after NACK BUSY the same PASS again, under the same SEQ, uncounted. -/
def execPassRepeat (t ring : Nat) (e : Leaf) (pos : Nat) (s : State) : Ans :=
  at' t (fun s => match s.passHead ring e pos with
    | none => s
    | some h =>
      if h.busy ∧ h.due ≤ s.time.now then
        (s.modHead ring e pos (fun h => { h with busy := false, due := s.time.now + s.answerNs })).sendFrame ring e h.cls pos h.kind h.seq h.payload
      else s) s

/-- NEST_PASS (R574): accepted by the inner frame and the session. -/
def State.nestPass (s : State) (q : HReq) : HR :=
  let r := arg q 0 1
  let p := arg q 1 1
  match passParts (q.args.drop 4) with
  | none => s.ans St.badLen
  | some x =>
    let reg := leAt x.inner 0 2
    let ok := (x.kind == 4 && s.may q.sess Perm.read) || (x.kind == 3 && ((reg == 0xFB04 && s.may q.sess Perm.strings) || s.role q.sess == 3))
    if !s.cfg.ringOn r ∨ p = 0 ∨ p > s.cfg.nodeCount r then s.ans St.bounds
    else if !ok ∨ (s.node r p).quar ≠ 0 then s.ans St.denied
    else
      let rq : Req := { kind := 0xC, payload := q.args.drop 4, purpose := .pass q.sess q.tag, cls := 7 }
      (s.request' r (s.reqEnd r p) p rq).later

def execNestPass (t : Nat) (q : HReq) (s : State) : Ans :=
  at' t (fun s => s.cmd q 0x0F01 (fun s => s.may q.sess Perm.read || s.may q.sess Perm.strings || s.role q.sess == 3)
    (fun n => decide (15 ≤ n)) (fun s => s.nestPass q)) s

/-! ### Child records and the summary (R564 to R568, R582 to R585) -/

/-- The GROUP entries in ascending order of ring and position (R584). -/
def Cfg.groups (c : Cfg) : List (Nat × Nat) := c.allNodes.filter (fun x => c.nodeFld x.1 x.2 0 == 2)

/-- A child record. -/
def State.kid (s : State) (c : Nat) : Child := kget {} s.nest.kids c
/-- The same, changed. -/
def State.setKid (s : State) (c : Nat) (x : Child) : State := { s with nest := { s.nest with kids := kset {} s.nest.kids c x } }

/-- A child's state changes, with its record (R567). -/
def State.kidState (s : State) (c r p st : Nat) : State :=
  let x := s.kid c
  if x.st = st then s else (s.setKid c { x with st := st }).ev Ev.nestChildState (srcN r p) [p1 x.st, p1 st]

/-- CHILD_LOST (R567): no summary used for 2 s. -/
def execChildLost (t ring pos : Nat) (s : State) : Ans :=
  at' t (fun s =>
    match s.cfg.groups.findIdx? (· == (ring, pos)) with
    | none => s
    | some c => if (s.kid c).age ≥ secTicks 2 ∧ (s.kid c).st ≠ 4 then s.kidState c ring pos 3 else s) s

/-- Two blocks of endpoints overlap. -/
def overlap (a b : Nat × Nat) : Bool := decide (a.1 < b.1 + b.2 ∧ b.1 < a.1 + a.2)

/-- The block of a child by its last summary. -/
def Child.block (x : Child) : Nat × Nat := (leAt x.summary 0x10 4, leAt x.summary 0x14 4)

/-- One child at a commit point: the summary used, its age, quarantine. -/
def State.kidStep (s : State) (c r p : Nat) : State :=
  let n := s.node r p
  let used := (kget { tag := 4 } s.sw.sealed.nodes (srcN r p)).tag == 0
  let x := s.kid c
  let x := { x with uid := n.uid, used := used, age := if used then 0 else x.age + s.sw.dt }
  let x := match (if used then s.copyOf s.act r p else none) with
    | some i => { x with summary := i.payload, sweep := s.sw.num }
    | none => x
  let s := s.setKid c x
  if n.quar ≠ 0 then s.kidState c r p 4
  else if used then s.kidState c r p (if leAt x.summary 0x0C 1 = 1 then 2 else 1)
  else s

/-- R568 for every child with a summary. -/
def State.kidBlocks (s : State) : State :=
  let c := s.cfg
  let base := c.n Ty.nesting 0 4
  let span := c.n Ty.nesting 0 8
  let known := (s.nest.kids.filter (fun e => !e.2.summary.isEmpty)).map (fun e => (e.1, e.2.block))
  s.each known (fun k s =>
    let bad := decide (k.2.1 < base + c.cellCount) || decide (k.2.1 + k.2.2 > base + span) || known.any (fun o => o.1 != k.1 && overlap o.2 k.2)
    let x := s.kid k.1
    let g := c.groups.getD k.1 (0, 1)
    let s := s.setKid k.1 { x with conflict := bad }
    s.when (bad && !x.conflict) (fun s => s.ev Ev.nestEndpointConflict (srcN g.1 g.2) [p4 k.2.1, p4 k.2.2]))

/-- The children whose summaries enter the totals (R565). -/
def State.goodKids (s : State) : List Child := (s.nest.kids.map (·.2)).filter (fun x => (x.st == 1 || x.st == 2) && !x.conflict && !x.summary.isEmpty)

/-- PRESENT, or READY at the top (R582). -/
def State.presentNow (s : State) : Bool :=
  s.sw.everValidated && (!s.cfg.isSub || s.nest.lock == 2) &&
  (upto s.cfg.groups.length).all (fun c => (s.kid c).st == 2 && !(s.kid c).conflict)

/-- The summary of this commit point (R564, R565). -/
def State.formSummary (s : State) : List Byte :=
  let c := s.cfg
  let k := s.goodKids
  let f := fun (off w : Nat) => (k.map (fun x => leAt x.summary off w)).foldl (· + ·) 0
  let fs := fun (off : Nat) => (k.map (fun x => toSigned 4 (leAt x.summary off 4))).foldl (· + ·) 0
  let u := fun (w n : Nat) => toLe w (min n (2 ^ (8 * w) - 1))
  let sg := fun (x : Int) => toLe 4 (ofSigned 4 (satS 32 x))
  let lim := fun (n : Nat) => (s.lim.lim.getD n 0 : Int)
  let pow := fun (n : Nat) => s.lim.pow.getD n 0
  let strs := c.strings.filter (fun i => !(c.stringCells i).isEmpty)
  let socs := strs.map (fun i => (kget {} s.est.strs i : StrEst).soc) ++ (k.map (fun x => leAt x.summary 0x3A 2)).filter (· != 0xFFFF)
  let lvls := ((c.strings.map (fun i => (s.sp i).level)) ++ k.map (fun x => leAt x.summary 0x3C 1)).filter (· != 0xFF)
  let degraded := s.nest.kids.any (fun e => e.2.st == 3 || e.2.conflict || leAt e.2.summary 0x0F 1 % 128 != 0)
  let deep := if c.groups.isEmpty then 0 else 1 + (k.map (fun x => leAt x.summary 0x0E 1)).foldl max 0
  let flags := packBits [s.aon.unkeyed, s.aon.dev == .halt, s.aon.dev == .safe, s.dbState != 0, s.aon.thermal, !s.noneFenced, degraded]
  let qd := (c.strings.map (fun i => (kget {} s.est.strs i : StrEst).qDis)).foldl (· + ·) 0
  let qc := (c.strings.map (fun i => (kget {} s.est.strs i : StrEst).qChg)).foldl (· + ·) 0
  toLe 4 s.sw.num ++ toLe 8 s.sw.sealed.sampleTime ++ [byteOf s.nest.sys, byteOf s.nest.lock, byteOf deep, byteOf flags] ++
  toLe 4 (c.n Ty.nesting 0 4) ++ toLe 4 (c.n Ty.nesting 0 8) ++ u 4 (c.cells.length + f 0x18 4) ++ u 2 (1 + f 0x1C 2) ++
  u 2 (s.nest.sys + f 0x1E 2) ++ sg (lim 2 + fs 0x20) ++ sg (-(lim 3) + fs 0x24) ++ u 4 (pow 2 + f 0x28 4) ++ u 4 (pow 3 + f 0x2C 4) ++
  u 4 (qd + f 0x30 4) ++ u 4 (qc + f 0x34 4) ++ u 2 (s.closedStrs.length + f 0x38 2) ++
  toLe 2 (match socs with | [] => 0xFFFF | x :: r => r.foldl min x) ++ [byteOf (match lvls with | [] => 0xFF | x :: r => r.foldl max x), 0, 0, 0]

/-- Readiness at a commit point (R582). -/
def State.readiness (s : State) : State :=
  let now := s.presentNow
  let was := s.nest.sys == 1
  let n := ((upto s.cfg.groups.length).filter (fun c => (s.kid c).st == 2 && !(s.kid c).conflict)).length
  let s := { s with nest := { s.nest with sys := b2n now, readyTime := if now && !was then s.devTime else s.nest.readyTime } }
  let s := s.when (now && !was && !s.cfg.isSub) (fun s => s.ev Ev.systemReady srcD [p2 n])
  s.when (was && !now) (fun s => s.ev Ev.nestChildState srcD [p1 1, p1 0])

/-- STRING_CMD at the commit point (R563). -/
def State.judgeStringCmd (s : State) : State :=
  match s.nest.cmd with
  | none => s
  | some (i, c) =>
    let r := if c = 1 then s.stringClose i true else (s.stringOpen i (c == 3), St.ok)
    let res := if r.2 = St.ok then 1 else if r.2 = St.busy then 3 else 2
    ({ r.1 with nest := { r.1.nest with cmd := none, cmdResult := res } } : State).ev Ev.nestStringCmd i [p1 i, p1 c, p1 res]

/-- Nesting at a commit point, after the results of the sweep. -/
def State.nestCommit (s : State) : State :=
  let s := s.each (s.cfg.groups.mapIdx (fun c g => (c, g))) (fun x s => s.kidStep x.1 x.2.1 x.2.2)
  let s := s.kidBlocks.readiness
  let s := if s.cfg.isSub then s.lockConfig else s
  { s with nest := { s.nest with summary := s.formSummary } }

end Sys2Proof.Machine
end

