-- ==== Sys2Proof/Machine/Answers.lean ====
section
/-!
DEFINITION. Answers to requests on the rings, their timeouts and retries (R199 to R207, R215, R216, R220, R226, R227, R480,
R573), and the requests that a host makes of nodes (R188, R649, R650).
-/
namespace Sys2Proof.Machine

/-! ### Group writes of a host (R210, R650) -/

/-- Whether a read-back of a group write is still to come. -/
def State.backsLeft (s : State) (k tag : Nat) : Bool := s.ch.ports.any (fun e => e.2.q.any (fun q => q.purpose == .hostWR k tag))

/-- A read-back of a group write is done; after the last the host is answered. -/
def State.backDone (s : State) (k tag pos : Nat) (ok : Bool) : State :=
  let s := if ok then s else { s with ch := { s.ch with badBack := (k, tag, pos) :: s.ch.badBack } }
  if s.backsLeft k tag then s
  else
    let bad := (s.ch.badBack.filter (fun b => b.1 == k && b.2.1 == tag)).map (·.2.2)
    let s := { s with ch := { s.ch with badBack := s.ch.badBack.filter (fun b => !(b.1 == k && b.2.1 == tag)) } }
    match bad with
    | [] => s.answer k tag St.ok []
    | x :: r => s.answer k tag St.denied [byteOf (r.foldl min x)]

/-! ### ACT_CMD (R215, R216, R480) -/

/-- Whether a copy of an ACT_CMD request still waits for its answer. -/
def State.actLeft (s : State) (tok : Nat) : Bool :=
  s.ch.ports.any (fun e => e.2.q.any (fun q => !q.muted && (match q.purpose with | .act _ t => t == tok | _ => false)))

/-- The other copy of an answered ACT_CMD is not sent again. -/
def State.actMute (s : State) (r : Nat) (e : Leaf) (p tok : Nat) : State :=
  let mine := fun (q : Req) => match q.purpose with | .act _ t => t == tok | _ => false
  let x := s.port r e p
  s.setPort r e p { x with q := (x.q.filter (fun q => q.sent || !mine q)).map (fun (q : Req) => if mine q then { q with muted := true } else q) }

/-- An ACT_CMD is an opening. -/
def isOpening (payload : List Byte) : Bool := let c := leAt payload 0 1; c == 0 || c ≥ 4

/-- An ACT_CMD that failed (R480): a closing sequence aborts, an opening goes on after each commit point. -/
def State.actFailed (s : State) (i : Nat) (payload : List Byte) : State :=
  let x := s.hs i
  if !isOpening payload then (if x.st = 1 ∨ x.st = 2 then s.abortClose i 8 false .abort else s)
  else if x.st = 4 then (if x.unans then s else s.setHs i { x with unans := true, lastOpen := x.cmdNow })
  else s

/-! ### Configuration (R199 to R201, R220) -/

/-- What a read-back shows is recorded (R640). -/
def Node.readBack (n : Node) (reg : Nat) (d : List Byte) (time : Nat) : Node :=
  match reg with
  | 0xFF04 => { n with offA := leNat d }
  | 0xFF08 => { n with offB := leNat d }
  | 0xFF01 => { n with servePort := leNat d, servePend := false, cfgTime := time }
  | _ => n

/-- A plan has been written whole: the node is in use from the next SYNC, and a quarantine that an enumeration has put on
trial ends (R188); its serving end may have moved meanwhile. -/
def State.planDone (s : State) (r p : Nat) : State :=
  let n := s.node r p
  let k := n.planKind
  let free := n.trial && k != 3
  let s := s.setNode r p { n with planKind := 0, cfg := if k = 3 then n.cfg else 2
                                  quar := if free then 0 else n.quar, trial := n.trial && !free
                                  servePend := n.servePend || (s.ring r).serveWant p != n.servePort }
  s.when (k == 2) (fun s => s.ev Ev.nodeReconfigured (srcN r p) [p4 n.boot])

/-- A write has been read back right: the plan goes on, unless another plan has taken its place meanwhile. -/
def State.planStep (s : State) (r p reg : Nat) (d : List Byte) : State :=
  let s := s.modNode r p (fun n => n.readBack reg d s.devTime)
  let n := s.node r p
  match n.plan with
  | [] => s
  | (want, w) :: rest =>
    if want ≠ reg ∨ w ≠ d then s.planNext r p
    else
      let s := s.setNode r p { n with plan := rest }
      if rest.isEmpty then s.planDone r p else s.planNext r p

/-- A configuration write that did not hold: quarantine with reason CONFIG (R201). -/
def State.configFails (s : State) (r p reg : Nat) : State :=
  let n := s.node r p
  s.quarantine r p 9 n.uid n.cls reg

/-! ### A request that is answered -/

/-- An RSP completes a request. -/
def State.reqOk (s : State) (r : Nat) (e : Leaf) (p : Nat) (h : Req) (f : List Byte) : State :=
  let d := f.drop 4
  match h.purpose with
  | .sample => s
  | .bal => s.planRefused r p false
  | .cfgW => s.request' r e p (reqRd h.reg (h.payload.length - 4) .cfgR 6 (h.payload.drop 4))
  | .cfgR => if d = h.expect then s.planStep r p h.reg d else s.configFails r p h.reg
  | .calClear => s.calCheck r
  | .calSkew => (s.modNode r p (fun n => { n with skewSum := toSigned 4 (leAt d 0 4), skewCnt := leAt d 4 1, gotSkew := true })).calCheck r
  | .calFwd => (s.modNode r p (fun n => { n with fwd := leAt d 0 2, gotFwd := true })).calCheck r
  | .reach => s
  | .serveW => s.request' r e p (reqRd h.reg (h.payload.length - 4) .serveR 6 (h.payload.drop 4))
  | .serveR =>
    if d = h.expect then s.modNode r p (fun n =>
      { (n.readBack 0xFF01 d s.devTime) with servePend := decide ((s.ring r).serveWant p ≠ leNat d) })
    else s
  | .act i tok => (s.actMute r e.other p tok).modHs i (fun x => { x with unans := false })
  | .hostR k tag n => s.answer k tag St.ok (d.take n)
  | .hostW k tag => s.answer k tag St.ok []
  | .hostWR k tag => s.backDone k tag p (decide (d = h.expect))
  | .pass k tag => s.passDone k tag 5 f
  | .upPass port seq => s.upDone port seq 5 f

/-- A NACK with a reason other than BUSY ends a request (R207). -/
def State.reqNack (s : State) (r : Nat) (e : Leaf) (p : Nat) (h : Req) (f : List Byte) : State :=
  let reason := f.headD 0
  match h.purpose with
  | .sample => s.settleBreak r false
  | .bal => s.planRefused r p true
  | .cfgW => s.configFails r p h.reg
  | .cfgR => s.configFails r p h.reg
  | .calClear => s.calCheck r
  | .calSkew => s.calCheck r
  | .calFwd => s.calCheck r
  | .reach => s
  | .serveW => s
  | .serveR => s
  | .act i tok => (s.actMute r e.other p tok).modHs i (fun x => { x with unans := false })
  | .hostR k tag _ => s.answer k tag St.denied [reason]
  | .hostW k tag => s.answer k tag St.denied [reason]
  | .hostWR k tag => s.backDone k tag p false
  | .pass k tag => s.passDone k tag 0xD f
  | .upPass port seq => s.upDone port seq 0xD f

/-- What a request without an answer leaves behind, by its purpose (R207). -/
def State.reqLost (s : State) (r p : Nat) (h : Req) : State :=
  match h.purpose with
  | .sample => s.settleBreak r false
  | .bal => s.planRefused r p true
  | .cfgW => s.configFails r p h.reg
  | .cfgR => s.configFails r p h.reg
  | .calClear => s.calCheck r
  | .calSkew => s.calCheck r
  | .calFwd => s.calCheck r
  | .reach => s
  | .serveW => s
  | .serveR => s
  | .act i _ => s.actFailed i h.payload
  | .hostR k tag _ => s.answer k tag St.denied [0xFF]
  | .hostW k tag => s.answer k tag St.denied [0xFF]
  | .hostWR k tag => s.backDone k tag p false
  | .pass k tag => s.answer k tag St.denied [0xFF]
  | .upPass port seq => s.upDone port seq 5 [0x0C, 0, 0, 0]

/-- A request has failed (R207): NODE_NO_ANSWER, the counters, the mark of R225, its purpose. A failed copy of an ACT_CMD
counts only when no other copy is left (R215). DEDUCED, log 53. -/
def State.reqFail (s : State) (r : Nat) (e : Leaf) (p : Nat) (h : Req) : State :=
  let s := s.popReq r e p
  let other : Bool := match h.purpose with | .act _ tok => s.actLeft tok | _ => false
  if h.muted ∨ other then s
  else
    let n := s.node r p
    let deaf := n.reach e
    let s := s.setNode r p { n with
      noAnswers := satAdd 16 n.noAnswers 1, deafA := n.deafA || (e == .a && deaf), deafB := n.deafB || (e == .b && deaf) }
    let s := s.modRing r (fun x => { x with noAns := satAdd 32 x.noAns 1 })
    let s := s.ev Ev.nodeNoAnswer (srcN r p) [p1 h.kind, p1 h.seq]
    s.reqLost r p h

/-! ### Retries (R206, R207, R211, R230) -/

/-- A request may be sent once more: a sample re-request only while its answer timeout ends before the deadline. -/
def State.mayRetry (s : State) (r : Nat) (h : Req) : Bool :=
  decide (h.retries < s.cfg.retryMax r) && (h.purpose != .sample || (s.collecting && decide (s.time.now + s.answerNs < s.deadline)))

/-- The end that a request is retried from. Re-requests, copies of an EMERGENCY command and the reads of R230 stay at their
end; SERVE_PORT is written and read back from the new serving end, at which it began (R226); an ACT_CMD goes to the other end as soon as that reaches the node (R230); the others move
with the serving end. DEDUCED, log 101. -/
def State.retryEnd (s : State) (r : Nat) (e : Leaf) (p : Nat) (h : Req) : Leaf :=
  match h.purpose with
  | .sample => e
  | .reach => e
  | .serveW => e
  | .serveR => e
  | .act _ _ => if h.cls = 1 then e else ((s.ring r).servesNext p).getD e
  | _ => s.reqEnd r p

/-- A request goes on at the other end; a PASS keeps its SEQ where the port is free. -/
def State.moveReq (s : State) (r : Nat) (e new : Leaf) (p : Nat) (h : Req) : State :=
  let s := s.popReq r e p
  let s := s.modRing r (fun x => { x with retries := satAdd 32 x.retries 1 })
  let x := s.port r new p
  if h.kind = 0xC ∧ x.q.isEmpty then
    let h := { h with retries := h.retries + 1, busy := false, due := s.time.now + s.answerNs }
    (s.setPort r new p { x with q := [h] }).sendFrame r new h.cls p h.kind h.seq h.payload
  else s.request' r new p { h with retries := h.retries + 1, busy := false, sent := false }

/-- A request without an answer, or after its delay: again, from another end, or failed. -/
def State.retry (s : State) (r : Nat) (e : Leaf) (p : Nat) (h : Req) : State :=
  if h.muted then s.popReq r e p
  else if !s.mayRetry r h then s.reqFail r e p h
  else
    let new := s.retryEnd r e p h
    if new = e then s.resend r e p h else s.moveReq r e new p h

/-- ANSWER_TIMEOUT (R206, R207). -/
def execAnswerTimeout (t ring : Nat) (e : Leaf) (pos : Nat) (s : State) : Ans :=
  at' t (fun s => match s.head ring e pos with
    | none => s
    | some h => if !h.busy ∧ h.due ≤ s.time.now then s.retry ring e pos h else s) s

/-- BUSY_RETRY_DELAY (R206, R207): the delay after NACK BUSY is over. -/
def execBusyRetryDelay (t ring : Nat) (e : Leaf) (pos : Nat) (s : State) : Ans :=
  at' t (fun s => match s.head ring e pos with
    | none => s
    | some h => if h.busy ∧ h.due ≤ s.time.now ∧ h.kind ≠ 0xC then s.retry ring e pos h else s) s

/-- PASS_DEADLINE (R573): 2.5 ms for each hop of the PASS, from the first sending. -/
def execPassDeadline (t ring : Nat) (e : Leaf) (pos : Nat) (s : State) : Ans :=
  at' t (fun s => match s.passHead ring e pos with
    | none => s
    | some h => if h.first + 2500000 * leAt h.payload 0 1 ≤ s.time.now then s.reqFail ring e pos h else s) s

/-! ### Answers at a master port (R205) -/

/-- 0 for an answer to the outstanding request, 3 for any other. -/
def State.judgeAnswer (s : State) (r : Nat) (e : Leaf) (pos seq : Nat) : Nat :=
  match s.head r e pos with
  | some h => if h.seq = seq ∧ 1 ≤ pos ∧ pos ≤ s.cfg.nodeCount r then 0 else 3
  | none => 3

/-- An answer that nothing asked for is counted. -/
def State.stray (s : State) (r : Nat) : State := s.modRing r (fun x => { x with stray := satAdd 32 x.stray 1 })

/-- RSP at a master port. -/
def State.deliverRsp (s : State) (r : Nat) (e : Leaf) (pos : Nat) (p : List Byte) (res : Nat) : State :=
  match s.head r e pos with
  | none => s.stray r
  | some h => if res ≠ 0 then s.stray r else (((s.heardAt r e pos).popReq r e pos).reqOk r e pos h p).grow r pos

/-- RSP_RECEIVED. -/
def execRspReceived (t ring : Nat) (e : Leaf) (f : RspFrame) (s : State) : Ans :=
  at' t (fun s => if !s.cfg.ringOn ring then s else
    s.rx ring e f.pos 5 f.seq (rspP f) (.rspReceived t ring e f)
      (fun _ s => s.judgeAnswer ring e f.pos f.seq) (fun p res s => s.deliverRsp ring e f.pos p res)) s

/-- NACK BUSY (R207, R216, R476, R573): the delay runs; an opening that is refused goes again at once as EMERGENCY. DEDUCED, log 73. -/
def State.nackBusy (s : State) (r : Nat) (e : Leaf) (pos : Nat) (h : Req) : State :=
  let wait := s.modHead r e pos (fun h => { h with busy := true, due := s.time.now + s.busyNs })
  match h.purpose with
  | .act i _ => if isOpening h.payload ∧ h.cls ≠ 1 then (s.popReq r e pos).sendAct i (leAt h.payload 0 1) true else wait
  | _ => wait

/-- NACK at a master port. -/
def State.deliverNack (s : State) (r : Nat) (e : Leaf) (pos : Nat) (p : List Byte) (res : Nat) : State :=
  match s.head r e pos with
  | none => s.stray r
  | some h =>
    if res ≠ 0 then s.stray r
    else
      let s := (s.heardAt r e pos).modNode r pos (fun n => { n with lastNack := leAt p 0 1 })
      let s := if leAt p 0 1 = 4 then s.nackBusy r e pos h
        else
          let s := s.ev Ev.nodeNack (srcN r pos) [p1 (leAt p 0 1), p1 (leAt p 1 1)]
          (s.popReq r e pos).reqNack r e pos h p
      s.grow r pos

/-- NACK_RECEIVED. -/
def execNackReceived (t ring : Nat) (e : Leaf) (pos seq reason kind : Nat) (s : State) : Ans :=
  at' t (fun s => if !s.cfg.ringOn ring then s else
    s.rx ring e pos 0xD seq (nackP reason kind) (.nackReceived t ring e pos seq reason kind)
      (fun _ s => s.judgeAnswer ring e pos seq) (fun p res s => s.deliverNack ring e pos p res)) s

/-! ### Host commands (R188, R646, R649, R650) -/

/-- NODE_READ. -/
def State.nodeRead (s : State) (q : HReq) : HR :=
  let r := arg q 0 1
  let p := arg q 1 1
  let reg := arg q 2 2
  let n := arg q 4 2
  if !s.cfg.ringOn r ∨ p = 0 ∨ p > s.cfg.nodeCount r ∨ n = 0 ∨ n > 32 then s.ans St.bounds
  else (s.request' r (s.reqEnd r p) p (reqRd reg (if reg = 0xFF20 then 64 else n) (.hostR q.sess q.tag n) 7 [])).later

def execNodeRead (t : Nat) (q : HReq) (s : State) : Ans :=
  at' t (fun s => s.cmd q 0x0202 (fun s => s.may q.sess Perm.read) (· == 8) (fun s => s.nodeRead q)) s

/-- A write to a group or to every node, and the read-backs of those that carry the address. The request to the group has
SEQ 0. DESIGN CHOICE, log 108. -/
def State.groupWrite (s : State) (q : HReq) (r dest reg n : Nat) (d : List Byte) : HR :=
  let ends := if (s.ring r).st = .whole then [s.act] else [Leaf.a, Leaf.b]
  let s := s.each ends (fun e s => s.sendFrame r e 7 dest 3 0 (cfgWrP reg d))
  let ps := (s.cfg.positions r).filter (fun p => dest == 0xFFFF || s.cfg.nodeFld r p 0x1A == dest)
  if ps.isEmpty then s.ans St.ok
  else (s.each ps (fun p s => s.request' r (s.reqEnd r p) p (reqRd reg n (.hostWR q.sess q.tag) 7 d))).later

/-- NODE_WRITE: DEST is a position of the ring, a group address or the broadcast; a reserved address is out of BOUNDS
(R157). -/
def State.nodeWrite (s : State) (q : HReq) : HR :=
  let r := arg q 0 1
  let dest := arg q 2 2
  let reg := arg q 4 2
  let n := arg q 6 2
  let d := q.args.drop 8
  if q.args.length ≠ 8 + n then s.ans St.badLen
  else if !s.cfg.ringOn r ∨ n = 0 ∨ n > 508 ∨ dest = 0 ∨ (dest < 0xFF00 ∧ dest > s.cfg.nodeCount r) then s.ans St.bounds
  else if reg + n > 0xFB00 ∨ (dest ≤ 64 ∧ (s.node r dest).quar ≠ 0) ∨ (s.cfg.ringStrings r).any (fun i => (s.hs i).st != 0) then s.ans St.denied
  else if dest ≤ 64 then (s.request' r (s.reqEnd r dest) dest (reqWr reg d (.hostW q.sess q.tag) 7)).later
  else s.groupWrite q r dest reg n d

def execNodeWrite (t : Nat) (q : HReq) (s : State) : Ans :=
  at' t (fun s => s.cmd q 0x0203 (fun s => s.role q.sess == 3) (fun n => decide (8 ≤ n)) (fun s => s.nodeWrite q)) s

/-- CHAIN_REENUM (R188): one ring or all of them are enumerated anew. -/
def execChainReenum (t : Nat) (q : HReq) (s : State) : Ans :=
  at' t (fun s => s.cmd q 0x0201 (fun s => s.may q.sess Perm.restart) (· == 4) (fun s =>
    let r := arg q 0 1
    if r ≠ 0xFF ∧ !s.cfg.ringOn r then s.ans St.bounds
    else (s.each (if r = 0xFF then s.cfg.rings else [r]) (fun r s => s.enumerate r 3)).ans St.ok)) s

end Sys2Proof.Machine
end

