-- ==== Sys2Proof/Machine/Streams.lean ====
section
/-!
DEFINITION. The read side of the stream FIFOs (R619, R652 to R666): subscriptions, STREAM messages, flushes, the LOSS
item, and the consuming reads over SPI.
-/
namespace Sys2Proof.Machine

/-! ### Flush and LOSS (R658, R659) -/

/-- A FIFO is flushed: its items and its pending LOSS are counted in FLUSHED, which it then holds. -/
def Fifo.flush (f : Fifo) (now : Nat) : Fifo × Nat :=
  let n := satAdd 32 (itemCount f.words) f.lossPend
  ({ ({ f with words := [], lossPend := 0, episode := false, flushes := satAdd 16 f.flushes 1 } : Fifo).append now
      (itemWords 8 (itemBytes 0xFF false (toLe 4 n))) with high := max f.high 1 }, n)

/-- A stream is flushed and STREAM_FLUSHED logged; the count is the second result. -/
def State.flushStream (s : State) (n : Nat) : State × Nat :=
  let r := (s.fifo n).flush s.time.now
  ((s.setFifo n r.1).evA Ev.streamFlushed n [p4 r.2], r.2)

/-- STREAM_FLUSH. -/
def execStreamFlush (t : Nat) (q : HReq) (s : State) : Ans :=
  at' t (fun s => s.cmd q 0x1101 (fun s => s.may q.sess Perm.subscribe) (· == 4) (fun s =>
    let n := arg q 0 1
    if n ≥ 16 then s.ans St.bounds
    else if !s.streamOk q.sess n then s.ans St.denied
    else let r := s.flushStream n; r.1.ansOk (toLe 4 r.2))) s

/-- LOSS_ITEM_WRITE: the pending LOSS goes into the FIFO once a word is free; the episode ends. -/
def execLossItemWrite (t stream : Nat) (s : State) : Ans :=
  at' t (fun s =>
    let f := s.fifo stream
    if stream < 16 ∧ f.lossPend ≠ 0 ∧ f.words.length < 2048 then
      s.setFifo stream { f.append s.time.now (itemWords 8 (itemBytes 0xFE false (toLe 4 f.lossPend))) with lossPend := 0, episode := false }
    else s) s

/-! ### Subscriptions (R619, R662) -/

/-- A stream can be delivered over Ward: a SNAPSHOT item has to fit one message (R662). -/
def Cfg.wardFits (c : Cfg) (n : Nat) : Bool :=
  let p := c.img.payload Ty.stream n
  c.producer n != 6 || decide (4 + sumN ((upto (leAt p 6 2)).map (fun i => leAt p (12 + 8 * i) 2)) ≤ 1408)

/-- A session becomes a receiver of a stream. -/
def State.receive (s : State) (k n : Nat) : State :=
  let f := s.fifo n
  if f.recv.contains k then s
  else (s.setFifo n { f with recv := f.recv ++ [k] }).modSess k (fun x => { x with subs := setBit x.subs n true })

/-- A session receives a stream no longer. -/
def State.unreceive (s : State) (k n : Nat) : State :=
  let f := s.fifo n
  (s.setFifo n { f with recv := f.recv.filter (· != k) }).modSess k (fun x => { x with subs := setBit x.subs n false })

/-- The checks of SUBSCRIBE (R602, R612, R617), then its action. -/
def State.subscribe (s : State) (q : HReq) (h : State → Nat → HR) : State :=
  s.request q 4 0 false (fun s =>
    let n := arg q 0 1
    if q.sess = sSpi then s.ans St.denied
    else if q.args.length ≠ 4 then s.ans St.badLen
    else if n ≥ 16 then s.ans St.bounds
    else if !s.may q.sess Perm.subscribe || !s.streamOk q.sess n then s.ans St.denied
    else h s n)

/-- SUBSCRIBE_START: a ninth receiver is answered BUSY. -/
def execSubscribeStart (t : Nat) (q : HReq) (s : State) : Ans :=
  at' t (fun s => s.subscribe q (fun s n =>
    let f := s.fifo n
    if !s.cfg.wardFits n then s.ans St.denied
    else if f.recv.length ≥ 8 ∧ !f.recv.contains q.sess then s.ans St.busy
    else (s.receive q.sess n).ans St.ok)) s

/-- SUBSCRIBE_STOP. -/
def execSubscribeStop (t : Nat) (q : HReq) (s : State) : Ans :=
  at' t (fun s => s.subscribe q (fun s n => (s.unreceive q.sess n).ans St.ok)) s

/-! ### STREAM messages -/

/-- STREAM_SEND: whole items, up to 176 words, to every receiver. -/
def execStreamSend (t stream : Nat) (s : State) : Ans :=
  at' t (fun s =>
    let f := s.fifo stream
    let due := decide (f.words.length ≥ 176) || decide (f.oldest + 10000000 ≤ s.time.now)
    let r := takeItems 176 [] [] f.words
    if stream < 16 ∧ s.sweeping ∧ !f.recv.isEmpty ∧ due ∧ !r.1.isEmpty then
      let body := toLe 4 f.wseq ++ (r.1.map (fun w => toLe 8 w.1)).flatten
      let s := s.each f.recv (fun k s => s.send k 0x91 0 0 body)
      s.setFifo stream (f.deliver s.time.now r.1 r.2)
    else s) s

/-! ### Reads over SPI (R656, R663) -/

/-- One slot of a data object: the next word, or the idle word. -/
def Fifo.slot (f : Fifo) : List Byte × Fifo :=
  match f.words with
  | [] => (toLe 8 0x5A5A5A5A5A5A5A5A ++ [0x17, 0, 0, 0] ++ toLe 4 f.wseq, f)
  | w :: r => (toLe 8 w.1 ++ [byteOf w.2, 0, 0, 0] ++ toLe 4 f.wseq, { f with words := r, wseq := (f.wseq + 1) % 4294967296 })

/-- The next slots. -/
def Fifo.slots : Nat → Fifo → List Byte × Fifo
  | 0, f => ([], f)
  | k + 1, f => let a := f.slot; let b := Fifo.slots k a.2; (a.1 ++ b.1, b.2)

/-- Whether a range touches the stream data objects. -/
def inStreamData (addr n : Nat) : Bool := decide (addr < 0x002D2000 ∧ 0x002D1000 < addr + n)

/-- A READ of a stream data object: whole slots of one object, over SPI alone. -/
def State.streamRead (s : State) (q : HReq) (addr n : Nat) : HR :=
  let k := (addr - 0x002D1000) / 256
  if q.sess ≠ sSpi then s.ans St.denied
  else if addr < 0x002D1000 ∨ addr % 16 ≠ 0 ∨ n % 16 ≠ 0 ∨ n = 0 ∨ addr % 256 + n > 256 then s.ans St.badLen
  else
    let f := s.fifo k
    let r := f.slots (n / 16)
    (s.setFifo k { r.2 with sentItems := itemCount (f.words.take (f.words.length - r.2.words.length)), sentNow := s.time.now }).ansOk r.1

/-- STREAM_DATA_READ: the body is that of a READ (R612). -/
def execStreamDataRead (t : Nat) (q : HReq) (s : State) : Ans :=
  at' t (fun s => s.request q 1 0 true (fun s =>
    if q.args.length ≠ 8 then s.ans St.badLen
    else if !s.may q.sess Perm.read then s.ans St.denied
    else if !inStreamData (arg q 0 4) (arg q 4 2) then s.ans St.badAddr
    else s.streamRead q (arg q 0 4) (arg q 4 2))) s

end Sys2Proof.Machine
end

