-- ==== Sys2Proof/Machine/Hinge.lean ====
section
/-!
DEFINITION. The hinge point (R89 to R99, R221, R245, R261, R318, R324, R425, R533, R625, R651, R666): when an image may be
applied, and what becomes of every record when it is.
-/
namespace Sys2Proof.Machine

/-! ### Conditions (R82, R89, R97) -/

/-- The strings that are not OPEN, whether the image in force or the new one knows them. -/
def State.liveStrs (s : State) : List Nat := (upto 64).filter (fun i => (s.hs i).st != 0)

/-- STRING_NOT_OPEN: the image leaves every string that is not OPEN as it is (R97). -/
def State.stringsFit (s : State) (g : Image) : Bool := s.liveStrs.all (fun i => !stringTouched s.cfg { img := g } i)

/-- NESTING_ROLE: the role stays, or every string is OPEN (R82). -/
def State.nestingFits (s : State) (g : Image) : Bool := s.liveStrs.isEmpty || ({ img := g } : Cfg).isSub == s.cfg.isSub

/-- The first condition of R89 that a commit point does not meet, as the reason of R91; none where it is a hinge point.
SEQUENCE_OLD is judged against the running image: SEQUENCE_FLOOR equals the image's own SEQUENCE since its slot was written (R77).
DESIGN CHOICE, log 37. DEDUCED, log 97. -/
def State.hingeBlock (s : State) (g : Image) : Option Nat :=
  if s.cfg.strings.any (fun i => (s.hs i).st == 1 || (s.hs i).st == 2 || (s.hs i).st == 4) then some 0
  else if !s.stage.revert ∧ g.seq ≤ s.cfg.img.seq then some 0x0F
  else if !s.stringsFit g then some 0x11
  else if !s.nestingFits g then some 0x12
  else if !s.inRun ∨ s.sleep.st ≠ 0 then some (Config.caseCode Ev.imageApplyAbandoned 0)
  else none

/-! ### What changes between two images -/

/-- A section is the same in both images. DEDUCED, log 40. -/
def sameSec (old new : Cfg) (ty inst : Nat) : Bool :=
  old.img.has ty inst == new.img.has ty inst && old.img.payload ty inst == new.img.payload ty inst

/-- A ring's sections are the same (R221). -/
def sameRing (old new : Cfg) (r : Nat) : Bool := sameSec old new Ty.chain r && sameSec old new Ty.nodeList r

/-- Node, place and zone of a sensor (R425). -/
def Cfg.sensorSpot (c : Cfg) (k : Nat) : Option (Nat × Nat × Nat × Nat) :=
  if k ≥ 0x1000 then (if c.tsZone (k - 0x1000) < c.zoneCount then some (0, 0, k - 0x1000, c.tsZone (k - 0x1000)) else none)
  else (c.allNodes.flatMap (fun x => (c.sensorsOf x.1 x.2).map (fun y => (y.1, x.1, x.2, y.2, c.sensorZone y.1)))).find? (fun y => y.1 == k) |>.map (·.2)

/-- A sensor keeps its state (R425). DEDUCED, log 40. -/
def sensorKept (old new : Cfg) (k : Nat) : Bool := (old.sensorSpot k).isSome && old.sensorSpot k == new.sensorSpot k

/-- A zone's fields, with its sensors. DEDUCED, log 40. -/
def sameZone (old new : Cfg) (z : Nat) : Bool :=
  decide (z < old.zoneCount) && (upto 64).all (fun o => old.zoneFld z o == new.zoneFld z o) &&
  old.sensors.filter (fun k => old.zoneOf k == z) == new.sensors.filter (fun k => new.zoneOf k == z)

/-- A zone whose thresholds change keeps its counters; its timers and histories start anew (R408, R425). -/
def Zone.retimed (x : Zone) : Zone :=
  let f := fun (c : StepCtr) => ({ c with up := 0, down := 0 } : StepCtr)
  { x with hotChg := f x.hotChg, hotDis := f x.hotDis, coldChg := f x.coldChg, coldDis := f x.coldDis, h10 := [], h60 := [], h300 := []
           shutRun := 0, coldRun := 0, riseRun10 := 0, riseRun60 := 0, riseRun300 := 0 }

/-- Overlay entries of an image: the entry of a field. -/
def Cfg.ovFind (c : Cfg) (o : OvVal) : Option OvEnt :=
  ((upto c.ovCount).map c.ovEnt).find? (fun e => e.ty == o.ty && e.inst == o.inst && e.off == o.off)

/-- An overlay value outlives the hinge point (R94). -/
def ovKept (new : Cfg) (o : OvVal) : Bool := match new.ovFind o with | some e => decide (e.low ≤ o.val ∧ o.val ≤ e.high) | none => false

/-! ### The records (R93, R261, R425, R651) -/

/-- Overlay values: kept, or dropped with OVERLAY_DROPPED. -/
def State.hingeOverlay (s : State) (new : Cfg) : State :=
  let key := fun (o : OvVal) => (o.ty, o.inst, o.off)
  let gone := (((s.ovl.pend ++ s.cfg.ov).filter (fun o => !ovKept new o)).map key).dedup
  let s := { s with cfg := { new with ov := s.cfg.ov.filter (ovKept new) }
                    ovl := { s.ovl with pend := s.ovl.pend.filter (ovKept new), last := s.ovl.last.filter (ovKept new) } }
  s.each gone (fun k s => s.ev Ev.overlayDropped srcD [p2 k.1, p2 k.2.1, p2 k.2.2])

/-- Cells, their protection words and their sealed entries. -/
def State.hingeCells (s : State) (old : Cfg) : State :=
  let new := s.cfg
  let keep := cellKept old new
  let s := (s.estStart keep).learnStart keep (new.learning && !old.learning)
  { s with prot := { s.prot with cells := kkeep keep s.prot.cells }
           bal := { s.bal with duty := kkeep keep s.bal.duty }
           sw := { s.sw with sealed := { s.sw.sealed with cells := kkeep keep s.sw.sealed.cells } } }

/-- A string's protection record at its "After start" values: the latched trips stay in retention (R430). DEDUCED, log 68. -/
def StrProt.restart (x : StrProt) : StrProt := { latched := x.latched, acting := x.latched }

/-- A string's contactor record at its "After start" values: OPEN (R483), with the counts of R484. -/
def HaspStr.restart (x : HaspStr) : HaspStr := x.opens.record

/-- Strings: those of a changed object start anew. -/
def State.hingeStrings (s : State) (old : Cfg) : State :=
  let keep := fun (i : Nat) => !stringTouched old s.cfg i
  { s with
    strCur := kkeep keep s.strCur
    est := { s.est with strs := kkeep keep s.est.strs }
    lim := { s.lim with strs := kkeep keep s.lim.strs }
    bal := { s.bal with strs := kkeep keep s.bal.strs }
    hasp := { s.hasp with strs := s.hasp.strs.map (fun (e : Nat × HaspStr) => if keep e.1 then e else (e.1, e.2.restart)) }
    prot := { s.prot with strs := s.prot.strs.map (fun (e : Nat × StrProt) => if keep e.1 then e else (e.1, e.2.restart)) }
    sw := { s.sw with sealed := { s.sw.sealed with strs := kkeep keep s.sw.sealed.strs } } }

/-- Sensors and zones. -/
def State.hingeThermal (s : State) (old : Cfg) : State :=
  let new := s.cfg
  let keep := sensorKept old new
  { s with
    th := { s.th with
      sens := kkeep keep s.th.sens
      zones := (s.th.zones.filter (fun e => decide (e.1 < new.zoneCount ∧ e.1 < old.zoneCount))).map
        (fun (e : Nat × Zone) => if sameZone old new e.1 then e else (e.1, e.2.retimed)) }
    sw := { s.sw with sealed := { s.sw.sealed with sens := kkeep keep s.sw.sealed.sens } } }

/-- A ring record at its "After start" values: line state and stored calibration stay. -/
def Ring.restart (x : Ring) : Ring := { losA := x.losA, losB := x.losB, t := x.t, segs := x.segs, uids := x.uids }

/-- A ring whose sections change is enumerated, calibrated and configured as at a start, and its samples are not used before
that is done (R221); another one gets its
QUIET_POST, BAL_I_CEIL or DIST_LIMIT anew where they change (R245, R379). -/
def State.hingeRings (s : State) (old : Cfg) : State :=
  let new := s.cfg
  let quiet := decide (old.tQuiet ≠ new.tQuiet) || decide (old.bal 10 ≠ new.bal 10) || decide (old.bal 8 ≠ new.bal 8)
  s.each (upto 16) (fun r s =>
    if sameRing old new r then (if new.ringOn r && quiet then s.modRing r (fun x => { x with quietDue := true }) else s)
    else
      let drop := fun (k : Nat) => decide (k / 64 ≠ r)
      let s := s.each (s.ch.ports.filter (fun e => decide (e.1 / 128 = r))) (fun e s =>
        s.each (e.2.q.filter (fun q => match q.purpose with | .hostR .. => true | .hostW .. => true | .hostWR .. => true | .pass .. => true | _ => false))
          (fun q s => match q.purpose with
            | .hostR k tag _ => s.answer k tag St.denied [0xFF]
            | .hostW k tag => s.answer k tag St.denied [0xFF]
            | .hostWR k tag => s.answer k tag St.denied [0xFF]
            | .pass k tag => s.answer k tag St.denied [0xFF]
            | _ => s))
      let s := { s with
        ch := { s.ch with nodes := kkeep drop s.ch.nodes, ports := kkeep (fun k => decide (k / 128 ≠ r)) s.ch.ports
                          alarms := s.ch.alarms.filter (fun a => a.2.1 != r) }
        bal := { s.bal with nodes := kkeep drop s.bal.nodes }
        sw := { s.sw with items := s.sw.items.filter (fun i => i.ring != r)
                          sealed := { s.sw.sealed with nodes := kkeep drop s.sw.sealed.nodes } } }
      let s := s.modRing r Ring.restart
      if new.ringOn r then (s.modRing r (fun x => { x with gated := s.sw.started })).enumerate r 1 else s)

/-- Switch channels: one whose ROLE and MODE stay keeps its enable (R533). -/
def State.hingeSwitch (s : State) (old : Cfg) : State :=
  let s := s.each (upto 24) (fun k s =>
    if old.img.has Ty.switch k == s.cfg.img.has Ty.switch k && old.sw k 0 == s.cfg.sw k 0 && old.sw k 1 == s.cfg.sw k 1 then s
    else s.setChan k { s.chan k with logic := false })
  s.chansFollow

/-- Sessions stay where role, permissions and key stay (R95). -/
def State.hingeSessions (s : State) (old : Cfg) : State :=
  s.each (upto 128) (fun k s =>
    let key := fun (c : Cfg) => bytesAt (c.img.payload Ty.session k) 0x18 40
    let same := old.slotOn k == s.cfg.slotOn k && old.sess k 0 == s.cfg.sess k 0 && old.sess k 4 == s.cfg.sess k 4 &&
      old.sess k 3 == s.cfg.sess k 3 && key old == key s.cfg
    if same then s
    else
      let s := if (s.sess k).st = 3 then (s.closeSession k Cc.image).freeMarks k else s
      s.modSess k (fun x => { x with hs := none, st := if s.cfg.slotOn k then 1 else 0 }))

/-- Streams whose section changes are flushed; receivers stay as far as they may (R666). -/
def State.hingeStreams (s : State) (old : Cfg) : State :=
  s.each (upto 16) (fun n s =>
    let s := if sameSec old s.cfg Ty.stream n then s else (s.flushStream n).1
    s.each ((s.fifo n).recv.filter (fun k => !s.streamOk k n || !s.cfg.wardFits n)) (fun k s => s.unreceive k n))

/-- A changed NESTING section starts the group node and the child records anew; BOOT_COUNT stays. -/
def State.hingeNest (s : State) (old : Cfg) : State :=
  if old.isSub == s.cfg.isSub && old.groups == s.cfg.groups then s
  else if old.isSub == s.cfg.isSub then { s with nest := { s.nest with kids := [] } }
  else { s with nest := { boot := s.nest.boot, portA := s.nest.portA, portB := s.nest.portB } }

/-! ### The recorder (R695) -/

/-- A changed EVENT_POLICY: what is pending is raised first, under the old policy. -/
def State.hingePolicyOut (s : State) (new : Cfg) : State :=
  if sameSec s.cfg new Ty.eventPolicy 0 then s else s.each (s.lg.buckets.map (·.1)) (fun c s => s.suppRaise c)

/-- Codes whose entry changed restart with full buckets. -/
def State.hingePolicyIn (s : State) (old : Cfg) : State :=
  { s with lg := { s.lg with buckets := s.lg.buckets.filter (fun e => old.evClass e.1 == s.cfg.evClass e.1) } }

/-! ### Roles (R96, R534, R556) -/

/-- The HOT STANDBY becomes ACTIVE (R555, R556): the interruption is free within 400 µs. In a rolling restart the streams go
on as after a failover (R666). -/
def State.handoverNow (s : State) : State :=
  let n := s.act.other
  if !s.bothRun then s
  else
    let us := min 400 (Config.freeNat s.free)
    let s := s.draw
    let s := { s with kn := { s.kn with active := some n, lastInterrupt := us, roleDiffers := s.cfg.roleActive != n }
                      power := { s.power with kaPath := n.num } }
    (((s.when (s.kn.rolling != 0) State.fifosOver).pickDisarm 5).nextBlocks.canFollow).raiseO Ev.handover n.num n.num [p2 us]

/-- The image's role assignment takes effect: a handover, and in a single-leaf role the other leaf is fenced. -/
def State.hingeRole (s : State) (old : Cfg) : State :=
  if old.leafRole = s.cfg.leafRole then s
  else
    let s := if s.act != s.cfg.roleActive then s.handoverNow else s
    let s := if !s.cfg.dual && s.act == s.cfg.roleActive then s.fence s.act.other Fc.role else s
    { s with kn := { s.kn with roleDiffers := s.cfg.roleActive != s.act } }

/-! ### The hinge point (R92) -/

/-- SEQUENCE of a slot of the ACTIVE leaf. -/
def State.slotSeq (s : State) (k : Nat) : Nat := ((s.leaf s.act).slot k).seq

/-- Both leaves switch to the image, with the commit of the sweep in hand. DEDUCED, log 40. DESIGN CHOICE, log 41. -/
def State.hinge (s : State) (g : Image) : State :=
  let old := s.cfg
  let slot := s.inactiveSlot
  let last := s.stage.activeSlot
  let rev := s.stage.revert
  let s := (s.pickDisarm 7).hingePolicyOut { img := g, ov := [] }
  let s := (s.hingeOverlay { img := g, ov := [] }).hingePolicyIn old
  let s := (((s.hingeCells old).hingeStrings old).hingeThermal old).hingeRings old
  let s := ((((s.hingeSwitch old).hingeSessions old).hingeStreams old).hingeNest old).hingeRole old
  let s := s.levels.rqFollow.portsRenew
  let s := s.stageIdle
  let s := { s with stage := { s.stage with activeSlot := slot, buildId := g.buildId, hingeSweep := s.sw.num, hingeTime := s.devTime } }
  let s := s.ev Ev.bittingApplied srcD [p4 g.seq, p1 slot, p4 s.sw.num]
  let s := s.each (ignoredTypes g) (fun x s => s.ev Ev.sectionIgnored srcD [p2 x.1, p2 x.2])
  if rev ∧ last < 2 then
    let q := s.slotSeq last
    (s.withdraw last).ev Ev.imageWithdrawn srcD [p1 last, p4 q]
  else s

end Sys2Proof.Machine
end

