-- ==== Sys2Proof/Machine/Commit.lean ====
section
/-!
DEFINITION. From the collected samples to the committed results: the seal and its passes (R252 to R256), the commit point
(R18, R237), the comparison of results and what follows from it (R539 to R545), period changes (R233 to R236), and the entry
to SLEEP at a commit point (R697, R698).
-/
namespace Sys2Proof.Machine

/-! ### The seal (R252, R255, R256) -/

/-- Overlay values accepted before the seal come into force (R139). -/
def State.overlayIn (s : State) : State :=
  let put := fun (l : List OvVal) (o : OvVal) => l.filter (fun x => !(x.ty == o.ty && x.inst == o.inst && x.off == o.off)) ++ [o]
  { s with cfg := { s.cfg with ov := s.ovl.pend.foldl put s.cfg.ov }, ovl := { s.ovl with pend := [], gen := s.ovl.pendGen } }

/-- Sleep's idle time after a seal (R696). -/
def State.idleStep (s : State) : State :=
  let quiet := s.cfg.strings.all (fun i => let c : StrCur := kget {} s.strCur i; !c.absent && decide (c.iProt.natAbs < s.cfg.n Ty.sleep 0 4))
  let still := s.hasp.queue.isEmpty && s.cfg.strings.all (fun i => !([1, 2, 4].any (· == (s.hs i).st)))
  let z := s.sleep
  if quiet && still && !z.busy then { s with sleep := { z with idle := satAdd 32 z.idle s.sweepSecs } }
  else { s with sleep := { z with idle := 0, refused := false, busy := false } }

/-- The passes of a sweep on a leaf's sealed set (R237): currents, leases, protection, thermal, epoch, estimator, limits,
balancing. `other` are the protection decisions of the other leaf where it sealed a set of its own. DESIGN CHOICE, log 61, 93. DEDUCED, log 75. -/
def State.passes (s : State) (d : DevIn) (other : Option (List Dec)) : State :=
  let s := ((s.sealSet s.act d).leaseSeal).protPass other
  let s := s.thermalPass.balState.epochDecide
  let s := s.estimPass.limitPass.balancePass
  let s := if s.lease.zeroDue then ({ s with lease := { s.lease with zeroDue := false } } : State).zeroLease 1 s.lease.flags else s
  let s := ({ s with sleep := { s.sleep with fresh := false } } : State).idleStep
  { s with sw := { s.sw with phase := .sealed } }

/-- The protection decisions of a leaf from the set it holds itself (R256, R428). DESIGN CHOICE, log 61. -/
def State.ownDecs (s : State) (l : Leaf) (d : DevIn) : List Dec := ((s.sealSet l d).leaseSeal).compSeal.evalPass.2

/-- The leaves that run hold all that they expect: both markers and every item, or the survivor's; a leaf alone expects nothing (R252). -/
def State.exchanged (s : State) : Bool := !s.sw.expect || [Leaf.a, Leaf.b].all (fun l => !s.running l || s.holdsAll l)

/-- SEAL_FLAGS bit 0 (R262): a leaf that runs has no marker of a leaf that was not fenced at the collection deadline. -/
def State.noMarker (s : State) : Bool := s.sw.expect && ((s.running .a && !s.sw.endA) || (s.running .b && !s.sw.endB))

/-- The AUX inputs of a bank without supply read low (R754). -/
def State.auxMask (s : State) (d : DevIn) : DevIn :=
  { d with aux := ((upto 16).filter (fun n => !(s.bank (n / 4)).powered)).foldl (fun a n => setBit a n false) d.aux }

/-- INPUT_SEAL: with the other leaf's END marker and every item, or at D + 100 µs with what is held; a leaf alone at D.
Where the digests differ, the items go again (R256). DEDUCED, log 62. DESIGN CHOICE, log 92. -/
def execInputSeal (t : Nat) (d : DevIn) (s : State) : Ans :=
  at' t (fun s =>
    let w := s.sw
    if w.phase = .exchanging ∧ s.deadline ≤ s.time.now ∧ (s.exchanged ∨ s.deadline + 100000 ≤ s.time.now) then
      let d := s.auxMask d
      let s := s.overlayIn.banksSeal
      let f := setBit w.flags 0 s.noMarker
      if !s.bothRun || s.setsAgree d then ({ s with sw := { s.sw with flags := f }, kn := { s.kn with ownSet := false } } : State).passes d none
      else { s with sw := { s.sw with phase := .reseal, flags := setBit f 1 true, sealed := { s.sw.sealed with dev := d } } }
    else s) s

/-- An item of the re-exchange arrives (R256). -/
def State.itemAgain (s : State) (x : KnItem) : State :=
  match x with
  | .sample r p => { s with sw := { s.sw with items := s.sw.items.map (fun (i : Item) => if i.ring = r ∧ i.pos = p then { i with inA := true, inB := true } else i) } }
  | .path k => { s with sw := { s.sw with lost := s.sw.lost.filter (fun y => y.2 != k) } }
  | .endMark => s
  | .other => s

/-- INPUT_RESEAL (R256): with digests that still differ, each leaf computes from its own set. -/
def execInputReseal (t : Nat) (again : List KnItem) (s : State) : Ans :=
  at' t (fun s =>
    if s.sw.phase = .reseal then
      let d := s.sw.sealed.dev
      let s := again.foldl State.itemAgain s
      if !s.bothRun || s.setsAgree d then ({ s with kn := { s.kn with ownSet := false } } : State).passes d none
      else
        let s := ({ s with sw := { s.sw with flags := setBit s.sw.flags 2 true }, kn := { s.kn with ownSet := true } } : State)
        let s := s.evA Ev.knuckleMismatch srcD [p4 s.sw.num, p1 0, p1 2]
        s.passes d (some (s.ownDecs s.act.other d))
    else s) s

/-! ### Period changes (R233 to R236, R577) -/

/-- The shortest listed period that is not shorter than `ns`; 1,000 ms at most. -/
def codeFor (ns : Nat) : Nat := ((upto 9).find? (fun c => decide (ns ≤ periodNs c))).getD 8

/-- N_1 of R236; T_LEAD in µs. -/
def nOne (tLead : Nat) : Nat := (2703 - 2 * tLead) * 2 / 89

/-- An end of a ring serves more than N_1 nodes in the split that applies from the next sweep. -/
def State.overOne (s : State) : Bool :=
  s.cfg.rings.any (fun r =>
    let x := s.ring r
    let n := s.cfg.nodeCount r
    let m := nOne (s.cfg.tLead / 1000)
    match x.st with
    | .whole => !x.countBad && (decide (min x.nxA n > m) || decide (n + 1 - x.nxB > m))
    | .broken _ => !x.countBad && (decide (min x.nxA n > m) || decide (n + 1 - x.nxB > m))
    | _ => false)

/-- The period code and the PERIOD_CAUSE that a commit point decides. -/
def State.wantPeriod (s : State) : Nat × Nat :=
  let conf := s.cfg.n Ty.device 0 0x41
  let nest := s.cfg.isSub && (s.nest.lock == 1 || s.nest.lock == 2) && decide (s.nest.parentPeriod ≤ 8)
  let base := if nest then codeFor (s.cfg.n Ty.nesting 0 1 * periodNs s.nest.parentPeriod) else conf
  let five := base == 0 && s.overOne
  (min 8 ((if five then 1 else base) + s.th.dev.s), min 4 s.th.dev.s + 8 * b2n nest + 16 * b2n five)

/-- A commit point decides a change of period, in effect from the sweep after the next; the parent of group nodes tells
them (R233, R579). DEDUCED, log 54. -/
def State.decidePeriod (s : State) : State :=
  let w := s.wantPeriod
  let last := match s.sw.pend.getLast? with | some e => e.2 | none => (s.effPeriod, s.sw.cause)
  if w = last then s
  else
    let s := { s with sw := { s.sw with pend := s.sw.pend ++ [((s.sw.num + 2) % 4294967296, w)] } }
    if w.1 = last.1 then s
    else
      let s := s.evA Ev.sweepPeriodChanged srcD [p1 last.1, p1 w.1, p1 w.2]
      s.each (s.cfg.groups) (fun x s =>
        let n := s.node x.1 x.2
        let wr : List (Nat × List Byte) := [(0xFB02, [byteOf w.1])]
        if n.cfg < 2 ∨ n.quar ≠ 0 then s
        else if n.plan.isEmpty then s.startPlan x.1 x.2 3 wr
        else s.setNode x.1 x.2 { n with plan := n.plan ++ wr })

/-- A new PARENT_PERIOD is applied at the commit point; in FREQ or LOCKED the grid realigns with the next centres (R579). -/
def State.parentPeriodIn (s : State) : State :=
  if s.nest.newPeriod then
    let s := { s with nest := { s.nest with newPeriod := false } }
    if s.nest.lock = 1 ∨ s.nest.lock = 2 then
      let s := if s.nest.lock = 2 then s.setLock 1 else s
      { s with nest := { s.nest with realigned := none } }
    else s
  else s

/-! ### Entry to SLEEP (R696 to R698, R705) -/

/-- The first condition of R697 that fails: its reason and the answer's status. -/
def State.sleepBlock (s : State) : Option (Nat × Nat) :=
  if !s.inRun || s.aon.unkeyed then some (1, St.denied)
  else if s.closedStrs.any (fun i => s.cfg.strFld i 1 == 1) then some (2, St.denied)
  else if s.cfg.strings.any (fun i => [1, 2, 4].any (· == (s.hs i).st)) then some (3, St.busy)
  else if !(s.stage.st == 0 || (s.stage.st == 4 && s.stage.mode == 1)) then some (4, St.busy)
  else if [Leaf.a, Leaf.b].any (fun l => (s.leaf l).st == .rejoining || (s.leaf l).st == .resyncing) || s.kn.arb != 0 ||
      s.kn.handoverAsked || s.kn.rolling != 0 then some (5, St.busy)
  else if s.aon.clearState ≠ 0 then some (6, St.busy)
  else if s.la.snapOwed || s.lb.snapOwed then some (7, St.busy)
  else none

/-- Entry to SLEEP from this commit point (R698): step 1; the zero lease, the HEARTBEAT and the zero plans follow. -/
def State.sleepEnterNow (s : State) (cause : Nat) : State :=
  let s := s.pickDisarm 4
  let s := s.each s.hasp.queue (fun e s => s.unqueue e.1 0x0B)
  { s with
    sleep := { s.sleep with st := 1, entryCause := cause, want := 0, ret := false, refused := false, rateAt := s.time.now + 2000000
                            gridTs := s.sw.ts, blkFrom := s.sampleAt, q := [], wakePend := 0 }
    lease := { s.lease with ceil := [0, 0] }
    sw := { s.sw with validated := false }
    bal := { s.bal with zeroPlans := true } }

/-- A commit point judges the entry that is due: a return (R705), a command, or the idle timer. -/
def State.sleepJudge (s : State) : State :=
  let z := s.sleep
  let timer := s.cfg.n Ty.sleep 0 0
  let cause := if z.want ≠ 0 then 1 else if z.ret ∧ s.sw.validated then 3 else if timer ≠ 0 ∧ z.idle ≥ timer then 2 else 0
  if z.st ≠ 0 ∨ cause = 0 then s
  else match s.sleepBlock with
    | none => s.sleepEnterNow cause
    | some (r, _) =>
      let s := { s with sleep := { z with refusal := r, want := 0, ret := z.ret && cause != 3, refused := true } }
      if z.refused then s else s.ev Ev.sleepRefused srcD [p1 r]

/-! ### Validation (R40, R43, R444) -/

/-- The sweep of the last commit point is validated: its rings have delivered, FAULT_N and HOLD are released. DEDUCED, log 60. -/
def State.sweepValidated (s : State) : State :=
  let s := { s with
    sw := { s.sw with validated := true, everValidated := true }
    aon := { s.aon with faultHold := s.aon.faultHold && s.tripActive } }
  let s := s.each s.cfg.rings (fun r s =>
    let used := s.sw.sealed.nodes.any (fun e => e.1 / 64 == r && e.2.tag == 0)
    if used ∧ (s.ring r).st ≠ .lost then s.modRing r (fun x => { x with delivered := true }) else s)
  let held := s.cfg.strings.any (fun i => (upto 16).any (fun n => bit (s.sp i).latched n && s.cfg.fnLevel i n == 4))
  if s.aon.hold && s.inRun && !s.aon.unkeyed && !held && !s.compHigh then s.holdRelease else s

/-! ### The commit point (R18, R262) -/

/-- The TIME fields of the sweep (R262). -/
def State.timeFields (s : State) : State :=
  let w := s.sw
  let tag := fun (p : Nat → Bool) => (s.cfg.cells.filter (fun k => p (kget {} w.sealed.cells k).tag)).length
  { s with sw := { w with
    cSweep := w.num, cStart := w.start, cSample := w.sealed.sampleTime, cCommit := s.devTime, cDigest := s.inputDigest w.sealed
    cAbsent := tag (fun x => decide (3 ≤ x ∧ x ≤ 5)), cDist := tag (· == 1), cClip := tag (· == 2), cLate := w.late, late := 0, cOvGen := w.sealed.ovGen
    cFlags := w.flags, cPeriod := w.period, cCause := w.cause, commitNow := s.time.now, fresh := s.bothRun, phase := .committed
    prevSample := s.sampleAt } }

/-- SAMPLE_LATE (R249): once per ring, with the frames discarded since the last commit point. DEDUCED, log 100. -/
def State.lateEvents (s : State) : State :=
  s.each s.cfg.rings (fun r s =>
    let x := s.ring r
    if x.late = 0 then s else (s.setRing r { x with late := 0 }).ev Ev.sampleLate r [p2 x.late])

/-- Background rounds that wait for a commit point clear SKEW_COUNT (R196, R229). -/
def State.calDue (s : State) : State := s.each s.cfg.rings (fun r s => if (s.ring r).cal = 8 then s.calClear r 5 else s)

/-- What the object map shows until the next commit point (R18, R629). -/
def State.snapshotCommitted (s : State) : State :=
  { s with com := { rings := s.ch.rings, nodes := s.ch.nodes, sealed := s.sw.sealed, cur := s.cur, strCur := s.strCur, prot := s.prot, th := s.th
                    cells := s.est.cells, strs := s.est.strs, lim := s.lim, bal := s.balShown, hasp := s.hasp.strs, lease := s.lease, ov := s.cfg.ov
                    queue := s.hasp.queue, queueHeld := s.stage.st == 5 && !s.hasp.queue.isEmpty, nest := s.nest, power := s.power
                    mramWrite := packBits [s.la.writeOk, s.lb.writeOk] } }

/-- A handover asked for takes place at the commit point and is answered (R556). -/
def State.handoverStep (s : State) : State :=
  if !s.kn.handoverAsked then s
  else
    let s := s.handoverNow
    let s := s.answerOpt s.kn.handover St.ok []
    { s with kn := { s.kn with handoverAsked := false, handover := none } }

/-- The known-answer tests of LEAF_SELFTEST start after the commit point (R556). -/
def State.selftestStep (s : State) : State :=
  if s.kn.selftestWait && s.kn.arb == 0 then { s with kn := { s.kn with selftestWait := false, arb := 2 } } else s

/-- Step 5 of a rejoin begins at a commit point (R554): the leaf takes the state copy. -/
def State.rejoinCommit (s : State) : State :=
  s.each [Leaf.a, Leaf.b] (fun l s =>
    if (s.leaf l).st = .rejoining ∧ (s.leaf l).rejoin = 5 then s.modLeaf l (fun x => { x with st := .resyncing }) else s)

/-- Strings and weld evidence at a commit point. -/
def State.stringsCommit (s : State) : State := (s.judgeStringCmd.silenceOpens.haspCommit).weldDecs

/-- The commit point of the sweep in hand. DESIGN CHOICE, log 93. -/
def State.commit (s : State) : State :=
  let g : Option Image := if s.stage.st = 5 then s.stage.image else none
  let block := match g with | some g => s.hingeBlock g | none => none
  let s := s.learnCommit.minmaxClear
  let s := s.pickedEnd.timeFields.lateEvents
  let s := match block with
    | some r => { s with stage := { s.stage with applyReason := r } }
    | none => s
  let hinges := g.isSome && block.isNone
  let s := match g with
    | some g => if block.isNone then s.hinge g else s
    | none => s
  let s := (s.stringsCommit.snapCommit hinges).decidePeriod
  let s := s.nestCommit.parentPeriodIn.sleepJudge
  let s := s.handoverStep.selftestStep.rejoinCommit
  let s := if s.bothRun then s else s.sweepValidated
  let s := { s with lease := { s.lease with due := true, pubCeil := s.lease.ceil, zeroFor := s.lease.zeroFor - 1 }, sw := { s.sw with phase := .committed } }
  s.banksLive.balCommit.calDue.snapshotCommitted

/-- COMMIT_POINT. -/
def execCommitPoint (t : Nat) (s : State) : Ans :=
  at' t (fun s => if s.sw.phase = .sealed ∧ s.sw.ts + commitNs s.sw.period ≤ s.time.now then s.commit else s) s

/-! ### Arbitration (R541 to R545) -/

/-- DIVERGENCE (R542, R545): the HOT STANDBY resynchronises; within 3,600 s of the one before it is fenced. -/
def State.divergence (s : State) : State :=
  let again := match s.kn.lastDiv with | some d => decide (s.time.now < d + 3600000000000) | none => false
  let l := s.act.other
  let s := { s with kn := { s.kn with divergences := satAdd 16 s.kn.divergences 1, lastDiv := some s.time.now } }
  let s := s.evA Ev.knuckleDivergence srcD [p4 s.sw.cSweep]
  if again then s.fence l Fc.divergence
  else ({ s with kn := { s.kn with arb := 3 } } : State).modLeaf l (fun x => { x with st := .resyncing, rejoin := 0 })

/-- Failing leaves are fenced, the HOT STANDBY first (R542). -/
def State.katFence (s : State) (failA failB : Bool) : State :=
  if failA && failB then (s.fence s.act.other Fc.kat).fence s.act Fc.kat
  else if failA then s.fence .a Fc.kat else s.fence .b Fc.kat

/-- KAT_COMPLETE (R542, R556): the outcomes of the leaves that run. DEDUCED, log 29. -/
def execKatComplete (t : Nat) (passA passB : Bool) (s : State) : Ans :=
  at' t (fun s =>
    let arb := s.kn.arb
    if arb = 1 ∨ arb = 2 then
      let ra := s.running .a
      let rb := s.running .b
      let k := packBits [ra, ra && passA, rb, rb && passB]
      let s := ({ s with kn := { s.kn with kat := k, arb := 0 } } : State).evA Ev.katResult srcD [p1 k]
      let s := if arb = 2 then ({ (s.answerOpt s.kn.selftest St.ok [byteOf k]) with kn := { s.kn with selftest := none } } : State) else s
      let fa := ra && !passA
      let fb := rb && !passB
      if fa || fb then s.katFence fa fb else if arb = 1 ∧ s.bothRun then s.divergence else s
    else s) s

/-- RESYNC_COMPLETE (R544): the HOT STANDBY takes the copy over and computes the next sweep from it. -/
def execResyncComplete (t : Nat) (s : State) : Ans :=
  at' t (fun s =>
    let l := s.act.other
    let x := s.leaf l
    if x.st = .resyncing ∧ x.rejoin = 0 then
      let s := s.setLeaf l { x with st := .running, rq := true }
      ((({ s with kn := { s.kn with arb := 0 } } : State).canFollow).rqFollow).evA Ev.knuckleResync l.num []
    else s) s

end Sys2Proof.Machine
end

