-- ==== Sys2Proof/Machine/Recorder.lean ====
section
/-!
DEFINITION. The event recorder behind its queue: record writes, media failures and spares (R676 to R684), bucket refills
(R673, R674), marks and the read window (R686 to R694).
-/
namespace Sys2Proof.Machine

/-! ### The log regions (R680) -/

/-- Modulo-2^32 distance from one sequence number to another. -/
def seqDist (a b : Nat) : Nat := (b + 4294967296 - a % 4294967296) % 4294967296

/-- A record enters its region: the first 4,096 of the epoch the keep region, later ones the ring. -/
def LogCopy.put (c : LogCopy) (r : EventRec) : LogCopy :=
  if c.ring.isEmpty ∧ r.seq ≤ 4096 then { c with keep := r :: c.keep }
  else { c with ring := r :: (if c.ring.length < 65536 then c.ring else c.ring.take 65535) }

/-- The sequence number that the next ring write overwrites. -/
def LogCopy.overwritten (c : LogCopy) (r : EventRec) : Option Nat :=
  if (c.ring.isEmpty ∧ r.seq ≤ 4096) ∨ c.ring.length < 65536 then none else c.ring.getLast?.map (·.seq)

/-- OVERRUN in the marks that stand on an overwritten record (R690). -/
def Recorder.overrun (g : Recorder) (o : Option Nat) : Recorder :=
  match o with
  | none => g
  | some q => { g with marks := g.marks.map (fun (e : Nat × Mark) => if e.2.alloc ∧ e.2.seq = q then (e.1, { e.2 with overrun := true }) else e) }

/-- One record is written to a leaf's copy. -/
def State.logPut (s : State) (l : Leaf) (r : EventRec) : State :=
  let c := (s.leaf l).log
  let s := if l = s.act then { s with lg := s.lg.overrun (c.overwritten r) } else s
  s.modLeaf l (fun x => { x with log := c.put r })

/-- A leaf writes its queue out (R695). -/
def State.logFlush (s : State) (l : Leaf) : State :=
  let q := (s.leaf l).log.queue
  let ok := (s.leaf l).writeOk && !(s.leaf l).log.failed
  let s := if ok then q.foldl (fun s r => s.logPut l r) s else s
  s.modLeaf l (fun x => { x with log := { x.log with queue := [] } })

/-! ### Record writes (R676, R682 to R684) -/

/-- Region and 4 KiB block of a record: 0 keep, 1 ring. -/
def LogCopy.block (c : LogCopy) (r : EventRec) : Nat × Nat :=
  if c.ring.isEmpty ∧ r.seq ≤ 4096 then (0, (r.seq + 4095) % 4096 / 128) else (1, seqDist 4097 r.seq % 65536 / 128)

/-- A read-back mismatch: the lowest free spare takes the block's readable records and the record; `lost` could not be read. -/
def State.mediaFault (s : State) (l : Leaf) (r : EventRec) (lost : List Nat) : State :=
  let c := (s.leaf l).log
  let b := c.block r
  let s := { s with lg := { s.lg with mediaFaults := satAdd 16 s.lg.mediaFaults 1, logDegraded := setBit s.lg.logDegraded l.num true } }
  if c.spares ≥ 64 then
    (s.modLeaf l (fun x => { x with log := { x.log with failed := true, queue := [] } })).raiseO Ev.logFailed l.num l.num []
  else
    let keep := fun (x : EventRec) => !lost.contains x.seq
    let c' := { c with spares := c.spares + 1, remap := c.remap ++ [(b.1 * 32 + b.2, c.spares)], lost := c.lost ++ lost
                       keep := c.keep.filter keep, ring := c.ring.filter keep }
    let s := (s.modLeaf l (fun x => { x with log := c' })).logPut l r
    s.raiseO Ev.logMediaFault l.num l.num [p1 0, p1 b.1, p2 b.2, p4 lost.length, p4 (64 - c'.spares)]

/-- EVENT_RECORD_WRITTEN: the record at the head of a leaf's queue is written and read back. -/
def execEventRecordWritten (t : Nat) (l : Leaf) (ok : Bool) (lost : List Nat) (s : State) : Ans :=
  at' t (fun s =>
    let x := s.leaf l
    match x.log.queue with
    | [] => s
    | r :: rest =>
      if !x.supplied || s.fencedL l || x.log.failed || s.aon.dev == .safe || !(x.writeOk || decide (s.time.now ≤ x.refuseNow + 30000)) then s
      else
        let s := s.setLeaf l { x with log := { x.log with queue := rest } }
        let s := if ok then s.logPut l r else s.mediaFault l r lost
        s.queueLoss) s

/-! ### Token buckets (R673, R674) -/

/-- TOKEN_REFILL at a multiple of the code's interval from the start sweep's sample instant. -/
def execTokenRefill (t : Nat) (code : Nat) (s : State) : Ans :=
  at' t (fun s =>
    let iv := refillNs (s.cfg.evClass code).2
    let b : Bucket := kget {} s.lg.buckets code
    let from0 := s.sw.firstSample
    if iv = 0 ∨ !s.sw.started ∨ s.time.now ≤ from0 ∨ (s.time.now - from0) / 10 % (iv / 10) ≠ 0 ∨ s.time.now ≤ b.refill then s
    else
      let s := s.suppRaise code
      { s with lg := { s.lg with buckets := kset {} s.lg.buckets code { b with used := b.used - 1, supp := 0, first := 0, refill := s.time.now } } }) s

/-! ### Marks (R686, R687) -/

/-- A mark. -/
def State.mark (s : State) (m : Nat) : Mark := kget {} s.lg.marks m
/-- A mark replaced. -/
def State.setMark (s : State) (m : Nat) (x : Mark) : State := { s with lg := { s.lg with marks := kset {} s.lg.marks m x } }

/-- The record of a sequence number in a copy. -/
def LogCopy.find (c : LogCopy) (q : Nat) : Option EventRec :=
  match c.ring.find? (fun r => r.seq == q) with
  | some r => some r
  | none => c.keep.find? (fun r => r.seq == q)

/-- The oldest record held: of the keep region, else of the ring. -/
def LogCopy.oldest (c : LogCopy) : Option Nat := match c.keep.getLast? with | some r => some r.seq | none => c.ring.getLast?.map (·.seq)

/-- OLDEST_SEQ: the oldest record of the ring region; NEXT_SEQ while it holds none. -/
def State.ringOldest (s : State) (c : LogCopy) : Nat := (c.ring.getLast?.map (·.seq)).getD s.lg.nextSeq

/-- MARK_ALLOC. -/
def State.markAlloc (s : State) (q : HReq) : HR :=
  let c := (s.leaf s.act).log
  let w := arg q 0 1
  let seq := if w = 0 then c.oldest.getD s.lg.nextSeq else if w = 1 then s.lg.nextSeq else arg q 4 4
  if w > 2 then s.ans St.bounds
  else match (upto 16).find? (fun m => !(s.mark m).alloc) with
    | none => s.ans St.denied
    | some m =>
      if w = 2 ∧ seq ≠ s.lg.nextSeq ∧ (c.find seq).isNone then s.ans St.bounds
      else (s.setMark m { alloc := true, owner := q.sess, seq := seq, allocTime := s.devTime }).ansOk [byteOf m]

/-- MARK_ALLOC (R687). -/
def execMarkAlloc (t : Nat) (q : HReq) (s : State) : Ans :=
  at' t (fun s => s.cmd q 0x0010 (fun s => s.may q.sess Perm.mark) (· == 8) (fun s => s.markAlloc q)) s

/-- MARK_FREE: only by the owner (R686). -/
def State.markFree (s : State) (q : HReq) : HR :=
  let m := arg q 0 1
  if m > 15 then s.ans St.bounds
  else if !(s.mark m).alloc || (s.mark m).owner != q.sess then s.ans St.denied
  else (s.setMark m {}).ansOk []

/-- MARK_FREE (R687). -/
def execMarkFree (t : Nat) (q : HReq) (s : State) : Ans :=
  at' t (fun s => s.cmd q 0x0011 (fun s => s.may q.sess Perm.mark) (· == 4) (fun s => s.markFree q)) s

/-! ### MARK_READ (R688 to R691) -/

/-- What a read gathers: the mark, the records newest first, LOST, GAP, END. -/
structure MarkWalk where
  seq : Nat
  recs : List EventRec := []
  lost : Nat := 0
  gap : Bool := false
  fin : Bool := false
  deriving DecidableEq, Repr

/-- A number lies in the span of the keep region. -/
def LogCopy.inKeep (c : LogCopy) (q : Nat) : Bool := !c.keep.isEmpty && decide (1 ≤ q ∧ q ≤ 4096)

/-- From the mark onward, by fuel: records are placed, missing numbers of the copy are skipped, records still in the queue
and numbers that have left the ring end the read. -/
def markWalk (c : LogCopy) (next old count : Nat) : Nat → MarkWalk → MarkWalk
  | 0, w => w
  | k + 1, w =>
    if w.seq = next then { w with fin := true }
    else if w.recs.length = count then w
    else match c.find w.seq with
      | some r =>
        let n := (w.seq + 1) % 4294967296
        if r.crc = crc16 r.head then markWalk c next old count k { w with seq := n, recs := r :: w.recs }
        else markWalk c next old count k { w with seq := n, gap := true, lost := w.lost + 1 }
      | none =>
        if c.queue.any (fun r => r.seq == w.seq) then w
        else if c.inKeep w.seq ∨ seqDist old w.seq < seqDist old next then
          markWalk c next old count k { w with seq := (w.seq + 1) % 4294967296, gap := true, lost := w.lost + 1 }
        else w

/-- MARK_READ: the window is filled from a copy and the mark advances. DESIGN CHOICE, log 87. -/
def State.markRead (s : State) (q : HReq) : HR :=
  let m := arg q 0 1
  let copy := arg q 1 1
  let n := arg q 2 1
  let l := if copy = 0 then s.act else if copy = 1 then Leaf.a else Leaf.b
  let x := s.mark m
  if m > 15 ∨ copy > 2 ∨ n = 0 ∨ n > 127 then s.ans St.bounds
  else if !x.alloc || x.owner != q.sess || !s.running l || (s.leaf l).log.failed then s.ans St.denied
  else if s.lg.winHeld ∧ s.lg.winOwner ≠ q.sess ∧ s.time.now < s.lg.winTime + 1000000000 then s.ans St.busy
  else
    let c := (s.leaf l).log
    let next := s.lg.nextSeq
    let old := s.ringOldest c
    let left := !(x.seq == next || (c.find x.seq).isSome || c.inKeep x.seq || decide (seqDist old x.seq < seqDist old next) ||
      c.queue.any (fun r => r.seq == x.seq))
    let w := markWalk c next old n 70000 { seq := if left then old else x.seq, lost := if left then seqDist x.seq old else 0 }
    let recs := w.recs.reverse
    let first := match recs with | r :: _ => r.seq | [] => Config.freeNat s.free % 4294967296
    let s := if recs.isEmpty then s.draw else s
    let st := packBits [left, w.gap, w.fin]
    let gen := (s.lg.winGen + 1) % 4294967296
    let s := s.setMark m { x with seq := w.seq, readTime := s.devTime, lostTotal := satAdd 32 x.lostTotal w.lost }
    let s := { s with lg := { s.lg with winOwner := q.sess, winGen := gen, winCopy := copy, winStatus := st, winFirst := first, winLost := w.lost
                                        winRecs := recs, winHeld := true, winTime := s.time.now } }
    s.ansOk ([byteOf st, byteOf recs.length, 0, 0] ++ toLe 4 first ++ toLe 4 w.lost ++ toLe 4 w.seq ++ toLe 4 gen)

/-- MARK_READ (R688). -/
def execMarkRead (t : Nat) (q : HReq) (s : State) : Ans :=
  at' t (fun s => s.cmd q 0x0012 (fun s => s.may q.sess Perm.mark) (· == 4) (fun s => s.markRead q)) s

/-- READ_WINDOW_HOLD_END (R689). -/
def execReadWindowHoldEnd (t : Nat) (s : State) : Ans :=
  at' t (fun s => if s.lg.winHeld ∧ s.lg.winTime + 1000000000 ≤ s.time.now then { s with lg := { s.lg with winHeld := false } } else s) s

end Sys2Proof.Machine
end

