-- ==== Sys2Proof/Machine/Leaves.lean ====
section
/-!
DEFINITION. Two leaves and the Knuckle: what fences a leaf (R24, R53, R54, R538, R546, R552), what the Knuckle carries
(R537), the rejoin (R49, R554), the commands on leaves (R556) and the rolling restart (R56).
-/
namespace Sys2Proof.Machine

/-! ### Fences -/

/-- A leaf is at work and the AON can fence it. -/
def State.fenceable (s : State) (l : Leaf) : Bool := (s.leaf l).supplied && !s.fencedL l && s.aon.dev != .off && s.aon.dev != .safe

/-- A leaf is fenced; in SLEEP the device wakes (R558, R700). -/
def State.fenceWake (s : State) (l : Leaf) (cause : Nat) : State := (s.fence l cause).wake 0x100

/-- After a watchdog reset or a leaf supply loss a thermal latch that is set is logged as carried, with its record as parameters
(R60, R783). -/
def State.logCarried (s : State) : State :=
  if s.aon.thermal then
    s.evAon Ev.thermalLatchCarried srcD [p1 s.aon.thCause, p2 s.aon.thSource, (2, ofSigned 2 s.aon.thValue), p4 s.aon.thSweep]
  else s

/-- WATCHDOG_EXPIRY (R54). -/
def execWatchdogExpiry (t : Nat) (l : Leaf) (s : State) : Ans :=
  at' t (fun s => if s.fenceable l then (s.fenceWake l Fc.watchdog).logCarried else s) s

/-- SRAM_UNCORRECTABLE (R24, R438). -/
def execSramUncorrectable (t : Nat) (l : Leaf) (word : Nat) (s : State) : Ans :=
  at' t (fun s => if s.fenceable l then (s.fenceWake l Fc.sram).evAon Ev.sramUncorrectable l.num [p4 word] else s) s

/-- HEARTBEAT_LOSS (R538): five heartbeats missed, each counted. DEDUCED, log 22. -/
def execHeartbeatLoss (t : Nat) (l : Leaf) (s : State) : Ans :=
  at' t (fun s =>
    if s.fenceable l then
      ({ s with kn := { s.kn with hbMisses := satAdd 16 s.kn.hbMisses 5 } } : State).fenceWake l Fc.heartbeat
    else s) s

/-- KNUCKLE_LINK_LOSS (R552): the HOT STANDBY is fenced. -/
def execKnuckleLinkLoss (t : Nat) (s : State) : Ans :=
  at' t (fun s =>
    let l := s.act.other
    if s.fenceable l && s.fenceable s.act then
      ({ s with kn := { s.kn with linkLost := true } } : State).fenceWake l Fc.link |>.evA Ev.knuckleLinkLoss srcD []
    else s) s

/-- The RAILS bit of a leaf's rail: 0 VDD, 1 VDDIO, 2 VDDL, 3 AVDD (R645). -/
def railBit (l : Leaf) (rail : Nat) : Nat := 4 * l.num + rail % 4

/-- LEAF_SUPPLY_LOSS (R53): the leaf is reset and fenced; a start of its own ends (R48). With Leaf A's rails the crystal XA
is lost (R9). DEDUCED, log 17. -/
def execLeafSupplyLoss (t : Nat) (l : Leaf) (rail : Nat) (s : State) : Ans :=
  at' t (fun s =>
    let x := s.leaf l
    if !x.supplied || s.aon.dev == .off then s
    else
      let s := { s with aon := { s.aon with supplyEvents := satAdd 16 s.aon.supplyEvents 1, xaGood := s.aon.xaGood && l != Leaf.a
                                            rails := setBit s.aon.rails (railBit l rail) false } }
      let s := if s.fenceable l then s.fenceWake l Fc.supply else s
      let s := if (s.leaf l.other).supplied then s else { s with time := { s.time with ppsOut := false } }
      let s := s.modLeaf l (fun x => { x with supplied := false, pllOk := false, mramOk := false, sramOk := false, rejoin := 0, regulated := false })
      (s.evAon Ev.supplyLoss l.num [p1 (railBit l rail)]).logCarried) s

/-! ### The Knuckle (R250, R536, R537) -/

/-- A sweep input that did not arrive twice is missing at the seal (R252). DEDUCED, log 23. -/
def State.itemLost (s : State) (dst : Leaf) (x : KnItem) : State :=
  if s.sw.phase = .collecting ∨ s.sw.phase = .exchanging then
    match x with
    | .sample r p => { s with sw := { s.sw with items := s.sw.items.map (fun (i : Item) =>
        if i.ring = r ∧ i.pos = p ∧ i.e = dst.other then (match dst with | .a => { i with inA := false } | .b => { i with inB := false }) else i) } }
    | .path k => { s with sw := { s.sw with lost := if s.sw.lost.contains (dst.num, k) then s.sw.lost else s.sw.lost ++ [(dst.num, k)] } }
    | .endMark => match dst with
      | .a => { s with sw := { s.sw with endA := false } }
      | .b => { s with sw := { s.sw with endB := false } }
    | .other => s
  else s

/-- KNUCKLE_TRANSFER_RECEIVED (R537): a transfer with a wrong CRC is asked for again, once; the second wrong copy is a link
error. A right copy is delivered; the items of a sweep are delivered unless this row says otherwise. DEDUCED, log 23. -/
def execKnuckleTransferReceived (t : Nat) (dst : Leaf) (item : KnItem) (bad again : Bool) (s : State) : Ans :=
  at' t (fun s =>
    if bad && again && s.fenceable dst && s.fenceable dst.other then
      ({ s with kn := { s.kn with linkErrors := satAdd 32 s.kn.linkErrors 1 } } : State).itemLost dst item
    else s) s

/-! ### Rejoin (R49, R554) -/

/-! The start of one leaf (R41, R45, R49, R57) -/

/-- BITTING_REJECTED (R73). Source 0 staging, 1 SLOT0, 2 SLOT1. -/
def rejectPs (e : Reject) (src : Nat) : List Param := [p1 e.reason, p1 src, p2 e.sec, p2 e.ty, p4 e.off]

/-- A leaf judges both of its slots. -/
def State.judgeSlots (s : State) (l : Leaf) : State :=
  let x := s.leaf l
  let a := judgeSlot s.stage.keys x.slot0
  let b := judgeSlot s.stage.keys x.slot1
  let s := s.setLeaf l { x with valid0 := a.1, valid1 := b.1 }
  let log := fun (o : Option Reject) (k : Nat) (s : State) => match o with
    | some e => s.raiseO Ev.bittingRejected srcD l.num (rejectPs e k)
    | none => s
  log b.2 2 (log a.2 1 s)

/-- START_REPORT (R57) of a start that began at `t0`. The number of the step and the time of the first sweep, which still lies
ahead, are open. DESIGN CHOICE, log 13. -/
def State.startReport (s : State) (t0 : Nat) : State :=
  (s.ev Ev.startReport srcD [p1 s.aon.resetCause, p1 (Config.caseCode Ev.startReport s.aon.lastStep), p4 ((s.time.now - t0) / 1000),
    p4 (Config.freeNat s.free)]).draw

/-- A leaf is released from reset and begins its start steps: REJOINING at step 2. DEDUCED, log 18. -/
def State.rejoinBegin (s : State) (l : Leaf) (cause : Nat) : State :=
  let s := { s with aon := { s.aon with resetCause := cause } }
  s.modLeaf l (fun x =>
    { x with
        st := .rejoining, rejoin := 2, t0 := s.time.now, rq := false, dbReq := false
        pllOk := false, mramOk := false, sramOk := false, valid0 := none, valid1 := none })

/-- The start steps of a leaf are done (R41, R49): its clock, MRAM and SRAM are good, its slots judged, its start reported. -/
def State.ownStartDone (s : State) (l : Leaf) : State :=
  let s := s.modLeaf l (fun x => { x with rejoin := 3, pllOk := true, mramOk := true, sramOk := true })
  (s.judgeSlots l).startReport (s.leaf l).t0

/-- LEAF_SUPPLY_RETURN (R49): the leaf runs its own start and rejoins, unless its role is to stay fenced (R534). DEDUCED, log 18. -/
def execLeafSupplyReturn (t : Nat) (l : Leaf) (s : State) : Ans :=
  at' t (fun s =>
    let x := s.leaf l
    if x.supplied || s.aon.dev == .off || !s.aon.vaon then s
    else
      let s := s.setLeaf l { x with supplied := true, t0 := s.time.now }
      let s := { s with aon := { s.aon with rails := [0, 1, 2, 3].foldl (fun r k => setBit r (railBit l k) true) s.aon.rails } }
      if x.st = .fenced ∧ x.cause ≠ Fc.role ∧ s.aon.dev ≠ .safe ∧ !s.aon.testEn then s.rejoinBegin l 2 else s) s

/-- Whether a leaf holds the running image in a valid slot (R76, R554 step 3). -/
def State.holdsRunning (s : State) (l : Leaf) : Bool :=
  s.aon.unkeyed || (s.leaf l).valid0 == some s.cfg.img || (s.leaf l).valid1 == some s.cfg.img

/-- A slot is copied across the Knuckle into a leaf (R47). DEDUCED, log 39. -/
def State.slotCopy (s : State) (l : Leaf) (k : Nat) : State :=
  let d := (s.leaf l.other).slot k
  let v := if k = 0 then (s.leaf l.other).valid0 else (s.leaf l.other).valid1
  let s := s.modLeaf l (fun x => x.modSlot k (fun _ => d))
  let s := s.modLeaf l (fun x => if k = 0 then { x with valid0 := v } else { x with valid1 := v })
  s.evA Ev.imageSlotRepaired l.num [p1 k, p4 d.seq]

/-- Step 7: the leaf's ring ends return; each port is at loss of signal until its link comes up (R229). -/
def State.portsBack (s : State) (l : Leaf) : State :=
  s.each (upto 16) (fun r s => if s.cfg.ringOn r || (r == 15 && s.cfg.uplink) then
    s.modRing r (fun x => match l with | .a => { x with losA := true } | .b => { x with losB := true }) else s)

/-- The learning store that the state copy brings, as the other leaf reads it, is written into the leaf's own MRAM (R554 step 5). -/
def State.learnCopy (s : State) (l : Leaf) : State :=
  let y := s.leaf l.other
  let m := (y.mramQ.foldl (fun (m : Mram) u => match u with | .learn .. => m.write u | _ => m) y.mram).learn
  s.modLeaf l (fun x => { x with mram := { x.mram with learn := m } })

/-- Step 6: the fence is cleared and the leaf runs as HOT STANDBY. DEDUCED, log 24. -/
def State.rejoined (s : State) (l : Leaf) : State :=
  let s := s.modLeaf l (fun x => { x with st := .running, cause := 0, rejoin := 0, rq := true })
  let s := { s with kn := { s.kn with linkLost := false, unsynced := false, roleDiffers := s.cfg.roleActive != s.act } }
  (((s.portsBack l).canFollow).rqFollow).evA Ev.leafRejoined l.num []

/-- A sweep boundary: the SYNC is due or leaves at this instant. DEDUCED, log 25. -/
def State.atBoundary (s : State) : Bool :=
  s.aon.unkeyed || ((s.sw.phase == .idle || s.sw.phase == .committed) && decide (s.sw.next ≤ s.time.now)) ||
  (s.sw.phase == .collecting && s.sw.ts == s.time.now)

/-- REJOIN_STEP_COMPLETE (R554). Step 5 begins at a commit point; with no image there is none and no sweep to wait for. DEDUCED, log 25, 27. -/
def execRejoinStepComplete (t : Nat) (l : Leaf) (ok : Bool) (s : State) : Ans :=
  at' t (fun s =>
    let x := s.leaf l
    if x.rejoin = 0 ∨ !x.supplied then s
    else if x.rejoin = 6 then (if s.atBoundary then s.rejoined l else s)
    else if x.rejoin = 5 then
      if x.st = .resyncing then (if ok then (s.learnCopy l).modLeaf l (fun x => { x with rejoin := 6 }) else s.rejoinFail l) else s
    else if !ok then s.rejoinFail l
    else if x.rejoin = 3 then
      let s := if s.holdsRunning l then s else s.slotCopy l s.stage.activeSlot
      s.modLeaf l (fun x => { x with rejoin := 4 })
    else if x.rejoin = 4 then s.setLeaf l { x with rejoin := 5, st := if s.aon.unkeyed then .resyncing else x.st }
    else s.ownStartDone l) s

/-! ### Commands (R556) -/

/-- A Hasp transition or an image apply is in progress. DEDUCED, log 26. -/
def State.midway (s : State) : Bool := s.cfg.strings.any (fun i => [1, 2, 4].any (· == (s.hs i).st)) || s.stage.st == 5

/-- The leaf an argument names. -/
def leafArg (n : Nat) : Leaf := if n = 0 then .a else .b

/-- LEAF_REJOIN. DEDUCED, log 18, 27. -/
def State.leafRejoin (s : State) (n : Nat) : HR :=
  if n > 1 then s.ans St.bounds
  else
    let x := s.leaf (leafArg n)
    if x.st ≠ .fenced ∨ x.cause = Fc.role then s.ans St.denied
    else (s.rejoinBegin (leafArg n) (if x.cause = Fc.watchdog then 3 else s.aon.resetCause)).ansOk []

/-- LEAF_REJOIN (R554, R556). -/
def execLeafRejoin (t : Nat) (q : HReq) (s : State) : Ans :=
  at' t (fun s => s.cmd q 0x0E01 (fun s => s.may q.sess Perm.restart) (· == 4) (fun s => s.leafRejoin (arg q 0 1))) s

/-- LEAF_FENCE. -/
def State.leafFence (s : State) (n : Nat) : HR :=
  if n > 1 then s.ans St.bounds
  else if !s.running (leafArg n).other then s.ans St.denied
  else if s.midway then s.ans St.busy
  else (s.fenceWake (leafArg n) Fc.command).ansOk []

/-- LEAF_FENCE (R556). -/
def execLeafFence (t : Nat) (q : HReq) (s : State) : Ans :=
  at' t (fun s => s.cmd q 0x0E02 (fun s => s.role q.sess == 3 && s.may q.sess Perm.restart) (· == 4) (fun s => s.leafFence (arg q 0 1))) s

/-- HANDOVER takes place at the next commit point, and is answered there. -/
def State.handoverAsk (s : State) (q : HReq) : HR :=
  if !s.bothRun then s.ans St.denied
  else if s.midway || s.kn.handoverAsked then s.ans St.busy
  else ({ s with kn := { s.kn with handoverAsked := true, handover := some (q.sess, q.tag) } } : State).later

/-- HANDOVER (R556). -/
def execHandover (t : Nat) (q : HReq) (s : State) : Ans :=
  at' t (fun s => s.cmd q 0x0E03 (fun s => s.may q.sess Perm.restart) (· == 0) (fun s => s.handoverAsk q)) s

/-- LEAF_SELFTEST: the tests run after the next commit point, at once where no sweep runs. DEDUCED, log 28. -/
def State.selftestAsk (s : State) (q : HReq) : HR :=
  if s.kn.arb ≠ 0 ∨ s.kn.selftestWait ∨ s.aon.dev = .sleep ∨ [Leaf.a, Leaf.b].any (fun l => (s.leaf l).st == .resyncing) then s.ans St.busy
  else
    let k := { s.kn with selftest := some (q.sess, q.tag) }
    ({ s with kn := if s.aon.unkeyed then { k with arb := 2 } else { k with selftestWait := true } } : State).later

/-- LEAF_SELFTEST (R556). -/
def execLeafSelftest (t : Nat) (q : HReq) (s : State) : Ans :=
  at' t (fun s => s.cmd q 0x0E04 (fun s => s.may q.sess Perm.read) (· == 0) (fun s => s.selftestAsk q)) s

/-! ### The rolling restart (R56) -/

/-- The HOT STANDBY is reset and begins its rejoin; no fence is logged. DEDUCED, log 18. -/
def State.restartStandby (s : State) : State :=
  let l := s.act.other
  let s := s.knuckleCancel.logFlush l
  let s := ((s.modLeaf l (fun x => { x with mramQ := [], cause := 0 })).snapCut l).fenceRings l
  ((s.rejoinBegin l 5).stageAbandon 4).canFollow.logCarried

/-- RESTART with MODE = ROLLING. DEDUCED, log 20. -/
def State.restartRolling (s : State) : HR :=
  if !s.bothRun then s.ans St.denied
  else if s.midway || s.kn.rolling != 0 || s.kn.handoverAsked then s.ans St.busy
  else
    let s := (s.pickDisarm 9).restartStandby
    ({ s with kn := { s.kn with rolling := 1 } } : State).ansOk []

/-- A handover of the rolling restart is due at the next commit point; with no image, at once. -/
def State.rollHandover (s : State) (k : Nat) : State :=
  let s := { s with kn := { s.kn with rolling := k } }
  if s.aon.unkeyed then s.handoverNow else { s with kn := { s.kn with handoverAsked := true } }

/-- ROLLING_RESTART_ADVANCE (R56): when the leaf restarted has rejoined, or the handover has taken place. DEDUCED, log 20. -/
def execRollingRestartAdvance (t : Nat) (s : State) : Ans :=
  at' t (fun s =>
    let k := s.kn
    if !s.bothRun || k.handoverAsked || k.arb != 0 then s
    else match k.rolling with
      | 1 => s.rollHandover 2
      | 2 => (fun s => ({ s with kn := { s.kn with rolling := 3 } } : State)) s.restartStandby
      | 3 => if s.cfg.dual && s.act != s.cfg.roleActive then s.rollHandover 4 else { s with kn := { k with rolling := 0 } }
      | 4 => { s with kn := { k with rolling := 0 } }
      | _ => s) s

/-! ### Core supply and MRAM (R25, R33) -/

/-- VDD_MODE_CHANGE (R33): above 0.97 V the core is regulated, below 0.95 V fed directly; nothing else changes. -/
def execVddModeChange (t : Nat) (l : Leaf) (regulated : Bool) (s : State) : Ans :=
  at' t (fun s => if (s.leaf l).supplied then s.modLeaf l (fun x => { x with regulated := regulated }) else s) s

/-- A leaf's memory may finish a unit: while its writes are allowed, or the unit in programming within 30 µs after a refusal (R421). -/
def State.unitEnds (s : State) (l : Leaf) : Bool :=
  let x := s.leaf l
  x.supplied && !s.fencedL l && (x.writeOk || decide (s.time.now ≤ x.refuseNow + 30000))

/-- MRAM_UNIT_WRITE_COMPLETE (R25, R421): the first unit of the queue is written and leaves it. A failed write leaves the memory as it
was, and the leaf reads the old learning-store entry again. With nothing queued it is the next unit of the snapshot in hand, which a
failure leaves to be written. DEDUCED, log 94. -/
def execMramUnitWriteComplete (t : Nat) (l : Leaf) (ok : Bool) (s : State) : Ans :=
  at' t (fun s =>
    let x := s.leaf l
    if !s.unitEnds l then s
    else match x.mramQ with
      | [] => if ok && x.snapGo && !s.aon.thermal && decide (x.snapIdx < 4096) then s.snapUnit l else s
      | u :: r =>
        let s := s.setLeaf l { x with mramQ := r, mram := if ok then x.mram.write u else x.mram }
        match u with
        | .learn c _ => if !ok && s.act == l then s.learnBack l c false else s
        | _ => s) s

end Sys2Proof.Machine
end

