-- ==== Sys2Proof/Machine/TestPort.lean ====
section
/-!
DEFINITION. The test access port (R751, R752): the TAP controller of IEEE 1149.1 with BYPASS, IDCODE, SAMPLE/PRELOAD and EXTEST.
-/
namespace Sys2Proof.Machine

/-- The next state of the TAP controller at a rising edge of TCK (IEEE 1149.1). -/
def TapSt.next (x : TapSt) (tms : Bool) : TapSt :=
  match x, tms with
  | .testLogicReset, true => .testLogicReset
  | .testLogicReset, false => .runTestIdle
  | .runTestIdle, true => .selectDr
  | .runTestIdle, false => .runTestIdle
  | .selectDr, true => .selectIr
  | .selectDr, false => .captureDr
  | .captureDr, true => .exit1Dr
  | .captureDr, false => .shiftDr
  | .shiftDr, true => .exit1Dr
  | .shiftDr, false => .shiftDr
  | .exit1Dr, true => .updateDr
  | .exit1Dr, false => .pauseDr
  | .pauseDr, true => .exit2Dr
  | .pauseDr, false => .pauseDr
  | .exit2Dr, true => .updateDr
  | .exit2Dr, false => .shiftDr
  | .updateDr, true => .selectDr
  | .updateDr, false => .runTestIdle
  | .selectIr, true => .testLogicReset
  | .selectIr, false => .captureIr
  | .captureIr, true => .exit1Ir
  | .captureIr, false => .shiftIr
  | .shiftIr, true => .exit1Ir
  | .shiftIr, false => .shiftIr
  | .exit1Ir, true => .updateIr
  | .exit1Ir, false => .pauseIr
  | .pauseIr, true => .exit2Ir
  | .pauseIr, false => .pauseIr
  | .exit2Ir, true => .updateIr
  | .exit2Ir, false => .shiftIr
  | .updateIr, true => .selectDr
  | .updateIr, false => .runTestIdle

/-- IDCODE (R752). -/
def tapIdcode : Nat := Config.siliconRev % 16 * 2 ^ 28 + 0x8800 * 2 ^ 12 + 0x3A7 * 2 + 1

/-- The `n` low bits of a number, lowest first. -/
def bitsOf (n x : Nat) : List Bool := (upto n).map x.testBit

/-- A register shifted one place: TDI enters at the top. -/
def shiftIn (l : List Bool) (tdi : Bool) : List Bool := l.drop 1 ++ [tdi]

/-- The instruction that a code selects: all ones are BYPASS, and every debug instruction is refused, which leaves BYPASS
(R752). DESIGN CHOICE, log 98. -/
def tapInsOf (code : List Bool) : TapIns :=
  if code.all id then .bypass
  else match Config.tapCode code with
    | 1 => .idcode
    | 2 => .sample
    | 3 => .extest
    | _ => .bypass

/-- The register between TDI and TDO as it is captured. What the balls carry is the environment's: those levels are free. DESIGN
CHOICE, log 98. -/
def State.tapCapture (s : State) : State :=
  match s.tap.ins with
  | .bypass => { s with tap := { s.tap with dr := [false] } }
  | .idcode => { s with tap := { s.tap with dr := bitsOf 32 tapIdcode } }
  | _ => ({ s with tap := { s.tap with dr := (upto Config.tapCells).map (fun k => Config.freeBool (s.free + k)) }
                   free := s.free + Config.tapCells } : State)

/-- One period of TCK: the action of the state that the rising edge leaves, and the level on TDO after the falling edge. -/
def State.tapEdge (s : State) (x : TckEdge) : State × Option Bool :=
  if !x.trst then ({ s with tap := {} }, none)
  else
    let k := s.tap
    let next := k.st.next x.tms
    let s := { s with tap := { k with st := next } }
    match k.st with
    | .testLogicReset => ({ s with tap := { s.tap with ins := .idcode, cells := [] } }, none)
    | .captureDr => (s.tapCapture, none)
    | .shiftDr => ({ s with tap := { s.tap with dr := shiftIn k.dr x.tdi } }, k.dr.head?)
    | .updateDr => ({ s with tap := { s.tap with
        cells := if k.ins = .sample ∨ k.ins = .extest then k.dr else k.cells } }, none)
    | .captureIr => ({ s with tap := { s.tap with ir := bitsOf Config.tapIrLength 1 } }, none)
    | .shiftIr => ({ s with tap := { s.tap with ir := shiftIn k.ir x.tdi } }, k.ir.head?)
    | .updateIr => ({ s with tap := { s.tap with ins := tapInsOf k.ir } }, none)
    | _ => (s, none)

/-- The periods of TCK of a stay in test mode; what TDO shifts out is put out. With TEST_EN low the TAP stays in reset (R751). -/
def State.tapRun (s : State) (l : List TckEdge) : State :=
  let r := l.foldl (fun (a : State × List Bool) x => let b := a.1.tapEdge x; (b.1, a.2 ++ b.2.toList)) (s, [])
  if r.2.isEmpty then r.1 else r.1.emit (.tdo r.2)

end Sys2Proof.Machine
end

