-- ==== Sys2Proof/Machine/Start.lean ====
section
/-!
DEFINITION. Supplies, starts and resets (R30 to R61): the timeline of R41, the image chosen (R45, R46), the records at a start,
the snapshot restored (R44, R349), RUN, HALT and UNKEYED, POR, and RESTART with MODE = FULL (R55).
-/
namespace Sys2Proof.Machine

/-! ### What survives (R53, R430, R485, R524, R680, R686) -/

/-- A leaf at a start: its MRAM survives, its SRAM does not. -/
def LeafRec.atStart (x : LeafRec) (now : Nat) (supplied : Bool) : LeafRec :=
  { supplied := supplied, pllOk := supplied, mramOk := supplied, t0 := now, slot0 := x.slot0, slot1 := x.slot1
    log := { x.log with queue := [] }, snapA := x.snapA, snapB := x.snapB, mram := x.mram, regulated := x.regulated }

/-- The newest of sequence numbers compared modulo 2^32. -/
def newestSeq : List Nat → Option Nat
  | [] => none
  | a :: r => match newestSeq r with
    | none => some a
    | some b => if seqDist a b < 2147483648 then some b else some a

/-- The next SEQUENCE at a start (R681): records with a matching CRC in either copy or in the emergency area. -/
def State.seqAtStart (s : State) : Nat :=
  let heads := fun (c : LogCopy) => ((c.ring ++ c.keep).filter (fun r => r.crc == crc16 r.head)).head?.toList.map (·.seq)
  let em := (s.lg.emerg.filter (fun e => e.2.crc == crc16 e.2.head)).map (·.2.seq)
  match newestSeq (heads s.la.log ++ heads s.lb.log ++ em) with
  | some q => (q + 1) % 4294967296
  | none => 1

/-- The recorder at a start: counters from zero, full buckets; MRAM and the emergency area stay. -/
def State.recAtStart (s : State) : Recorder :=
  { nextSeq := s.seqAtStart, mediaFaults := s.lg.mediaFaults, marks := s.lg.marks, emerg := s.lg.emerg, emergNext := s.lg.emergNext
    emergCount := s.lg.emergCount, logDegraded := packBits [s.la.log.failed, s.lb.log.failed] }

/-- A channel at a start: what the AON domain holds of it (R524) and the level of its pin. -/
def Chan.atStart (x : Chan) : Chan :=
  { latch := x.latch, restarts := x.restarts, grant := x.grant, pin := x.pin, latchNow := x.latchNow, decayFrom := x.decayFrom, offNow := x.offNow }

/-- The power die at a start: the banks' supplies stay, every channel is off (R39). `kept`: the AON domain was not reset. -/
def Power.atStart (p : Power) (kept : Bool) : Power :=
  { banks := p.banks.map (fun (e : Nat × Bank) => (e.1, { powered := e.2.powered, ov := e.2.ov, off := kept && e.2.off }))
    chans := p.chans.map (fun (e : Nat × Chan) => (e.1, if kept then e.2.atStart else ({ pin := e.2.pin } : Chan))) }

/-- The records at a start. `latched`: the latched trips of strings stay, in the retention SRAM or else from their MRAM unit (R430);
`kept`: the AON domain stays; `aon`: its state. What MRAM keeps is read back. DEDUCED, log 47, 68. DESIGN CHOICE, log 106. -/
def State.fresh (s : State) (aon : Aon) (latched kept : Bool) (supA supB : Bool) (base : Int) : State :=
  let m := s.mramSrc supA supB
  let hasp : KMap HaspStr := m.opens.map (fun e => (e.1, e.2.record))
  let trips : KMap StrProt := if kept then s.prot.strs.map (fun (e : Nat × StrProt) => (e.1, e.2.restart))
    else m.latched.map (fun e => (e.1, { latched := e.2, acting := e.2 }))
  { pending := s.pending
    time := { now := s.time.now, t0 := s.time.now, base := base }
    aon := aon
    la := s.la.atStart s.time.now supA
    lb := s.lb.atStart s.time.now supB
    lg := s.recAtStart
    stage := { floor := m.floor, keys := s.stage.keys }
    ch := { rings := m.segs.map (fun e => (e.1, ({ t := e.2.t, segs := e.2.segs, uids := e.2.uids } : Ring))) }
    prot := { strs := if latched then trips else [] }
    hasp := { strs := hasp }
    lease := { startId := m.startId }
    power := s.power.atStart kept
    links := { maintEn := s.links.maintEn, maintSince := s.links.maintSince }
    nest := { boot := m.boot }
    com := { hasp := hasp, lease := { startId := m.startId } }
    out := s.out
    free := s.free }

/-- A start is counted (R489, R634): STARTS, START_ID and BOOT_COUNT, in the memory of each supplied leaf. Where the latched trips are
cleared, the MRAM unit is cleared with them (R430). -/
def State.countStart (s : State) (latched : Bool) : State :=
  let n := satAdd 32 s.aon.starts 1
  let i := (s.lease.startId + 1) % 65536
  let b := (s.nest.boot + 1) % 65536
  let s := s.modLeaves (fun x => if x.supplied then
    { x with mram := { x.mram with starts := n, startId := i, boot := b, latched := if latched then x.mram.latched else [] } } else x)
  { s with aon := { s.aon with starts := n }, lease := { s.lease with startId := i }, nest := { s.nest with boot := b }
           com := { s.com with lease := { s.com.lease with startId := i } } }

/-- LOG_START, the first record of a start (R681). -/
def State.logStart (s : State) : State :=
  s.ev Ev.logStart srcD [p1 s.aon.resetCause, p1 (packBits [s.la.log.failed, s.lb.log.failed]), p1 s.la.log.spares, p1 s.lb.log.spares,
    p4 s.aon.starts, p1 s.lg.emergCount]

/-- Staging that the loss of VAON cut off is abandoned and logged as the device starts again (R81). DEDUCED, log 97. -/
def State.stagingLost (s : State) (lost : Option Nat) : State :=
  match lost with
  | some n => s.ev Ev.stagingAborted srcD [p1 (Config.caseCode Ev.stagingAborted 3), p4 n]
  | none => s

/-- A step of R41 is reached. -/
def State.stepDone (s : State) (k : Nat) : State := { s with aon := { s.aon with lastStep := k } }

/-! ### Supplies (R31, R35, R41, R48, R53, R58, R59) -/

/-- The AON domain at supplies valid: the latches by the length of the absence. The second result tells a power cycle. DESIGN CHOICE, log 11. DEDUCED, log 12. -/
def State.aonAtPower (s : State) (testEn : Bool) (absence : Option Nat) : Aon × Bool :=
  let a := s.aon
  let cycle := match absence with
    | none => true
    | some d => if d < 8000000 then false else if d ≥ 10000000 then true else Config.freeBool s.free
  let cause := match absence with | none => 0 | some _ => if cycle then 1 else 0
  let th := !cycle && a.holdThermal
  let db := !cycle && a.holdDb
  ({ vaon := true, testEn := testEn, dev := .start, resetCause := cause
     holdThermal := th, holdThermalCause := if th then a.holdThermalCause else 0, holdDb := db, holdDbCause := if db then a.holdDbCause else 0
     dbLatch := db, dbCause := if db then a.holdDbCause else 0, thermal := th, thCause := if th then a.holdThermalCause else 0, carried := th }, cycle)

/-- RAILS of the supplied leaves. -/
def railsOf (railsA railsB : Bool) : Nat := 15 * b2n railsA + 240 * b2n railsB

/-- SUPPLIES_VALID (R31, R41, R48): t0. An unsupplied leaf is fenced with cause SUPPLY. TEST_EN holds both leaves in reset. DESIGN CHOICE, log 11. DEDUCED, log 17, 30. -/
def execSuppliesValid (t : Nat) (railsA railsB : Bool) (test : Option (List TckEdge)) (absence : Option Nat) (s : State) : Ans :=
  atPower t (fun s =>
    if s.aon.dev ≠ .off then s
    else if !railsA && !railsB then { s with aon := { s.aon with vaon := true, faultHold := true } }
    else
      let a := s.aonAtPower test.isSome absence
      let lost := s.stage.aborted
      let s := { s with lg := { s.lg with emerg := [], emergNext := 0, emergCount := 0 } }
      let n := (s.mramSrc railsA railsB).starts
      let s := s.draw.fresh { a.1 with rails := railsOf railsA railsB, xaGood := railsA, starts := n } (!a.2) false railsA railsB (-(s.time.now : Int))
      let s := s.countStart (!a.2)
      match test with
      | some tck => (s.stepDone 1).tapRun tck
      | none =>
        let s := (s.logStart.stagingLost lost).stepDone 1
        if !railsA then s.fence .a Fc.supply else if !railsB then s.fence .b Fc.supply else s) s

/-- A start is in progress and its leaves are out of reset. DEDUCED, log 14. -/
def State.starting (s : State) : Bool := s.aon.dev == .start && !s.aon.testEn

/-- A leaf is in its start steps: those of the device, or its own (R48, R49). -/
def State.leafStarting (s : State) (l : Leaf) : Bool :=
  (s.starting && s.running l) || ((s.leaf l).supplied && (s.leaf l).st == .rejoining && (s.leaf l).rejoin == 2)

/-- PLL_LOCK_TIMEOUT (R36). -/
def execPllLockTimeout (t : Nat) (l : Leaf) (s : State) : Ans :=
  at' t (fun s =>
    if s.leafStarting l && decide ((s.leaf l).t0 + 400000 ≤ s.time.now) then
      ((s.modLeaf l (fun x => { x with pllOk := false })).fence l Fc.start).evAon Ev.clockLoss l.num [p1 2]
    else s) s

/-- X32_FALLBACK (R35). -/
def execX32Fallback (t : Nat) (s : State) : Ans :=
  at' t (fun s =>
    if s.aon.vaon && !s.aon.x32Fallback then ({ s with aon := { s.aon with x32Fallback := true } } : State).evAon Ev.x32Fallback srcD [] else s) s

/-- MRAM_READY_TIMEOUT (R48). -/
def execMramReadyTimeout (t : Nat) (l : Leaf) (s : State) : Ans :=
  at' t (fun s =>
    if s.leafStarting l && decide ((s.leaf l).t0 + 1000000 ≤ s.time.now) then
      (s.modLeaf l (fun x => { x with mramOk := false })).fence l Fc.start
    else s) s

/-- SRAM_MARCH_COMPLETE (R48). -/
def execSramMarchComplete (t : Nat) (l : Leaf) (pass : Bool) (s : State) : Ans :=
  at' t (fun s =>
    if s.leafStarting l then (if pass then s.modLeaf l (fun x => { x with sramOk := true }) else s.fence l Fc.start) else s) s

/-- XA_JUDGED_GOOD (R9): the reference returns to XA. DEDUCED, log 17. -/
def execXaJudgedGood (t : Nat) (s : State) : Ans :=
  at' t (fun s => if s.aon.vaon && (s.la).supplied then { s with aon := { s.aon with xaGood := true } } else s) s

/-- What the object map shows before the first commit point: the records as the start leaves them (R320, R627). -/
def State.comStart (s : State) : State :=
  { s with com := { s.com with rings := s.ch.rings, nodes := s.ch.nodes, prot := s.prot, th := s.th, cells := s.est.cells, strs := s.est.strs
                               hasp := s.hasp.strs, lease := s.lease } }

/-! ### The image at a start (R45, R46, R76) -/

/-- SLOTS_JUDGED (R45). -/
def execSlotsJudged (t : Nat) (s : State) : Ans :=
  at' t (fun s =>
    if s.starting && s.aon.lastStep == 1 then
      (s.each [Leaf.a, Leaf.b] (fun l s => if s.running l then s.judgeSlots l else s)).stepDone 4
    else s) s

/-- The valid slots of a leaf: slot and image. -/
def LeafRec.valids (x : LeafRec) : List (Nat × Image) :=
  (match x.valid0 with | some g => [(0, g)] | none => []) ++ (match x.valid1 with | some g => [(1, g)] | none => [])

/-- The highest-numbered of images with their slots. -/
def topImage (l : List (Nat × Image)) : Option (Nat × Image) :=
  l.foldl (fun b x => match b with | none => some x | some y => if y.2.seq < x.2.seq then some x else some y) none

/-- The image to apply with its slot, and the leaf to fence (R46). -/
def State.chooseImage (s : State) : Option (Nat × Image) × Option Leaf :=
  let a := if s.running .a then s.la.valids else []
  let b := if s.running .b then s.lb.valids else []
  if !s.bothRun then (topImage (a ++ b), none)
  else match topImage (a.filter (fun x => b.any (fun y => y.2 == x.2))), topImage a, topImage b with
    | some x, _, _ => (some x, none)
    | none, none, none => (none, none)
    | none, some x, none => (some x, some .b)
    | none, none, some y => (some y, some .a)
    | none, some x, some y => if y.2.seq > x.2.seq then (some y, some .a) else (some x, some .b)

/-- IMAGE_AGREED (R46). -/
def execImageAgreed (t : Nat) (s : State) : Ans :=
  at' t (fun s =>
    if s.starting && s.aon.lastStep == 4 && [Leaf.a, Leaf.b].all (fun l => !s.running l || (s.leaf l).sramOk) then
      let c := s.chooseImage
      let s := match c.2 with | some l => s.fence l Fc.image | none => s
      if s.aon.dev ≠ .start then s
      else
        let s := match c.1 with
          | some x => { s with stage := { s.stage with image := some x.2, target := x.1 } }
          | none => { s with aon := { s.aon with unkeyed := true } }
        s.stepDone 5
    else s) s

/-! ### Applying it (R41, R44, R349, R534) -/

/-- The snapshot of a leaf that counts, the one with the higher SNAP_SEQ. -/
def LeafRec.goodSnap (x : LeafRec) : Option Snap :=
  match x.snapA.counts, x.snapB.counts with
  | true, true => some (if x.snapA.seq ≥ x.snapB.seq then x.snapA else x.snapB)
  | true, false => some x.snapA
  | false, true => some x.snapB
  | false, false => none

/-- The cells that a snapshot restores under the applied image. -/
def State.snapCells (s : State) (n : Snap) : List Nat :=
  if n.imageSeq = s.cfg.img.seq then s.cfg.cells
  else if bit s.cfg.img.flags 0 then []
  else match (s.la.valids ++ s.lb.valids).find? (fun x => x.2.seq == n.imageSeq) with
    | some (_, g) => s.cfg.cells.filter (fun k => cellKept { img := g, ov := [] } s.cfg k)
    | none => []

/-- Every cell record at a start: restored from the newest valid snapshot, or as at commissioning (R44, R315, R316, R349). -/
def State.restoreCells (s : State) : State :=
  let s := (s.estStart (fun _ => false)).learnStart (fun _ => false) false
  let pick := s.cfg.roleActive
  let from' := fun (l : Leaf) => if s.running l then (s.leaf l).goodSnap else none
  match (match from' pick with | some n => some n | none => from' pick.other) with
  | none => s.ev Ev.snapshotNone srcD []
  | some n =>
    let ks := s.snapCells n
    let s := s.each ks (fun k s => s.setCell k (s.cfg.restored k (kget [] n.cells k)))
    s.ev Ev.snapshotRestored srcD [p4 n.seq, p4 n.lastSweep, p4 ks.length]

/-- The roles of the applied image (R534): in a single-leaf role the other leaf is fenced. -/
def State.takeRoles (s : State) : State :=
  let w := s.cfg.roleActive
  let s := if !s.cfg.dual && s.running w && s.running w.other then s.fence w.other Fc.role else s
  let l := if s.running w then w else w.other
  { s with kn := { s.kn with active := some l, roleDiffers := l != w } }

/-- An image comes into force where none was (R41, R52): roles, engines, sessions. -/
def State.applyImage (s : State) (g : Image) (slot : Nat) : State :=
  let s := { s with cfg := { img := g, ov := [] } }
  let s := s.takeRoles
  let s := { s with stage := { s.stage with activeSlot := slot, buildId := g.buildId, hingeSweep := 0, hingeTime := s.devTime, image := none, st := 0 } }
  let s := s.ev Ev.bittingApplied srcD [p4 g.seq, p1 slot, p4 0]
  let s := s.each (ignoredTypes g) (fun x s => s.ev Ev.sectionIgnored srcD [p2 x.1, p2 x.2])
  let s := s.restoreCells.thermalStart.portsRenew
  let s := s.each (upto 128) (fun k s => if s.cfg.slotOn k then s.modSess k (fun x => { x with st := 1 }) else s)
  s.levels.comStart

/-- START_APPLY_COMPLETE (R41). -/
def execStartApplyComplete (t : Nat) (s : State) : Ans :=
  at' t (fun s =>
    if s.starting && s.aon.lastStep == 5 then
      match s.stage.image with
      | some g => (s.applyImage g s.stage.target).stepDone 6
      | none => s
    else s) s

/-! ### RUN (R41, R48, R50, R57, R202) -/

/-- What the start's bounds grow by (R202): 8.5 ms for each further 1,024 B of a node's configuration records. -/
def Cfg.startExtra (c : Cfg) : Nat :=
  let big := (c.allNodes.map (fun x => sumN ((c.nodeRecs x.1 x.2).map (fun r => r.2.length)))).foldl max 0
  ceilDiv (big - 1024) 1024 * 8500000

/-- The rings begin their enumeration, the start sweep is due after `ns` (R41, R202). -/
def State.beginRings (s : State) (ns : Nat) : State :=
  let s := { s with sw := { s.sw with next := s.time.now + ns + s.cfg.startExtra, phase := .idle, period := s.cfg.n Ty.device 0 0x41, cPeriod := s.cfg.n Ty.device 0 0x41 } }
  s.each s.cfg.rings (fun r s => s.enumerate r 1)

/-- The power die gets modes and enables of the powered banks; the ACTIVE leaf sends the keep-alive. -/
def State.beginPower (s : State) : State :=
  ({ s with power := { s.power with keepalive := true, kaPath := s.act.num } } : State).banksLive

/-- RUN_ENTRY: RUN, HALT with the thermal latch set, or RUN in the UNKEYED condition. -/
def execRunEntry (t : Nat) (s : State) : Ans :=
  at' t (fun s =>
    if s.starting && (s.aon.lastStep == 6 || (s.aon.lastStep == 5 && s.aon.unkeyed)) then
      let halt := s.aon.thermal
      let s := { s with aon := { s.aon with dev := if halt then .halt else .run, lastStep := 7 } }
      let s := s.modLeaves (fun x => if x.supplied ∧ x.st = .running then { x with rq := true } else x)
      let s := if s.kn.active.isNone then { s with kn := { s.kn with active := some s.act } } else s
      let s := if halt then s.holdSet 3 else s
      let s := if s.aon.unkeyed then s.holdSet 2 else s
      let s := if halt ∧ s.aon.carried then s.logCarried else s
      let s := if s.aon.unkeyed then s.evA Ev.unkeyedStart srcD [] else s
      let s := ((s.startReport s.time.t0).beginPower.canFollow).rqFollow
      if s.aon.unkeyed then s else s.beginRings (s.time.t0 + 35000000 - s.time.now)
    else s) s

/-! ### POR and the full restart (R53, R55, R60) -/

/-- POR (R53): the whole device is before t0 again. The hold cells, MRAM and the counts of starts stay. -/
def execPor (t : Nat) (s : State) : Ans :=
  atPower t (fun s =>
    if s.aon.dev = .off ∧ !s.aon.vaon then s
    else
      let a := s.aon
      let seq := s.lg.nextSeq
      let s := { s with lg := { s.lg with emerg := [], emergNext := 0, emergCount := 0 } }
      let n := s.fresh { holdThermal := a.holdThermal, holdThermalCause := a.holdThermalCause, holdDb := a.holdDb, holdDbCause := a.holdDbCause
                         starts := a.starts } true false false false s.time.base
      { n with lg := { n.lg with nextSeq := seq }
               la := { n.la with st := .running }, lb := { n.lb with st := .running }
               stage := { n.stage with aborted := if 1 ≤ s.stage.st ∧ s.stage.st ≤ 3 then some s.stage.received else s.stage.aborted } }) s

/-- The restart itself, after the answer. DESIGN CHOICE, log 42. DEDUCED, log 47. -/
def State.doRestart (s : State) : State :=
  let s := s.pickDisarm 9
  let s := if 1 ≤ s.stage.st ∧ s.stage.st ≤ 3 then
      s.stageIdle.evA Ev.stagingAborted srcD [p1 (Config.caseCode Ev.stagingAborted 3), p4 s.stage.received] else s
  let s := s.closeAll Cc.restart
  let s := s.each [Leaf.a, Leaf.b] (fun l s => if s.running l then s.logFlush l else s)
  let a := s.aon
  let a := { a with dev := .start, unkeyed := false, faultHold := true, resetCause := 4, lastStep := 0
                    hold := true, holdCause := 3, clearState := 0, clearResult := 0, armSlot := 0xFF, armTime := 0, armNow := 0, bankActing := 0
                    carried := a.thermal }
  let sup := fun (x : LeafRec) => x.supplied
  let n := (s.mramSrc (sup s.la) (sup s.lb)).starts
  let s := (s.fresh { a with starts := n } true true (sup s.la) (sup s.lb) s.time.base).countStart true
  let s := s.logStart.stepDone 1
  if !s.la.supplied then s.fence .a Fc.supply else if !s.lb.supplied then s.fence .b Fc.supply else s

/-- RESTART by its MODE (R646): FULL is answered before the sessions close with it. -/
def State.restart (s : State) (q : HReq) : HR :=
  match arg q 0 1 with
  | 0 => if (upto 64).all (fun i => (s.hs i).st == 0) then ((s.answer q.sess q.tag St.ok []).doRestart).later else s.ans St.denied
  | 1 => s.restartRolling
  | _ => s.ans St.bounds

/-- RESTART_FULL (R55): every string is OPEN, else DENIED. -/
def execRestartFull (t : Nat) (q : HReq) (s : State) : Ans :=
  at' t (fun s => s.cmd q 0x0001 (fun s => s.may q.sess Perm.restart) (· == 4) (fun s => s.restart q)) s

/-- RESTART_ROLLING (R56). -/
def execRestartRolling (t : Nat) (q : HReq) (s : State) : Ans :=
  at' t (fun s => s.cmd q 0x0001 (fun s => s.may q.sess Perm.restart) (· == 4) (fun s => s.restart q)) s

end Sys2Proof.Machine
end

