-- ==== Sys2Proof/Machine/Image.lean ====
section
/-!
DEFINITION. Signer keys, staging, verification, the slot write, APPLY and REVERT (R70 to R91, R99, R727), the end of UNKEYED
(R52) and the repair of a slot (R47).
-/
namespace Sys2Proof.Machine

/-! ### Signer keys (R70 to R72) -/

/-- Every string is OPEN. -/
def State.allOpen (s : State) : Bool := s.liveStrs.isEmpty

/-- A key slot is blank. -/
def KeySlot.blank (k : KeySlot) : Bool := !k.programmed && !k.revoked

/-- A key slot is programmed and not revoked. -/
def KeySlot.live (k : KeySlot) : Bool := k.programmed && !k.revoked

/-- KEY_PROGRAM: the hash goes into the lowest blank slot. DEDUCED, log 31. -/
def State.keyProgram (s : State) (hash : List Byte) : HR :=
  if !s.aon.unkeyed && !s.allOpen then s.ans St.denied
  else match s.stage.keys.findIdx? KeySlot.blank with
    | none => s.ans St.denied
    | some k =>
      let s := { s with stage := { s.stage with keys := s.stage.keys.set k { hash := hash, programmed := true } } }
      (s.evA Ev.keyProgrammed srcD [p1 k, p4 (leAt hash 0 4), p4 (leAt hash 4 4)]).ansOk [byteOf k]

/-- KEY_PROGRAM (R71). -/
def execKeyProgram (t : Nat) (q : HReq) (s : State) : Ans :=
  at' t (fun s => s.cmd q 0x0107 (fun s => s.role q.sess == 3) (· == 32) (fun s => s.keyProgram q.args)) s

/-- The hash of the key that signed the running image (R69). -/
def State.runningKey (s : State) : Option (List Byte) :=
  if s.stage.activeSlot < 2 then some (sha256 ((s.cfg.img.payload Ty.device 0).take 64)) else none

/-- KEY_REVOKE: the revocation fuse of a slot is blown. DEDUCED, log 31. -/
def State.keyRevoke (s : State) (n : Nat) : HR :=
  match s.stage.keys[n]? with
  | none => s.ans St.bounds
  | some k =>
    if k.blank || s.runningKey == some k.hash || !(s.stage.keys.eraseIdx n).any KeySlot.live then s.ans St.denied
    else
      let s := { s with stage := { s.stage with keys := s.stage.keys.set n { k with revoked := true } } }
      (s.evA Ev.keyRevoked srcD [p1 n]).ansOk []

/-- KEY_REVOKE (R72). -/
def execKeyRevoke (t : Nat) (q : HReq) (s : State) : Ans :=
  at' t (fun s => s.cmd q 0x0108 (fun s => s.role q.sess == 3) (· == 4) (fun s => s.keyRevoke (arg q 0 1))) s

/-! ### Staging (R79 to R81) -/

/-- A leaf takes part in staging: it is supplied, and runs or resynchronises. DEDUCED, log 32. -/
def State.stages (s : State) (l : Leaf) : Bool :=
  (s.leaf l).supplied && ((s.leaf l).st == .running || ((s.leaf l).st == .resyncing && (s.leaf l).rejoin == 0))

/-- The leaves that the roles need for staging (R79, R88): both in a dual role; with no image there is no role. DEDUCED, log 32. -/
def State.leavesReady (s : State) : Bool := s.aon.unkeyed || !s.cfg.dual || (s.stages .a && s.stages .b)

/-- The leaves that take part in staging. DEDUCED, log 32. -/
def State.stagers (s : State) : List Leaf := [Leaf.a, Leaf.b].filter s.stages

/-- STAGE_OPEN. DEDUCED, log 33. -/
def State.stageOpen (s : State) (k len : Nat) : HR :=
  if s.stage.st ≠ 0 ∨ !s.leavesReady then s.ans St.busy
  else if len < 280 ∨ 1048576 < len ∨ len % 8 ≠ 0 then s.ans St.bounds
  else ({ s.stageIdle with stage := { s.stageIdle.stage with st := 1, sess := k, len := len, lastChunk := s.time.now } } : State).ansOk []

/-- STAGE_OPEN (R79, R727). -/
def execStageOpen (t : Nat) (q : HReq) (s : State) : Ans :=
  at' t (fun s => s.cmd q 0x0101 (fun s => s.may q.sess Perm.image) (· == 4) (fun s => s.stageOpen q.sess (arg q 0 4))) s

/-- A chunk enters the staging store of every leaf that takes part. -/
def State.stagePut (s : State) (off : Nat) (d : List Byte) : State :=
  s.each s.stagers (fun l s => s.modLeaf l (fun x => { x with stage := mputs x.stage off d }))

/-- STAGE_CHUNK at an offset of 512 B. A repeat with equal bytes has no further effect. DEDUCED, log 33. -/
def State.stageChunk (s : State) (k off : Nat) (d : List Byte) : HR :=
  if s.stage.st ≠ 1 ∨ s.stage.sess ≠ k then s.ans St.denied
  else
    let s := { s with stage := { s.stage with lastChunk := s.time.now } }
    let g := s.stage
    if off % 512 ≠ 0 ∨ g.len < off + d.length then s.ans St.bounds
    else if d.length ≠ min 512 (g.len - off) then s.ans St.badLen
    else if g.chunks.any (· == off) then
      (if mbytes (s.leaf s.act).stage off d.length = d then s.ansOk [] else s.ans St.bounds)
    else
      let s := s.stagePut off d
      ({ s with stage := { g with chunks := off :: g.chunks, received := g.received + d.length
                                  stagedSeq := if off = 0 then leAt d 0x0C 4 else g.stagedSeq } } : State).ansOk []

/-- STAGE_CHUNK (R80). -/
def execStageChunk (t : Nat) (q : HReq) (s : State) : Ans :=
  at' t (fun s => s.cmd q 0x0102 (fun s => s.may q.sess Perm.image) (fun n => 12 ≤ n && n ≤ 516)
    (fun s => s.stageChunk q.sess (arg q 0 4) (q.args.drop 4))) s

/-- STAGE_CLOSE: refused while bytes are missing; else VERIFYING begins, and the answer comes with its outcome. -/
def State.stageClose (s : State) (q : HReq) (mode : Nat) : HR :=
  if s.stage.st ≠ 1 ∨ s.stage.sess ≠ q.sess then s.ans St.denied
  else if !s.leavesReady then s.ans St.busy
  else if mode > 1 then s.ans St.bounds
  else if s.stage.received < s.stage.len then s.ansWhy 0x14
  else ({ s with stage := { s.stage with st := 2, mode := mode, closeReq := some (q.sess, q.tag) } } : State).later

/-- STAGE_CLOSE (R82, R88). -/
def execStageClose (t : Nat) (q : HReq) (s : State) : Ans :=
  at' t (fun s => s.cmd q 0x0103 (fun s => s.may q.sess Perm.image) (· == 4) (fun s => s.stageClose q (arg q 0 1))) s

/-- STAGE_ABORT: from the binding session before STAGED; in STAGED it withdraws the image. DEDUCED, log 38. -/
def State.stageAbort (s : State) (k : Nat) : HR :=
  let st := s.stage.st
  if st = 1 ∨ st = 2 ∨ st = 3 then (if s.stage.sess = k then (s.stageAbandon 2).ansOk [] else s.ans St.denied)
  else if st = 4 then
    let slot := s.inactiveSlot
    let seq := match s.stage.image with | some g => g.seq | none => 0
    (((s.withdraw slot).stageIdle).evA Ev.imageWithdrawn srcD [p1 slot, p4 seq]).ansOk []
  else s.ans St.denied

/-- STAGE_ABORT (R81, R85, R87). -/
def execStageAbort (t : Nat) (q : HReq) (s : State) : Ans :=
  at' t (fun s => s.cmd q 0x0104 (fun s => s.may q.sess Perm.image) (· == 0) (fun s => s.stageAbort q.sess)) s

/-- STAGING_TIMEOUT (R81): 60 s in RECEIVING without a STAGE_CHUNK. -/
def execStagingTimeout (t : Nat) (s : State) : Ans :=
  at' t (fun s => if s.stage.st = 1 ∧ s.stage.lastChunk + 60000000000 ≤ s.time.now then s.stageAbandon 1 else s) s

/-! ### Verification (R82, R83) -/

/-- The staged copy of a leaf, judged by R73. -/
def State.judgeStaged (s : State) (l : Leaf) : Except Reject Image :=
  judgeImage s.stage.keys (mbytes (s.leaf l).stage 0 s.stage.len) s.stage.len

/-- A rejection of the staging path by R82 or R84: the manual names no section and no field. DESIGN CHOICE, log 34. -/
def stageReject (reason : Nat) : Reject :=
  ⟨reason, Config.caseCode Ev.bittingRejected 0, Config.caseCode Ev.bittingRejected 1, Config.caseCode Ev.bittingRejected 2⟩

/-- The image is rejected: STAGE_CLOSE is answered with the reason if it still waits, and STATE is IDLE (R83, R84). -/
def State.stageRefuse (s : State) (e : Reject) : State :=
  let s := s.answerOpt s.stage.closeReq St.denied [byteOf e.reason]
  let s := s.stageIdle
  ({ s with stage := { s.stage with reason := e.reason } } : State).evA Ev.bittingRejected srcD (rejectPs e 0)

/-- The outcome of R82: the image, or the first check that fails. `bad` lists the leaves that found their copy invalid, or
hashed it to another digest, although their bytes are those staged. -/
def State.verifyStaged (s : State) (bad : List Leaf) : Except Reject Image :=
  match s.judgeStaged s.act with
  | .error e => .error e
  | .ok g =>
    if g.seq ≤ s.stage.floor then .error (stageReject 0x0F)
    else if s.stagers.any (fun l => bad.any (· == l) || mbytes (s.leaf l).stage 0 s.stage.len != mbytes (s.leaf s.act).stage 0 s.stage.len) then
      .error (stageReject 0x10)
    else if !s.stringsFit g then .error (stageReject 0x11)
    else if !s.nestingFits g then .error (stageReject 0x12)
    else .ok g

/-- WRITING begins: every leaf writes the descriptor of its inactive slot WRITING (R75, R84). Refused units wait (R85). DESIGN CHOICE, log 35. -/
def State.writeBegin (s : State) (g : Image) : State :=
  let s := s.answerOpt s.stage.closeReq St.ok [0]
  let s := if s.stage.activeSlot < 2 then s
    else ({ s with stage := { s.stage with target := b2n (Config.freeBool s.free) } } : State).draw
  let k := s.inactiveSlot
  let s := { s with stage := { s.stage with st := 3, image := some g, stagedSeq := g.seq, closeReq := none, torn := false, verTime := s.devTime } }
  s.each s.stagers (fun l s =>
    (s.modLeaf l (fun x => let x := x.modSlot k (fun d => { d with st := 1, len := s.stage.len, seq := g.seq, sha := [] })
                           if k = 0 then { x with valid0 := none } else { x with valid1 := none })).refuseUnits l 1)

/-- VERIFY_COMPLETE (R82, R83). -/
def execVerifyComplete (t : Nat) (bad : List Leaf) (s : State) : Ans :=
  at' t (fun s =>
    if s.stage.st = 2 then
      match s.verifyStaged bad with
      | .error e => s.stageRefuse e
      | .ok g => s.writeBegin g
    else s) s

/-! ### The slot write and the apply (R75, R77, R84 to R86, R91) -/

/-- An image is applied while UNKEYED (R52): the device leaves UNKEYED and goes on from the step of 10 ms. The hinge point is the
instant at which both leaves had verified the image. DEDUCED, log 97. -/
def State.hingeUnkeyed (s : State) (g : Image) : State :=
  let k := s.inactiveSlot
  let v := s.stage.verTime
  let s := s.stageIdle
  let s := { s with aon := { s.aon with unkeyed := false, holdCause := setBit s.aon.holdCause 2 false } }
  let s := s.closeSession sFactory Cc.image
  let s := s.applyImage g k
  let s := ({ s with stage := { s.stage with hingeTime := v } } : State).beginPower.canFollow.rqFollow
  s.beginRings 25000000

/-- APPLYING begins (R86, R91); while UNKEYED the image is applied at once. The reason stands until a commit point is judged. DESIGN CHOICE, log 37. -/
def State.applyBegin (s : State) : State :=
  match s.stage.image with
  | none => s
  | some g =>
    if s.aon.unkeyed then s.hingeUnkeyed g
    else { s with stage := { s.stage with st := 5, applyFrom := s.time.now, applyReason := Config.caseCode Ev.imageApplyAbandoned 2 } }

/-- A leaf's descriptor is written WRITTEN with the digest of the image, and the floor follows (R75, R77). -/
def State.slotWritten (s : State) (l : Leaf) : State :=
  let k := s.inactiveSlot
  let b := mbytes (s.leaf l).stage 0 s.stage.len
  let g := s.stage.image
  let s := s.modLeaf l (fun x =>
    let x := x.modSlot k (fun d => { d with st := 2, len := s.stage.len, seq := s.stage.stagedSeq, sha := sha256 b, bytes := b })
    let x := { x with mram := { x.mram with floor := max s.stage.floor s.stage.stagedSeq } }
    if k = 0 then { x with valid0 := g } else { x with valid1 := g })
  { s with stage := { s.stage with floor := max s.stage.floor s.stage.stagedSeq } }

/-- A write or read-back fails in a leaf (R84). Whether the other leaf has written WRITTEN by then is open. DESIGN CHOICE, log 36. -/
def State.slotFault (s : State) (l : Leaf) (unit : Nat) : State :=
  let k := s.inactiveSlot
  let s := s.modLeaf l (fun x => x.modSlot k (fun d => { d with st := 3 }))
  let s := if s.stages l.other && Config.freeBool s.free then s.slotWritten l.other else s
  let s := s.draw.evA Ev.slotWriteFault l.num [p1 k, p4 unit]
  s.stageRefuse (stageReject 0x13)

/-- SLOT_WRITE_COMPLETE (R84, R86): not while a leaf refuses writes (R85), and never for a write that the latch tore (R421). -/
def execSlotWriteComplete (t : Nat) (bad : Option (Leaf × Nat)) (s : State) : Ans :=
  at' t (fun s =>
    if s.stage.st ≠ 3 ∨ s.stage.torn then s
    else
      let done := fun (s : State) =>
        if s.stagers.any (fun l => !(s.leaf l).writeOk) then s
        else
          let s := s.each s.stagers (fun l s => s.slotWritten l)
          let s := { s with stage := { s.stage with st := 4 } }
          let s := s.evA Ev.imageStaged srcD [p4 s.stage.stagedSeq]
          if s.stage.mode = 0 then s.applyBegin else s
      match bad with
      | some (l, u) => if s.stages l then s.slotFault l u else s
      | none => done s) s

/-- APPLY. -/
def State.applyCmd (s : State) : HR :=
  if s.stage.st ≠ 4 then s.ans St.denied else if !s.leavesReady then s.ans St.busy else s.applyBegin.ansOk []

/-- APPLY (R86, R88, R91). -/
def execApply (t : Nat) (q : HReq) (s : State) : Ans :=
  at' t (fun s => s.cmd q 0x0105 (fun s => s.may q.sess Perm.image) (· == 0) (fun s => s.applyCmd)) s

/-- APPLY_TIMEOUT (R91): 10 s in APPLYING without a hinge point. -/
def execApplyTimeout (t : Nat) (s : State) : Ans :=
  at' t (fun s => if s.stage.st = 5 ∧ s.stage.applyFrom + 10000000000 ≤ s.time.now then s.applyAbandon s.stage.applyReason else s) s

/-! ### Reverting (R99) and repair (R47) -/

/-- The fallback slot is judged in every leaf that takes part; a failing check is logged (R73). -/
def State.judgeFallback (s : State) : State × Option Image :=
  let k := s.inactiveSlot
  let out := s.stagers.map (fun l => judgeSlot s.stage.keys ((s.leaf l).slot k))
  let s := match out.findSome? (·.2) with
    | some e => ({ s with stage := { s.stage with reason := e.reason } } : State).evA Ev.bittingRejected srcD (rejectPs e (k + 1))
    | none => s
  match out with
  | (some g, _) :: r => (s, if r.all (fun x => x.1 == some g) then some g else none)
  | _ => (s, none)

/-- REVERT. -/
def State.revertCmd (s : State) : HR :=
  if s.stage.st ≠ 0 ∨ s.stage.activeSlot ≥ 2 ∨ !s.leavesReady then s.ans St.denied
  else match s.judgeFallback with
    | (s, none) => s.ans St.denied
    | (s, some g) => (({ s with stage := { s.stage with image := some g, stagedSeq := g.seq, revert := true } } : State).applyBegin).ansOk []

/-- REVERT (R99). -/
def execRevert (t : Nat) (q : HReq) (s : State) : Ans :=
  at' t (fun s => s.cmd q 0x0106 (fun s => s.may q.sess Perm.image) (· == 0) (fun s => s.revertCmd)) s

/-- A leaf's slot counts as valid (R76). -/
def LeafRec.validSlot (x : LeafRec) (k : Nat) : Bool := (x.slot k).st == 2 && (if k = 0 then x.valid0 else x.valid1).isSome

/-- IMAGE_SLOT_REPAIR (R47): in RUN, from a running leaf in which the slot is valid into the other, in which it is not. DEDUCED, log 39. -/
def execImageSlotRepair (t : Nat) (l : Leaf) (slot : Nat) (s : State) : Ans :=
  at' t (fun s =>
    if s.inRun && decide (slot < 2) && s.running l.other && (s.leaf l).supplied && (s.leaf l).writeOk && (s.leaf l.other).validSlot slot &&
      !(s.leaf l).validSlot slot then s.slotCopy l slot else s) s

end Sys2Proof.Machine
end

