-- ==== Sys2Proof/Machine/Time.lean ====
section
/-!
DEFINITION. Device time (R37, R38, R317): the lock to IEEE 1588 (R596, R597), TIME_SET, PPS_IN and PPS_OUT (R598).
-/
namespace Sys2Proof.Machine

/-- IEEE 1588 is enabled: FLAGS bit 0 of NETWORK (R133). -/
def Cfg.ptpOn (c : Cfg) : Bool := bit (c.n Ty.network 0 1) 0

/-- A master is followed: its Sync messages have not stopped (R597). -/
def State.following (s : State) : Bool := s.time.master.isSome && !s.time.lostLogged

/-- The step of device time (R38), with what it moves in the estimator (R317). -/
def State.timeStep (s : State) (d : Int) : State :=
  let sec := Int.tdiv d 1000000000
  let s := { s with time := { s.time with base := s.time.base + d } }
  let s := { s with time := { s.time with lastStep := d, stepTime := s.devTime }
                    est := { s.est with startS := ((s.est.startS : Int) + sec).toNat
                                        cells := s.est.cells.map (fun (e : Nat × Cell) =>
                                          (e.1, if e.2.ancTime = 0 then e.2 else { e.2 with ancTime := ((e.2.ancTime : Int) + sec).toNat })) } }
  s.evA Ev.timeStep srcD [(8, ofSigned 8 d)]

/-- A later correction slews device time towards the reference and never steps it (R38); how fast is open. DESIGN CHOICE, log 15. -/
def State.timeSlew (s : State) (d : Int) : State :=
  let k : Int := min d.natAbs (Config.freeNat s.free)
  ({ s with time := { s.time with base := s.time.base + (if d < 0 then -k else k) } } : State).draw

/-! ### IEEE 1588 -/

/-- A master judged on one port: the better one heard there stays (R596). DESIGN CHOICE, log 16. -/
def betterMaster (old : Option (Nat × Nat)) (id rank : Nat) : Option (Nat × Nat) :=
  match old with
  | none => some (id, rank)
  | some (i, r) => if i = id ∨ rank < r then some (id, rank) else some (i, r)

/-- The better master of the ports whose leaf runs; on a tie that of the ACTIVE leaf's port. DESIGN CHOICE, log 16. -/
def State.bestMaster (s : State) : Option (Nat × Nat × Nat) :=
  let a := if s.alive .a then s.time.heard0.map (fun x => (0, x.1, x.2)) else none
  let b := if s.alive .b then s.time.heard1.map (fun x => (1, x.1, x.2)) else none
  match a, b with
  | some x, some y =>
    if x.2.2 < y.2.2 then some x else if y.2.2 < x.2.2 then some y else if s.act = .a then some x else some y
  | some x, none => some x
  | none, y => y

/-- The master followed changes, or stays. -/
def State.follow (s : State) : State :=
  match s.bestMaster with
  | none => s
  | some m =>
    let old := s.time.master
    let same := s.following && (match old with | some o => o.1 == m.1 && o.2.1 == m.2.1 | none => false)
    let other := match old with | some o => o.2.1 != m.2.1 | none => false
    let s := { s with time := { s.time with master := some m } }
    if same then s
    else
      let s := { s with time := { s.time with ptpPort := m.1, ptpGood := 0, lastSync := s.time.now, lostLogged := false } }
      if other then s.evA Ev.ptpMasterChanged srcD [p1 m.1, p8 m.2.1] else s

/-- A measurement of the followed master is complete: the first lock after 16 good ones in a row (R597), slewing after it. -/
def State.ptpMeasure (s : State) (off : Int) (ref : Nat) : State :=
  let good := if off.natAbs ≤ 1000 then s.time.ptpGood + 1 else 0
  let s := { s with time := { s.time with ptpOffset := off, ptpGood := min good 16 } }
  if s.time.locked then (if s.cfg.isSub then s.timeSlew (-off) else s)
  else if good ≥ 16 then
    ({ s with time := { s.time with locked := true, source := 1 } } : State).timeStep ((ref : Int) - s.devTime)
  else s

/-- PTP_SYNC_MESSAGE (R596, R597). -/
def execPtpSyncMessage (t : Nat) (m : PtpMsg) (s : State) : Ans :=
  at' t (fun s =>
    let l := if m.port = 0 then Leaf.a else Leaf.b
    if !s.up || decide (m.port > 1) || !s.alive l || !s.cfg.ptpOn || m.domain != s.cfg.n Ty.network 0 4 then s
    else if m.kind = 0 then
      ({ s with time := if m.port = 0 then { s.time with heard0 := betterMaster s.time.heard0 m.clockId m.rank }
                        else { s.time with heard1 := betterMaster s.time.heard1 m.clockId m.rank } } : State).follow
    else match s.time.master with
      | some (p, id, _) =>
        if p ≠ m.port ∨ id ≠ m.clockId then s
        else
          let s := if m.kind = 1 then { s with time := { s.time with lastSync := s.time.now, lostLogged := false } } else s
          if m.complete then s.ptpMeasure m.offset m.time else s
      | none => s) s

/-- PTP_MASTER_LOST (R597): 10 s without a Sync. -/
def execPtpMasterLost (t : Nat) (s : State) : Ans :=
  at' t (fun s =>
    if s.up && s.following && decide (s.time.lastSync + 10000000000 ≤ s.time.now) then
      let p := s.time.ptpPort
      let u := { s.time with lostLogged := true, ptpGood := 0 }
      ({ s with time := if p = 0 then { u with heard0 := none } else { u with heard1 := none } } : State).evA Ev.ptpMasterLost srcD [p1 p]
    else s) s

/-! ### TIME_SET and PPS (R598) -/

/-- TIME_SET sets the seconds: the step of R38 where nothing has set the time since the start, else slewing. Seconds whose
nanoseconds exceed the 64 bits of device time (R4) are out of bounds. DESIGN CHOICE, log 103. -/
def State.timeSet (s : State) (sec : Nat) : HR :=
  if s.cfg.ptpOn && s.following then s.ans St.denied
  else if sec * 1000000000 + 999999999 ≥ 18446744073709551616 then s.ans St.bounds
  else
    let d : Int := ((sec * 1000000000 + s.devTime % 1000000000 : Nat) : Int) - s.devTime
    let first := !s.time.locked
    let s := { s with time := { s.time with locked := true, source := 3 } }
    (if first then s.timeStep d else s.timeSlew d).ansOk []

/-- TIME_SET (R598). -/
def execTimeSet (t : Nat) (q : HReq) (s : State) : Ans :=
  at' t (fun s => s.cmd q 0x0002 (fun s => s.may q.sess Perm.time) (· == 8) (fun s => s.timeSet (arg q 0 8))) s

/-- From device time to the nearest whole second, ns. -/
def toSecond (x : Nat) : Int :=
  let r := x % 1000000000
  if r ≤ 500000000 then -(r : Int) else (1000000000 - r : Int)

/-- PPS_IN_EDGE (R598): while IEEE 1588 is disabled the edge is the whole second, and disciplines CLK_TB, which `t` counts.
The first edge after a start, with the time not set yet, counts as a first lock of its rate and phase, and steps device time
to it (R38); a later TIME_SET steps it again. DEDUCED, log 107. -/
def execPpsInEdge (t : Nat) (s : State) : Ans :=
  at' t (fun s =>
    if !s.up || s.cfg.ptpOn then s
    else
      let d := toSecond s.devTime
      let first := !s.time.locked && s.time.source != 2
      let s := { s with time := { s.time with source := 2 } }
      if first then s.timeStep d else if d = 0 then s else s.timeSlew d) s

/-- PPS_OUT_SECOND (R598): it rises at each whole second of device time and falls 100 ms later. -/
def execPpsOutSecond (t : Nat) (rise : Bool) (s : State) : Ans :=
  at' t (fun s =>
    if s.aon.dev = .off ∨ !(s.la.supplied || s.lb.supplied) then s
    else if rise then
      (if s.devTime % 1000000000 = 0 then
        { s with time := { s.time with ppsOut := true, ppsLast := s.time.now, ppsEdges := s.time.ppsEdges + 1 } } else s)
    else if s.time.ppsOut ∧ s.time.ppsLast + 100000000 ≤ s.time.now then { s with time := { s.time with ppsOut := false } } else s) s

end Sys2Proof.Machine
end

