-- ==== Sys2Proof/Machine/ObjMap.lean ====
section
/-!
DEFINITION. The object map as bytes, first half (R626 to R643): layouts, IDENT, CONTROL, BITTING, TIME, CHAINS, NODES, CELLS,
SENSORS, ZONES, STRINGS, BANK, LIMITS and LEASES.
-/
namespace Sys2Proof.Machine

/-! ### Layouts -/

/-- A record's layout: its fields in ascending order, each with its offset and bytes. -/
abbrev Lay := List (Nat × List Byte)

/-- An unsigned field of 8 bits. -/
abbrev u8 (off v : Nat) : Nat × List Byte := (off, toLe 1 v)
/-- An unsigned field of 16 bits. -/
abbrev u16 (off v : Nat) : Nat × List Byte := (off, toLe 2 v)
/-- An unsigned field of 32 bits. -/
abbrev u32 (off v : Nat) : Nat × List Byte := (off, toLe 4 v)
/-- An unsigned field of 64 bits. -/
abbrev u64 (off v : Nat) : Nat × List Byte := (off, toLe 8 v)
/-- A signed field of 16 bits. -/
abbrev i16 (off : Nat) (v : Int) : Nat × List Byte := (off, toLe 2 (ofSigned 2 v))
/-- A signed field of 32 bits. -/
abbrev i32 (off : Nat) (v : Int) : Nat × List Byte := (off, toLe 4 (ofSigned 4 v))
/-- A signed field of 64 bits. -/
abbrev i64 (off : Nat) (v : Int) : Nat × List Byte := (off, toLe 8 (ofSigned 8 v))
/-- A signed field of 48 bits. -/
abbrev i48 (off : Nat) (v : Int) : Nat × List Byte := (off, toLe 6 (ofSigned 6 v))

/-- The bytes of a record of `n` bytes: what no field occupies reads 0 (R626). -/
def Lay.bytes (l : Lay) (n : Nat) : List Byte :=
  padTo n (l.foldl (fun (acc : List Byte) f => padTo f.1 acc ++ f.2) [])

/-- The first of natural numbers in order, the smallest; `d` of none. -/
def minOr (d : Nat) : List Nat → Nat
  | [] => d
  | x :: r => r.foldl min x

/-- The largest of natural numbers; 0 of none. -/
def maxOr0 (l : List Nat) : Nat := l.foldl max 0

/-! ### What commit-updated fields show (R18, R629) -/

/-- The state as the last commit point left it for the records that update there. -/
def State.shown (s : State) : State :=
  { s with ch := { s.ch with rings := s.com.rings, nodes := s.com.nodes }, sw := { s.sw with sealed := s.com.sealed }
           cur := s.com.cur, strCur := s.com.strCur, prot := s.com.prot, th := s.com.th
           est := { s.est with cells := s.com.cells, strs := s.com.strs }, lim := s.com.lim, bal := s.com.bal
           hasp := { s.hasp with strs := s.com.hasp }, lease := s.com.lease }

/-- A commit point has passed since the start. -/
def State.committed (s : State) : Bool := s.sw.commitNow != 0

/-- The SWEEP field of a record. -/
def State.comSweep (s : State) : Nat := if s.committed then s.sw.cSweep else 0xFFFFFFFF

/-- READY (R320): no SYNC has left the ports since the last commit. -/
def State.ready (s : State) : Bool := s.committed && (s.sw.phase == .committed || s.sw.phase == .idle)

/-! ### IDENT and CONTROL (R633 to R635) -/

/-- IDENT.STATE. -/
def Dev.code : Dev → Nat
  | .off => 0
  | .start => 0
  | .run => 1
  | .sleep => 2
  | .safe => 3
  | .halt => 4

/-- SEQUENCE of the running image; 0 when UNKEYED. -/
def State.runSeq (s : State) : Nat := if s.stage.activeSlot < 2 then s.cfg.img.seq else 0

/-- IDENT.SUMMARY. -/
def State.identSummary (s : State) : Nat :=
  packBits [s.dbState == 0, !s.closedStrs.isEmpty, s.aon.dbLatch, s.aon.thermal, !s.noneFenced, s.prot.strs.any (fun e => e.2.latched != 0),
    s.stage.st == 4 || s.stage.st == 5, s.pick.armed, s.ch.nodes.any (fun e => e.2.quar != 0),
    s.cfg.rings.any (fun r => (s.ring r).st != .whole)]

/-- "KXL8800-MB". -/
def partNumber : List Byte := [0x4B, 0x58, 0x4C, 0x38, 0x38, 0x30, 0x30, 0x2D, 0x4D, 0x42, 0, 0, 0, 0, 0, 0]

/-- The IDENT block (R633). -/
def State.layIdent (s : State) : Lay :=
  [u16 0 0x8800, u8 2 Config.siliconRev, u8 3 (Config.fuseState % 8), u8 4 s.aon.dev.code,
   u8 5 (packBits [s.aon.unkeyed, s.aon.ready, s.aon.faultN, s.links.maintEn]), u8 6 s.aon.resetCause, u8 7 s.lg.logDegraded,
   u64 8 Config.deviceUid, u32 0x10 s.aon.starts, u32 0x14 s.lg.sticky, u32 0x18 s.identSummary, u32 0x1C s.runSeq,
   (0x20, partNumber), (0x30, padTo 32 (bytesAt (s.cfg.img.payload Ty.device 0) 0x50 32))]

/-- The CONTROL block (R635). HOST_NOTE reads 0. -/
def State.layControl (s : State) : Lay :=
  [u8 0 s.kn.rolling, u8 1 s.links.lastStatus, u16 2 s.links.lastOpcode, u8 4 s.links.lastSlot, u64 8 s.links.lastTime]

/-! ### BITTING and the overlay window (R78, R636, R637) -/

/-- KEY_STATE of a slot. -/
def KeySlot.code (k : KeySlot) : Nat := if k.revoked then 3 else if k.programmed then 1 else 0

/-- SLOT_STATES. -/
def State.slotStates (s : State) : Nat := s.la.slot0.st + 4 * s.la.slot1.st + 16 * s.lb.slot0.st + 64 * s.lb.slot1.st

/-- The BITTING fields. -/
def State.layBitting (s : State) : Lay :=
  let g := s.stage
  [u8 0 g.st, u8 1 g.reason, u8 2 g.activeSlot, u8 3 s.slotStates, u32 4 s.runSeq, u64 8 g.buildId, u32 0x10 g.floor, u32 0x14 g.stagedSeq,
   u32 0x18 g.received, u8 0x1C ((g.keys.map KeySlot.code).foldr (fun k n => k + 4 * n) 0), u8 0x1D g.mode, u32 0x20 g.hingeSweep,
   u64 0x28 g.hingeTime, u16 0x30 s.cfg.ovCount, u32 0x34 s.sw.cOvGen]

/-- An accepted overlay value that is not in force yet. -/
def findOv (l : List OvVal) (e : OvEnt) : Option OvVal := l.find? (fun o => o.ty == e.ty && o.inst == e.inst && o.off == e.off)

/-- An overlay entry record. -/
def State.layOverlay (s : State) (k : Nat) : Lay :=
  let e := s.cfg.ovEnt k
  let img := ({ img := s.cfg.img, ov := [] } : Cfg).eff e.ty e.inst e.off
  let last := match findOv s.ovl.last e with | some o => o.val | none => img
  [u16 0 e.ty, u16 2 e.inst, u16 4 e.off, u8 6 e.w, u8 7 (packBits [bit e.flags 0, (findOv s.ovl.pend e).isSome]),
   i32 8 (s.cfg.eff e.ty e.inst e.off), i32 0xC last, i32 0x10 img, i32 0x14 e.low, i32 0x18 e.high]

/-! ### TIME (R262, R638) -/

/-- SOURCE of device time: the parent's SYNC where it disciplines the tick (R575). -/
def State.timeSource (s : State) : Nat := if s.cfg.isSub && s.nest.lock != 0 then 4 else s.time.source

/-- The TIME block. -/
def State.layTime (s : State) : Lay :=
  let w := s.sw
  [u64 0 s.devTime, u8 8 (b2n s.time.locked), u8 9 s.timeSource, u32 0xC s.time.lateTotal, i64 0x10 s.time.lastStep, u64 0x18 s.time.stepTime,
   u32 0x100 w.cSweep, u8 0x104 (if s.committed then w.cPeriod else s.cfg.n Ty.device 0 0x41), u8 0x105 w.cCause, u16 0x106 (s.cfg.n Ty.device 0 0x42),
   u64 0x108 w.cStart, u64 0x110 w.cSample, u64 0x118 w.cCommit, (0x120, padTo 32 w.cDigest), u16 0x140 w.cAbsent, u16 0x142 w.cDist,
   u16 0x144 w.cClip, u16 0x146 w.cLate, u32 0x148 w.cOvGen, u8 0x14C w.cFlags]

/-! ### CHAINS and NODES (R639, R640) -/

/-- RING_STATE. -/
def RingSt.code : RingSt → Nat
  | .idle => 0
  | .whole => 1
  | .broken _ => 2
  | .lost => 3
  | .uplink => 4

/-- A ring record: counters as they stand, the rest as the last commit point left it. -/
def State.layRing (s : State) (r : Nat) : Lay :=
  let x := s.ring r
  let v := s.shown
  let c := v.ring r
  let n := s.cfg.nodeCount r
  [u8 0 (if r == 15 && s.cfg.uplink then 4 else c.st.code), u8 1 c.aLast, u8 2 c.bFirst, u8 3 c.calState, u8 4 n,
   u8 5 (if s.cfg.ringOn r then s.cfg.splitK r else 0),
   u8 6 (packBits [c.countBad, s.cfg.ringOn r && c.losA, s.cfg.ringOn r && c.losB, c.missB, c.missA, c.cal != 0]), u8 7 (b2n (s.ch.low && s.cfg.ringOn r)),
   u8 8 c.hopAtA, u8 9 c.hopAtB, u8 0xA ((s.cfg.positions r).filter (fun p => v.reachable r p)).length,
   u8 0xB ((s.cfg.positions r).filter (fun p => (v.node r p).quar != 0)).length, u32 0xC c.t, u32 0x10 x.badA, u32 0x14 x.badB,
   u32 0x18 x.codeA, u32 0x1C x.codeB, u32 0x20 x.losCntA, u32 0x24 x.losCntB, u32 0x28 x.stray, u32 0x2C x.retries, u32 0x30 x.noAns,
   u32 0x34 x.bcast, u16 0x38 x.breaks, u16 0x3A x.calRounds, u64 0x3C x.calTime, u64 0x44 x.breakTime, u32 0x4C s.comSweep] ++
  (upto 65).map (fun k => i32 (0x100 + 4 * k) (x.segs.getD k 0))

/-- STATE of a node record. -/
def State.nodeState (v : State) (r p : Nat) : Nat :=
  let n := v.node r p
  if n.quar ≠ 0 then 3 else if !n.known then 0 else if !v.reachable r p then 4 else if n.cfg = 3 then 2 else if n.cfg = 1 then 5 else 1

/-- A node record: ENUM_RSP and calibration fields as they stand, the rest as the last commit point left it. -/
def State.layNode (s : State) (r p : Nat) : Lay :=
  let x := s.node r p
  let v := s.shown
  let c := v.node r p
  let e := kget {} v.sw.sealed.nodes (srcN r p)
  let on := decide (p ≤ s.cfg.nodeCount r) && s.committed
  [u8 0 (v.nodeState r p), u8 1 c.quar, u8 2 x.cls, u8 3 x.cells, u8 4 x.ntcs,
   u8 5 (match (v.ring r).serves p with | some l => if on && v.reachable r p then l.num else 0xFF | none => 0xFF),
   u8 6 (if on then e.tag else 0), u8 7 e.stale, u64 8 x.uid, u32 0x10 x.caps, u32 0x14 x.boot, u16 0x18 x.balIMax, u16 0x1A x.vFull,
   u32 0x1C x.offA, u32 0x20 x.offB, u16 0x24 x.fwd, u8 0x26 e.flags, u8 0x27 c.lastNack, u16 0x28 c.resets, u16 0x2A c.noAnswers,
   u16 0x2C e.resid, u16 0x2E e.dist, u16 0x30 e.susp, u64 0x34 c.cfgTime, u32 0x3C s.comSweep]

/-! ### CELLS (R287, R288, R320) -/

/-- A cell record. -/
def State.layCell (s : State) (k : Nat) : Lay :=
  let on := (s.cfg.cell k).present
  let x : Cell := if on then kget (s.cfg.newCell k) s.com.cells k else {}
  let tag := if on then (if x.tag = 6 then 0 else x.tag) else 6
  [u16 0 x.v, u8 2 (tag + 8 * packBits [x.align, x.gap, x.stillLow, x.slopeOk, s.ready]),
   u8 3 (packBits [x.confE, x.confF, x.drift, x.capSus, x.weak] + 32 * x.ancState + 128 * b2n x.hyst), u16 4 x.soc, u16 6 x.sigma, i48 8 x.qAcc,
   i16 0xE x.vPol, u32 0x10 x.sigmaQ, i16 0x14 x.tRef, i16 0x16 x.qBalEpoch, u16 0x18 x.still, u16 0x1A x.vRef, u32 0x1C s.comSweep,
   u32 0x20 x.cap, u16 0x24 x.cSigma, u16 0x26 x.rOhm, u16 0x28 x.rPol, u16 0x2A x.tau, u16 0x2C x.sohC, u16 0x2E x.sohR, u16 0x30 x.ancSoc,
   i48 0x32 x.ancQ, u32 0x38 x.ancTime, u16 0x3C x.vMin, u16 0x3E x.vMax]

/-! ### SENSORS and ZONES (R422, R423) -/

/-- A sensor record. A used sensor is NEVER_READ after the start. -/
def State.laySensor (s : State) (k zone : Nat) : Lay :=
  let x : Sensor := kget {} s.com.th.sens k
  let used := zone != 0xFFFF
  [i16 0 x.t, i16 2 x.sealedT, u16 4 zone, u8 6 (if used && x.st == 0 then 5 else x.st), u8 7 x.cause,
   u16 8 (min 65535 (x.good / 100000)), u16 0xA (min 65535 (x.absent / 100000)), u16 0xC x.broken]

/-- The zone of a sensor-table index; 0xFFFF where it is not used. -/
def State.sensorZoneOf (s : State) (i : Nat) : Nat := if i < s.cfg.sensorCount ∧ sensorUsed s.cfg i then s.cfg.sensorZone i else 0xFFFF

/-- A zone record. -/
def State.layZone (s : State) (z : Nat) : Lay :=
  let x : Zone := kget {} s.com.th.zones z
  [i16 0 x.tMax, i16 2 x.tMin, u8 4 x.hotChg.s, u8 5 x.hotDis.s, u8 6 x.coldChg.s, u8 7 x.coldDis.s, u8 8 (x.step 0), u8 9 (x.step 1),
   u8 0xA x.nRead, u8 0xB x.nBroken, u8 0xC x.nSubst, u8 0xD x.flags, i16 0xE x.rMax, i16 0x10 x.ror10, i16 0x12 x.ror60, i16 0x14 x.ror300,
   u16 0x16 x.hot, u16 0x18 x.cold, u32 0x1C s.comSweep]

/-! ### STRINGS and BANK (R641, R642) -/

/-- V of the cells whose tag protection uses, with their indices. -/
def State.usedV (v : State) (i : Nat) : List (Nat × Nat) :=
  ((v.cfg.stringCells i).filter (fun k => decide ((kget {} v.sw.sealed.cells k).tag ≤ 2))).map (fun k => (k, (kget {} v.sw.sealed.cells k).v))

/-- Present cells of a string tagged SUSPECT, STALE or QUARANTINED. -/
def State.strAbsent (v : State) (i : Nat) : Nat :=
  ((v.cfg.stringCells i).filter (fun k => let t := (kget {} v.sw.sealed.cells k).tag; 3 ≤ t && t ≤ 5)).length

/-- A string record. -/
def State.layString (s : State) (i : Nat) : Lay :=
  let v := s.shown
  let c := s.cfg
  let on := c.strings.contains i
  let cells := if on then c.stringCells i else []
  let e : StrEst := v.strE i
  let h := v.hs i
  let cur : StrCur := kget {} v.strCur i
  let vs := if s.committed then v.usedV i else []
  let lo := minOr 0 (vs.map (·.2))
  let hi := maxOr0 (vs.map (·.2))
  let idx := fun (x : Nat) => match vs.find? (fun y => y.2 == x) with | some y => y.1 | none => 0xFFFF
  let zs := if s.committed then (cells.map (fun k => (c.cell k).zone)).map v.zone else []
  let steps : List Nat := (kget {} v.lim.strs i : StrLim).steps
  let rec' := if s.committed then cells.map v.cellR else []
  [u8 0 (b2n on), u8 1 h.st, u8 2 (v.sp i).level,
   u8 3 (if s.committed && on then packBits [e.steady, e.restWanted, e.conflict, h.ramp, (kget {} v.lim.strs i : StrLim).noCharge, v.balOff i, cur.absent] else 0),
   u16 4 cells.length, u16 6 (cells.head?.getD 0xFFFF), u16 8 (cells.getLast?.getD 0xFFFF), u16 0xA e.drift, u16 0xC e.soc, u16 0xE e.sigMax,
   u32 0x10 e.qDis, u32 0x14 e.qChg, i32 0x18 e.iRef, i32 0x1C cur.iEst, u32 0x20 h.vStr, u16 0x24 lo, u16 0x26 hi, u16 0x28 (idx lo), u16 0x2A (idx hi),
   i16 0x2C (match zs with | [] => 0 | z :: r => r.foldl (fun m y => max m y.tMax) z.tMax),
   i16 0x2E (match zs with | [] => 0 | z :: r => r.foldl (fun m y => min m y.tMin) z.tMin),
   u8 0x30 (steps.getD 0 0), u8 0x31 (steps.getD 1 0), u16 0x32 (if s.committed && on then v.strAbsent i else 0),
   u32 0x34 (minOr 0 (rec'.map (·.cap))), u16 0x38 (minOr 0 (rec'.flatMap (fun x => [x.sohC, x.sohR]))), u16 0x3A (rec'.filter (·.weak)).length,
   u32 0x3C s.comSweep]

/-- The bank record. -/
def State.layBank (s : State) : Lay :=
  let v := s.shown
  let c := s.cfg
  let es := c.strings.map v.strE
  let qd := sumN (es.map (·.qDis))
  let qc := sumN (es.map (·.qChg))
  let soc := if qd + qc = 0 then 0 else (rndDiv ((qd * 10000 : Nat) : Int) (qd + qc)).toNat
  let cells := c.strings.flatMap c.stringCells
  [u8 0 c.strings.length, u8 1 v.closedStrs.length, u16 2 soc, i32 4 v.iBank, u32 8 (if s.committed then v.bankBus else 0xFFFFFFFF),
   u8 0xC (if s.committed then packBits [!v.bankWhole, es.any (·.restWanted), es.any (fun e => e.drift != 0), es.any (·.conflict),
                             cells.any (fun k => (v.cellR k).weak)] else 0),
   u64 0x10 qd, u64 0x18 qc, u16 0x20 c.cells.length, u16 0x22 (if s.committed then sumN (c.strings.map v.strAbsent) else 0),
   u16 0x24 (sumN (es.map (·.drift))), u32 0x28 s.comSweep]

/-! ### LIMITS and LEASES (R368, R369, R643) -/

/-- A string limit record. A string without a section reads 0. -/
def State.layStrLim (s : State) (i : Nat) : Lay :=
  if !s.cfg.strings.contains i then []
  else
    let x : StrLim := kget {} s.com.lim.strs i
    let g := fun (l : List Nat) k => l.getD k 0
    [i32 0 (g x.lim 0), i32 4 (-(g x.lim 1 : Int)), i32 8 (g x.lim 2), i32 0xC (-(g x.lim 3 : Int)), u32 0x10 (g x.pow 0), u32 0x14 (g x.pow 1),
     u32 0x18 (g x.pow 2), u32 0x1C (g x.pow 3), u32 0x20 (g x.target 2), u32 0x24 (g x.target 3), u16 0x28 (g x.cell 0), u16 0x2A (g x.cell 1),
     u16 0x2C (g x.fTaper 0), u16 0x2E (g x.fTaper 1), u16 0x30 (g x.fTherm 0), u16 0x32 (g x.fTherm 1), u16 0x34 x.fSoh, u16 0x36 x.fSensor,
     u32 0x38 x.rStr, u8 0x3C (g x.bind 0), u8 0x3D (g x.bind 1), u8 0x3E (g x.zero 0), u8 0x3F (g x.zero 1)]

/-- The bank limit record. -/
def State.layBankLim (s : State) : Lay :=
  let x := s.com.lim
  let g := fun (l : List Nat) k => l.getD k 0
  [i32 0 (g x.lim 0), i32 4 (-(g x.lim 1 : Int)), i32 8 (g x.lim 2), i32 0xC (-(g x.lim 3 : Int)), u32 0x10 (g x.pow 0), u32 0x14 (g x.pow 1),
   u32 0x18 (g x.pow 2), u32 0x1C (g x.pow 3), u64 0x20 x.closed, u8 0x28 (g x.limStr 0), u8 0x29 (g x.limStr 1), u16 0x2A (g x.fPcs 0),
   u16 0x2C (g x.fPcs 1), u32 0x30 s.comSweep]

/-- Milliseconds of a time in ticks, saturating. -/
def ticksMs (w n : Nat) : Nat := min (2 ^ w - 1) (n / 100000)

/-- The lease record. -/
def State.layLease (s : State) : Lay :=
  let l := s.lease
  let c := s.com.lease
  let left := match c.restSt with | 3 => s.cfg.lease 0x24 - c.restTicks / 100000000 | 4 => 3600 - c.restTicks / 100000000 | _ => 0
  [(0, padTo 64 l.last.bytes), u8 0x40 c.st, u8 0x41 c.restSt, u8 0x42 (packBits [c.penalty.getD 0 false, c.penalty.getD 1 false]),
   u16 0x44 c.startId, u32 0x48 c.a, i32 0x4C c.iPcs, u64 0x50 l.ackTime, u32 0x58 (c.ceil.getD 0 0), u32 0x5C (c.ceil.getD 1 0),
   u32 0x60 (ticksMs 32 l.silence), u32 0x64 (ticksMs 32 (l.exc.getD 0 0)), u32 0x68 (ticksMs 32 (l.exc.getD 1 0)), u32 0x6C l.errors,
   u64 0x70 c.restStart, u32 0x78 left, u32 0x7C l.published, u64 0x80 l.pubTime]

end Sys2Proof.Machine
end

