-- ==== Sys2Proof/Machine/ObjMap2.lean ====
section
/-!
DEFINITION. The object map as bytes, second half: CURRENT, BALANCING, PROTECTION, HASP, SWITCH, KNUCKLE, NESTING, SESSIONS,
STREAMS, EVENT_LOG, PICK, POWER and DEVTHERM (R285, R398, R424, R452 to R454, R485, R531, R532, R557, R584, R585, R622, R623,
R644, R645, R664, R665, R692 to R694, R706, R720, R721), and the bytes at any address (R626).
-/
namespace Sys2Proof.Machine

/-! ### CURRENT (R285) -/

/-- A current input record; COMP_TRIPS counts at once. -/
def State.layInput (s : State) (k : Nat) : Lay :=
  if !s.cfg.inputOn k then []
  else
    let c : Cfg := { s.cfg with ov := s.com.ov }
    let e : CurIn := kget {} s.com.sealed.curs k
    let x : CurSt := kget {} s.com.cur k
    let y : CurSt := kget {} s.cur k
    [i32 0 e.a, i32 4 e.b, u16 8 e.status, u8 0xA x.pathCount, u8 0xB x.nodeCount, i32 0xC (c.compSet k false), i32 0x10 (c.compSet k true),
     i16 0x14 (c.compCode k false), i16 0x16 (c.compCode k true), u16 0x18 y.trips, u16 0x1A (min 65535 e.clk), i32 0x1C e.rawA, i32 0x20 e.rawB]

/-- A string current record. -/
def State.layStrCur (s : State) (i : Nat) : Lay :=
  let x : StrCur := kget {} s.com.strCur i
  [i32 0 x.iEst, i32 4 x.iProt, u8 8 x.source, u8 9 (packBits [x.absent, bit (kget {} s.com.prot.strs i).acting 4]), u8 0xA x.absentCount]

/-! ### BALANCING (R398) -/

/-- The device record. -/
def State.layBal (s : State) : Lay :=
  let b := s.com.bal
  [u8 0 b.st, u8 1 b.holdCause, u8 2 (s.cfg.n Ty.balancing 0 1), u32 4 b.epoch, u32 8 b.openSweep, u16 0xC b.nE, u16 0xE b.tEff, u32 0x10 b.tAv,
   u16 0x14 (if s.committed then b.eta else s.cfg.n Ty.balancing 0 4), u16 0x16 b.planned, u16 0x18 b.suspended, u16 0x1A b.cellsPlanned, u16 0x1C b.cellsOut]

/-- A string balancing record. -/
def State.layStrBal (s : State) (i : Nat) : Lay :=
  let x : StrBal := kget {} s.com.bal.strs i
  let n := (s.com.bal.duty.filter (fun e => (s.cfg.cell e.1).present && (s.cfg.cell e.1).str == i && e.2 != 0)).length
  [u8 0 x.mode, u8 1 x.suspend, u16 2 n, u16 4 (min 65535 (x.lowTime / 100000000)), i64 8 x.level, u32 0x10 x.inPl, u32 0x14 x.outPl, u32 0x18 x.link, u32 0x1C x.inMv,
   u32 0x20 x.outMv, u16 0x24 x.etaSeen]

/-- A node balancing record. -/
def State.layNodeBal (s : State) (m : Nat) : Lay :=
  let x : NodeBal := kget {} s.com.bal.nodes m
  [u8 0 x.st, u8 1 x.cause, u16 2 x.iCeil, u8 4 x.distRun, u8 5 x.susp, u16 6 x.epoch, i32 8 x.link]

/-- DUTY codes of 16 cells from `k` on. -/
def State.layDuty (s : State) (k : Nat) : Lay := (upto 16).map (fun j => (j, [byteOf (ofSigned 1 (kget 0 s.com.bal.duty (k + j)))]))

/-! ### PROTECTION (R452 to R454) -/

/-- STEERING. -/
def State.steering (s : State) : Nat :=
  packBits [s.la.rq, s.lb.rq, s.fenceLine .a, s.fenceLine .b, s.permissive .a, s.permissive .b, s.aon.dbLatch, s.aon.hold]

/-- The device record. -/
def State.layProt (s : State) : Lay :=
  let a := s.aon
  [u8 0 s.dbState, u8 1 a.dbCause, u16 2 a.dbSource, u8 4 s.steering, u8 5 a.holdCause, u8 6 a.clearState, u8 7 a.clearResult, u64 8 a.dbTime,
   u32 0x10 a.dbSweep, u16 0x14 a.throws, u8 0x16 a.armSlot, u64 0x18 a.armTime, u16 0x20 a.bankActing]

/-- A string protection record. -/
def State.layStrProt (s : State) (i : Nat) : Lay :=
  let x : StrProt := kget {} s.com.prot.strs i
  [u16 0 x.acting, u16 2 x.latched, u8 4 x.level, u8 5 x.flags, u64 8 x.e, u16 0x10 x.tripCell, u8 0x12 x.tripFunc, u32 0x14 x.tripSweep, u64 0x18 x.tripTime]

/-- A cell word. -/
def State.cellWord (s : State) (k : Nat) : Nat :=
  let x : CellProt := kget {} s.com.prot.cells k
  let seen := fun (a : Option Nat) => match a with | some t => decide (s.sw.commitNow < t + 1000000000) | none => false
  packBits [x.ovWarn, x.uvWarn, x.ovTrip, x.uvTrip, seen x.ovAlarm, seen x.uvAlarm] + 256 * (x.ovCount % 8) + 4096 * (x.uvCount % 8)

/-! ### HASP (R485) -/

/-- A mask of strings. -/
def strMask (p : Nat → Bool) : Nat := packBits ((upto 64).map p)

/-- The device record. -/
def State.layHasp (s : State) : Lay :=
  let h := fun (i : Nat) => (kget {} s.com.hasp i : HaspStr)
  let on := fun (p : Nat → Bool) => strMask (fun i => s.cfg.strings.contains i && p i)
  [u8 0 (((upto 64).filter (fun i => (h i).st == 1 || (h i).st == 2)).length), u8 1 s.com.queue.length, u8 2 (s.cfg.n Ty.device 0 0x46),
   u8 3 (packBits [s.com.queueHeld, on (fun i => (h i).ramp) != 0, on (fun i => (h i).st == 6) != 0]), u64 4 (on (fun i => (h i).st == 3)),
   u64 0xC (on (fun i => (h i).st == 6)), u64 0x14 (on (fun i => (h i).ramp))]

/-- A string contactor record. -/
def State.layStrHasp (s : State) (i : Nat) : Lay :=
  let x : HaspStr := kget {} s.com.hasp i
  let pos := match s.com.queue.findIdx? (fun e => e.1 == i) with | some k => k + 1 | none => 0
  [u8 0 x.st, u8 1 x.step, u8 2 (packBits [x.fbPos, x.fbNeg, x.fbPc, x.cmdPos, x.cmdNeg, x.cmdPc, x.usable]), u8 3 x.reason, u8 4 pos, u8 5 x.mode,
   u8 6 x.method, u8 7 x.welds, u32 8 x.vStr, u32 0xC (if s.committed then x.vBus else 0), u32 0x10 x.x1, u32 0x14 x.quarter, u64 0x18 x.stepTime,
   u32 0x20 x.opensPos, u32 0x24 x.loadPos, u32 0x28 x.opensNeg, u32 0x2C x.loadNeg, i32 0x30 x.iLast, u32 0x34 x.iMax, u16 0x38 x.closes,
   u16 0x3A x.weldCount, u32 0x3C s.comSweep]

/-! ### SWITCH (R531, R532) -/

/-- The device record. -/
def State.laySwitch (s : State) : Lay :=
  let b := fun (k : Nat) => (kget {} s.com.power.banks k : Bank)
  (upto 4).map (fun k => u16 (2 * k) (if s.sw.commitNow = 0 then 0 else Config.bankVoltage k s.sw.commitNow)) ++ (upto 4).map (fun k => u8 (8 + k) (packBits [(s.bank k).powered, (b k).uv, (b k).off])) ++
  (upto 4).map (fun k => u16 (0xC + 2 * k) (s.bank k).uvEvents) ++
  [u8 0x14 (packBits [s.power.keepalive && s.power.kaPath == 0, s.power.keepalive && s.power.kaPath == 1, s.power.kaLost])]

/-- A channel record: STATE, the first flags, latch fields and counters as they stand, the rest as the last commit point left it. -/
def State.layChan (s : State) (k : Nat) : Lay :=
  let x := s.chan k
  let y : Chan := kget {} s.com.power.chans k
  let cool := if x.latch = 0 then 0 else (x.latchNow + 100000000 * s.cfg.sw k 7 - s.sw.commitNow) / 1000000
  let on := y.onTime + (if y.on then s.sw.commitNow - y.onSince else 0)
  let owned := (s.cfg.chanString k).isSome
  [u8 0 (s.chanState k), u8 1 (if s.cfg.img.has Ty.switch k then s.cfg.sw k 0 else 0), u8 2 (if s.cfg.img.has Ty.switch k then s.cfg.sw k 1 else 0),
   u8 3 (packBits [x.logic, x.pin, x.on, y.blank, y.olOn, y.olOff, y.warn, owned]), u16 4 (s.com.sealed.dev.swCur.getD k 0), i16 6 (s.com.th.pdie.getD k 0), u8 8 x.restarts, u8 9 x.fwCount,
   u16 0xA x.latches, u64 0xC x.latchTime, u16 0x14 x.latchPeak, u16 0x16 (min 65535 cool), u32 0x18 (min 4294967295 (on / 1000000000)),
   u8 0x1C (b2n x.grant)]

/-! ### KNUCKLE (R557) -/

/-- State code of a leaf. -/
def LeafSt.code : LeafSt → Nat
  | .running => 0
  | .fenced => 1
  | .rejoining => 2
  | .resyncing => 3

/-- The KNUCKLE block. -/
def State.layKnuckle (s : State) : Lay :=
  let k := s.kn
  [u8 0 s.cfg.leafRole, u8 1 (match k.active with | some l => l.num | none => 0xFF), u8 2 s.la.st.code, u8 3 s.lb.st.code, u8 4 s.la.cause,
   u8 5 s.lb.cause, u8 6 k.mismatchRun, u8 7 k.kat, u64 8 s.la.fenceTime, u64 0x10 s.lb.fenceTime, u32 0x18 k.mismatches, u32 0x1C k.transients,
   u16 0x20 k.divergences, u16 0x22 k.failovers, u32 0x24 k.linkErrors, u64 0x28 k.lastFailover, u16 0x30 k.lastInterrupt, u16 0x32 k.hbMisses,
   u32 0x34 k.lastMismatch, u8 0x38 (packBits [k.roleDiffers, k.unsynced, k.linkLost, k.ownSet]), (0x40, padTo 32 s.la.digest), (0x60, padTo 32 s.lb.digest)]

/-! ### NESTING (R584, R585) -/

/-- The device record. -/
def State.layNest (s : State) : Lay :=
  let n := s.com.nest
  let c := s.cfg
  [u8 0 (b2n c.isSub), u8 1 (if c.isSub then n.lock else 0), u8 2 (c.n Ty.nesting 0 1), u8 3 n.sys, u32 4 (c.n Ty.nesting 0 4), u32 8 (c.n Ty.nesting 0 8),
   i32 0xC n.phaseErr, i32 0x10 n.rateErr, u8 0x14 n.parentPeriod, u8 0x15 n.lockCause, u16 0x16 c.groups.length,
   u16 0x18 ((n.kids.filter (fun e => e.2.st == 2)).length), u64 0x1C n.readyTime, u64 0x24 n.lockTime, (0x40, padTo 64 n.summary)]

/-- A child record. -/
def State.layChild (s : State) (k : Nat) : Lay :=
  match s.cfg.groups[k]? with
  | none => []
  | some (r, p) =>
    let x : Child := kget {} s.com.nest.kids k
    [u8 0 r, u8 1 p, u8 2 x.st, u8 3 (packBits [x.conflict, x.used]), u64 4 x.uid, u32 0xC x.sweep, u16 0x10 (ticksMs 16 x.age), (0x40, padTo 64 x.summary)]

/-! ### SESSIONS (R622, R623) -/

/-- ETHn_STATE. -/
def State.ethState (s : State) (p : Nat) : Nat :=
  let e := if p = 0 then s.links.eth0 else s.links.eth1
  let l := if p = 0 then Leaf.a else Leaf.b
  b2n (e.up && !s.fenceLine l) + 2 * (e.speed % 4) + 8 * b2n e.lpi + 16 * b2n e.phy + 32 * b2n (s.fenceLine l)

/-- The device record. -/
def State.laySessions (s : State) : Lay :=
  let k := s.links
  [u8 0 ((k.sess.filter (fun e => e.2.st == 3)).length), u8 1 s.outAll, u8 2 (s.cfg.n Ty.network 0 0),
   u8 3 (packBits [k.maintEn, s.aon.unkeyed, s.cfg.ptpOn, s.following]), u8 4 (s.ethState 0), u8 5 (s.ethState 1), u8 6 k.can0, u8 7 k.can1,
   u32 8 k.rxPackets, u32 0xC k.rxDiscarded, u32 0x10 k.authFails, u32 0x14 k.replays, u32 0x18 k.prpDup, u16 0x1C k.eth0.wrongLan,
   u16 0x1E k.eth1.wrongLan, u32 0x20 k.spiFrames, u16 0x24 k.spiCrc, u8 0x26 (if s.following then s.time.ptpPort else 0xFF),
   i32 0x28 s.time.ptpOffset, (0x30, toLe 6 (Config.mac 0)), (0x36, toLe 6 (Config.mac 1))]

/-- PEER_ID of a session record. -/
def State.peerId (s : State) (k : Nat) : Nat :=
  if k = sFactory then Config.deviceUid else if s.cfg.slotOn k && decide (k < 128) then leAt (s.cfg.img.payload Ty.session k) 8 8 else 0

/-- A session record. -/
def State.laySess (s : State) (k : Nat) : Lay :=
  let x := s.sess k
  let st := if k = sSpi then (if s.spiOn then 3 else 1) else x.st
  let has := decide (128 ≤ k) || s.cfg.img.has Ty.session k
  [u8 0 st, u8 1 (if has then s.role k else 0), u8 2 (if k = sSpi then 3 else x.port), u8 3 x.cause, u32 4 (if has then s.perms k else 0), u64 8 (s.peerId k),
   u8 0x10 x.outst.length, u8 0x11 (if has then s.maxOut k else 0), u16 0x12 x.subs, u64 0x14 x.openTime, u64 0x1C x.txReserved, u64 0x24 x.rxHigh,
   u32 0x2C x.trans, (0x30, toLe 16 x.peer)]

/-! ### STREAMS (R664, R665) -/

/-- The device record. -/
def State.layStreams (s : State) : Lay :=
  [u16 0 (packBits ((upto 16).map (fun n => s.cfg.producer n != 0))), u16 2 (packBits ((upto 16).map (fun n => !(s.fifo n).recv.isEmpty))),
   u32 4 (min 4294967295 (sumN ((upto 16).map (fun n => (s.fifo n).dropped))))]

/-- A stream record. -/
def State.layStream (s : State) (n : Nat) : Lay :=
  let f := s.fifo n
  [u8 0 (s.cfg.producer n), u8 1 (packBits [f.lossPend != 0, decide (s.time.now < f.swallow), s.cfg.producer n != 0 && s.cfg.wardFits n]), u8 2 f.recv.length,
   u16 4 f.words.length, u16 6 f.high, u32 8 f.wseq, u32 0xC f.written, u32 0x10 f.dropped, u32 0x14 f.lossPend, u16 0x18 f.flushes]

/-! ### EVENT_LOG (R692 to R694) -/

/-- The device record. -/
def State.layLog (s : State) : Lay :=
  let g := s.lg
  let c := (s.leaf s.act).log
  [u32 0 g.nextSeq, u32 4 (s.ringOldest c), u16 8 c.keep.length, u8 0xA s.la.log.spares, u8 0xB s.lb.log.spares, u16 0xC c.queue.length,
   u16 0xE g.queueHigh, u32 0x10 g.written, u32 0x14 g.suppTotal, u32 0x18 g.dropTotal, u32 0x1C g.streamOnly, u32 0x20 g.standbyDrops,
   u16 0x24 g.mediaFaults, u8 0x26 (packBits [s.la.log.failed, s.lb.log.failed, decide (c.queue.length ≥ 224), g.winHeld]), u8 0x27 g.winOwner,
   u32 0x28 g.winGen, u8 0x2C g.emergNext, u8 0x2D g.emergCount]

/-- A mark record. -/
def State.layMark (s : State) (m : Nat) : Lay :=
  let x := s.mark m
  [u8 0 (b2n x.alloc), u8 1 x.owner, u8 2 (b2n x.overrun), u32 4 x.seq, u64 8 x.allocTime, u64 0x10 x.readTime, u32 0x18 x.lostTotal]

/-- The header of the read window. -/
def State.layWindow (s : State) : Lay :=
  let g := s.lg
  [u32 0 g.winGen, u8 4 g.winOwner, u8 5 g.winCopy, u8 6 g.winRecs.length, u8 7 g.winStatus, u32 8 g.winFirst, u32 0xC g.winLost]

/-! ### PICK (R720, R721) -/

/-- The device record. -/
def State.layPick (s : State) : Lay :=
  let p := s.pick
  [u8 0 (b2n p.armed), u8 1 p.lastDisarm, u8 2 p.owner, u8 3 p.count, u32 4 (s.cfg.n Ty.pick 0 0), u8 8 (s.cfg.n Ty.pick 0 4), u16 0xA (s.cfg.n Ty.pick 0 6),
   u32 0xC p.armSeq, u64 0x10 p.armTime, u64 0x18 (if p.armSeq = 0 then 0 else p.armTime + 1000000000 * p.tArm), u32 0x20 p.injections]

/-- A rule record. -/
def State.layRule (s : State) (k : Nat) : Lay :=
  match s.pick.rules[k]? with
  | none => []
  | some r =>
    [(0, padTo 32 r.raw), u32 0x20 r.matched, u32 0x24 r.acted, u32 0x28 r.lfsr, u8 0x2C ((s.pick.held.filter (fun h => h.rule == k)).length),
     u16 0x2E r.overflow, u64 0x30 r.lastAct]

/-! ### POWER and DEVTHERM (R424, R645, R706) -/

/-- The supply record. -/
def State.layPower (s : State) : Lay :=
  let banks := packBits ((upto 4).map (fun k => (s.bank k).powered))
  [u16 0 (s.aon.rails % 256 + 256 * b2n s.aon.vaon + 512 * banks), u8 2 (packBits [s.la.regulated, s.lb.regulated]), u16 4 s.aon.supplyEvents]

/-- The sleep record. -/
def State.laySleep (s : State) : Lay :=
  let x := s.sleep
  [u8 0 x.st, u8 1 x.entryCause, u16 2 x.wakeCause, u8 4 x.refusal, u32 8 x.idle, u32 0xC x.sleeps, u64 0x10 x.entryTime, u64 0x18 x.wakeTime,
   u32 0x20 x.total, u16 0x24 x.latency]

/-- The DEVTHERM block after its sensor records. -/
def State.layDevTherm (s : State) : Lay :=
  let t := s.com.th
  let a := s.aon
  (upto 4).map (fun k => (0x10 * k, Lay.bytes (s.laySensor (0x1000 + k) (if s.cfg.tsZone k < s.cfg.zoneCount then s.cfg.tsZone k else 0xFFFF)) 16)) ++
  (upto 8).map (fun k => i16 (0x40 + 2 * k) (t.die.getD k 0)) ++ (upto 28).map (fun k => i16 (0x50 + 2 * k) (t.pdie.getD k 0)) ++
  [i16 0x88 t.dieMax, u8 0x8A t.dev.s, u8 0x8B s.com.mramWrite, u8 0x8C a.thCause, u16 0x8E a.thSource, u64 0x90 a.thTime, i16 0x98 a.thValue,
   u16 0x9A t.refusals, u32 0x9C s.comSweep]

/-! ### The bytes at an address (R626, R632) -/

/-- What reads 0 up to the next multiple of 256. -/
def zeroRec (a : Nat) : Nat × List Byte := (a, List.replicate (256 - a % 256) 0)

/-- One of `n` records of `w` bytes from `base` on. -/
def nthRec (base w n a : Nat) (lay : Nat → Lay) : Nat × List Byte :=
  let k := (a - base) / w
  if k < n then (base + w * k, (lay k).bytes w) else zeroRec a

/-- The record in which an address below the cell records lies: its first address and its bytes. -/
def State.recLow (s : State) (a : Nat) : Nat × List Byte :=
  if a < 0x100 then (0, Lay.bytes s.layIdent 0x100)
  else if a < 0x1000 then zeroRec a
  else if a < 0x1100 then (0x1000, Lay.bytes s.layControl 0x100)
  else if a < 0x10000 then zeroRec a
  else if a < 0x10100 then (0x10000, Lay.bytes s.layBitting 0x100)
  else if a < 0x11000 then zeroRec a
  else if a < 0x20000 then nthRec 0x11000 0x20 s.cfg.ovCount a s.layOverlay
  else if a < 0x20200 then (0x20000, Lay.bytes s.layTime 0x200)
  else if a < 0x30000 then zeroRec a
  else if a < 0x40000 then
    (if (a - 0x30000) % 0x1000 < 0x300 then (a - (a - 0x30000) % 0x1000, Lay.bytes (s.layRing ((a - 0x30000) / 0x1000)) 0x300) else zeroRec a)
  else if a < 0x50000 then nthRec 0x40000 0x40 1024 a (fun k => s.layNode (k / 64) (k % 64 + 1))
  else zeroRec a

/-- The same from 0x0020_0000 up to BALANCING. -/
def State.recMid (s : State) (a : Nat) : Nat × List Byte :=
  if a < 0x210000 then nthRec 0x200000 0x10 4096 a (fun k => s.laySensor k (s.sensorZoneOf k))
  else if a < 0x220000 then nthRec 0x210000 0x20 512 a s.layZone
  else if a < 0x230000 then nthRec 0x220000 0x100 64 a s.layString
  else if a < 0x240000 then nthRec 0x230000 0x40 1 a (fun _ => s.layBank)
  else if a < 0x241000 then nthRec 0x240000 0x40 64 a s.layStrLim
  else if a < 0x242000 then nthRec 0x241000 0x100 1 a (fun _ => s.layBankLim)
  else if a < 0x250000 then nthRec 0x242000 0x100 1 a (fun _ => s.layLease)
  else if a < 0x250400 then nthRec 0x250000 0x40 16 a s.layInput
  else if a < 0x260000 then nthRec 0x250400 0x10 64 a s.layStrCur
  else if a < 0x261000 then nthRec 0x260000 0x100 1 a (fun _ => s.layBal)
  else if a < 0x262000 then nthRec 0x261000 0x40 64 a s.layStrBal
  else if a < 0x266000 then nthRec 0x262000 0x10 1024 a s.layNodeBal
  else if a < 0x270000 then nthRec 0x266000 0x10 1024 a (fun k => s.layDuty (16 * k))
  else zeroRec a

/-- The same from PROTECTION on. -/
def State.recHigh (s : State) (a : Nat) : Nat × List Byte :=
  if a < 0x271000 then nthRec 0x270000 0x100 1 a (fun _ => s.layProt)
  else if a < 0x278000 then nthRec 0x271000 0x20 64 a s.layStrProt
  else if a < 0x280000 then nthRec 0x278000 2 16384 a (fun k => [u16 0 (s.cellWord k)])
  else if a < 0x281000 then nthRec 0x280000 0x100 1 a (fun _ => s.layHasp)
  else if a < 0x290000 then nthRec 0x281000 0x40 64 a s.layStrHasp
  else if a < 0x290100 then nthRec 0x290000 0x100 1 a (fun _ => s.laySwitch)
  else if a < 0x2A0000 then nthRec 0x290100 0x20 24 a s.layChan
  else if a < 0x2B0000 then nthRec 0x2A0000 0x80 1 a (fun _ => s.layKnuckle)
  else if a < 0x2B1000 then nthRec 0x2B0000 0x100 1 a (fun _ => s.layNest)
  else if a < 0x2C0000 then nthRec 0x2B1000 0x80 256 a s.layChild
  else if a < 0x2C1000 then nthRec 0x2C0000 0x100 1 a (fun _ => s.laySessions)
  else if a < 0x2D0000 then nthRec 0x2C1000 0x40 130 a s.laySess
  else if a < 0x2D0100 then nthRec 0x2D0000 0x100 1 a (fun _ => s.layStreams)
  else if a < 0x2E0000 then nthRec 0x2D0100 0x40 16 a s.layStream
  else if a < 0x2E0100 then nthRec 0x2E0000 0x100 1 a (fun _ => s.layLog)
  else if a < 0x2E0400 then nthRec 0x2E0100 0x20 16 a s.layMark
  else if a < 0x2E1000 then nthRec 0x2E0400 0x20 16 a (fun k => match s.lg.emerg.find? (fun e => e.1 == k) with | some e => [(0, e.2.bytes)] | none => [])
  else if a < 0x2E1020 then nthRec 0x2E1000 0x20 1 a (fun _ => s.layWindow)
  else if a < 0x2F0000 then nthRec 0x2E1020 0x20 127 a (fun k => match s.lg.winRecs[k]? with | some r => [(0, r.bytes)] | none => [])
  else if a < 0x2F0100 then nthRec 0x2F0000 0x100 1 a (fun _ => s.layPick)
  else if a < 0x300000 then nthRec 0x2F0100 0x40 16 a s.layRule
  else if a < 0x300100 then nthRec 0x300000 0x40 1 a (fun _ => s.layPower)
  else if a < 0x310000 then nthRec 0x300100 0x40 1 a (fun _ => s.laySleep)
  else nthRec 0x310000 0x100 1 a (fun _ => s.layDevTherm)

/-- The record in which an address lies. -/
def State.recAt (s : State) (a : Nat) : Nat × List Byte :=
  if a < 0x100000 then s.recLow a
  else if a < 0x200000 then nthRec 0x100000 0x40 16384 a s.layCell
  else if a < 0x270000 then s.recMid a
  else s.recHigh a

/-- `n` bytes from an address on, by fuel. -/
def State.objBytes (s : State) : Nat → Nat → Nat → List Byte
  | 0, _, _ => []
  | fuel + 1, a, n =>
    if n = 0 then []
    else
      let r := s.recAt a
      let b := (r.2.drop (a - r.1)).take n
      b ++ State.objBytes s fuel (a + b.length) (n - b.length)

/-- The bytes of a range of one block. -/
def State.obj (s : State) (a n : Nat) : List Byte := s.objBytes n a n

end Sys2Proof.Machine
end

