-- ==== Sys2Proof/Machine/Compare.lean ====
section
/-!
DEFINITION. The result digests of the leaves and their comparison (R539, R540).
-/
namespace Sys2Proof.Machine

/-! ### The chunks (R539) -/

/-- A record as bytes with `w` bytes from an offset set to 0. -/
def without (off w : Nat) (p : List Byte) : List Byte := p.take off ++ List.replicate w 0 ++ p.drop (off + w)

/-- A cell record without TAG bit 7 READY. -/
def State.cellChunkRec (s : State) (k : Nat) : List Byte :=
  let p := (s.layCell k).bytes 64
  p.set 2 (p.getD 2 0 &&& 0x7F)

/-- The lease payload of the commit without VALID_UNTIL and T_REMAIN, then the engine: its state, CEIL, A, C, excess and
silence times. The order and the widths of these are not given. DESIGN CHOICE, log 59. -/
def State.leaseChunk (s : State) : List Byte :=
  let l := s.com.lease
  without 8 10 (s.leaseNow false l.flags).bytes ++ [byteOf l.st] ++ (l.ceil ++ [l.a] ++ l.exc ++ l.calm ++ [l.silence]).flatMap (toLe 8)

/-- The committed bytes of a chunk by its number. -/
def State.chunk (s : State) (n : Nat) : List Byte :=
  match n with
  | 17 => (upto 64).flatMap (fun i => (s.layStrLim i).bytes 64) ++ s.layBankLim.bytes 64
  | 18 => (upto 64).flatMap (fun i => (s.layStrProt i).bytes 32) ++ (upto 16384).flatMap (fun k => toLe 2 (s.cellWord k)) ++
    s.com.prot.decs.flatMap (fun d => [byteOf d.1, byteOf d.2.1] ++ toLe 2 d.2.2)
  | 19 => s.leaseChunk
  | 20 => (upto 64).flatMap (fun i => without 0x18 8 ((s.layStrHasp i).bytes 64))
  | 21 => (upto 64).flatMap (fun i => (s.layStrBal i).bytes 64) ++ (upto 1024).flatMap (fun m => (s.layNodeBal m).bytes 16) ++
    (upto 1024).flatMap (fun k => (s.layDuty (16 * k)).bytes 16)
  | 22 => (upto 512).flatMap (fun z => (s.layZone z).bytes 32) ++ (upto 64).flatMap (fun i => (s.layStrCur i).bytes 16)
  | n => (upto 1024).flatMap (fun k => s.cellChunkRec (1024 * (n - 1) + k))

/-- The chunk digests of a leaf: those of the committed results, but where a fault has left other bytes in a chunk. -/
def State.chunkDigests (s : State) (f : Option ChunkFault) : List (List Byte) :=
  (upto 22).map (fun i => sha256 (match f with
    | some x => if x.chunk = i + 1 then x.bytes else s.chunk (i + 1)
    | none => s.chunk (i + 1)))

/-- The result digest of a leaf (R539). -/
def State.resultDigest (s : State) (f : Option ChunkFault) : List Byte := sha256 (s.chunkDigests f).flatten

/-- The first chunk in which the leaves' digests differ; decisions that one leaf alone took stand in chunk 18 (R428). -/
def State.firstChunk (s : State) (a b : Option ChunkFault) : Nat :=
  match ((s.chunkDigests a).zip (s.chunkDigests b)).findIdx? (fun x => x.1 != x.2) with
  | some i => i + 1
  | none => 18

/-- The leaves' digests agree, and so did their decisions (R428). -/
def State.digestsAgree (s : State) (a b : Option ChunkFault) : Bool := s.resultDigest a == s.resultDigest b && !s.kn.decDiffer

/-! ### The comparison (R540) -/

/-- The digests of the last commit are shown (R557). -/
def State.setDigests (s : State) (a b : Option ChunkFault) : State :=
  { s with la := { s.la with digest := s.resultDigest a }, lb := { s.lb with digest := s.resultDigest b } }

/-- RESULT_COMPARE at commit + 20 µs (R540). Agreement clears MISMATCH_RUN and validates the sweep. The operands are what a
fault left in a chunk of a leaf's results. DESIGN CHOICE, log 59. -/
def execResultCompare (t : Nat) (faultA faultB : Option ChunkFault) (s : State) : Ans :=
  at' t (fun s =>
    if s.sw.fresh ∧ s.bothRun ∧ s.sw.commitNow + 20000 ≤ s.time.now then
      let same := s.digestsAgree faultA faultB
      let first := s.firstChunk faultA faultB
      let s := ({ s.setDigests faultA faultB with sw := { s.sw with fresh := false } } : State)
      if same then ({ s with kn := { s.kn with mismatchRun := 0 } } : State).sweepValidated
      else { s with kn := { s.kn with differ := true, differAt := first } }
    else s) s

/-- RESULT_RECOMPARE at commit + 100 µs: a transient, or a confirmed mismatch; the second in a row starts arbitration. A
transient is logged with the chunk of the first exchange. DESIGN CHOICE, log 59. DEDUCED, log 60. -/
def execResultRecompare (t chunk : Nat) (leftA leftB : Option (List Byte)) (s : State) : Ans :=
  at' t (fun s =>
    let faultA := leftA.map (ChunkFault.mk chunk)
    let faultB := leftB.map (ChunkFault.mk chunk)
    if s.kn.differ ∧ s.bothRun ∧ s.sw.commitNow + 100000 ≤ s.time.now then
      let same := s.digestsAgree faultA faultB
      let first := s.firstChunk faultA faultB
      let s := ({ s.setDigests faultA faultB with kn := { s.kn with differ := false } } : State)
      if same then
        let s := { s with kn := { s.kn with transients := satAdd 32 s.kn.transients 1 } }
        (s.evA Ev.knuckleMismatch srcD [p4 s.sw.cSweep, p1 s.kn.differAt, p1 1]).sweepValidated
      else
        let k := s.kn
        let s := { s with kn := { k with mismatches := satAdd 32 k.mismatches 1, mismatchRun := min 255 (k.mismatchRun + 1), lastMismatch := s.sw.cSweep } }
        let s := s.evA Ev.knuckleMismatch srcD [p4 s.sw.cSweep, p1 first, p1 (2 * b2n (bit s.sw.cFlags 2))]
        if s.kn.mismatchRun ≥ 2 ∧ s.kn.arb ≠ 3 then { s with kn := { s.kn with arb := 1 } } else s
    else s) s

end Sys2Proof.Machine
end

