-- ==== Sys2Proof/Machine/Access.lean ====
section
/-!
DEFINITION. READ, WRITE, BATCH, CLOSE and KEEPALIVE (R612, R617, R618, R628 to R637): what reaches the object map, and
what may be written there.
-/
namespace Sys2Proof.Machine

/-! ### READ -/

/-- What SAFE answers (R602): the IDENT block, and the AON retention records: the Deadbolt's, the thermal latch's, the
emergency records. DEDUCED: the manual names the retention records of these rules. DEDUCED, log 44. -/
def safeReadable (a n : Nat) : Bool :=
  decide (a + n ≤ 0x1000) || decide (0x270000 ≤ a ∧ a + n ≤ 0x270040) || decide (0x31008C ≤ a ∧ a + n ≤ 0x31009A) ||
  decide (0x2E0400 ≤ a ∧ a + n ≤ 0x2E0600)

/-- Whether a range touches the cell records. -/
def inCells (a n : Nat) : Bool := decide (a < 0x200000 ∧ 0x100000 < a + n)

/-- A READ by its body (R612, R617, R321). -/
def State.readReq (s : State) (k : Nat) (body : List Byte) : HR :=
  let a := leAt body 0 4
  let n := leAt body 4 2
  if body.length ≠ 8 ∨ n = 0 ∨ 1024 < n then s.ans St.badLen
  else if s.aon.dev = .safe then (if safeReadable a n then s.ansOk (s.obj a n) else s.ans St.denied)
  else if !s.may k Perm.read then s.ans St.denied
  else if !inOneBlock a n then s.ans St.badAddr
  else if inStreamData a n then s.streamRead ⟨k, 0, body⟩ a n
  else if k ≠ sSpi ∧ inCells a n ∧ !s.ready then (s, some (St.notReady, s.obj a n))
  else s.ansOk (s.obj a n)

/-- READ. -/
def execRead (t : Nat) (q : HReq) (s : State) : Ans :=
  at' t (fun s => s.request q 1 0 true (fun s => s.readReq q.sess q.args)) s

/-! ### WRITE -/

/-- What a WRITE does once judged. -/
inductive WAct where
  | refuse (status : Nat)
  | overlay (e : OvEnt) (v : Int)
  | sticky (mask : Nat)
  | note (bytes : List Byte)
  deriving DecidableEq, Repr

/-- The writable fields (R631): first address, bytes, permission. -/
def State.writable (s : State) : List (Nat × Nat × Nat) :=
  [(0x14, 4, Perm.overlay), (0x1010, 12, Perm.mark)] ++ (upto s.cfg.ovCount).map (fun e => (0x11008 + 0x20 * e, 4, Perm.overlay))

/-- A written VALUE as its entry reads it, where it fits the entry's width (R637). -/
def OvEnt.fits (e : OvEnt) (raw : Nat) : Option Int :=
  if bit e.flags 0 then
    let v := toSigned 4 raw
    if -((2 ^ (8 * e.w - 1) : Nat) : Int) ≤ v ∧ v < ((2 ^ (8 * e.w - 1) : Nat) : Int) then some v else none
  else if raw < 2 ^ (8 * e.w) then some (raw : Int) else none

/-- An accepted value of an entry replaces an earlier one (R139). -/
def putOv (l : List OvVal) (e : OvEnt) (v : Int) : List OvVal :=
  ⟨e.ty, e.inst, e.off, v⟩ :: l.filter (fun o => !(o.ty == e.ty && o.inst == e.inst && o.off == e.off))

/-- A WRITE by its body, judged beside the overlay values accepted before it (R138, R617, R628, R631, R637). DEDUCED: a
range without a byte of a writable field is DENIED, one that takes in other bytes or a part only is BAD_LENGTH. DEDUCED, log 43. -/
def State.judgeWrite (s : State) (k : Nat) (pend : List OvVal) (body : List Byte) : WAct :=
  let a := leAt body 0 4
  let n := leAt body 4 2
  if body.length < 8 ∨ n = 0 ∨ 256 < n ∨ body.length ≠ 8 + n then .refuse St.badLen
  else if !inOneBlock a n then .refuse St.badAddr
  else match s.writable.find? (fun f => decide (a < f.1 + f.2.1 ∧ f.1 < a + n)) with
    | none => .refuse St.denied
    | some f =>
      if f.1 ≠ a ∨ f.2.1 ≠ n then .refuse St.badLen
      else if !s.may k f.2.2 then .refuse St.denied
      else if a = 0x14 then .sticky (leAt body 8 4)
      else if a = 0x1010 then .note (bytesAt body 8 12)
      else
        let e := s.cfg.ovEnt ((a - 0x11008) / 0x20)
        match e.fits (leAt body 8 4) with
        | none => .refuse St.bounds
        | some v => if ovAccepts s.cfg e v pend then .overlay e v else .refuse St.bounds

/-- The effect of a judged WRITE. -/
def State.applyWrite (s : State) (k : Nat) : WAct → State
  | .refuse _ => s
  | .overlay e v =>
    { s with ovl := { s.ovl with pend := putOv s.ovl.pend e v, last := putOv s.ovl.last e v, pendGen := satAdd 32 s.ovl.pendGen 1 } }
  | .sticky m => { s with lg := { s.lg with sticky := s.lg.sticky - (s.lg.sticky &&& m) } }
  | .note b => s.evA Ev.hostNote k (b.map (fun x => p1 x.toNat))

/-- The status a judged WRITE is answered with. -/
def WAct.status : WAct → Nat
  | .refuse st => st
  | _ => St.ok

/-- A WRITE: judged, done, answered. -/
def State.writeReq (s : State) (k : Nat) (body : List Byte) : HR :=
  let w := s.judgeWrite k s.ovl.pend body
  (s.applyWrite k w).ans w.status

/-- OVERLAY_VALUE_WRITE: a WRITE at an entry's VALUE (R636, R637). -/
def execOverlayValueWrite (t : Nat) (q : HReq) (s : State) : Ans :=
  at' t (fun s => s.request q 2 0 false (fun s => s.writeReq q.sess q.args)) s

/-- STICKY_CLEAR: a WRITE at IDENT.STICKY (R634). -/
def execStickyClear (t : Nat) (q : HReq) (s : State) : Ans :=
  at' t (fun s => s.request q 2 0 false (fun s => s.writeReq q.sess q.args)) s

/-- HOST_NOTE: a WRITE at CONTROL.HOST_NOTE (R635). -/
def execHostNote (t : Nat) (q : HReq) (s : State) : Ans :=
  at' t (fun s => s.request q 2 0 false (fun s => s.writeReq q.sess q.args)) s

/-- WRITE_OTHER: a WRITE at any other range (R628, R631). -/
def execWriteOther (t : Nat) (q : HReq) (s : State) : Ans :=
  at' t (fun s => s.request q 2 0 false (fun s => s.writeReq q.sess q.args)) s

/-! ### BATCH (R618) -/

/-- The messages of a BATCH body after its first four bytes: KIND and body of each; none where they do not fit. -/
def batchItems : Nat → List Byte → Option (List (Nat × List Byte))
  | 0, p => if p.isEmpty then some [] else none
  | n + 1, p =>
    let len := leAt p 4 2
    if p.length < 8 + len then none
    else match batchItems n (p.drop (8 + len)) with
      | none => none
      | some r => some ((leAt p 0 1, bytesAt p 8 len) :: r)

/-- An item's answer. -/
def itemAnswer (kind status : Nat) (body : List Byte) : List Byte := msgBytes (kind + 0x80) status 0 body

/-- The READ items in order. -/
def State.batchRead (s : State) (k : Nat) (items : List (Nat × List Byte)) : State × List Byte :=
  items.foldl (fun (acc : State × List Byte) it =>
    let r := acc.1.readReq k it.2
    let a := r.2.getD (0, [])
    (r.1, acc.2 ++ itemAnswer 1 a.1 a.2)) (s, [])

/-- The WRITE items, each judged beside those before it. -/
def State.batchJudge (s : State) (k : Nat) (items : List (Nat × List Byte)) : List WAct :=
  (items.foldl (fun (acc : List OvVal × List WAct) it =>
    let w := s.judgeWrite k acc.1 it.2
    (match w with | .overlay e v => putOv acc.1 e v | _ => acc.1, acc.2 ++ [w])) (s.ovl.pend, [])).2

/-- The WRITE items take effect together, or none does. -/
def State.batchWrite (s : State) (k : Nat) (items : List (Nat × List Byte)) : State × List Byte :=
  let ws := s.batchJudge k items
  if ws.all (fun w => w.status == St.ok) then (ws.foldl (fun s w => s.applyWrite k w) s, (ws.map (fun _ => itemAnswer 2 St.ok [])).flatten)
  else (s, (ws.map (fun w => itemAnswer 2 (if w.status = St.ok then St.notApplied else w.status) [])).flatten)

/-- Whether a BATCH holds READ items alone. -/
def batchReads (body : List Byte) : Bool :=
  match batchItems (leAt body 0 1) (body.drop 4) with
  | some l => l.all (fun i => i.1 == 1)
  | none => false

/-- A BATCH by its body. -/
def State.batchReq (s : State) (k : Nat) (body : List Byte) : HR :=
  let n := leAt body 0 1
  if body.length < 4 ∨ n = 0 ∨ 16 < n then s.ans St.badLen
  else match batchItems n (body.drop 4) with
    | none => s.ans St.badLen
    | some l =>
      if l.all (fun i => i.1 == 1) then let r := s.batchRead k l; r.1.ansOk r.2
      else if l.all (fun i => i.1 == 2) then let r := s.batchWrite k l; r.1.ansOk r.2
      else s.ans St.badKind

/-- BATCH. -/
def execBatch (t : Nat) (q : HReq) (s : State) : Ans :=
  at' t (fun s => s.request q 5 (b2n (batchReads q.args)) (batchReads q.args) (fun s => s.batchReq q.sess q.args)) s

/-! ### CLOSE and KEEPALIVE -/

/-- CLOSE: answered, then the session closes; the SPI session stays open while MAINT_EN is high (R602, R611). -/
def execClose (t : Nat) (q : HReq) (s : State) : Ans :=
  at' t (fun s => s.request q 6 0 false (fun s =>
    if !q.args.isEmpty then s.ans St.badLen
    else if q.sess = sSpi then s.ans St.ok
    else ((s.answer q.sess q.tag St.ok []).closeSession q.sess Cc.close).later)) s

/-- KEEPALIVE. -/
def execKeepalive (t : Nat) (q : HReq) (s : State) : Ans :=
  at' t (fun s => s.request q 7 0 false (fun s => if q.args.isEmpty then s.ans St.ok else s.ans St.badLen)) s

end Sys2Proof.Machine
end

