-- ==== Sys2Proof/Machine/Publish.lean ====
section
/-!
DEFINITION. What leaves the device 50 µs after each commit point (R237, R491, R206, R505, R657): the lease, HEARTBEAT, the
bank status frame, and the SWEEP and SNAPSHOT items.
-/
namespace Sys2Proof.Machine

/-- HEARTBEAT from each end of every configured ring (R175, R206), with SEQ 0: R203 gives a SEQ to requests to a position
alone. DESIGN CHOICE, log 108. -/
def State.sendHeartbeats (s : State) : State :=
  s.each s.cfg.rings (fun r s => s.each [Leaf.a, Leaf.b] (fun e s => s.sendFrame r e 4 0xFFFF 0x0A 0 s.heartbeatP))

/-- The payload of a SWEEP item (R657). -/
def State.sweepItem (s : State) : List Byte :=
  let w := s.sw
  toLe 4 w.cSweep ++ [byteOf w.cPeriod, byteOf w.cFlags, byteOf s.dbState, byteOf s.shown.closedStrs.length] ++ toLe 8 w.cSample ++ toLe 8 w.cCommit ++
    bytesAt (Lay.bytes s.layBank 0x40) 4 4 ++ bytesAt (Lay.bytes s.layBank 0x40) 2 2 ++ toLe 2 w.cAbsent ++ toLe 2 w.cDist ++ toLe 2 w.cClip ++
    toLe 4 s.lease.no ++ padTo 32 w.cDigest

/-- The payload of a SNAPSHOT item of a stream (R130, R657): its ranges in entry order. -/
def State.snapshotItem (s : State) (n : Nat) : List Byte :=
  let p := s.cfg.img.payload Ty.stream n
  ((upto (leAt p 6 2)).map (fun i => s.obj (leAt p (8 + 8 * i) 4) (leAt p (12 + 8 * i) 2))).flatten

/-- Whether the committed sweep's number is a multiple of a stream's DECIMATE. -/
def State.decimated (s : State) (n : Nat) : Bool := s.sw.cSweep % max 1 (s.cfg.n Ty.stream n 2) == 0

/-- SWEEP and SNAPSHOT items of a commit point. -/
def State.commitItems (s : State) : State :=
  let s := s.produce 1 1 s.decimated s.sweepItem
  s.each (s.cfg.streamsOf 6) (fun n s => if s.decimated n then s.produce 6 7 (· == n) (s.snapshotItem n) else s)

/-- The lease after a commit point; on entry to SLEEP the zero lease with SLEEP (R493, R698). -/
def State.leaseAfter (s : State) : State :=
  if s.sleep.st = 1 then (if s.leasing then s.putLease (s.leaseNow true (setBit s.com.lease.flags 7 true)) else s) else s.publish

/-- LEASE_PUBLISH, once for each commit point. -/
def execLeasePublish (t : Nat) (s : State) : Ans :=
  at' t (fun s =>
    if s.lease.due ∧ s.sw.commitNow + 50000 ≤ s.time.now ∧ s.sweeping then
      let s := { s with lease := { s.lease with due := false } }
      s.leaseAfter.sendHeartbeats.canStatus.commitItems
    else s) s

end Sys2Proof.Machine
end

