-- ==== Sys2Proof/Machine/Sleeping.lean ====
section
/-!
DEFINITION. SLEEP (R696 to R705): the command, the last step of the entry, what runs asleep, and its own wake sources.
-/
namespace Sys2Proof.Machine

/-- SLEEP_ENTER at acceptance (R697); asleep or on the way there it is answered OK without effect. -/
def State.sleepCmd (s : State) : HR :=
  if s.sleep.st ≠ 0 then s.ans St.ok
  else match s.sleepBlock with
    | none => ({ s with sleep := { s.sleep with want := 1 } } : State).ans St.ok
    | some (r, st) => ({ s with sleep := { s.sleep with refusal := r } }, some (st, [byteOf r]))

/-- SLEEP_ENTER. -/
def execSleepEnter (t : Nat) (q : HReq) (s : State) : Ans :=
  at' t (fun s => s.cmdAny q 0x0003 (fun s => s.may q.sess Perm.restart) (· == 0) (fun s => s.sleepCmd)) s

/-- Balancing plans still unanswered are abandoned (R698). -/
def State.dropPlans (s : State) : State :=
  { s with ch := { s.ch with ports := s.ch.ports.map (fun (e : Nat × PortPos) => (e.1, { e.2 with q := e.2.q.filter (fun r => r.purpose != Purpose.bal) })) } }

/-- The last steps of the entry: LOW, the cores are gated, SLEEP. Wake sources that arose meanwhile wake at once. -/
def State.asleep (s : State) : State :=
  let s := (s.sendRate 1).dropPlans
  let z := s.sleep
  let s := { s with
    ch := { s.ch with low := true }
    aon := { s.aon with dev := .sleep }
    sleep := { z with st := 2, sleeps := satAdd 32 z.sleeps 1, entryTime := s.devTime, entryNow := s.time.now
                      hbNext := s.time.now + 100000000, convNext := s.time.now + 1000000000 } }
  let s := ((s.setLpi true).canFollow).evA Ev.sleepEntered srcD [p1 z.entryCause, p4 s.sw.cSweep]
  if z.wakePend ≠ 0 then s.wake z.wakePend else s

/-- SLEEP_RATE_LOW (R698), 2 ms after the commit point of the entry. A device that has left RUN meanwhile stays awake. -/
def execSleepRateLow (t : Nat) (s : State) : Ans :=
  at' t (fun s =>
    if s.sleep.st = 1 ∧ s.sleep.rateAt ≤ s.time.now then
      if s.inRun then s.asleep else { s with sleep := { s.sleep with st := 0, wakePend := 0 } }
    else s) s

/-- SLEEP_HEARTBEAT (R699). -/
def execSleepHeartbeat (t : Nat) (s : State) : Ans :=
  at' t (fun s =>
    if s.aon.dev = .sleep ∧ s.sleep.hbNext ≤ s.time.now then
      ({ s with sleep := { s.sleep with hbNext := s.time.now + 100000000 } } : State).sendHeartbeats
    else s) s

/-! ### Charge counted in SLEEP (R701) -/

/-- A block value of an input in 100 µA; none where no string is bound to it. -/
def State.blockValue (s : State) (k : Nat) (raw : List Int) : Option Int :=
  if s.cfg.inputOn k ∧ !(s.cfg.bound k).isEmpty then some (s.cfg.toCurrent k (satS 24 (raw.getD k 0))) else none

/-- SLEEP_CURRENT_BLOCK: the means of the inputs over the block, unconverted. Asleep a block is 100 ms long; the last one
ends at the sample instant of the first sweep after the wake. -/
def execSleepCurrentBlock (t : Nat) (raw : List Int) (s : State) : Ans :=
  at' t (fun s =>
    let z := s.sleep
    let len := min 100000000 (s.time.now - z.blkFrom)
    if (z.st = 2 ∧ len = 100000000) ∨ (z.st = 0 ∧ z.fresh ∧ 0 < len) then
      let q := (s.cfg.strings.filter (fun i => s.cfg.strFld i 1 != 1)).foldl (fun (m : KMap Int) i =>
        match s.blockValue (s.cfg.strFld i 2) raw with
        | some v => kmod 0 m i (· + v * ((len / 10 : Nat) : Int))
        | none => m) z.q
      let s := { s with sleep := { z with q := q, blkFrom := z.blkFrom + len } }
      if (upto 16).any (fun k => match s.blockValue k raw with | some v => decide (v.natAbs > s.cfg.n Ty.sleep 0 4) | none => false)
      then s.wake 0x10 else s
    else s) s

/-! ### Thermal, WAKE_N, the timer (R699, R700) -/

/-- Whether the converted sensors wake the device. A TS input without a valid reading says nothing. -/
def State.thermalWake (s : State) (d : DevIn) : Bool :=
  (upto 4).any (fun k =>
    let z := s.cfg.tsZone k
    let v := d.ts.getD k 0x7FFF
    z != 0xFFFF && v != 0x7FFF && v != 0x7FFE && (decide (min (s.cfg.stepThr z 0 1) (s.cfg.stepThr z 1 1) ≤ v) || decide (v ≤ s.cfg.zoneFld z 0x3A))) ||
  d.die.any (fun x => decide (1150 ≤ x))

/-- SLEEP_SENSOR_CONVERSION, once per second. -/
def execSleepSensorConversion (t : Nat) (d : DevIn) (s : State) : Ans :=
  at' t (fun s =>
    if s.aon.dev = .sleep ∧ s.sleep.convNext ≤ s.time.now then
      let s := { s with sleep := { s.sleep with convNext := s.time.now + 1000000000 } }
      if s.thermalWake d then s.wake 0x20 else s
    else s) s

/-- WAKE_N_ASSERT. -/
def execWakeNAssert (t : Nat) (s : State) : Ans := at' t (fun s => s.wakeIf 0) s

/-- WAKE_TIMER: 0 is off. -/
def execWakeTimer (t : Nat) (s : State) : Ans :=
  at' t (fun s =>
    let w := s.cfg.n Ty.sleep 0 8
    if s.aon.dev = .sleep ∧ w ≠ 0 ∧ s.sleep.entryNow + 1000000000 * w ≤ s.time.now then s.wakeIf 2 else s) s

end Sys2Proof.Machine
end

