-- ==== Sys2Proof/Machine/PickCmd.lean ====
section
/-!
DEFINITION. Arming and disarming Pick (R711 to R713, R719).
-/
namespace Sys2Proof.Machine

/-- Whether a rule's fields lie in their ranges (R712). -/
def PickRule.inRange (r : PickRule) : Bool :=
  let f := r.fld
  let tgt := f 0 1
  let act := f 2 1
  let pos := f 6 1
  let p := f 0x18 4
  decide (f 1 1 < 4) && (tgt < 16 || f 1 1 &&& 1 == 0) && (tgt != 16 || f 1 1 &&& 2 != 0) && f 3 1 == 0 && f 4 2 != 0 &&
  (if tgt < 16 then decide (pos ≤ 64) else if tgt = 16 then decide (pos ≤ 128) else pos == 0) && f 7 1 == 0 && f 8 2 != 0 && f 0xE 2 == 0 &&
  (f 0xC 2 == 0 || f 0x10 4 != 0) && (f 0x16 2 == 0 || decide (f 0x14 2 < f 0x16 2)) && f 0x1C 4 == 0 &&
  (match act with
    | 3 => decide (1 ≤ p ∧ p ≤ 8)
    | 4 => decide (1 ≤ p ∧ p ≤ 1000000)
    | 1 => f 0x1A 1 != 0 && f 0x1B 1 == 0
    | 2 => f 0x1A 1 != 0 && f 0x1B 1 == 0 && decide (8 ≤ f 0x18 2)
    | _ => p == 0)

/-- The rules of a PICK_ARM. -/
def armRules (args : List Byte) : List PickRule :=
  (upto (leAt args 2 1)).map (fun i => let raw := bytesAt args (4 + 32 * i) 32; { raw := raw, lfsr := leAt raw 0x10 4 })

/-- Reason 0x02 or 0x03 of the first rule that R711 does not permit; 0 none. -/
def State.pickDenied (s : State) (rs : List PickRule) : Nat :=
  let targets := s.cfg.n Ty.pick 0 0
  let actions := s.cfg.n Ty.pick 0 4
  match rs.find? (fun r => !bit targets (r.fld 0 1) || !bit actions (r.fld 2 1)) with
  | some r => if bit targets (r.fld 0 1) then 3 else 2
  | none => 0

/-- Whether a rule with CORRUPT_SILENT meets a string that is not OPEN (R713). -/
def State.silentLive (s : State) (r : PickRule) : Bool :=
  r.fld 2 1 == 2 && s.notOpen.any (fun i => r.fld 0 1 == 17 || s.cfg.ringOfString (r.fld 0 1) i)

/-- The rows of R713. -/
def State.pickArm (s : State) (q : HReq) : HR :=
  let tArm := arg q 0 2
  let n := arg q 2 1
  let rs := armRules q.args
  let busy := s.stage.st == 5 || s.kn.arb != 0 || s.kn.handoverAsked ||
    [Leaf.a, Leaf.b].any (fun l => (s.leaf l).st == .rejoining || (s.leaf l).st == .resyncing)
  if q.args.length ≠ 4 + 32 * n then s.ans St.badLen
  else if s.pick.armed then s.ansWhy 1
  else if !s.inRun || s.aon.unkeyed then s.ansWhy 6
  else if busy then s.ans St.busy
  else if s.pickDenied rs ≠ 0 then s.ansWhy (s.pickDenied rs)
  else if rs.any (fun r => r.fld 2 1 == 2 && r.fld 0 1 == 16) then s.ansWhy 5
  else if rs.any s.silentLive then s.ansWhy 4
  else if tArm = 0 ∨ s.cfg.n Ty.pick 0 6 < tArm ∨ n = 0 ∨ 16 < n ∨ arg q 3 1 ≠ 0 ∨ rs.any (fun r => !r.inRange) then s.ans St.bounds
  else
    let seq := (s.pick.armSeq + 1) % 4294967296
    let s := { s with pick := { s.pick with
      armed := true, owner := q.sess, count := n, armSeq := seq, armTime := s.devTime, armNow := s.time.now, tArm := tArm, rules := rs } }
    (s.evA Ev.pickArmed q.sess [p2 tArm, p1 n, p1 0, p1 0]).ansOk (toLe 4 seq)

/-- PICK_ARM. -/
def execPickArm (t : Nat) (q : HReq) (s : State) : Ans :=
  at' t (fun s => s.cmdAny q 0x1301 (fun s => s.may q.sess Perm.pick) (fun n => decide (4 ≤ n)) (fun s => s.pickArm q)) s

/-- PICK_DISARM, from any session with PICK. Disarmed already, it has no effect. -/
def execPickDisarm (t : Nat) (q : HReq) (s : State) : Ans :=
  at' t (fun s => s.cmd q 0x1302 (fun s => s.may q.sess Perm.pick) (· == 0) (fun s => (s.pickDisarm 1).ans St.ok)) s

/-- PICK_EXPIRY. -/
def execPickExpiry (t : Nat) (s : State) : Ans :=
  at' t (fun s => if s.pick.armed ∧ s.pick.armNow + 1000000000 * s.pick.tArm ≤ s.time.now then s.pickDisarm 2 else s) s

end Sys2Proof.Machine
end

