-- ==== Sys2Proof/Machine/Ward.lean ====
section
/-!
DEFINITION. Ward packets and sessions (R603 to R612): the handshake, the replay window, the messages of a packet, and the
time limits of a session.
-/
namespace Sys2Proof.Machine

/-! ### Messages reach their rows (R612, R646) -/

/-- The state a command leads to. -/
def Ans.to (a : Ans) (s : State) : State :=
  match a with
  | .next s' => s'
  | _ => s

/-- The command of an opcode (R646), by the row that gives it its meaning; none for an unknown opcode. -/
def opRow (op : Nat) (t : Nat) (q : HReq) (s : State) : Option Ans :=
  match op with
  | 0x0001 => some (execRestartFull t q s)
  | 0x0002 => some (execTimeSet t q s)
  | 0x0003 => some (execSleepEnter t q s)
  | 0x0010 => some (execMarkAlloc t q s)
  | 0x0011 => some (execMarkFree t q s)
  | 0x0012 => some (execMarkRead t q s)
  | 0x0101 => some (execStageOpen t q s)
  | 0x0102 => some (execStageChunk t q s)
  | 0x0103 => some (execStageClose t q s)
  | 0x0104 => some (execStageAbort t q s)
  | 0x0105 => some (execApply t q s)
  | 0x0106 => some (execRevert t q s)
  | 0x0107 => some (execKeyProgram t q s)
  | 0x0108 => some (execKeyRevoke t q s)
  | 0x0201 => some (execChainReenum t q s)
  | 0x0202 => some (execNodeRead t q s)
  | 0x0203 => some (execNodeWrite t q s)
  | 0x0501 => some (execCellMinmaxClear t q s)
  | 0x0801 => some (execBalNodeResume t q s)
  | 0x0A01 => some (execTripClear t q s)
  | 0x0A02 => some (execDeadboltClearArm t q s)
  | 0x0B01 => some (execStringClose t q s)
  | 0x0B02 => some (execStringOpen t q s)
  | 0x0B03 => some (execStringUnlock t q s)
  | 0x0C01 => some (execLeaseAck t q s)
  | 0x0D01 => some (execSwSet t q s)
  | 0x0D02 => some (execSwReenable t q s)
  | 0x0D03 => some (execSwRestartReset t q s)
  | 0x0E01 => some (execLeafRejoin t q s)
  | 0x0E02 => some (execLeafFence t q s)
  | 0x0E03 => some (execHandover t q s)
  | 0x0E04 => some (execLeafSelftest t q s)
  | 0x0F01 => some (execNestPass t q s)
  | 0x1101 => some (execStreamFlush t q s)
  | 0x1301 => some (execPickArm t q s)
  | 0x1302 => some (execPickDisarm t q s)
  | _ => none

/-- A CMD message: its opcode and arguments (R612, R646). -/
def State.cmdMsg (s : State) (k tag : Nat) (body : List Byte) : State :=
  let op := leAt body 0 2
  if body.length < 4 ∨ body.length ≠ 4 + leAt body 2 2 then s.request ⟨k, tag, body⟩ 3 op false (fun s => s.ans St.badLen)
  else match opRow op s.time.now ⟨k, tag, body.drop 4⟩ s with
    | some a => a.to s
    | none => s.request ⟨k, tag, body.drop 4⟩ 3 op false (fun s => s.ans St.badOp)

/-- The header of a request (R612). -/
def msgHead (m : Msg) : List Byte := [byteOf m.kind, 0] ++ toLe 2 m.tag ++ toLe 2 m.len ++ [0, 0]

/-- A message of a session; one that overruns its packet or has an unknown KIND gets an ERROR (R612). -/
def State.message (s : State) (k : Nat) (m : Msg) : State :=
  let q : HReq := ⟨k, m.tag, m.body⟩
  let t := s.time.now
  if m.len ≠ m.body.length then s.send k 0x9F St.badKind 0 (msgHead m)
  else match m.kind with
    | 1 => (execRead t q s).to s
    | 2 => (execOverlayValueWrite t q s).to s
    | 3 => s.cmdMsg k m.tag m.body
    | 4 => if leAt m.body 1 1 = 1 then (execSubscribeStart t q s).to s else (execSubscribeStop t q s).to s
    | 5 => (execBatch t q s).to s
    | 6 => (execClose t q s).to s
    | 7 => (execKeepalive t q s).to s
    | _ => s.send k 0x9F St.badKind 0 (msgHead m)

/-! ### The port, Pick and wake (R621, R700, R709) -/

/-- Whether datagrams reach the device through a port: its leaf is not fenced, the device is up (R547, R625). -/
def State.ethOn (s : State) (port : Nat) : Bool := s.up && (if port = 0 then s.alive .a else decide (port = 1) && s.alive .b)

/-- PORT of a session record: both in PRP (R623). -/
def State.portNo (s : State) (port : Nat) : Nat := if s.cfg.prp then 2 else port

/-- A datagram is discarded and counted (R603). DEDUCED, log 48. -/
def State.discard (s : State) : State := { s with links := { s.links with rxDiscarded := satAdd 32 s.links.rxDiscarded 1 } }

/-- The session a SESSION_ID names; while UNKEYED the factory credential's alone. DESIGN CHOICE, log 49. -/
def State.sidSess (s : State) (sid : Nat) : Nat := if s.aon.unkeyed then sFactory else sid % 128

/-- A Ward datagram: a valid header wakes the device (R700); awake, it passes Pick (R709, R710) and is handled. Asleep, with
addressed frames no wake source, nothing takes it. -/
def State.wardRx (s : State) (port ty kindBit sid counter : Nat) (again : Instr) (bad : Nat → Nat → State → State)
    (deliver : State → State) : State :=
  if !s.ethOn port then s
  else
    let s := s.wakeIf 3
    if s.aon.dev = .sleep then s
    else
      let f : PickSeen := { target := 16, kindBit := kindBit, kind := ty, pos := sid % 128 + 1, seqW := 8, seq := counter }
      let x := s.pickJudge f
      let s := x.1
      let count := fun (s : State) => { s with links := { s.links with rxPackets := satAdd 32 s.links.rxPackets 1 } }
      match x.2 with
      | .pass => deliver (count s)
      | .drop => s
      | .corrupt off m => s.withPick true (fun s => bad off m (count s))
      | .silent _ _ => deliver (count s)
      | .hold k n due => s.pickHold { rule := k, path := f.path, rx := some again, after := n, due := due }
      | .dup => s.withPick true (fun s => deliver (count (deliver (count s))))

/-! ### The handshake (R604 to R607, R610) -/

/-- The session record of a PEER_ID. -/
def State.peerSess (s : State) (peer : Nat) : Option Nat :=
  if s.aon.unkeyed then (if peer = Config.deviceUid then some sFactory else none)
  else (upto 128).find? (fun k => s.cfg.slotOn k && s.peerId k == peer)

/-- A handshake packet leaves a port: its counter is 0 (R603, R604). -/
def State.handshake (s : State) (port ty sid : Nat) (body : List Byte) : State :=
  s.emit (.hand port (wardHeader ty sid 0 body.length) body)

/-- REJECT. -/
def State.reject (s : State) (port sid reason : Nat) : State := s.handshake port 5 sid [byteOf reason, 0, 0, 0, 0, 0, 0, 0]

/-- CHALLENGE: a new generation and a device nonce; an earlier handshake of the slot is abandoned. -/
def State.challenge (s : State) (k port : Nat) (nonce : List Byte) : State :=
  let x := s.sess k
  let dn := padTo 16 (Config.freeBytes s.free)
  let s := (s.setSess k { x with gen := (x.gen + 1) % 512, hs := some (nonce, dn), hsTime := s.time.now, helloTime := some s.time.now
                                 st := if x.st = 3 then 3 else 2 }).draw
  s.handshake port 2 (s.sidOf k) (toLe 8 Config.deviceUid ++ dn ++ [byteOf (b2n s.aon.unkeyed), 0, 0, 0, 0, 0, 0, 0])

/-- A HELLO as received (R607). DEDUCED, log 48. -/
def State.hello (s : State) (port peer protoMax : Nat) (nonce : List Byte) : State :=
  if nonce.length ≠ 16 then s.discard
  else match s.peerSess peer with
    | none => if s.aon.unkeyed then s.reject port 0 (if protoMax = 0 then 1 else 2) else s
    | some k =>
      let x := s.sess k
      let soon : Bool := match x.helloTime with | some h => decide (s.time.now < h + 100000000) | none => false
      if x.lockedAt.isSome ∨ soon then s
      else if protoMax = 0 then (s.modSess k (fun x => { x with helloTime := some s.time.now })).reject port 0 1
      else s.challenge k port nonce

/-- HELLO with one byte masked: in the header it is malformed, in the payload it says something else (R710). -/
def State.helloBad (s : State) (port peer protoMax : Nat) (nonce : List Byte) (off m : Nat) : State :=
  if off < 16 then s.discard
  else
    let p := maskAt (toLe 8 peer ++ nonce ++ [byteOf protoMax]) (off - 16) m
    s.hello port (leAt p 0 8) (leAt p (8 + nonce.length) 1) (bytesAt p 8 nonce.length)

/-- WARD_HELLO. -/
def execWardHello (t port addr peer protoMax : Nat) (nonce : List Byte) (s : State) : Ans :=
  at' t (fun s =>
    s.wardRx port 1 0 0 0 (.wardHello t port addr peer protoMax nonce) (fun off m s => s.helloBad port peer protoMax nonce off m)
      (fun s => s.hello port peer protoMax nonce)) s

/-- The PSK of a session (R128, R610). -/
def State.psk (s : State) (k : Nat) : List Byte :=
  if k = sFactory then Config.factoryKey
  else
    let p := s.cfg.img.payload Ty.session k
    if leAt p 3 1 = 0 then bytesAt p 0x18 32 else (unwrapKey (bytesAt p 0x18 40)).getD []

/-- The session opens (R604, R605); an open one is replaced (R607). -/
def State.openSession (s : State) (k port addr : Nat) (cn dn : List Byte) : State :=
  let s := s.closeSession k Cc.replaced
  let sid := s.sidOf k
  let info := [0x57, 0x41, 0x52, 0x44, 0x31] ++ toLe 8 (s.peerId k) ++ toLe 8 Config.deviceUid ++ toLe 2 sid
  let x := s.sess k
  let s := s.setSess k { st := 3, port := s.portNo port, cause := x.cause, openTime := s.devTime, window := [0], peer := addr, gen := x.gen
                         helloTime := x.helloTime, lastAuth := s.time.now, keys := wardKdf (s.psk k) (cn ++ dn) info }
  let s := { s with sleep := { s.sleep with ret := false } }
  let s := s.evA Ev.sessionOpened k [p8 (s.peerId k), p1 (s.portNo port), (16, addr)]
  s.handshake port 4 sid ([byteOf (s.role k), byteOf k, byteOf (s.maxOut k), byteOf s.act.num] ++ toLe 4 (s.perms k) ++ toLe 4 s.runSeq ++
    toLe 4 s.sw.cSweep ++ toLe 8 s.devTime)

/-- A FINISH fails (R607): the fifth in a row locks the slot. -/
def State.finishFails (s : State) (k port sid : Nat) : State :=
  let s := { s with links := { s.links with authFails := satAdd 32 s.links.authFails 1 } }
  let s := (s.reject port sid 3).evA Ev.sessionAuthFail k []
  let x := s.sess k
  if x.fails + 1 < 5 then s.setSess k { x with fails := x.fails + 1 }
  else
    (s.setSess k { x with fails := 0, lockedAt := some s.time.now, hs := none, st := if x.st = 3 then 3 else 4
                          cause := if x.st = 3 then x.cause else Cc.lockout }).evA Ev.sessionLockout k []

/-- A FINISH as received; without a handshake in hand it is discarded. -/
def State.finish (s : State) (port addr sid : Nat) (tagOk : Bool) (plain : List Byte) : State :=
  let k := s.sidSess sid
  let x := s.sess k
  match x.hs with
  | none => s.discard
  | some (cn, dn) =>
    if sid ≠ s.sidOf k ∨ x.hsTime + 2000000000 ≤ s.time.now then s.discard
    else if tagOk ∧ plain = cn ++ dn then s.openSession k port addr cn dn
    else s.finishFails k port sid

/-- WARD_FINISH. DESIGN CHOICE, log 7. -/
def execWardFinish (t port addr sid : Nat) (tagOk : Bool) (plain : List Byte) (s : State) : Ans :=
  at' t (fun s =>
    s.wardRx port 3 1 sid 0 (.wardFinish t port addr sid tagOk plain) (fun _ _ s => s.finish port addr sid false plain)
      (fun s => s.finish port addr sid tagOk plain)) s

/-! ### DATA packets (R608) -/

/-- The verdict of the replay window. -/
def Sess.fresh (x : Sess) (c : Nat) : Bool := decide (x.rxHigh < c) || (decide (x.rxHigh ≤ c + 63) && !x.window.contains c)

/-- The window after a counter is accepted: it holds the accepted counters from H − 63 to H. -/
def Sess.accept (x : Sess) (c : Nat) : Sess :=
  let h := max x.rxHigh c
  { x with rxHigh := h, window := (c :: x.window).filter (fun y => decide (h ≤ y + 63)) }

/-- A replayed packet is discarded and counted; at most one ERROR a second. -/
def State.replayed (s : State) (k c : Nat) : State :=
  let s := { s with links := { s.links with replays := satAdd 32 s.links.replays 1 } }
  let quiet : Bool := match (s.sess k).replayErr with | some r => decide (s.time.now < r + 1000000000) | none => false
  if quiet then s else (s.modSess k (fun x => { x with replayErr := some s.time.now })).send k 0x9F St.replay 0 (toLe 8 c)

/-- A DATA packet as received. A session closes when either of its counters reaches 2^48. DEDUCED, log 48. -/
def State.data (s : State) (p : WardPkt) : State :=
  let k := s.sidSess p.sid
  if (s.sess k).st ≠ 3 then s.discard
  else if !p.authentic || p.sid != s.sidOf k then { s with links := { s.links with authFails := satAdd 32 s.links.authFails 1 } }
  else
    let s := s.modSess k (fun x => { x with lastAuth := s.time.now, port := s.portNo p.port, peer := p.addr })
    let s := { s with sleep := { s.sleep with ret := false } }
    if !(s.sess k).fresh p.counter then s.replayed k p.counter
    else
      let s := s.modSess k (fun x => x.accept p.counter)
      if 2 ^ 48 ≤ p.counter then s.closeSession k Cc.counter
      else
        let s := p.msgs.foldl (fun (s : State) m => s.message k m) s
        if 2 ^ 48 ≤ (s.sess k).tx + 1 then s.closeSession k Cc.counter else s

/-- WARD_DATA. DESIGN CHOICE, log 7. -/
def execWardData (t : Nat) (p : WardPkt) (s : State) : Ans :=
  at' t (fun s => s.wardRx p.port 0x10 2 p.sid p.counter (.wardData t p) (fun _ _ s => s.data { p with authentic := false }) (fun s => s.data p)) s

/-! ### Time limits of sessions -/

/-- HANDSHAKE_TIMEOUT (R607). -/
def execHandshakeTimeout (t slot : Nat) (s : State) : Ans :=
  at' t (fun s =>
    let x := s.sess slot
    if x.hs.isSome ∧ x.hsTime + 2000000000 ≤ s.time.now then s.setSess slot { x with hs := none, st := if x.st = 2 then 1 else x.st } else s) s

/-- SESSION_LOCKOUT_END (R607). -/
def execSessionLockoutEnd (t slot : Nat) (s : State) : Ans :=
  at' t (fun s =>
    let x := s.sess slot
    match x.lockedAt with
    | some l => if l + 60000000000 ≤ s.time.now then s.setSess slot { x with lockedAt := none, st := if x.st = 4 then 1 else x.st } else s
    | none => s) s

/-- SESSION_IDLE_TIMEOUT (R611): held while the device is in SLEEP; the SPI session has none (R602). -/
def execSessionIdleTimeout (t slot : Nat) (s : State) : Ans :=
  at' t (fun s =>
    if slot ≠ sSpi ∧ s.aon.dev ≠ .sleep ∧ (s.sess slot).lastAuth + 30000000000 ≤ s.time.now then s.closeSession slot Cc.idle else s) s

end Sys2Proof.Machine
end

