-- ==== Sys2Proof/Machine/Net.lean ====
section
/-!
DEFINITION. The network functions beside Ward (R589, R591, R593, R594, R624): ARP, NDP, ICMP echo, address detection, PRP
supervision, the PHY and the links.
-/
namespace Sys2Proof.Machine

/-- Whether a port answers: the device sweeps and the port's leaf runs. In SLEEP the ports lie in low-power idle (R699). -/
def State.netOn (s : State) (port : Nat) : Bool := s.sweeping && s.ethOn port

/-- Another station uses an address that a port probes (R594): a configured one is given up and logged, an IPv4 link-local
one replaced by another (RFC 3927). DESIGN CHOICE, log 50. -/
def State.conflict (s : State) (port a family : Nat) : State :=
  if !(s.eth port).detecting.contains a then s
  else
    let s := s.modEth port (fun e => { e with detecting := e.detecting.filter (· != a) })
    if a / 65536 = 0xFFFFA9FE then (s.modEth port (fun e => { e with detecting := e.detecting ++ [s.newV4] })).draw
    else if (s.cfg.portAddrs port).contains a then s.evA Ev.addressConflict srcD [p1 port, p1 family]
    else s

/-- ARP_REQUEST: a request for an address in use is answered; a sender's claim or a probe meets the addresses in
detection. -/
def execArpRequest (t port target sender : Nat) (probe : Bool) (s : State) : Ans :=
  at' t (fun s =>
    if !s.netOn port then s
    else
      let s := if (s.eth port).addrs.contains (v4 target) then s.emit (.net port 1 (v4 target)) else s
      let s := if sender ≠ 0 then s.conflict port (v4 sender) 4 else s
      if probe then s.conflict port (v4 target) 4 else s) s

/-- NDP_MESSAGE: kind 0 neighbour solicitation (`sender` 0: duplicate address detection), 1 neighbour advertisement,
2 router advertisement. -/
def execNdpMessage (t port kind target sender : Nat) (s : State) : Ans :=
  at' t (fun s =>
    if !s.netOn port then s
    else match kind with
      | 0 =>
        let s := if (s.eth port).addrs.contains target then s.emit (.net port 2 target) else s
        if sender = 0 then s.conflict port target 6 else s
      | 1 => s.conflict port target 6
      | 2 => if v6At (s.cfg.img.payload Ty.network 0) (s.cfg.portBase port + 0x10) ≠ 0 then s.modEth port (fun e => { e with router := sender }) else s
      | _ => s) s

/-- ICMP_ECHO: up to 1,024 payload bytes and 20 requests per second and port; IPv4 destinations as mapped addresses. -/
def execIcmpEcho (t port : Nat) (v6 : Bool) (dst len : Nat) (s : State) : Ans :=
  at' t (fun s =>
    let a := if v6 then dst else v4 dst
    let recent := (s.eth port).echo.filter (fun x => decide (s.time.now < x + 1000000000))
    if s.netOn port ∧ (s.eth port).addrs.contains a ∧ len ≤ 1024 ∧ recent.length < 20 then
      (s.modEth port (fun e => { e with echo := s.time.now :: recent })).emit (.net port 3 a)
    else s) s

/-- DUPLICATE_ADDRESS_DETECTION_END (R594): the port uses the address from now on. -/
def execDuplicateAddressDetectionEnd (t port addr : Nat) (s : State) : Ans :=
  at' t (fun s =>
    if s.netOn port ∧ (s.eth port).detecting.contains addr then
      s.modEth port (fun e => { e with detecting := e.detecting.filter (· != addr), addrs := e.addrs ++ [addr] })
    else s) s

/-- PRP_SUPERVISION (R591), every 2 s on both LANs. -/
def execPrpSupervision (t : Nat) (s : State) : Ans :=
  at' t (fun s =>
    let due : Bool := match s.links.supLast with | some x => decide (x + 2000000000 ≤ s.time.now) | none => true
    if s.sweeping ∧ s.cfg.prp ∧ due then
      s.each [0, 1] (fun p s => if s.netOn p then s.emit (.net p 4 0) else s) |> fun s => { s with links := { s.links with supLast := some s.time.now } }
    else s) s

/-- PRP_LAN_FAULT (R624). -/
def execPrpLanFault (t lan : Nat) (s : State) : Ans :=
  at' t (fun s => if s.sweeping ∧ s.cfg.prp ∧ lan < 2 then s.evA Ev.prpLanFault srcD [p1 lan] else s) s

/-- A port's link goes up or down (R624). Up, its addresses are probed anew (R594). -/
def State.linkSet (s : State) (port : Nat) (up : Bool) (speed : Nat) : State :=
  let e := s.eth port
  if e.up = up then s
  else if up then
    let l := [linkLocal, s.newV4] ++ s.cfg.portAddrs port
    ((s.modEth port (fun e => { e with up := true, speed := speed, addrs := [], detecting := l })).draw).evA Ev.hostLinkUp srcD [p1 port, p1 speed]
  else (s.modEth port (fun e => { e with up := false, speed := speed, addrs := [], detecting := [] })).evA Ev.hostLinkDown srcD [p1 port, p1 speed]

/-- HOST_LINK_CHANGE: a PHY that reports another speed than the configured one counts as link down (R587). -/
def execHostLinkChange (t port : Nat) (up : Bool) (speed : Nat) (s : State) : Ans :=
  at' t (fun s => if port < 2 ∧ s.alive (if port = 0 then .a else .b) then s.linkSet port (up && speed == s.cfg.portSpeed port) speed else s) s

/-- PHY_POLL (R589), every 1 s: register 0x01 tells whether a PHY answers and, in bit 2, whether its link is up. -/
def execPhyPoll (t port reg1 reg10 : Nat) (s : State) : Ans :=
  at' t (fun s =>
    let due : Bool := match (s.eth port).polled with | some x => decide (x + 1000000000 ≤ s.time.now) | none => true
    if port < 2 ∧ s.netOn port ∧ due ∧ reg10 < 65536 then
      let found := reg1 != 0xFFFF
      let s := s.modEth port (fun e => { e with phy := found, polled := some s.time.now })
      if found ∧ !bit reg1 2 then s.linkSet port false (s.eth port).speed else s
    else s) s

end Sys2Proof.Machine
end

