-- ==== Sys2Proof/Machine/Spi.lean ====
section
/-!
DEFINITION. The SPI maintenance port (R600 to R602), and the release of received frames that Pick holds (R716).
-/
namespace Sys2Proof.Machine

/-- A complete SPI frame is counted (R622). -/
def State.spiFrame (s : State) : State := { s with links := { s.links with spiFrames := satAdd 32 s.links.spiFrames 1 } }

/-- SPI_REQUEST: one Ward message of LENGTH bytes. A frame whose CRC fails, or that ends early, is discarded and counted; so
is a LENGTH outside 8 to 552. A REQUEST frame wakes the device (R700). -/
def execSpiRequest (t len : Nat) (whole crcOk : Bool) (m : Msg) (s : State) : Ans :=
  at' t (fun s =>
    if !s.spiOn then s
    else
      let s := s.wakeIf 3
      if !whole || !crcOk || decide (len < 8) || decide (552 < len) then
        { s with links := { s.links with spiCrc := satAdd 16 s.links.spiCrc 1, spiRejected := true } }
      else s.spiFrame.message sSpi m) s

/-- SPI_ANSWER: the oldest answer, which leaves the queue once its last CRC byte has been clocked out. -/
def execSpiAnswer (t : Nat) (clocked : Bool) (s : State) : Ans :=
  at' t (fun s =>
    if !s.spiOn then s
    else
      let m := s.links.spiQ.headD []
      let line := toLe 2 m.length ++ m
      let s := (s.emit (.spi (line ++ toLe 4 (crc32 line)))).when clocked State.spiFrame
      if clocked then { s with links := { s.links with spiQ := s.links.spiQ.drop 1 } } else s) s

/-- SPI_STATUS: bit 1 tells of a rejection since the last STATUS. -/
def execSpiStatus (t : Nat) (s : State) : Ans :=
  at' t (fun s =>
    if !s.spiOn then s
    else
      let q := s.links.spiQ.length
      let flags := packBits [q != 0, s.links.spiRejected, decide (8 ≤ q)]
      let s := s.emit (.spi [byteOf flags, byteOf q, byteOf (s.sess sSpi).outst.length, 0])
      ({ s with links := { s.links with spiRejected := false } } : State).spiFrame) s

/-- The SPI session ends with MAINT_EN (R600, R625): answers are dropped, and what the session bound ends. -/
def State.spiEnd (s : State) : State :=
  let s := { s with links := { s.links with spiQ := [], spiRejected := false } }
  let s := s.setSess sSpi {}
  let s := if s.stage.sess = sSpi then s.stageAbandon 0 else s
  let s := if s.pick.owner = sSpi then s.pickDisarm 6 else s
  if s.aon.clearState ≠ 0 ∧ s.aon.armSlot = sSpi then s.armEnd else s

/-- MAINT_EN_CHANGE. -/
def execMaintEnChange (t : Nat) (level : Bool) (s : State) : Ans :=
  at' t (fun s =>
    if s.links.maintEn = level then s
    else if level then
      ({ s with links := { s.links with maintEn := true, maintSince := s.time.now } } : State).modSess sSpi (fun x => { x with openTime := s.devTime + 1000000 })
    else ({ s with links := { s.links with maintEn := false, maintSince := s.time.now } } : State).spiEnd) s

/-! ### Frames released by Pick (R716) -/

/-- A received frame is delivered: the row that brought it, at the present instant. Pick holds frames of these rows alone. DEDUCED, log 90. -/
def State.redeliver (s : State) (i : Instr) : State :=
  let t := s.time.now
  match i with
  | .enumRspReceived _ r e f => (execEnumRspReceived t r e f s).to s
  | .enumReturned _ r e h => (execEnumReturned t r e h s).to s
  | .sampleRspReceived _ r e f => (execSampleRspReceived t r e f s).to s
  | .groupSummaryReceived _ r e f => (execGroupSummaryReceived t r e f s).to s
  | .rspReceived _ r e f => (execRspReceived t r e f s).to s
  | .nackReceived _ r e p q x k => (execNackReceived t r e p q x k s).to s
  | .alarmReceived _ r e f => (execAlarmReceived t r e f s).to s
  | .broadcastReturned _ r e => (execBroadcastReturned t r e s).to s
  | .canAckFrame _ f => (execCanAckFrame t f s).to s
  | .wardHello _ p a k m n => (execWardHello t p a k m n s).to s
  | .wardFinish _ p a d o l => (execWardFinish t p a d o l s).to s
  | .wardData _ p => (execWardData t p s).to s
  | _ => s

/-- A held frame leaves Pick's hands: sent, or delivered as altered traffic with no further action. -/
def State.unhold (s : State) (h : PickHeld) : State :=
  match h.tx with
  | some o => s.release [o]
  | none => match h.rx with
    | some i =>
      let s1 := ({ s with pick := { s.pick with bypass := true } } : State).withPick true (fun s => s.redeliver i)
      { s1 with pick := { s1.pick with bypass := false } }
    | none => s

/-- PICK_HELD_RELEASE: the `k`-th frame held, once its instant has come. -/
def execPickHeldRelease (t k : Nat) (s : State) : Ans :=
  at' t (fun s =>
    match s.pick.held[k]? with
    | some h => if h.due ≤ s.time.now then ({ s with pick := { s.pick with held := s.pick.held.eraseIdx k } } : State).unhold h else s
    | none => s) s

end Sys2Proof.Machine
end

