-- ==== Sys2Proof/Machine/Dispatch.lean ====
section
/-!
DEFINITION. The effect of a command on everything but the queue: one direct call of a meaning per row of the table.
-/
namespace Sys2Proof.Machine
def exec (i : Instr) (s : State) : Host.Outcome State Fault Refusal :=
  match i with
  | .suppliesValid t railsA railsB test absence => Sys2Proof.Machine.execSuppliesValid t railsA railsB test absence s
  | .pllLockTimeout t l => Sys2Proof.Machine.execPllLockTimeout t l s
  | .x32Fallback t => Sys2Proof.Machine.execX32Fallback t s
  | .mramReadyTimeout t l => Sys2Proof.Machine.execMramReadyTimeout t l s
  | .sramMarchComplete t l pass => Sys2Proof.Machine.execSramMarchComplete t l pass s
  | .slotsJudged t => Sys2Proof.Machine.execSlotsJudged t s
  | .imageAgreed t => Sys2Proof.Machine.execImageAgreed t s
  | .startApplyComplete t => Sys2Proof.Machine.execStartApplyComplete t s
  | .runEntry t => Sys2Proof.Machine.execRunEntry t s
  | .por t => Sys2Proof.Machine.execPor t s
  | .leafSupplyLoss t l rail => Sys2Proof.Machine.execLeafSupplyLoss t l rail s
  | .leafSupplyReturn t l => Sys2Proof.Machine.execLeafSupplyReturn t l s
  | .watchdogExpiry t l => Sys2Proof.Machine.execWatchdogExpiry t l s
  | .clockFault t l offFreq => Sys2Proof.Machine.execClockFault t l offFreq s
  | .sramUncorrectable t l word => Sys2Proof.Machine.execSramUncorrectable t l word s
  | .restartFull t q => Sys2Proof.Machine.execRestartFull t q s
  | .restartRolling t q => Sys2Proof.Machine.execRestartRolling t q s
  | .rollingRestartAdvance t => Sys2Proof.Machine.execRollingRestartAdvance t s
  | .timeSet t q => Sys2Proof.Machine.execTimeSet t q s
  | .ptpSyncMessage t m => Sys2Proof.Machine.execPtpSyncMessage t m s
  | .ptpMasterLost t => Sys2Proof.Machine.execPtpMasterLost t s
  | .ppsInEdge t => Sys2Proof.Machine.execPpsInEdge t s
  | .keyProgram t q => Sys2Proof.Machine.execKeyProgram t q s
  | .keyRevoke t q => Sys2Proof.Machine.execKeyRevoke t q s
  | .stageOpen t q => Sys2Proof.Machine.execStageOpen t q s
  | .stageChunk t q => Sys2Proof.Machine.execStageChunk t q s
  | .stageClose t q => Sys2Proof.Machine.execStageClose t q s
  | .stageAbort t q => Sys2Proof.Machine.execStageAbort t q s
  | .apply t q => Sys2Proof.Machine.execApply t q s
  | .revert t q => Sys2Proof.Machine.execRevert t q s
  | .stagingTimeout t => Sys2Proof.Machine.execStagingTimeout t s
  | .verifyComplete t bad => Sys2Proof.Machine.execVerifyComplete t bad s
  | .slotWriteComplete t bad => Sys2Proof.Machine.execSlotWriteComplete t bad s
  | .applyTimeout t => Sys2Proof.Machine.execApplyTimeout t s
  | .imageSlotRepair t l slot => Sys2Proof.Machine.execImageSlotRepair t l slot s
  | .sweepLaunch t => Sys2Proof.Machine.execSweepLaunch t s
  | .rerequestInstant t ring e => Sys2Proof.Machine.execRerequestInstant t ring e s
  | .collectionDeadline t => Sys2Proof.Machine.execCollectionDeadline t s
  | .inputSeal t d => Sys2Proof.Machine.execInputSeal t d s
  | .inputReseal t again => Sys2Proof.Machine.execInputReseal t again s
  | .commitPoint t => Sys2Proof.Machine.execCommitPoint t s
  | .resultCompare t faultA faultB => Sys2Proof.Machine.execResultCompare t faultA faultB s
  | .resultRecompare t chunk leftA leftB => Sys2Proof.Machine.execResultRecompare t chunk leftA leftB s
  | .katComplete t passA passB => Sys2Proof.Machine.execKatComplete t passA passB s
  | .resyncComplete t => Sys2Proof.Machine.execResyncComplete t s
  | .farSyncMissing t ring e => Sys2Proof.Machine.execFarSyncMissing t ring e s
  | .syncReceived t ring e sweepLow hop delay => Sys2Proof.Machine.execSyncReceived t ring e sweepLow hop delay s
  | .leasePublish t => Sys2Proof.Machine.execLeasePublish t s
  | .interimLease t => Sys2Proof.Machine.execInterimLease t s
  | .enumRspReceived t ring e f => Sys2Proof.Machine.execEnumRspReceived t ring e f s
  | .enumReturned t ring e hop => Sys2Proof.Machine.execEnumReturned t ring e hop s
  | .enumWindowClose t ring e => Sys2Proof.Machine.execEnumWindowClose t ring e s
  | .sampleRspReceived t ring e f => Sys2Proof.Machine.execSampleRspReceived t ring e f s
  | .rspReceived t ring e f => Sys2Proof.Machine.execRspReceived t ring e f s
  | .nackReceived t ring e pos seq reason kind => Sys2Proof.Machine.execNackReceived t ring e pos seq reason kind s
  | .alarmReceived t ring e f => Sys2Proof.Machine.execAlarmReceived t ring e f s
  | .groupSummaryReceived t ring e f => Sys2Proof.Machine.execGroupSummaryReceived t ring e f s
  | .badFrameReceived t ring e x => Sys2Proof.Machine.execBadFrameReceived t ring e x s
  | .broadcastReturned t ring e => Sys2Proof.Machine.execBroadcastReturned t ring e s
  | .portLos t ring e => Sys2Proof.Machine.execPortLos t ring e s
  | .portLinkUp t ring e => Sys2Proof.Machine.execPortLinkUp t ring e s
  | .answerTimeout t ring e pos => Sys2Proof.Machine.execAnswerTimeout t ring e pos s
  | .busyRetryDelay t ring e pos => Sys2Proof.Machine.execBusyRetryDelay t ring e pos s
  | .enumProbe t ring e => Sys2Proof.Machine.execEnumProbe t ring e s
  | .calRoundStart t ring => Sys2Proof.Machine.execCalRoundStart t ring s
  | .calSyncLaunch t ring => Sys2Proof.Machine.execCalSyncLaunch t ring s
  | .compTrip t l input x => Sys2Proof.Machine.execCompTrip t l input x s
  | .logicDieShutdown t temps => Sys2Proof.Machine.execLogicDieShutdown t temps s
  | .powerDieBankShutdown t bank temp => Sys2Proof.Machine.execPowerDieBankShutdown t bank temp s
  | .mramWriteRefuse t l temp => Sys2Proof.Machine.execMramWriteRefuse t l temp s
  | .mramWriteAllow t l => Sys2Proof.Machine.execMramWriteAllow t l s
  | .rqLapse t l => Sys2Proof.Machine.execRqLapse t l s
  | .tripClear t q => Sys2Proof.Machine.execTripClear t q s
  | .deadboltClearArm t q => Sys2Proof.Machine.execDeadboltClearArm t q s
  | .deadboltClearConfirm t q => Sys2Proof.Machine.execDeadboltClearConfirm t q s
  | .stringClose t q => Sys2Proof.Machine.execStringClose t q s
  | .stringOpen t q => Sys2Proof.Machine.execStringOpen t q s
  | .stringUnlock t q => Sys2Proof.Machine.execStringUnlock t q s
  | .weldRetest t str => Sys2Proof.Machine.execWeldRetest t str s
  | .leaseAck t q => Sys2Proof.Machine.execLeaseAck t q s
  | .canAckFrame t f => Sys2Proof.Machine.execCanAckFrame t f s
  | .canTimeFrame t => Sys2Proof.Machine.execCanTimeFrame t s
  | .canBusOff t ctl recovered => Sys2Proof.Machine.execCanBusOff t ctl recovered s
  | .swSet t q => Sys2Proof.Machine.execSwSet t q s
  | .swReenable t q => Sys2Proof.Machine.execSwReenable t q s
  | .swRestartReset t q => Sys2Proof.Machine.execSwRestartReset t q s
  | .swOcLatch t ch peak => Sys2Proof.Machine.execSwOcLatch t ch peak s
  | .swShortLatch t ch peak => Sys2Proof.Machine.execSwShortLatch t ch peak s
  | .swOpenLoad t ch on flag => Sys2Proof.Machine.execSwOpenLoad t ch on flag s
  | .swFreewheelFault t ch volt => Sys2Proof.Machine.execSwFreewheelFault t ch volt s
  | .swThermalWarn t ch temp => Sys2Proof.Machine.execSwThermalWarn t ch temp s
  | .swThermalLatch t ch temp => Sys2Proof.Machine.execSwThermalLatch t ch temp s
  | .swBankUv t bank volt => Sys2Proof.Machine.execSwBankUv t bank volt s
  | .swBankUnpowered t bank => Sys2Proof.Machine.execSwBankUnpowered t bank s
  | .bankPowerUp t bank => Sys2Proof.Machine.execBankPowerUp t bank s
  | .swBankOv t bank volt => Sys2Proof.Machine.execSwBankOv t bank volt s
  | .bankOvEnd t bank => Sys2Proof.Machine.execBankOvEnd t bank s
  | .inPinChange t pin level => Sys2Proof.Machine.execInPinChange t pin level s
  | .keepaliveLoss t => Sys2Proof.Machine.execKeepaliveLoss t s
  | .blankingEnd t ch => Sys2Proof.Machine.execBlankingEnd t ch s
  | .restartDecay t ch => Sys2Proof.Machine.execRestartDecay t ch s
  | .heartbeatLoss t l => Sys2Proof.Machine.execHeartbeatLoss t l s
  | .knuckleLinkLoss t => Sys2Proof.Machine.execKnuckleLinkLoss t s
  | .knuckleTransferReceived t dst item bad again => Sys2Proof.Machine.execKnuckleTransferReceived t dst item bad again s
  | .leafRejoin t q => Sys2Proof.Machine.execLeafRejoin t q s
  | .leafFence t q => Sys2Proof.Machine.execLeafFence t q s
  | .handover t q => Sys2Proof.Machine.execHandover t q s
  | .leafSelftest t q => Sys2Proof.Machine.execLeafSelftest t q s
  | .rejoinStepComplete t l ok => Sys2Proof.Machine.execRejoinStepComplete t l ok s
  | .uplinkEnum t e seq hop p => Sys2Proof.Machine.execUplinkEnum t e seq hop p s
  | .stringCmd t r => Sys2Proof.Machine.execStringCmd t r s
  | .parentPeriod t r => Sys2Proof.Machine.execParentPeriod t r s
  | .uplinkPass t e seq payload => Sys2Proof.Machine.execUplinkPass t e seq payload s
  | .uplinkSampleLastRead t r => Sys2Proof.Machine.execUplinkSampleLastRead t r s
  | .nodeRegisterWrite t r => Sys2Proof.Machine.execNodeRegisterWrite t r s
  | .parentSync t e code hop check => Sys2Proof.Machine.execParentSync t e code hop check s
  | .uplinkWindowEnd t => Sys2Proof.Machine.execUplinkWindowEnd t s
  | .holdoverTimeout t => Sys2Proof.Machine.execHoldoverTimeout t s
  | .uplinkMasterLoss t => Sys2Proof.Machine.execUplinkMasterLoss t s
  | .passRepeat t ring e pos => Sys2Proof.Machine.execPassRepeat t ring e pos s
  | .passDeadline t ring e pos => Sys2Proof.Machine.execPassDeadline t ring e pos s
  | .nestPass t q => Sys2Proof.Machine.execNestPass t q s
  | .childLost t ring pos => Sys2Proof.Machine.execChildLost t ring pos s
  | .wardHello t port addr peer protoMax nonce => Sys2Proof.Machine.execWardHello t port addr peer protoMax nonce s
  | .wardFinish t port addr sid tagOk plain => Sys2Proof.Machine.execWardFinish t port addr sid tagOk plain s
  | .wardData t p => Sys2Proof.Machine.execWardData t p s
  | .handshakeTimeout t slot => Sys2Proof.Machine.execHandshakeTimeout t slot s
  | .sessionLockoutEnd t slot => Sys2Proof.Machine.execSessionLockoutEnd t slot s
  | .sessionIdleTimeout t slot => Sys2Proof.Machine.execSessionIdleTimeout t slot s
  | .read t q => Sys2Proof.Machine.execRead t q s
  | .overlayValueWrite t q => Sys2Proof.Machine.execOverlayValueWrite t q s
  | .stickyClear t q => Sys2Proof.Machine.execStickyClear t q s
  | .hostNote t q => Sys2Proof.Machine.execHostNote t q s
  | .writeOther t q => Sys2Proof.Machine.execWriteOther t q s
  | .batch t q => Sys2Proof.Machine.execBatch t q s
  | .subscribeStart t q => Sys2Proof.Machine.execSubscribeStart t q s
  | .subscribeStop t q => Sys2Proof.Machine.execSubscribeStop t q s
  | .close t q => Sys2Proof.Machine.execClose t q s
  | .keepalive t q => Sys2Proof.Machine.execKeepalive t q s
  | .streamSend t stream => Sys2Proof.Machine.execStreamSend t stream s
  | .arpRequest t port target sender probe => Sys2Proof.Machine.execArpRequest t port target sender probe s
  | .ndpMessage t port kind target sender => Sys2Proof.Machine.execNdpMessage t port kind target sender s
  | .icmpEcho t port v6 dst len => Sys2Proof.Machine.execIcmpEcho t port v6 dst len s
  | .prpSupervision t => Sys2Proof.Machine.execPrpSupervision t s
  | .prpLanFault t lan => Sys2Proof.Machine.execPrpLanFault t lan s
  | .phyPoll t port reg1 reg10 => Sys2Proof.Machine.execPhyPoll t port reg1 reg10 s
  | .hostLinkChange t port up speed => Sys2Proof.Machine.execHostLinkChange t port up speed s
  | .spiRequest t len whole crcOk m => Sys2Proof.Machine.execSpiRequest t len whole crcOk m s
  | .spiAnswer t clocked => Sys2Proof.Machine.execSpiAnswer t clocked s
  | .spiStatus t => Sys2Proof.Machine.execSpiStatus t s
  | .maintEnChange t level => Sys2Proof.Machine.execMaintEnChange t level s
  | .chainReenum t q => Sys2Proof.Machine.execChainReenum t q s
  | .nodeRead t q => Sys2Proof.Machine.execNodeRead t q s
  | .nodeWrite t q => Sys2Proof.Machine.execNodeWrite t q s
  | .cellMinmaxClear t q => Sys2Proof.Machine.execCellMinmaxClear t q s
  | .balNodeResume t q => Sys2Proof.Machine.execBalNodeResume t q s
  | .markAlloc t q => Sys2Proof.Machine.execMarkAlloc t q s
  | .markFree t q => Sys2Proof.Machine.execMarkFree t q s
  | .markRead t q => Sys2Proof.Machine.execMarkRead t q s
  | .streamFlush t q => Sys2Proof.Machine.execStreamFlush t q s
  | .streamDataRead t q => Sys2Proof.Machine.execStreamDataRead t q s
  | .lossItemWrite t stream => Sys2Proof.Machine.execLossItemWrite t stream s
  | .eventRecordWritten t l ok lost => Sys2Proof.Machine.execEventRecordWritten t l ok lost s
  | .tokenRefill t code => Sys2Proof.Machine.execTokenRefill t code s
  | .snapshotComplete t l ok => Sys2Proof.Machine.execSnapshotComplete t l ok s
  | .sleepEnter t q => Sys2Proof.Machine.execSleepEnter t q s
  | .sleepRateLow t => Sys2Proof.Machine.execSleepRateLow t s
  | .sleepHeartbeat t => Sys2Proof.Machine.execSleepHeartbeat t s
  | .sleepCurrentBlock t raw => Sys2Proof.Machine.execSleepCurrentBlock t raw s
  | .sleepSensorConversion t d => Sys2Proof.Machine.execSleepSensorConversion t d s
  | .wakeNAssert t => Sys2Proof.Machine.execWakeNAssert t s
  | .wakeTimer t => Sys2Proof.Machine.execWakeTimer t s
  | .pickArm t q => Sys2Proof.Machine.execPickArm t q s
  | .pickDisarm t q => Sys2Proof.Machine.execPickDisarm t q s
  | .pickExpiry t => Sys2Proof.Machine.execPickExpiry t s
  | .pickHeldRelease t k => Sys2Proof.Machine.execPickHeldRelease t k s
  | .ppsOutSecond t rise => Sys2Proof.Machine.execPpsOutSecond t rise s
  | .xaJudgedGood t => Sys2Proof.Machine.execXaJudgedGood t s
  | .mramUnitWriteComplete t l ok => Sys2Proof.Machine.execMramUnitWriteComplete t l ok s
  | .readWindowHoldEnd t => Sys2Proof.Machine.execReadWindowHoldEnd t s
  | .duplicateAddressDetectionEnd t port addr => Sys2Proof.Machine.execDuplicateAddressDetectionEnd t port addr s
  | .vddModeChange t l regulated => Sys2Proof.Machine.execVddModeChange t l regulated s
end Sys2Proof.Machine
end

