-- ==== Sys2Proof/Safety.lean ====
section
/-!
DEFINITION. The terms in which the statements speak: which parts of State a command leaves alone, when a host's request is
accepted and what its answer is, and what holds of the state after every command.
-/
namespace Sys2Proof.Machine

/-! ### Frames -/

/-- The parts of State. The queue of commands has no part: every command leaves it alone. -/
inductive Part where
  | time | aon | leafA | leafB | knuckle | log | cfg | stage | overlay | chains | sweep | cur | strCur | prot | thermal | estim
  | limits | bal | hasp | lease | com | power | links | fifos | sleep | pick | nest | tap | out | free
  deriving DecidableEq, Repr

/-- A part is the same in two states. The clock's count is no part of `time`, the two balls READY and FAULT_N are none of
`aon`, the balls that follow the state are in no part, and a leaf's queue of event records belongs to `log`. -/
def Part.same (s n : State) : Part → Prop
  | .time => { n.time with now := 0 } = { s.time with now := 0 }
  | .aon => { n.aon with ready := false, faultN := false } = { s.aon with ready := false, faultN := false }
  | .leafA => { n.la with log := { n.la.log with queue := [] } } = { s.la with log := { s.la.log with queue := [] } }
  | .leafB => { n.lb with log := { n.lb.log with queue := [] } } = { s.lb with log := { s.lb.log with queue := [] } }
  | .knuckle => n.kn = s.kn
  | .log => n.lg = s.lg ∧ n.la.log.queue = s.la.log.queue ∧ n.lb.log.queue = s.lb.log.queue
  | .cfg => n.cfg = s.cfg
  | .stage => n.stage = s.stage
  | .overlay => n.ovl = s.ovl
  | .chains => n.ch = s.ch
  | .sweep => n.sw = s.sw
  | .cur => n.cur = s.cur
  | .strCur => n.strCur = s.strCur
  | .prot => n.prot = s.prot
  | .thermal => n.th = s.th
  | .estim => n.est = s.est
  | .limits => n.lim = s.lim
  | .bal => n.bal = s.bal
  | .hasp => n.hasp = s.hasp
  | .lease => n.lease = s.lease
  | .com => n.com = s.com
  | .power => n.power = s.power
  | .links => n.links = s.links
  | .fifos => n.fifos = s.fifos
  | .sleep => n.sleep = s.sleep
  | .pick => n.pick = s.pick
  | .nest => n.nest = s.nest
  | .tap => n.tap = s.tap
  | .out => n.out = s.out
  | .free => n.free = s.free

/-- Every part but those listed is the same before and after. -/
def Frame (parts : List Part) (s n : State) : Prop := ∀ p, p ∉ parts → p.same s n

/-- The parts that an event record and a stream item reach (R652 to R679). -/
abbrev logParts : List Part := [.log, .fifos]

/-- The parts that a fence, the failover and the ends of episodes after it can reach, and a wake with it (R546 to R551, R81, R91, R700,
R703, R719). -/
abbrev fenceParts : List Part :=
  [.aon, .leafA, .leafB, .knuckle, .log, .stage, .chains, .sweep, .prot, .power, .links, .fifos, .pick, .sleep, .out, .free]

/-- The parts that frames on a ring and the judgement of its nodes reach (R179 to R230). -/
abbrev ringParts : List Part := [.chains, .log, .fifos, .pick, .out]

/-- The parts that the end of a request to a node reaches, by its purpose: what it answers or, for a register of a calibration
round, the offsets that the round's end writes and the unit that enters MRAM, whose queue can fence a leaf (R196, R197, R207, R553). -/
def reqParts (h : Req) : List Part :=
  if h.purpose = .calClear ∨ h.purpose = .calSkew ∨ h.purpose = .calFwd then fenceParts ++ [.thermal]
  else ringParts ++ [.links, .bal, .hasp, .nest]

/-- The parts that a wake reaches (R700, R703). -/
abbrev wakeParts : List Part := [.aon, .links, .sweep, .chains, .sleep, .out, .log, .fifos, .free]

/-- The parts that closing a session reaches, with what the session bound (R611). -/
abbrev closeParts : List Part := [.links, .out, .log, .fifos, .stage, .leafA, .leafB, .pick, .aon, .prot]

/-- The parts that an answered request reaches whatever it asks: its session, what was sent, the idle count (R614, R615, R696). -/
abbrev hostParts : List Part := [.links, .out, .sleep]

/-! ### Host requests (R602, R604, R614, R615) -/

/-- A request is new to its open session, and neither the session's limit of outstanding transactions nor the device's
stands against it. -/
def State.accepts (s : State) (q : HReq) : Bool :=
  s.up && s.sessOpen q.sess && decide (q.tag < 65536) &&
  decide (1 ≤ (q.tag + 65536 - (s.sess q.sess).h) % 65536 ∧ (q.tag + 65536 - (s.sess q.sess).h) % 65536 ≤ 32767) &&
  decide ((s.sess q.sess).outst.length + 1 ≤ s.maxOut q.sess) && decide (s.outAll + 1 ≤ 64) &&
  (s.sess q.sess).outst.all (fun o => o.1 != q.tag)

/-- The state in which a request is accepted. -/
def State.greet (s : State) (q : HReq) (kind : Nat) : State :=
  let s := s.setSess q.sess { s.sess q.sess with lastAuth := s.time.now }
  let s := s.modSess q.sess (fun x => { x with h := q.tag % 65536 })
  let s := s.modSess q.sess (fun x => { x with trans := satAdd 32 x.trans 1 })
  ({ s with sleep := { s.sleep with busy := s.sleep.busy || (kind != 1 && kind != 7) } } : State)

/-- The state in which an accepted request runs. -/
def State.taken (s : State) (q : HReq) (kind op : Nat) : State := (s.greet q kind).accept q kind op

/-- The answer to a request has left: over Ward it is the last message put out, over SPI it stands last in the queue; a
command's answer shows in CONTROL (R635). `s` is the state before. -/
def Answered (s n : State) (q : HReq) (kind op status : Nat) (body : List Byte) : Prop :=
  (n.sess q.sess).outst.all (fun o => o.1 != q.tag) = true ∧
  (q.sess ≠ sSpi → (s.sess q.sess).tx + 1 < 2 ^ 48 → n.out.head? = some (.ward q.sess (s.dataHeader q.sess body.length) (kind + 0x80) status q.tag body)) ∧
  (q.sess = sSpi → s.links.spiQ.length < 8 → n.links.spiQ = s.links.spiQ ++ [msgBytes (kind + 0x80) status q.tag body]) ∧
  (kind = 3 → n.links.lastStatus = status ∧ n.links.lastOpcode = op ∧ n.links.lastSlot = q.sess)

/-- An accepted command that the UNKEYED list lets through (R646, R648). -/
def State.opens (s : State) (q : HReq) (op : Nat) : Bool := s.accepts q && (!s.aon.unkeyed || unkeyedOp op)

/-- An accepted command that its permission and the UNKEYED list let through (R646, R648). -/
def State.lets (s : State) (q : HReq) (op perm : Nat) : Bool := s.opens q op && s.may q.sess perm

/-- The answer has left, with status OK and a result. -/
def AnsweredOk (s n : State) (q : HReq) (op : Nat) (r : List Byte) : Prop := Answered s n q 3 op St.ok r

/-- A request waits for its answer. -/
def Waits (n : State) (q : HReq) (kind op : Nat) : Prop := (q.tag, kind, op) ∈ (n.sess q.sess).outst

/-! ### The group node's transmitters (R162) -/

/-- The transmitter of an uplink port is free, and nothing waits at either port. -/
def State.upFree (s : State) (e : Leaf) : Prop :=
  (∀ x, (s.upPort x).fwd = [] ∧ (s.upPort x).own = []) ∧ (s.upPort e).txEnd ≤ s.time.now

/-! ### What holds after every command -/

/-- The staging store of both leaves keeps its canonical form. -/
def State.storeWf (s : State) : Bool := memWf s.la.stage && memWf s.lb.stage

/-- READY and FAULT_N follow the state (R40, R750). -/
def State.ballsFollow (s : State) : Bool :=
  (s.aon.ready == (s.aon.dev == .run || s.aon.dev == .sleep || s.aon.dev == .halt)) &&
  (s.aon.faultN == (s.aon.vaon && (s.aon.faultHold || s.tripActive)))

end Sys2Proof.Machine
end

