-- ==== Sys2Proof/Certificates/Slice0/Obligations.lean ====
section
/-!
DEFINITION. The statements for the provers. `u` is always the state at the command's instant; `n` the state after it.
-/
section

open Sys2Proof Sys2Proof.Machine

/-- A step runs the command at the front of the queue (00_scope.md). -/
def Obligations.StepRunsFront : Prop :=
  ∀ (c : Instr) (rest : List Instr) (s : State), step { s with pending := c :: rest } = exec c { s with pending := rest }

/-- On an empty queue the block idles (the model's choice, log entry 1) (00_scope.md). -/
def Obligations.EmptyQueueIdles : Prop :=
  ∀ s : State, s.pending = [] → step s = .next s

/-- No command stops: each answers a next state, leaves the queue alone and never runs CLK_TB back (00_scope.md, R4). It rests
on choices of the model: log 2, 3. -/
def Obligations.EveryCommandCompletes : Prop :=
  ∀ (c : Instr) (s : State), ∃ n, exec c s = .next n ∧ n.pending = s.pending ∧ s.time.now ≤ n.time.now

/-- READY is high exactly in RUN, SLEEP and HALT, after every command (R750). It rests on choices of the model: log 8. -/
def Obligations.ReadyFollowsState : Prop :=
  ∀ (c : Instr) (s n : State), exec c s = .next n →
    (n.aon.dev = .run ∨ n.aon.dev = .sleep ∨ n.aon.dev = .halt → n.aon.ready = true) ∧
    (n.aon.dev = .start ∨ n.aon.dev = .safe ∨ n.aon.dev = .off → n.aon.ready = false)

/-- FAULT_N is driven low until the first validated sweep without a trip, then while a trip condition is active (R40,
02_power_clocks_start.md). It rests on choices of the model: log 8, 9. -/
def Obligations.FaultNFollowsState : Prop :=
  ∀ (c : Instr) (s n : State), exec c s = .next n →
    (n.aon.faultN = true ↔ n.aon.vaon = true ∧ (n.aon.faultHold = true ∨ n.tripActive = true))

/-- No command unprograms a key slot, changes its hash or unblows its revocation fuse (R70, R71, R72, 03_bitting_image.md). It
rests on choices of the model: log 8. -/
def Obligations.FusesOneWay : Prop :=
  ∀ (c : Instr) (s n : State), exec c s = .next n →
    n.stage.keys.length ≤ s.stage.keys.length ∧
    ∀ (k : Nat) (a b : KeySlot), s.stage.keys[k]? = some a → n.stage.keys[k]? = some b →
      (a.programmed = true → b.programmed = true ∧ b.hash = a.hash) ∧ (a.revoked = true → b.revoked = true)

/-- The thermal latch stays set through every command but those of supply (R58, R417, 13_thermal.md). It rests on choices of
the model: log 8. -/
def Obligations.ThermalLatchHolds : Prop :=
  ∀ (c : Instr) (s n : State), (∀ t ra rb te ab, c ≠ .suppliesValid t ra rb te ab) → (∀ t, c ≠ .por t) →
    exec c s = .next n → s.aon.thermal = true → n.aon.thermal = true

/-- Before the first supply: no leaf supplied, the Deadbolt held for START, no image, no session, no commands (R31, R39, R440,
R444, R622, 02_power_clocks_start.md). It rests on choices of the model: log 4. -/
def Obligations.ResetState : Prop :=
  State.reset.pending = [] ∧ State.reset.aon.dev = .off ∧ State.reset.la.supplied = false ∧ State.reset.lb.supplied = false ∧
  State.reset.aon.hold = true ∧ State.reset.aon.holdCause = 1 ∧ State.reset.aon.dbLatch = false ∧ State.reset.aon.thermal = false ∧
  State.reset.cfg.img.sections = [] ∧ State.reset.links.sess = [] ∧ State.reset.lg.nextSeq = 1 ∧ State.reset.aon.ready = false ∧
  State.reset.stage.keys = [{}, {}, {}, {}] ∧ State.reset.stage.activeSlot = 0xFF ∧ State.reset.la.stage = [] ∧ State.reset.lb.stage = []

/-- The invariant of the balls and of the staging stores holds at reset (R40, R750, R79). It rests on choices of the model:
log 8, 9. -/
def Obligations.InvariantAtReset : Prop :=
  State.reset.ballsFollow = true ∧ State.reset.storeWf = true

/-- Every step keeps READY and FAULT_N following the state, whatever runs (R40, R750, R417, R70). It rests on choices of the
model: log 8, 9. -/
def Obligations.StepKeepsBalls : Prop :=
  ∀ s n : State, s.ballsFollow = true → step s = .next n →
    n.ballsFollow = true ∧ (n.pending = s.pending ∨ ∃ c, s.pending = c :: n.pending) ∧ s.time.now ≤ n.time.now

/-- SUPPLIES_VALID begins the start: t0, step 1, the unsupplied leaf fenced, latches by the length of the absence (R31, R41,
R48, R53, R58, R59, 02_power_clocks_start.md). It rests on choices of the model: log 12, 30, 106. -/
def Obligations.SuppliesValidBeginsStart : Prop :=
  ∀ (t : Nat) (ra rb : Bool) (te : Option (List TckEdge)) (ab : Option Nat) (s : State), (s.setNow t).aon.dev = .off → (ra || rb) = true →
    ∃ n, exec (.suppliesValid t ra rb te ab) s = .next n ∧ n.aon.dev = .start ∧ n.aon.vaon = true ∧ n.aon.testEn = te.isSome ∧
      n.aon.lastStep = 1 ∧ n.time.t0 = (s.setNow t).time.now ∧ n.aon.starts = satAdd 32 (s.mramSrc ra rb).starts 1 ∧
      n.la.supplied = ra ∧ n.lb.supplied = rb ∧ (te = none → ra = false → n.la.st = .fenced ∧ n.la.cause = Fc.supply) ∧
      (te = none → rb = false → n.lb.st = .fenced ∧ n.lb.cause = Fc.supply) ∧ (te.isSome = true → n.running .a = false ∧ n.running .b = false) ∧
      n.cfg = {} ∧ n.stage.keys = s.stage.keys ∧
      (∀ d, ab = some d → d < 8000000 → n.aon.thermal = s.aon.holdThermal ∧ n.aon.dbLatch = s.aon.holdDb ∧ n.aon.resetCause = 0) ∧
      ((ab = none ∨ ∃ d, ab = some d ∧ 10000000 ≤ d) → n.aon.thermal = false ∧ n.aon.dbLatch = false)

/-- A PLL, an MRAM or a march test that fails at the start fences its leaf with cause START (R36, R48, R547,
02_power_clocks_start.md). -/
def Obligations.StartFaultsFence : Prop :=
  ∀ (t : Nat) (l : Leaf) (s : State), (s.setNow t).starting = true → (s.setNow t).running l = true →
    ((s.leaf l).t0 + 400000 ≤ (s.setNow t).time.now → ∃ n, exec (.pllLockTimeout t l) s = .next n ∧
      (n.leaf l).st = .fenced ∧ (n.leaf l).rq = false ∧ (n.leaf l).pllOk = false ∧
      (n.leaf l).cause = (if (s.leaf l).cause = 0 then Fc.start else (s.leaf l).cause) ∧ Frame fenceParts s n) ∧
    ((s.leaf l).t0 + 1000000 ≤ (s.setNow t).time.now → ∃ n, exec (.mramReadyTimeout t l) s = .next n ∧
      (n.leaf l).st = .fenced ∧ (n.leaf l).rq = false ∧
      (n.leaf l).cause = (if (s.leaf l).cause = 0 then Fc.start else (s.leaf l).cause) ∧ Frame fenceParts s n) ∧
    (∃ n, exec (.sramMarchComplete t l false) s = .next n ∧
      (n.leaf l).st = .fenced ∧ (n.leaf l).rq = false ∧
      (n.leaf l).cause = (if (s.leaf l).cause = 0 then Fc.start else (s.leaf l).cause) ∧ Frame fenceParts s n) ∧
    (∃ n, exec (.sramMarchComplete t l true) s = .next n ∧ (n.leaf l).sramOk = true ∧ (n.leaf l).st = (s.leaf l).st ∧
      n.leaf l.other = s.leaf l.other ∧ Frame [.leafA, .leafB] s n)

/-- At the start each leaf judges its slots, then the leaves agree on an image or the device is UNKEYED (R41, R45, R46, R52,
02_power_clocks_start.md). -/
def Obligations.StartImageChosen : Prop :=
  ∀ (t : Nat) (s : State), (s.setNow t).starting = true →
    ((s.setNow t).aon.lastStep = 1 → ∃ n, exec (.slotsJudged t) s = .next n ∧ n.aon.lastStep = 4 ∧
      (∀ l, (s.setNow t).running l = true → (n.leaf l).valid0 = (judgeSlot s.stage.keys (s.leaf l).slot0).1 ∧
        (n.leaf l).valid1 = (judgeSlot s.stage.keys (s.leaf l).slot1).1) ∧
      Frame [.aon, .leafA, .leafB, .log, .fifos] s n) ∧
    ((s.setNow t).aon.lastStep = 4 → (∀ l, (s.setNow t).running l = true → (s.leaf l).sramOk = true) →
      (∀ x, (s.setNow t).chooseImage = (some x, none) → ∃ n, exec (.imageAgreed t) s = .next n ∧ n.aon.lastStep = 5 ∧
        n.stage.image = some x.2 ∧ n.stage.target = x.1 ∧ n.aon.unkeyed = s.aon.unkeyed ∧ Frame [.aon, .stage] s n) ∧
      ((s.setNow t).chooseImage = (none, none) → ∃ n, exec (.imageAgreed t) s = .next n ∧ n.aon.lastStep = 5 ∧
        n.aon.unkeyed = true ∧ Frame [.aon] s n) ∧
      (∀ x l, (s.setNow t).chooseImage = (some x, some l) → ∃ n, exec (.imageAgreed t) s = .next n ∧
        (n.leaf l).st = .fenced ∧ (n.leaf l).cause = (if (s.leaf l).cause = 0 then Fc.image else (s.leaf l).cause) ∧
        Frame fenceParts s n)) ∧
    ((s.setNow t).aon.lastStep = 5 → ∀ g, s.stage.image = some g → ∃ n, exec (.startApplyComplete t) s = .next n ∧
      n.aon.lastStep = 6 ∧ n.cfg = { img := g, ov := [] } ∧ n.stage.activeSlot = s.stage.target ∧ n.stage.buildId = g.buildId)

/-- RUN_ENTRY enters RUN, or HALT with the thermal latch set, drives READY and holds the Deadbolt where it must (R41, R48,
R50, R52, R444, R750, 02_power_clocks_start.md). -/
def Obligations.RunEntryEntersRun : Prop :=
  ∀ (t : Nat) (s : State), (s.setNow t).starting = true →
    (s.aon.lastStep = 6 ∨ (s.aon.lastStep = 5 ∧ s.aon.unkeyed = true)) →
    ∃ n, exec (.runEntry t) s = .next n ∧ n.aon.dev = (if s.aon.thermal then .halt else .run) ∧ n.aon.lastStep = 7 ∧
      n.aon.ready = true ∧ (s.aon.thermal = true → n.aon.hold = true ∧ bit n.aon.holdCause 3 = true) ∧
      (s.aon.unkeyed = true → n.aon.hold = true ∧ bit n.aon.holdCause 2 = true) ∧ n.cfg = s.cfg ∧ n.aon.thermal = s.aon.thermal

/-- POR takes the device back before t0: the hold cells, the counts of starts, keys, slots and the log stay (R53, R58, R59,
02_power_clocks_start.md). It rests on choices of the model: log 94, 106. -/
def Obligations.PorClearsAll : Prop :=
  ∀ (t : Nat) (s : State), s.aon.dev ≠ .off →
    ∃ n, exec (.por t) s = .next n ∧ n.aon.dev = .off ∧ n.aon.vaon = false ∧ n.la.supplied = false ∧ n.lb.supplied = false ∧
      n.aon.thermal = false ∧ n.aon.dbLatch = false ∧ n.aon.hold = true ∧ n.cfg = {} ∧ n.links.sess = [] ∧
      n.aon.holdThermal = s.aon.holdThermal ∧ n.aon.holdDb = s.aon.holdDb ∧ n.aon.starts = s.aon.starts ∧
      n.stage.keys = s.stage.keys ∧ n.stage.floor = (s.mramSrc false false).floor ∧
      (∀ l, (n.leaf l).slot0 = (s.leaf l).slot0 ∧ (n.leaf l).slot1 = (s.leaf l).slot1 ∧ (n.leaf l).log.ring = (s.leaf l).log.ring ∧
        (n.leaf l).log.keep = (s.leaf l).log.keep)

/-- The 32.768 kHz clock falls back once and for good; the reference returns to XA (R9, R35, 02_power_clocks_start.md). It
rests on choices of the model: log 17. -/
def Obligations.ClockReferences : Prop :=
  ∀ (t : Nat) (s : State), s.aon.vaon = true →
    (s.aon.x32Fallback = false → ∃ n, exec (.x32Fallback t) s = .next n ∧ n.aon.x32Fallback = true ∧ n.aon.xaGood = s.aon.xaGood ∧
      n.aon.dev = s.aon.dev ∧ Frame [.aon, .log, .fifos] s n) ∧
    (s.la.supplied = true → ∃ n, exec (.xaJudgedGood t) s = .next n ∧ n.aon.xaGood = true ∧ n.aon.x32Fallback = s.aon.x32Fallback ∧
      n.aon.dev = s.aon.dev ∧ Frame [.aon] s n)

/-- Each fault of a leaf fences it: FENCED, no request, FENCE_CAUSE the first cause (R546, R547, R24, R53, R54, R438, R439,
R538, R558, 18_leaves_knuckle.md). It rests on choices of the model: log 17, 22. -/
def Obligations.LeafFaultsFence : Prop :=
  ∀ (t : Nat) (l : Leaf) (s : State), (s.setNow t).fenceable l = true → (s.setNow t).fenceLine l = false →
    let lost := fun (c : Instr) (cause : Nat) (more : State → Prop) => ∃ n, exec c s = .next n ∧ (n.leaf l).st = .fenced ∧
      (n.leaf l).rq = false ∧ (n.leaf l).cause = (if (s.leaf l).cause = 0 then cause else (s.leaf l).cause) ∧ more n ∧ Frame fenceParts s n
    lost (.watchdogExpiry t l) Fc.watchdog (fun _ => True) ∧
    lost (.heartbeatLoss t l) Fc.heartbeat (fun n => n.kn.hbMisses = satAdd 16 s.kn.hbMisses 5) ∧
    (∀ f, lost (.clockFault t l f) Fc.clock (fun n => l = .a → n.aon.xaGood = false)) ∧
    (∀ w, lost (.sramUncorrectable t l w) Fc.sram (fun _ => True)) ∧
    (∀ r, ∃ n, exec (.leafSupplyLoss t l r) s = .next n ∧ (n.leaf l).st = .fenced ∧ (n.leaf l).rq = false ∧
      (n.leaf l).cause = (if (s.leaf l).cause = 0 then Fc.supply else (s.leaf l).cause) ∧ (n.leaf l).supplied = false ∧
      n.aon.supplyEvents = satAdd 16 s.aon.supplyEvents 1 ∧ (l = .a → n.aon.xaGood = false) ∧ bit n.aon.rails (4 * l.num + r % 4) = false ∧
      n.time.ppsOut = (s.time.ppsOut && (s.leaf l.other).supplied) ∧ Frame (.time :: fenceParts) s n)

/-- KNUCKLE_LINK_LOSS fences the HOT STANDBY with cause LINK; the ACTIVE leaf goes on (R552, R546, 18_leaves_knuckle.md). -/
def Obligations.KnuckleLinkLossFences : Prop :=
  ∀ (t : Nat) (s : State), (s.setNow t).fenceable s.act.other = true → (s.setNow t).fenceable s.act = true →
    (s.setNow t).fenceLine s.act.other = false →
    ∃ n, exec (.knuckleLinkLoss t) s = .next n ∧ (n.leaf s.act.other).st = .fenced ∧ n.kn.linkLost = true ∧
      (n.leaf s.act.other).cause = (if (s.leaf s.act.other).cause = 0 then Fc.link else (s.leaf s.act.other).cause) ∧
      ((s.setNow t).running s.act = true → (n.leaf s.act).st = .running ∧ (s.sleep.st = 0 → n.aon.dev = s.aon.dev)) ∧
      Frame fenceParts s n

/-- Losing the ACTIVE leaf makes the HOT STANDBY ACTIVE; losing the last leaf enters SAFE (R548, R551, R558, R725, R444,
18_leaves_knuckle.md). It rests on choices of the model: log 21. -/
def Obligations.FailoverOrSafe : Prop :=
  ∀ (t : Nat) (l : Leaf) (s : State), (s.setNow t).fenceable l = true → (s.setNow t).fenceLine l = false →
    (s.kn.active = some l → (s.setNow t).running l.other = true → ∃ n, exec (.watchdogExpiry t l) s = .next n ∧
      n.kn.active = some l.other ∧ n.kn.failovers = satAdd 16 s.kn.failovers 1 ∧ n.kn.lastInterrupt ≤ 400 ∧
      n.power.kaPath = l.other.num ∧ n.aon.dev ≠ .safe) ∧
    ((s.leaf l.other).st = .fenced → ∃ n, exec (.watchdogExpiry t l) s = .next n ∧
      n.aon.dev = .safe ∧ n.aon.hold = true ∧ bit n.aon.holdCause 4 = true ∧ (∀ k, (n.sess k).st ≠ 3) ∧
      n.pick.armed = false ∧ n.sw.phase = .idle ∧ n.sleep.st = 0 ∧ n.kn.active = none)

/-- A leaf rejoins step by step, and a failed step fences it again with its old cause (R49, R554, R534, 18_leaves_knuckle.md).
It rests on choices of the model: log 18, 24, 25. -/
def Obligations.RejoinSteps : Prop :=
  ∀ (t : Nat) (l : Leaf) (s : State),
    ((s.leaf l).supplied = true →
      ((s.leaf l).rejoin = 2 → ∃ n, exec (.rejoinStepComplete t l true) s = .next n ∧ (n.leaf l).rejoin = 3 ∧ (n.leaf l).pllOk = true ∧
        (n.leaf l).mramOk = true ∧ (n.leaf l).sramOk = true ∧ (n.leaf l).valid0 = (judgeSlot s.stage.keys (s.leaf l).slot0).1 ∧
        (n.leaf l).valid1 = (judgeSlot s.stage.keys (s.leaf l).slot1).1 ∧ Frame [.leafA, .leafB, .log, .fifos, .free] s n) ∧
      ((s.leaf l).rejoin = 3 → ∃ n, exec (.rejoinStepComplete t l true) s = .next n ∧ (n.leaf l).rejoin = 4 ∧
        (n.leaf l).st = (s.leaf l).st ∧ Frame [.leafA, .leafB, .log, .fifos] s n) ∧
      ((s.leaf l).rejoin = 4 → ∃ n, exec (.rejoinStepComplete t l true) s = .next n ∧ (n.leaf l).rejoin = 5 ∧ Frame [.leafA, .leafB] s n) ∧
      ((s.leaf l).rejoin = 5 → (s.leaf l).st = .resyncing → ∃ n, exec (.rejoinStepComplete t l true) s = .next n ∧
        (n.leaf l).rejoin = 6 ∧ Frame [.leafA, .leafB] s n) ∧
      ((s.leaf l).rejoin = 6 → (s.setNow t).atBoundary = true → ∀ ok, ∃ n, exec (.rejoinStepComplete t l ok) s = .next n ∧
        (n.leaf l).st = .running ∧ (n.leaf l).cause = 0 ∧ (n.leaf l).rejoin = 0 ∧ (n.leaf l).rq = true ∧ n.kn.linkLost = false ∧
        Frame [.leafA, .leafB, .knuckle, .chains, .links, .log, .fifos] s n) ∧
      (2 ≤ (s.leaf l).rejoin → (s.leaf l).rejoin ≤ 4 → ∃ n, exec (.rejoinStepComplete t l false) s = .next n ∧
        (n.leaf l).st = .fenced ∧ (n.leaf l).rejoin = 0 ∧ ((s.leaf l).cause ≠ 0 → (n.leaf l).cause = (s.leaf l).cause) ∧
        Frame [.leafA, .leafB, .knuckle, .log, .fifos] s n)) ∧
    ((s.leaf l).supplied = false → s.aon.dev ≠ .off → s.aon.vaon = true →
      ∃ n, exec (.leafSupplyReturn t l) s = .next n ∧ (n.leaf l).supplied = true ∧ (n.leaf l).t0 = (s.setNow t).time.now ∧
        ((s.leaf l).st = .fenced → (s.leaf l).cause ≠ Fc.role → s.aon.dev ≠ .safe → s.aon.testEn = false →
          (n.leaf l).st = .rejoining ∧ (n.leaf l).rejoin = 2 ∧ n.aon.resetCause = 2) ∧
        ((s.leaf l).cause = Fc.role → (n.leaf l).st = (s.leaf l).st) ∧ Frame [.aon, .leafA, .leafB] s n)

/-- LEAF_REJOIN, LEAF_FENCE, HANDOVER and LEAF_SELFTEST do what R556 says when nothing stands against them (R554, R556, R646,
18_leaves_knuckle.md). It rests on choices of the model: log 26, 27, 28. -/
def Obligations.LeafCommands : Prop :=
  ∀ (t : Nat) (q : HReq) (s : State),
    ((s.setNow t).lets q 0x0E01 Perm.restart = true → q.args.length = 4 → arg q 0 1 ≤ 1 → (s.leaf (leafArg (arg q 0 1))).st = .fenced →
      (s.leaf (leafArg (arg q 0 1))).cause ≠ Fc.role → ∃ n, exec (.leafRejoin t q) s = .next n ∧
      (n.leaf (leafArg (arg q 0 1))).st = .rejoining ∧ (n.leaf (leafArg (arg q 0 1))).rejoin = 2 ∧
      AnsweredOk (s.setNow t) n q 0x0E01 [] ∧ Frame (hostParts ++ [.aon, .leafA, .leafB]) s n) ∧
    ((s.setNow t).lets q 0x0E02 Perm.restart = true → s.role q.sess = 3 → q.args.length = 4 → arg q 0 1 ≤ 1 →
      (s.setNow t).running (leafArg (arg q 0 1)).other = true → (s.setNow t).midway = false →
      (s.setNow t).fenceLine (leafArg (arg q 0 1)) = false → ∃ n, exec (.leafFence t q) s = .next n ∧
      (n.leaf (leafArg (arg q 0 1))).st = .fenced ∧ (n.leaf (leafArg (arg q 0 1))).cause =
        (if (s.leaf (leafArg (arg q 0 1))).cause = 0 then Fc.command else (s.leaf (leafArg (arg q 0 1))).cause) ∧ Frame fenceParts s n) ∧
    ((s.setNow t).lets q 0x0E03 Perm.restart = true → q.args.length = 0 → (s.setNow t).bothRun = true → (s.setNow t).midway = false →
      s.kn.handoverAsked = false → ∃ n, exec (.handover t q) s = .next n ∧
      n.kn.handoverAsked = true ∧ n.kn.handover = some (q.sess, q.tag) ∧ Waits n q 3 0x0E03 ∧ Frame (hostParts ++ [.knuckle]) s n) ∧
    ((s.setNow t).lets q 0x0E04 Perm.read = true → q.args.length = 0 → s.kn.arb = 0 → s.kn.selftestWait = false → s.aon.dev ≠ .sleep →
      s.la.st ≠ .resyncing → s.lb.st ≠ .resyncing → ∃ n, exec (.leafSelftest t q) s = .next n ∧
      n.kn.selftest = some (q.sess, q.tag) ∧ (s.aon.unkeyed = true → n.kn.arb = 2) ∧ (s.aon.unkeyed = false → n.kn.selftestWait = true) ∧
      Waits n q 3 0x0E04 ∧ Frame (hostParts ++ [.knuckle]) s n)

/-- RESTART FULL takes the device into START with its latches; RESTART ROLLING restarts the HOT STANDBY (R53, R55, R56, R60,
R646, 02_power_clocks_start.md). It rests on choices of the model: log 18, 20, 26, 106. -/
def Obligations.RestartCommands : Prop :=
  ∀ (t : Nat) (q : HReq) (s : State), (s.setNow t).lets q 0x0001 Perm.restart = true → q.args.length = 4 →
    (arg q 0 1 = 0 → (∀ i, i < 64 → (s.hs i).st = 0) → s.la.supplied = true ∨ s.lb.supplied = true → s.aon.testEn = false →
      ∀ c, c = .restartFull t q ∨ c = .restartRolling t q → ∃ n, exec c s = .next n ∧
      n.aon.dev = .start ∧ n.aon.resetCause = 4 ∧ n.aon.starts = satAdd 32 (s.mramSrc s.la.supplied s.lb.supplied).starts 1 ∧ n.aon.lastStep = 1 ∧ n.aon.hold = true ∧
      n.aon.unkeyed = false ∧ n.cfg = {} ∧ n.stage.keys = s.stage.keys ∧ n.aon.dbLatch = s.aon.dbLatch ∧ n.aon.thermal = s.aon.thermal) ∧
    (arg q 0 1 = 1 → (s.setNow t).bothRun = true → (s.setNow t).midway = false → s.kn.rolling = 0 → s.kn.handoverAsked = false →
      ∀ c, c = .restartFull t q ∨ c = .restartRolling t q → ∃ n, exec c s = .next n ∧
      n.kn.rolling = 1 ∧ (n.leaf s.act.other).st = .rejoining ∧ (n.leaf s.act.other).rejoin = 2 ∧ n.aon.resetCause = 5 ∧
      n.aon.dev = s.aon.dev ∧ Frame fenceParts s n)

/-- The rolling restart goes on: handover, restart of the other leaf, handover back to the role's ACTIVE leaf, end (R56,
02_power_clocks_start.md). It rests on choices of the model: log 20. -/
def Obligations.RollingAdvance : Prop :=
  ∀ (t : Nat) (s : State), (s.setNow t).bothRun = true → s.kn.handoverAsked = false → s.kn.arb = 0 → s.aon.unkeyed = false →
    (s.kn.rolling = 1 → ∃ n, exec (.rollingRestartAdvance t) s = .next n ∧ n.kn.rolling = 2 ∧ n.kn.handoverAsked = true ∧ Frame [.knuckle] s n) ∧
    (s.kn.rolling = 2 → ∃ n, exec (.rollingRestartAdvance t) s = .next n ∧ n.kn.rolling = 3 ∧ (n.leaf s.act.other).st = .rejoining ∧
      (n.leaf s.act.other).rejoin = 2 ∧ Frame fenceParts s n) ∧
    (s.kn.rolling = 3 → s.cfg.dual = true → s.act ≠ s.cfg.roleActive → ∃ n, exec (.rollingRestartAdvance t) s = .next n ∧
      n.kn.rolling = 4 ∧ n.kn.handoverAsked = true ∧ Frame [.knuckle] s n) ∧
    (s.kn.rolling = 3 → s.cfg.dual = false ∨ s.act = s.cfg.roleActive → ∃ n, exec (.rollingRestartAdvance t) s = .next n ∧
      n.kn.rolling = 0 ∧ Frame [.knuckle] s n) ∧
    (s.kn.rolling = 4 → ∃ n, exec (.rollingRestartAdvance t) s = .next n ∧ n.kn.rolling = 0 ∧ Frame [.knuckle] s n)

/-- After a power cycle of at least 10 ms the device starts with both latches clear (R58). -/
def Obligations.PowerCycleClearsLatches : Prop :=
  ∀ (t d : Nat) (ra rb : Bool) (te : Option (List TckEdge)) (s : State), s.aon.dev = .off → (ra || rb) = true → 10000000 ≤ d →
    ∃ n, exec (.suppliesValid t ra rb te (some d)) s = .next n ∧ n.aon.dev = .start ∧ n.aon.dbLatch = false ∧ n.aon.thermal = false ∧
      n.aon.holdDb = false ∧ n.aon.holdThermal = false

/-- KEY_PROGRAM fills the lowest blank slot, KEY_REVOKE blows one fuse, and both are denied where R71 and R72 say; a slot that
does not exist is out of bounds (R70, R71, R72, R646, 03_bitting_image.md). It rests on choices of the model: log 31. -/
def Obligations.KeyCommands : Prop :=
  ∀ (t : Nat) (q : HReq) (s : State), s.role q.sess = 3 →
    ((s.setNow t).opens q 0x0107 = true → q.args.length = 32 →
      (∀ k, s.aon.unkeyed = true ∨ (s.setNow t).allOpen = true → s.stage.keys.findIdx? KeySlot.blank = some k → ∃ n, exec (.keyProgram t q) s = .next n ∧
        n.stage.keys[k]? = some { hash := q.args, programmed := true, revoked := false } ∧
        (∀ j, j ≠ k → n.stage.keys[j]? = s.stage.keys[j]?) ∧ AnsweredOk (s.setNow t) n q 0x0107 [byteOf k] ∧
        Frame (hostParts ++ [.stage, .log, .fifos]) s n) ∧
      ((s.aon.unkeyed = false ∧ (s.setNow t).allOpen = false) ∨ s.stage.keys.findIdx? KeySlot.blank = none → ∃ n, exec (.keyProgram t q) s = .next n ∧
        Answered (s.setNow t) n q 3 0x0107 St.denied [] ∧ Frame hostParts s n)) ∧
    ((s.setNow t).opens q 0x0108 = true → q.args.length = 4 →
      (∀ k, s.stage.keys[arg q 0 1]? = some k → k.blank = false → s.runningKey ≠ some k.hash → (s.stage.keys.eraseIdx (arg q 0 1)).any KeySlot.live = true →
        ∃ n, exec (.keyRevoke t q) s = .next n ∧ n.stage.keys[arg q 0 1]? = some { k with revoked := true } ∧
        (∀ j, j ≠ arg q 0 1 → n.stage.keys[j]? = s.stage.keys[j]?) ∧ AnsweredOk (s.setNow t) n q 0x0108 [] ∧
        Frame (hostParts ++ [.stage, .log, .fifos]) s n) ∧
      (∀ k, s.stage.keys[arg q 0 1]? = some k →
        k.blank = true ∨ s.runningKey = some k.hash ∨ (s.stage.keys.eraseIdx (arg q 0 1)).any KeySlot.live = false →
        ∃ n, exec (.keyRevoke t q) s = .next n ∧ Answered (s.setNow t) n q 3 0x0108 St.denied [] ∧ Frame hostParts s n) ∧
      (s.stage.keys[arg q 0 1]? = none → ∃ n, exec (.keyRevoke t q) s = .next n ∧ Answered (s.setNow t) n q 3 0x0108 St.bounds [] ∧
        Frame hostParts s n))

/-- STAGE_OPEN begins RECEIVING for its session; STAGE_CLOSE of a whole image begins VERIFYING; a timeout ends RECEIVING (R79,
R81, R82, R88, R646, 03_bitting_image.md). It rests on choices of the model: log 32, 33. -/
def Obligations.StageOpenAndClose : Prop :=
  ∀ (t : Nat) (q : HReq) (s : State),
    ((s.setNow t).lets q 0x0101 Perm.image = true → q.args.length = 4 → s.stage.st = 0 → (s.setNow t).leavesReady = true →
      280 ≤ arg q 0 4 → arg q 0 4 ≤ 1048576 → arg q 0 4 % 8 = 0 → ∃ n, exec (.stageOpen t q) s = .next n ∧
      n.stage.st = 1 ∧ n.stage.sess = q.sess ∧ n.stage.len = arg q 0 4 ∧ n.stage.received = 0 ∧ n.stage.chunks = [] ∧
      n.stage.lastChunk = (s.setNow t).time.now ∧ n.la.stage = [] ∧ n.lb.stage = [] ∧ AnsweredOk (s.setNow t) n q 0x0101 [] ∧
      Frame (hostParts ++ [.stage, .leafA, .leafB]) s n) ∧
    ((s.setNow t).lets q 0x0103 Perm.image = true → q.args.length = 4 → s.stage.st = 1 → s.stage.sess = q.sess →
      (s.setNow t).leavesReady = true → arg q 0 1 ≤ 1 →
      (s.stage.len ≤ s.stage.received → ∃ n, exec (.stageClose t q) s = .next n ∧ n.stage.st = 2 ∧ n.stage.mode = arg q 0 1 ∧
        n.stage.closeReq = some (q.sess, q.tag) ∧ Waits n q 3 0x0103 ∧ Frame (hostParts ++ [.stage]) s n) ∧
      (s.stage.received < s.stage.len → ∃ n, exec (.stageClose t q) s = .next n ∧
        Answered (s.setNow t) n q 3 0x0103 St.denied [0x14] ∧ n.stage.st = 1 ∧ Frame hostParts s n)) ∧
    (s.stage.st = 1 → s.stage.lastChunk + 60000000000 ≤ (s.setNow t).time.now → ∃ n, exec (.stagingTimeout t) s = .next n ∧
      n.stage.st = 0 ∧ n.stage.received = 0 ∧ n.la.stage = [] ∧ n.lb.stage = [] ∧
      Frame [.stage, .leafA, .leafB, .links, .out, .log, .fifos] s n)

/-- STAGE_CHUNK stores its bytes at its offset in every staging leaf, and no other byte of the stores changes (R79, R80, R646,
03_bitting_image.md). It rests on choices of the model: log 33. -/
def Obligations.StageChunkStores : Prop :=
  ∀ (t : Nat) (q : HReq) (s : State), (s.setNow t).lets q 0x0102 Perm.image = true → 12 ≤ q.args.length → q.args.length ≤ 516 →
    s.stage.st = 1 → s.stage.sess = q.sess → arg q 0 4 % 512 = 0 → arg q 0 4 + (q.args.drop 4).length ≤ s.stage.len →
    (q.args.drop 4).length = min 512 (s.stage.len - arg q 0 4) → arg q 0 4 ∉ s.stage.chunks →
    ∃ n, exec (.stageChunk t q) s = .next n ∧ AnsweredOk (s.setNow t) n q 0x0102 [] ∧
      n.stage.received = s.stage.received + (q.args.drop 4).length ∧ n.stage.chunks = arg q 0 4 :: s.stage.chunks ∧
      (∀ l, (s.setNow t).stages l = true →
        (∀ k, k < (q.args.drop 4).length → mget (n.leaf l).stage (arg q 0 4 + k) = (q.args.drop 4)[k]?) ∧
        (memWf (s.leaf l).stage = true → memWf (n.leaf l).stage = true)) ∧
      (∀ l a, a < arg q 0 4 ∨ arg q 0 4 + (q.args.drop 4).length ≤ a → mget (n.leaf l).stage a = mget (s.leaf l).stage a) ∧
      (∀ l a, (s.setNow t).stages l = false → mget (n.leaf l).stage a = mget (s.leaf l).stage a) ∧
      Frame (hostParts ++ [.stage, .leafA, .leafB]) s n

/-- STAGE_ABORT abandons staging for the binding session, and withdraws a STAGED image from the inactive slot (R81, R85, R87,
R646, 03_bitting_image.md). It rests on choices of the model: log 38. -/
def Obligations.StageAbortWithdraws : Prop :=
  ∀ (t : Nat) (q : HReq) (s : State), (s.setNow t).lets q 0x0104 Perm.image = true → q.args.length = 0 →
    (s.stage.st = 1 → s.stage.sess = q.sess → s.stage.closeReq = none → ∃ n, exec (.stageAbort t q) s = .next n ∧ n.stage.st = 0 ∧
      n.la.stage = [] ∧ n.lb.stage = [] ∧ AnsweredOk (s.setNow t) n q 0x0104 [] ∧
      Frame (hostParts ++ [.stage, .leafA, .leafB, .log, .fifos]) s n) ∧
    (s.stage.st = 4 → ∃ n, exec (.stageAbort t q) s = .next n ∧ n.stage.st = 0 ∧ n.stage.image = none ∧
      (∀ l, (s.setNow t).running l = true → ((n.leaf l).slot s.inactiveSlot).st = 3) ∧ AnsweredOk (s.setNow t) n q 0x0104 [] ∧
      Frame (hostParts ++ [.stage, .leafA, .leafB, .log, .fifos]) s n)

/-- A verified image is written to the inactive slot of each leaf and STAGED; a refused one leaves IDLE and both slots alone
(R75, R77, R82, R83, R84, R85, R86, 03_bitting_image.md). It rests on choices of the model: log 32. -/
def Obligations.VerifyAndWrite : Prop :=
  ∀ (t : Nat) (s : State),
    (s.stage.st = 2 → ∀ bad,
      (∀ g, (s.setNow t).verifyStaged bad = .ok g → ∃ n, exec (.verifyComplete t bad) s = .next n ∧ n.stage.st = 3 ∧
        n.stage.image = some g ∧ n.stage.stagedSeq = g.seq ∧ n.stage.closeReq = none ∧ n.cfg = s.cfg) ∧
      (∀ e, (s.setNow t).verifyStaged bad = .error e → ∃ n, exec (.verifyComplete t bad) s = .next n ∧ n.stage.st = 0 ∧
        n.stage.reason = e.reason ∧ n.stage.image = none ∧ n.la.slot0 = s.la.slot0 ∧ n.la.slot1 = s.la.slot1 ∧ n.lb.slot0 = s.lb.slot0 ∧
        n.lb.slot1 = s.lb.slot1 ∧ Frame [.stage, .leafA, .leafB, .links, .out, .log, .fifos] s n)) ∧
    (s.stage.st = 3 → s.stage.torn = false → s.stage.mode = 1 → (∀ l, (s.setNow t).stages l = true → (s.leaf l).writeOk = true) →
      ∃ n, exec (.slotWriteComplete t none) s = .next n ∧ n.stage.st = 4 ∧
      (∀ l, (s.setNow t).stages l = true → ((n.leaf l).slot s.inactiveSlot).st = 2 ∧ s.stage.stagedSeq ≤ n.stage.floor ∧
        ((n.leaf l).slot s.inactiveSlot).bytes = mbytes (s.leaf l).stage 0 s.stage.len) ∧
      s.stage.floor ≤ n.stage.floor ∧ Frame [.stage, .leafA, .leafB, .log, .fifos] s n)

/-- APPLY and REVERT enter APPLYING for the next hinge point; 10 s without one return to STAGED (R86, R88, R91, R99, R646,
03_bitting_image.md). It rests on choices of the model: log 32, 37. -/
def Obligations.ApplyAndRevert : Prop :=
  ∀ (t : Nat) (q : HReq) (s : State), s.aon.unkeyed = false →
    ((s.setNow t).lets q 0x0105 Perm.image = true → q.args.length = 0 → s.stage.st = 4 → s.stage.image ≠ none →
      (s.setNow t).leavesReady = true → ∃ n, exec (.apply t q) s = .next n ∧ n.stage.st = 5 ∧ n.stage.image = s.stage.image ∧
      n.stage.applyFrom = (s.setNow t).time.now ∧ AnsweredOk (s.setNow t) n q 0x0105 [] ∧ Frame (hostParts ++ [.stage]) s n) ∧
    ((s.setNow t).lets q 0x0106 Perm.image = true → q.args.length = 0 → s.stage.st = 0 → s.stage.activeSlot < 2 →
      (s.setNow t).leavesReady = true → ∀ g, (s.setNow t).judgeFallback.2 = some g → ∃ n, exec (.revert t q) s = .next n ∧
      n.stage.st = 5 ∧ n.stage.image = some g ∧ n.stage.revert = true ∧ AnsweredOk (s.setNow t) n q 0x0106 [] ∧
      Frame (hostParts ++ [.stage, .log, .fifos]) s n) ∧
    (s.stage.st = 5 → s.stage.applyFrom + 10000000000 ≤ (s.setNow t).time.now → ∃ n, exec (.applyTimeout t) s = .next n ∧
      n.stage.st = 4 ∧ n.stage.revert = s.stage.revert ∧ n.stage.image = s.stage.image ∧ n.stage.reason = s.stage.applyReason ∧
      Frame [.stage, .log, .fifos] s n)

/-- IMAGE_SLOT_REPAIR copies a valid slot across the Knuckle into the leaf in which it is not valid (R47,
02_power_clocks_start.md). It rests on choices of the model: log 39. -/
def Obligations.SlotRepairCopies : Prop :=
  ∀ (t : Nat) (l : Leaf) (k : Nat) (s : State), s.aon.dev = .run → k < 2 → (s.setNow t).running l.other = true →
    (s.leaf l).supplied = true → (s.leaf l).writeOk = true → (s.leaf l.other).validSlot k = true → (s.leaf l).validSlot k = false →
    ∃ n, exec (.imageSlotRepair t l k) s = .next n ∧ (n.leaf l).slot k = (s.leaf l.other).slot k ∧ (n.leaf l).validSlot k = true ∧
      (n.leaf l.other).slot0 = (s.leaf l.other).slot0 ∧ (n.leaf l.other).slot1 = (s.leaf l.other).slot1 ∧
      Frame [.leafA, .leafB, .log, .fifos] s n

/-- The first TIME_SET or PPS edge steps device time, later ones slew it; seconds beyond 64 bits of nanoseconds are out of
bounds; PPS_OUT marks the whole second (R37, R38, R598, R646, 20_host_links.md). It rests on choices of the model: log 15,
103, 107. -/
def Obligations.TimeSetAndPps : Prop :=
  ∀ (t : Nat) (q : HReq) (s : State),
    ((s.setNow t).lets q 0x0002 Perm.time = true → q.args.length = 8 → (s.cfg.ptpOn && s.following) = false →
      0 ≤ ((s.setNow t).time.now : Int) + s.time.base → arg q 0 8 * 1000000000 + 999999999 < 2 ^ 64 →
      ((s.setNow t).time.now : Int) + s.time.base < 2 ^ 64 →
      ∃ n, exec (.timeSet t q) s = .next n ∧ n.time.locked = true ∧ n.time.source = 3 ∧ AnsweredOk (s.setNow t) n q 0x0002 [] ∧
        (s.time.locked = false → n.devTime / 1000000000 = arg q 0 8 ∧ n.devTime % 1000000000 = (s.setNow t).devTime % 1000000000 ∧
          n.time.lastStep = (n.devTime : Int) - (s.setNow t).devTime) ∧
        (s.time.locked = true → ((n.devTime : Int) - (s.setNow t).devTime).natAbs ≤
          (((arg q 0 8 * 1000000000 + (s.setNow t).devTime % 1000000000 : Nat) : Int) - (s.setNow t).devTime).natAbs) ∧
        Frame (hostParts ++ [.time, .estim, .log, .fifos, .free]) s n) ∧
    ((s.setNow t).lets q 0x0002 Perm.time = true → q.args.length = 8 → (s.cfg.ptpOn && s.following) = false →
      2 ^ 64 ≤ arg q 0 8 * 1000000000 + 999999999 →
      ∃ n, exec (.timeSet t q) s = .next n ∧ Answered (s.setNow t) n q 3 0x0002 St.bounds [] ∧ Frame hostParts s n) ∧
    ((s.setNow t).up = true → s.cfg.ptpOn = false → 0 ≤ ((s.setNow t).time.now : Int) + s.time.base →
      ((s.setNow t).time.now : Int) + s.time.base + 500000000 < 2 ^ 64 →
      ∃ n, exec (.ppsInEdge t) s = .next n ∧ n.time.source = 2 ∧ n.time.locked = s.time.locked ∧
        (s.time.locked = false → s.time.source ≠ 2 → n.devTime % 1000000000 = 0) ∧
        ((n.devTime : Int) - (s.setNow t).devTime).natAbs ≤ 500000000 ∧ Frame [.time, .estim, .log, .fifos, .free] s n) ∧
    (s.aon.dev ≠ .off → (s.la.supplied || s.lb.supplied) = true →
      ((s.setNow t).devTime % 1000000000 = 0 → ∃ n, exec (.ppsOutSecond t true) s = .next n ∧ n.time.ppsOut = true ∧
        n.time.ppsLast = (s.setNow t).time.now ∧ n.time.ppsEdges = s.time.ppsEdges + 1 ∧ n.devTime = (s.setNow t).devTime ∧ Frame [.time] s n) ∧
      (s.time.ppsOut = true → s.time.ppsLast + 100000000 ≤ (s.setNow t).time.now → ∃ n, exec (.ppsOutSecond t false) s = .next n ∧
        n.time.ppsOut = false ∧ n.time.ppsEdges = s.time.ppsEdges ∧ n.devTime = (s.setNow t).devTime ∧ Frame [.time] s n))

/-- PTP: the better master is heard, the 16th good measurement locks device time to the reference, 10 s of silence lose it
(R38, R596, R597, 20_host_links.md). It rests on choices of the model: log 15, 16. -/
def Obligations.PtpDisciplines : Prop :=
  ∀ (t : Nat) (m : PtpMsg) (s : State), (s.setNow t).up = true → s.cfg.ptpOn = true →
    (m.port ≤ 1 → (s.setNow t).running (if m.port = 0 then .a else .b) = true → m.domain = s.cfg.n Ty.network 0 4 →
      (m.kind = 0 → ∃ n, exec (.ptpSyncMessage t m) s = .next n ∧
        (m.port = 0 → n.time.heard0 = betterMaster s.time.heard0 m.clockId m.rank ∧ n.time.heard1 = s.time.heard1) ∧
        (m.port = 1 → n.time.heard1 = betterMaster s.time.heard1 m.clockId m.rank ∧ n.time.heard0 = s.time.heard0) ∧
        n.time.base = s.time.base ∧ Frame [.time, .log, .fifos] s n) ∧
      (∀ r, s.time.master = some (m.port, m.clockId, r) → m.kind = 1 → m.complete = false → ∃ n, exec (.ptpSyncMessage t m) s = .next n ∧
        n.time.lastSync = (s.setNow t).time.now ∧ n.time.lostLogged = false ∧ n.time.base = s.time.base ∧ Frame [.time] s n) ∧
      (∀ r, s.time.master = some (m.port, m.clockId, r) → 2 ≤ m.kind → m.complete = true → m.offset.natAbs ≤ 1000 → 15 ≤ s.time.ptpGood →
        s.time.locked = false → 0 ≤ ((s.setNow t).time.now : Int) + s.time.base → ((s.setNow t).time.now : Int) + s.time.base < 2 ^ 64 →
        m.time < 2 ^ 64 → ∃ n, exec (.ptpSyncMessage t m) s = .next n ∧
        n.time.locked = true ∧ n.time.source = 1 ∧ n.devTime = m.time ∧ n.time.ptpOffset = m.offset ∧
        Frame [.time, .estim, .log, .fifos] s n)) ∧
    (s.following = true → s.time.lastSync + 10000000000 ≤ (s.setNow t).time.now → ∃ n, exec (.ptpMasterLost t) s = .next n ∧
      n.following = false ∧ n.time.ptpGood = 0 ∧ n.time.base = s.time.base ∧ n.time.locked = s.time.locked ∧ Frame [.time, .log, .fifos] s n)

/-- A sweep goes from its SYNC over the collection deadline and the seal to SEALED (R231, R232, R238, R240, R249, R250, R252,
R255, R256, 07_sweeps.md). It rests on choices of the model: log 54, 92. -/
def Obligations.SweepPhases : Prop :=
  ∀ (t : Nat) (s : State),
    ((s.setNow t).sweeping = true → s.aon.unkeyed = false → s.sleep.st = 0 → (s.sw.phase = .idle ∨ s.sw.phase = .committed) →
      (s.sw.started = true → s.sw.next ≤ (s.setNow t).time.now) → (s.sw.started = false → (s.setNow t).startReady = true) →
      ∃ n, exec (.sweepLaunch t) s = .next n ∧ n.sw.phase = .collecting ∧ n.sw.started = true ∧ n.sw.items = [] ∧
        n.sw.num = (if s.sw.started then (s.sw.num + 1) % 4294967296 else 0) ∧
        n.sw.ts = edge (if s.sw.started then s.sw.next else (s.setNow t).time.now) ∧ n.sw.ts % 10 = 0 ∧
        n.sw.start = (s.setNow t).devAt n.sw.ts ∧ n.cfg = s.cfg) ∧
    (s.sw.phase = .collecting → (s.setNow t).deadline ≤ (s.setNow t).time.now → ∃ n, exec (.collectionDeadline t) s = .next n ∧
      n.sw.phase = .exchanging ∧ (n.sw.endA = true ↔ n.bothRun = true)) ∧
    (∀ d, s.sw.phase = .exchanging → (s.setNow t).deadline ≤ (s.setNow t).time.now →
      ((s.setNow t).exchanged = true ∨ (s.setNow t).deadline + 100000 ≤ (s.setNow t).time.now) →
      ((s.setNow t).overlayIn.banksSeal.bothRun = false ∨ (s.setNow t).overlayIn.banksSeal.setsAgree ((s.setNow t).auxMask d) = true →
        ∃ n, exec (.inputSeal t d) s = .next n ∧ n.sw.phase = .sealed ∧ n.sleep.fresh = false) ∧
      ((s.setNow t).overlayIn.banksSeal.bothRun = true → (s.setNow t).overlayIn.banksSeal.setsAgree ((s.setNow t).auxMask d) = false →
        ∃ n, exec (.inputSeal t d) s = .next n ∧ n.sw.phase = .reseal ∧ bit n.sw.flags 1 = true ∧ n.sw.sealed.dev = (s.setNow t).auxMask d ∧
          n.ovl.pend = [] ∧ n.ovl.gen = s.ovl.pendGen)) ∧
    (∀ again, s.sw.phase = .reseal → ∃ n, exec (.inputReseal t again) s = .next n ∧ n.sw.phase = .sealed ∧ n.sleep.fresh = false)

/-- At the commit point every committed result shows together, and a lease is due (R18, R237, R262, R491, R629, 07_sweeps.md).
It rests on choices of the model: log 59, 93. -/
def Obligations.CommitShowsAllAtOnce : Prop :=
  ∀ (t : Nat) (s : State), s.sw.phase = .sealed → s.sw.ts + commitNs s.sw.period ≤ (s.setNow t).time.now →
    ∃ n, exec (.commitPoint t) s = .next n ∧ n.sw.phase = .committed ∧ n.lease.due = true ∧
      n.com.rings = n.ch.rings ∧ n.com.nodes = n.ch.nodes ∧ n.com.sealed = n.sw.sealed ∧ n.com.cur = n.cur ∧ n.com.strCur = n.strCur ∧
      n.com.prot = n.prot ∧ n.com.th = n.th ∧ n.com.cells = n.est.cells ∧ n.com.strs = n.est.strs ∧ n.com.lim = n.lim ∧
      n.com.hasp = n.hasp.strs ∧ n.com.lease = n.lease ∧ n.com.ov = n.cfg.ov ∧ n.com.queue = n.hasp.queue ∧ n.com.nest = n.nest ∧
      n.com.power = n.power ∧ n.sw.cSweep = s.sw.num ∧ n.sw.cStart = s.sw.start ∧ n.sw.cSample = s.sw.sealed.sampleTime ∧ n.sw.cFlags = s.sw.flags ∧
      n.sw.cPeriod = s.sw.period ∧ n.sw.cCause = s.sw.cause ∧ n.sw.cLate = s.sw.late ∧ n.sw.cOvGen = s.sw.sealed.ovGen ∧
      n.sw.cDigest = s.inputDigest s.sw.sealed ∧ n.sw.commitNow = (s.setNow t).time.now

/-- Equal digests validate the sweep; a difference is looked at again, and the second confirmed one in a row starts
arbitration (R539, R540, R541, R542, R543, 18_leaves_knuckle.md). It rests on choices of the model: log 59, 60. -/
def Obligations.ResultComparison : Prop :=
  ∀ (t : Nat) (a b : Option ChunkFault) (s : State), (s.setNow t).bothRun = true →
    (s.sw.fresh = true → s.sw.commitNow + 20000 ≤ (s.setNow t).time.now →
      ((s.setNow t).digestsAgree a b = true → ∃ n, exec (.resultCompare t a b) s = .next n ∧ n.kn.mismatchRun = 0 ∧ n.sw.validated = true ∧
        n.sw.fresh = false ∧ n.la.digest = (s.setNow t).resultDigest a ∧ n.lb.digest = (s.setNow t).resultDigest b ∧ Frame [.sweep, .leafA, .leafB, .knuckle, .aon, .chains, .log, .fifos] s n) ∧
      ((s.setNow t).digestsAgree a b = false → ∃ n, exec (.resultCompare t a b) s = .next n ∧ n.kn.differ = true ∧ n.kn.differAt = (s.setNow t).firstChunk a b ∧ n.sw.validated = s.sw.validated ∧
        n.sw.fresh = false ∧ n.la.digest = (s.setNow t).resultDigest a ∧ n.lb.digest = (s.setNow t).resultDigest b ∧ Frame [.sweep, .leafA, .leafB, .knuckle] s n)) ∧
    (∀ (chunk : Nat) (u v : Option (List Byte)), a = u.map (ChunkFault.mk chunk) → b = v.map (ChunkFault.mk chunk) →
      s.kn.differ = true → s.sw.commitNow + 100000 ≤ (s.setNow t).time.now →
      ((s.setNow t).digestsAgree a b = true → ∃ n, exec (.resultRecompare t chunk u v) s = .next n ∧ n.kn.differ = false ∧
        n.kn.transients = satAdd 32 s.kn.transients 1 ∧ n.kn.mismatches = s.kn.mismatches ∧ n.sw.validated = true ∧
        Frame [.sweep, .leafA, .leafB, .knuckle, .aon, .chains, .log, .fifos] s n) ∧
      ((s.setNow t).digestsAgree a b = false → ∃ n, exec (.resultRecompare t chunk u v) s = .next n ∧ n.kn.differ = false ∧
        n.kn.mismatches = satAdd 32 s.kn.mismatches 1 ∧ n.kn.mismatchRun = min 255 (s.kn.mismatchRun + 1) ∧ n.kn.lastMismatch = s.sw.cSweep ∧
        n.kn.arb = (if min 255 (s.kn.mismatchRun + 1) ≥ 2 ∧ s.kn.arb ≠ 3 then 1 else s.kn.arb) ∧
        Frame [.leafA, .leafB, .knuckle, .log, .fifos] s n))

/-- Known-answer tests fence the leaf that fails; two leaves that pass diverge and the HOT STANDBY is copied anew (R542, R543,
R544, R545, R556, 18_leaves_knuckle.md). It rests on choices of the model: log 29. -/
def Obligations.Arbitration : Prop :=
  ∀ (t : Nat) (s : State), (s.setNow t).bothRun = true →
    (s.kn.arb = 1 →
      (∃ n, exec (.katComplete t false true) s = .next n ∧ n.la.st = .fenced ∧
        n.la.cause = (if s.la.cause = 0 then Fc.kat else s.la.cause) ∧ n.lb.st = .running ∧ n.kn.kat = packBits [true, false, true, true] ∧
        Frame fenceParts s n) ∧
      (∃ n, exec (.katComplete t true false) s = .next n ∧ n.lb.st = .fenced ∧
        n.lb.cause = (if s.lb.cause = 0 then Fc.kat else s.lb.cause) ∧ n.la.st = .running ∧ n.kn.kat = packBits [true, true, true, false] ∧
        Frame fenceParts s n) ∧
      ((∀ d, s.kn.lastDiv = some d → d + 3600000000000 ≤ (s.setNow t).time.now) → ∃ n, exec (.katComplete t true true) s = .next n ∧
        (n.leaf s.act.other).st = .resyncing ∧ (n.leaf s.act).st = .running ∧
        n.kn.divergences = satAdd 16 s.kn.divergences 1 ∧ n.kn.arb = 3 ∧ n.kn.lastDiv = some (s.setNow t).time.now ∧
        Frame [.leafA, .leafB, .knuckle, .log, .fifos] s n) ∧
      (∀ d, s.kn.lastDiv = some d → (s.setNow t).time.now < d + 3600000000000 → ∃ n, exec (.katComplete t true true) s = .next n ∧
        (n.leaf s.act.other).st = .fenced ∧ (n.leaf s.act.other).cause =
          (if (s.leaf s.act.other).cause = 0 then Fc.divergence else (s.leaf s.act.other).cause) ∧ Frame fenceParts s n)) ∧
    (s.kn.arb = 2 → ∃ n, exec (.katComplete t true true) s = .next n ∧ n.kn.kat = packBits [true, true, true, true] ∧ n.kn.arb = 0 ∧
      n.kn.selftest = none ∧ Frame [.knuckle, .links, .out, .log, .fifos] s n)

/-- RESYNC_COMPLETE lets the resynchronised HOT STANDBY run (R544, 18_leaves_knuckle.md). -/
def Obligations.ResyncRuns : Prop :=
  ∀ (t : Nat) (s : State), (s.leaf s.act.other).st = .resyncing → (s.leaf s.act.other).rejoin = 0 → s.kn.active ≠ none →
    ∃ n, exec (.resyncComplete t) s = .next n ∧ (n.leaf s.act.other).st = .running ∧ (n.leaf s.act.other).rq = true ∧ n.kn.arb = 0 ∧
      (n.leaf s.act).st = (s.leaf s.act).st ∧ n.kn.active = s.kn.active ∧ Frame [.leafA, .leafB, .knuckle, .links, .log, .fifos] s n

/-- Bad frames, returned broadcasts, loss and return of signal are counted at their port, master or uplink; a loss on a WHOLE
ring, or at the surviving end of one that a fence broke, is an event (R147, R158, R159, R223, R228, 05_swithe_link.md,
06_chain_protocol.md). It rests on choices of the model: log 52, 58. -/
def Obligations.PortsAndBadFrames : Prop :=
  ∀ (t ring : Nat) (e : Leaf) (s : State), (s.setNow t).portOn e = true →
    (∀ (c : Nat) (line : Option (List Byte)),
      let counted := fun (x : Ring) => if e = .a then
          { x with badA := satAdd 32 x.badA (b2n line.isSome), codeA := satAdd 32 x.codeA c }
        else { x with badB := satAdd 32 x.badB (b2n line.isSome), codeB := satAdd 32 x.codeB c }
      (s.cfg.ringOn ring = true → (ring = 15 → s.cfg.uplink = false) → ∃ n, exec (.badFrameReceived t ring e ⟨c, line⟩) s = .next n ∧
        n.ring ring = counted (s.ring ring) ∧ (∀ r, r ≠ ring → n.ring r = s.ring r) ∧ n.ch.nodes = s.ch.nodes ∧ n.ch.ports = s.ch.ports ∧
        Frame [.chains, .log, .fifos] s n) ∧
      (s.cfg.uplink = true → (s.setNow t).upRx e = true → ∃ n, exec (.badFrameReceived t 15 e ⟨c, line⟩) s = .next n ∧
        n.ring 15 = counted (s.ring 15) ∧ (∀ r, r ≠ 15 → n.ring r = s.ring r) ∧ Frame [.chains, .nest, .out, .log, .fifos] s n)) ∧
    (s.cfg.ringOn ring = true → s.pick.armed = false → ∃ n, exec (.broadcastReturned t ring e) s = .next n ∧
      n.ring ring = { s.ring ring with bcast := satAdd 32 (s.ring ring).bcast 1 } ∧ (∀ r, r ≠ ring → n.ring r = s.ring r) ∧
      n.ch.nodes = s.ch.nodes ∧ n.ch.ports = s.ch.ports ∧ Frame [.chains, .log, .fifos] s n) ∧
    (s.cfg.ringOn ring = true → (ring = 15 → s.cfg.uplink = false) → (if e = .a then (s.ring ring).losA else (s.ring ring).losB) = false →
      s.sleep.st = 0 → ∃ n, exec (.portLos t ring e) s = .next n ∧
      (e = .a → (n.ring ring).losA = true ∧ (n.ring ring).losCntA = satAdd 32 (s.ring ring).losCntA 1) ∧
      (e = .b → (n.ring ring).losB = true ∧ (n.ring ring).losCntB = satAdd 32 (s.ring ring).losCntB 1) ∧
      ((s.ring ring).st = .whole ∨ (s.ring ring).sideOk = true → (s.ring ring).brk = 0 →
        (n.ring ring).brk = e.num + 1 ∧ (n.ring ring).brkNow = (s.setNow t).time.now) ∧
      (((s.ring ring).st ≠ .whole ∧ (s.ring ring).sideOk = false) ∨ (s.ring ring).brk ≠ 0 → n.ring ring = (if e = .a then
          { s.ring ring with losA := true, losCntA := satAdd 32 (s.ring ring).losCntA 1 }
        else { s.ring ring with losB := true, losCntB := satAdd 32 (s.ring ring).losCntB 1 }) ∧ n.ch.nodes = s.ch.nodes ∧ n.ch.ports = s.ch.ports) ∧
      Frame ringParts s n) ∧
    (s.cfg.ringOn ring = true → (ring = 15 → s.cfg.uplink = false) → ∃ n, exec (.portLinkUp t ring e) s = .next n ∧
      n.ring ring = (if e = .a then { s.ring ring with losA := false } else { s.ring ring with losB := false }) ∧
      (∀ r, r ≠ ring → n.ring r = s.ring r) ∧ n.ch.nodes = s.ch.nodes ∧ n.ch.ports = s.ch.ports ∧ Frame [.chains] s n) ∧
    (s.cfg.uplink = true →
      ((s.upPort e).los = false → ∃ n, exec (.portLos t 15 e) s = .next n ∧ n.upPort e = { s.upPort e with up := false, los := true } ∧
        n.upPort e.other = s.upPort e.other ∧
        n.ring 15 = (if e = .a then { s.ring 15 with losCntA := satAdd 32 (s.ring 15).losCntA 1 }
          else { s.ring 15 with losCntB := satAdd 32 (s.ring 15).losCntB 1 }) ∧ Frame [.nest, .chains] s n) ∧
      (∃ n, exec (.portLinkUp t 15 e) s = .next n ∧ n.upPort e = { s.upPort e with up := true, los := false } ∧
        n.upPort e.other = s.upPort e.other ∧ Frame [.nest] s n)) ∧
    (s.cfg.ringOn ring = true → (s.setNow t).sweeping = true → (s.ring ring).st.probes = true →
      (if e = .a then (s.ring ring).probedA else (s.ring ring).probedB) = true →
      (if e = .a then (s.ring ring).enumA else (s.ring ring).enumB) + 1000000000 ≤ (s.setNow t).time.now →
      ∃ n, exec (.enumProbe t ring e) s = .next n ∧
      (e = .a → (n.ring ring).openA = true ∧ (n.ring ring).enumA = (s.setNow t).time.now) ∧
      (e = .b → (n.ring ring).openB = true ∧ (n.ring ring).enumB = (s.setNow t).time.now) ∧
      (n.ring ring).st = (s.ring ring).st ∧ (∀ r, r ≠ ring → n.ring r = s.ring r) ∧ Frame ringParts s n)

/-- SYNCs of a start round go out and are timed; a sweep's SYNC counts for its ring; a missing one is an event of the break
(R182, R191, R195, R196, R223, R263, 06_chain_protocol.md, 07_sweeps.md). It rests on choices of the model: log 101. -/
def Obligations.SyncsAndCalibration : Prop :=
  ∀ (t ring : Nat) (s : State),
    ((s.ring ring).cal = 2 → s.ch.low = false → ((s.ring ring).calN = 0 ∨ (s.ring ring).calLast + 250000 ≤ (s.setNow t).time.now) →
      ((s.ring ring).calN < 8 → ∃ n, exec (.calSyncLaunch t ring) s = .next n ∧
        n.ring ring = { s.ring ring with calN := (s.ring ring).calN + 1, calLast := (s.setNow t).time.now } ∧
        n.out = (if (s.setNow t).portOn .b then [syncOut ring .b (0xF8 + (s.ring ring).calN) 0] else []) ++
          (if (s.setNow t).portOn .a then [syncOut ring .a (0xF8 + (s.ring ring).calN) 0] else []) ++ s.out ∧
        (∀ r, r ≠ ring → n.ring r = s.ring r) ∧ Frame [.chains, .out] s n) ∧
      (8 ≤ (s.ring ring).calN → ∃ n, exec (.calSyncLaunch t ring) s = .next n ∧
        ((n.ring ring).cal = 3 ∨ (n.ring ring).cal = 0) ∧ Frame (fenceParts ++ [.thermal]) s n)) ∧
    ((s.ring ring).cal = 9 → ∃ n, exec (.calSyncLaunch t ring) s = .next n ∧
      ((s.setNow t).calOpen ring = true → n.ring ring = s.ring ring) ∧
      ((s.setNow t).calOpen ring = false → (n.ring ring).cal = 10 ∨ (n.ring ring).cal = 0) ∧ Frame ringParts s n) ∧
    ((s.ring ring).st = .whole → (s.ring ring).cal = 0 → (s.ring ring).countBad = false → (s.setNow t).sweeping = true →
      s.sw.phase = .committed → (s.ring ring).calFrom + 60000000000 ≤ (s.setNow t).time.now → ∃ n, exec (.calRoundStart t ring) s = .next n ∧
      (n.ring ring).calFrom = (s.setNow t).time.now ∧ ((n.ring ring).cal = 5 ∨ (n.ring ring).cal = 6) ∧ (n.ring ring).st = .whole ∧
      Frame ringParts s n) ∧
    (∀ (e : Leaf) (low hop delay : Nat), s.cfg.ringOn ring = true → (s.setNow t).portOn e = true →
      ((s.ring ring).cal = 2 → 0 < (s.ring ring).calN → low = 0xF7 + (s.ring ring).calN →
        ∃ n, exec (.syncReceived t ring e low hop delay) s = .next n ∧
        n.ring ring = (if e = .a then
            { s.ring ring with calBa := (s.ring ring).calBa + delay, calBaN := (s.ring ring).calBaN + 1 }
          else { s.ring ring with calAb := (s.ring ring).calAb + delay, calAbN := (s.ring ring).calAbN + 1 }) ∧
        (∀ r, r ≠ ring → n.ring r = s.ring r) ∧ n.ch.nodes = s.ch.nodes ∧ Frame [.chains] s n) ∧
      ((s.ring ring).cal ≠ 2 → s.sw.started = true → (s.setNow t).up = true → low = s.sw.num % 256 →
        (s.setNow t).time.now ≤ s.sw.ts + (s.ring ring).tNs + 5000 → ∃ n, exec (.syncReceived t ring e low hop delay) s = .next n ∧
        ((s.ring ring).cal = 6 → e = .a → (n.ring ring).calBa = (s.ring ring).calBa + delay ∧ (n.ring ring).calBaN = (s.ring ring).calBaN + 1) ∧
        ((s.ring ring).cal = 6 → e = .b → (n.ring ring).calAb = (s.ring ring).calAb + delay ∧ (n.ring ring).calAbN = (s.ring ring).calAbN + 1) ∧
        (e = .a → (n.ring ring).syncA = true ∧ (n.ring ring).hopAtA = hop ∧ (n.ring ring).hopOkA = (hop == s.cfg.nodeCount ring) ∧
          (n.ring ring).syncB = (s.ring ring).syncB) ∧
        (e = .b → (n.ring ring).syncB = true ∧ (n.ring ring).hopAtB = hop ∧ (n.ring ring).hopOkB = (hop == s.cfg.nodeCount ring) ∧
          (n.ring ring).syncA = (s.ring ring).syncA) ∧
        (∀ r, r ≠ ring → n.ring r = s.ring r) ∧ n.ch.nodes = s.ch.nodes ∧ Frame [.chains] s n)) ∧
    (∀ e : Leaf, s.cfg.ringOn ring = true → (s.setNow t).bothRun = true → (s.setNow t).sweeping = true → s.sw.started = true →
      (s.ring ring).countBad = false → (if e = .a then (s.ring ring).syncA else (s.ring ring).syncB) = false →
      s.sw.ts + (s.ring ring).tNs + 5000 ≤ (s.setNow t).time.now → ∃ n, exec (.farSyncMissing t ring e) s = .next n ∧
      (e = .a → (n.ring ring).missA = true) ∧ (e = .b → (n.ring ring).missB = true) ∧
      ((s.ring ring).st = .whole → (s.ring ring).brk = 0 →
        (n.ring ring).brk = (if e = .b then 3 else 4) ∧ (n.ring ring).brkNow = (s.setNow t).time.now) ∧
      Frame ringParts s n)

/-- CHAIN_REENUM opens the answer window; answers are recorded in it, an ENUM come round is noted, and the window closes
(R179, R180, R181, R185, R188, R206, R646, 06_chain_protocol.md). It rests on choices of the model: log 51. -/
def Obligations.EnumerationRuns : Prop :=
  ∀ (t : Nat) (s : State),
    (∀ q : HReq, (s.setNow t).lets q 0x0201 Perm.restart = true → q.args.length = 4 →
      (arg q 0 1 ≠ 0xFF → s.cfg.ringOn (arg q 0 1) = true) → ∃ n, exec (.chainReenum t q) s = .next n ∧
      AnsweredOk (s.setNow t) n q 0x0201 [] ∧
      (∀ r, (if arg q 0 1 = 0xFF then r ∈ s.cfg.rings else r = arg q 0 1) → (n.ring r).enumKind = 3 ∧
        ((s.setNow t).portOn .a = true → (n.ring r).openA = true ∧ (n.ring r).enumA = (s.setNow t).time.now ∧
          (n.ring r).bPend = (s.setNow t).portOn .b) ∧
        ((s.setNow t).portOn .a = false → (s.setNow t).portOn .b = true →
          (n.ring r).openB = true ∧ (n.ring r).enumB = (s.setNow t).time.now)) ∧
      Frame (ringParts ++ hostParts) s n) ∧
    (∀ (ring : Nat) (e : Leaf), s.cfg.ringOn ring = true → (s.setNow t).portOn e = true → s.pick.armed = false →
      (∀ hop, hop < 256 → ∃ n, exec (.enumReturned t ring e hop) s = .next n ∧
        (n.ring ring).bcast = satAdd 32 (s.ring ring).bcast 1 ∧
        (e = .a → (n.ring ring).hopRetA = some hop ∧ (n.ring ring).hopAtA = hop) ∧
        (e = .b → (n.ring ring).hopRetB = some hop ∧ (n.ring ring).hopAtB = hop) ∧ Frame ringParts s n) ∧
      (∀ f : EnumRsp, 1 ≤ f.src → f.src ≤ s.cfg.nodeCount ring → f.uid < 2 ^ 64 →
        ((s.setNow t).enumOpen ring e = true → ∃ n, exec (.enumRspReceived t ring e f) s = .next n ∧
          (n.node ring f.src).known = true ∧ (e = .a → (n.node ring f.src).ansA = some f.uid) ∧
          (e = .b → (n.node ring f.src).ansB = some f.uid) ∧ (n.ring ring).stray = (s.ring ring).stray ∧ Frame (ringParts ++ [.links]) s n) ∧
        ((s.setNow t).enumOpen ring e = false → ∃ n, exec (.enumRspReceived t ring e f) s = .next n ∧
          (n.ring ring).stray = satAdd 32 (s.ring ring).stray 1 ∧ (n.node ring f.src).ansA = (s.node ring f.src).ansA ∧
          (n.node ring f.src).ansB = (s.node ring f.src).ansB ∧ (n.node ring f.src).known = (s.node ring f.src).known ∧
          Frame [.chains, .log, .fifos] s n))) ∧
    (∀ (ring : Nat) (e : Leaf), s.cfg.ringOn ring = true → (s.setNow t).enumOpen ring e = true →
      (if e = .a then (s.ring ring).enumA else (s.ring ring).enumB) + (s.setNow t).enumNs ≤ (s.setNow t).time.now →
      ∃ n, exec (.enumWindowClose t ring e) s = .next n ∧ n.enumOpen ring e = false ∧ Frame (ringParts ++ [.links]) s n)

/-- A sample or group summary of the sweep in hand joins its items once per end; a late one is only counted; missing ones are
asked for; an alarm acts once, unless its node is quarantined (R205, R211, R212, R213, R249, R250, R436, R566,
06_chain_protocol.md, 07_sweeps.md). It rests on choices of the model: log 53, 56, 57, 100. -/
def Obligations.SamplesCollected : Prop :=
  ∀ (t ring : Nat) (e : Leaf) (s : State), s.cfg.ringOn ring = true →
    (∀ f : SampleRsp, (s.setNow t).portOn e = true → s.pick.armed = false → 1 ≤ f.pos → f.pos ≤ s.cfg.nodeCount ring →
      (f.solicited = true → ∃ h, (s.setNow t).head ring e f.pos = some h ∧ h.kind = 4 ∧ h.reg = 0xFF20 ∧ h.seq = f.seq ∧ h.busy = false) →
      ((s.setNow t).collecting = true → (s.setNow t).usable ring f.pos = true →
        (sampleLow f.payload = s.sw.num % 256 → ∃ n, exec (.sampleRspReceived t ring e f) s = .next n ∧
          n.sw = (if s.sw.items.any (fun i => i.ring == ring && i.pos == f.pos && i.e == e) then s.sw else { s.sw with items :=
            s.sw.items ++ [{ ring := ring, pos := f.pos, e := e, payload := keptSample f f.payload, inA := true, inB := true }] }) ∧
          Frame (ringParts ++ [.sweep, .links, .nest]) s n) ∧
        (summaryLow f.payload = s.sw.num % 256 → ∃ n, exec (.groupSummaryReceived t ring e f) s = .next n ∧
          n.sw = (if s.sw.items.any (fun i => i.ring == ring && i.pos == f.pos && i.e == e) then s.sw else { s.sw with items :=
            s.sw.items ++ [{ ring := ring, pos := f.pos, e := e, payload := f.payload, inA := true, inB := true }] }) ∧
          Frame (ringParts ++ [.sweep, .links, .nest]) s n)) ∧
      (s.sw.started = true → f.solicited = false →
        ((sampleLow f.payload ≠ s.sw.num % 256 ∧ sampleLow f.payload < s.sw.num) ∨ (sampleLow f.payload = s.sw.num % 256 ∧ (s.setNow t).collecting = false) →
          ∃ n, exec (.sampleRspReceived t ring e f) s = .next n ∧ n.sw = { s.sw with late := satAdd 16 s.sw.late 1 } ∧
          (n.ring ring).late = satAdd 16 (s.ring ring).late 1 ∧ n.time.lateTotal = satAdd 32 s.time.lateTotal 1 ∧
          Frame (ringParts ++ [.sweep, .time]) s n) ∧
        ((summaryLow f.payload ≠ s.sw.num % 256 ∧ summaryLow f.payload < s.sw.num) ∨ (summaryLow f.payload = s.sw.num % 256 ∧ (s.setNow t).collecting = false) →
          ∃ n, exec (.groupSummaryReceived t ring e f) s = .next n ∧ n.sw = { s.sw with late := satAdd 16 s.sw.late 1 } ∧
          (n.ring ring).late = satAdd 16 (s.ring ring).late 1 ∧ n.time.lateTotal = satAdd 32 s.time.lateTotal 1 ∧
          Frame (ringParts ++ [.sweep, .time]) s n))) ∧
    (∀ f : AlarmFrame, (s.setNow t).portOn e = true → s.pick.armed = false → s.sleep.st = 0 → 1 ≤ f.src → f.src ≤ s.cfg.nodeCount ring →
      f.cause < 256 → f.chan < 256 → f.value < 65536 → f.boot < 2 ^ 32 → (s.node ring f.src).boot = f.boot →
      let keep := s.ch.alarms.filter (fun a => decide ((s.setNow t).time.now < a.1 + 10000000))
      (keep.any (fun a => a.2 == (ring, f.src, f.seq, f.cause)) = true → ∃ n, exec (.alarmReceived t ring e f) s = .next n ∧
        n.ch.alarms = keep ∧ n.prot = s.prot ∧ Frame ringParts s n) ∧
      (keep.any (fun a => a.2 == (ring, f.src, f.seq, f.cause)) = false → ∃ n, exec (.alarmReceived t ring e f) s = .next n ∧
        n.ch.alarms = ((s.setNow t).time.now, (ring, f.src, f.seq, f.cause)) :: keep ∧
        ((s.node ring f.src).quar ≠ 0 → Frame ringParts s n) ∧
        ((s.node ring f.src).quar = 0 → f.cause &&& 15 = 0 → Frame (ringParts ++ [.prot, .lease, .links, .aon, .leafA, .leafB]) s n) ∧
        ((s.node ring f.src).quar = 0 → ∀ k ∈ s.cfg.nodeCells ring f.src, f.chan = 0xFF ∨ (s.cfg.cell k).chan = f.chan →
          (bit f.cause 0 = true → (n.cp k).ovAlarm = some (s.setNow t).time.now) ∧
          (bit f.cause 1 = true → (n.cp k).uvAlarm = some (s.setNow t).time.now)))) ∧
    (s.sw.phase = .collecting → (if e = .a then (s.ring ring).rrA else (s.ring ring).rrB) = false →
      (s.setNow t).rereqAt ring e ≤ (s.setNow t).time.now → ∃ n, exec (.rerequestInstant t ring e) s = .next n ∧
      (e = .a → (n.ring ring).rrA = true) ∧ (e = .b → (n.ring ring).rrB = true) ∧
      ((s.setNow t).rereqFits ring e = true → ∀ p ∈ (s.setNow t).rereqList ring e, ∀ x : Leaf, (s.setNow t).portOn x = true →
        (n.port ring x p).q.any (fun r => r.purpose == .sample && r.kind == 4 && r.reg == 0xFF20) = true) ∧
      Frame ringParts s n)

/-- The answer to the outstanding request is taken by its purpose; NACK BUSY makes it wait, another NACK ends it (R201, R205,
R207, R649, 06_chain_protocol.md). -/
def Obligations.AnswersReceived : Prop :=
  ∀ (t ring : Nat) (e : Leaf) (pos seq : Nat) (h : Req) (s : State), s.cfg.ringOn ring = true → (s.setNow t).portOn e = true →
    s.pick.armed = false → (s.setNow t).head ring e pos = some h → 1 ≤ pos → pos ≤ s.cfg.nodeCount ring →
    (∀ f : RspFrame, f.pos = pos → f.seq = seq →
      (h.seq = seq → ∃ n, exec (.rspReceived t ring e f) s = .next n ∧
        (n.ring ring).stray = (s.ring ring).stray ∧ (e = .a → (n.node ring pos).deafA = false) ∧ (e = .b → (n.node ring pos).deafB = false) ∧
        (∀ k tag m op, h.purpose = .hostR k tag m → (s.sess k).outst.find? (fun o => o.1 == tag) = some (tag, 3, op) →
          n.links.lastStatus = St.ok ∧ n.links.lastOpcode = op ∧ n.links.lastSlot = k ∧ (n.sess k).outst.all (fun o => o.1 != tag) = true) ∧
        (∀ i tok, h.purpose = .act i tok → (n.hs i).unans = false) ∧
        (h.purpose = .cfgR → f.data ≠ h.expect → (s.ring ring).countBad = false → (n.node ring pos).quar = 9) ∧
        Frame (reqParts h) s n) ∧
      (h.seq ≠ seq → ∃ n, exec (.rspReceived t ring e f) s = .next n ∧ (n.ring ring).stray = satAdd 32 (s.ring ring).stray 1 ∧
        n.ch.ports = s.ch.ports ∧ Frame [.chains, .log, .fifos] s n)) ∧
    (∀ kind : Nat, h.seq = seq →
      ((∀ i tok, h.purpose ≠ .act i tok) → ∃ n, exec (.nackReceived t ring e pos seq 4 kind) s = .next n ∧
        n.head ring e pos = some { h with busy := true, due := (s.setNow t).time.now + (s.setNow t).busyNs } ∧
        (n.node ring pos).lastNack = 4 ∧ Frame ringParts s n) ∧
      (∀ reason, reason < 256 → reason ≠ 4 → ∃ n, exec (.nackReceived t ring e pos seq reason kind) s = .next n ∧
        (n.node ring pos).lastNack = reason ∧ (n.ring ring).stray = (s.ring ring).stray ∧
        (∀ k tag m op, h.purpose = .hostR k tag m → (s.sess k).outst.find? (fun o => o.1 == tag) = some (tag, 3, op) →
          n.links.lastStatus = St.denied ∧ n.links.lastOpcode = op ∧ n.links.lastSlot = k ∧ (n.sess k).outst.all (fun o => o.1 != tag) = true) ∧
        Frame (reqParts h) s n))

/-- A request without an answer is sent again with its SEQ until its retries are used up, then it has failed and is counted
(R206, R207, R211, R230, R573, 06_chain_protocol.md, 19_nesting.md). It rests on choices of the model: log 53, 101. -/
def Obligations.RetriesAndFailures : Prop :=
  ∀ (t ring : Nat) (e : Leaf) (pos : Nat) (h : Req) (s : State), (s.setNow t).head ring e pos = some h →
    (∀ c, (c = Instr.answerTimeout t ring e pos ∧ h.busy = false) ∨ (c = Instr.busyRetryDelay t ring e pos ∧ h.busy = true ∧ h.kind ≠ 0xC) →
      h.due ≤ (s.setNow t).time.now →
      (h.muted = true → ∃ n, exec c s = .next n ∧ (n.port ring e pos).q.length + 1 = (s.port ring e pos).q.length ∧
        n.ch.nodes = s.ch.nodes ∧ (∀ r, n.ring r = s.ring r) ∧ Frame ringParts s n) ∧
      (h.muted = false → (s.setNow t).mayRetry ring h = true → (s.setNow t).retryEnd ring e pos h = e → ∃ n, exec c s = .next n ∧
        n.head ring e pos = some { h with retries := h.retries + 1, busy := false, due := (s.setNow t).time.now + (s.setNow t).answerNs } ∧
        (n.ring ring).retries = satAdd 32 (s.ring ring).retries 1 ∧ n.ch.nodes = s.ch.nodes ∧ Frame ringParts s n) ∧
      (h.muted = false → (s.setNow t).mayRetry ring h = true → (s.setNow t).retryEnd ring e pos h ≠ e → ∃ n, exec c s = .next n ∧
        (n.port ring e pos).q.length + 1 = (s.port ring e pos).q.length ∧
        (n.ring ring).retries = satAdd 32 (s.ring ring).retries 1 ∧ n.ch.nodes = s.ch.nodes ∧ Frame ringParts s n)) ∧
    (∀ c, (c = Instr.answerTimeout t ring e pos ∧ h.busy = false ∧ h.due ≤ (s.setNow t).time.now ∧ (s.setNow t).mayRetry ring h = false) ∨
        (c = Instr.busyRetryDelay t ring e pos ∧ h.busy = true ∧ h.kind ≠ 0xC ∧ h.due ≤ (s.setNow t).time.now ∧
          (s.setNow t).mayRetry ring h = false) ∨
        (c = Instr.passDeadline t ring e pos ∧ h.kind = 0xC ∧ h.first + 2500000 * leAt h.payload 0 1 ≤ (s.setNow t).time.now) →
      h.muted = false → (∀ i tok, h.purpose ≠ .act i tok) → ∃ n, exec c s = .next n ∧
        (n.node ring pos).noAnswers = satAdd 16 (s.node ring pos).noAnswers 1 ∧ (n.ring ring).noAns = satAdd 32 (s.ring ring).noAns 1 ∧
        (∀ k tag m op, h.purpose = .hostR k tag m ∨ h.purpose = .pass k tag → (s.sess k).outst.find? (fun o => o.1 == tag) = some (tag, 3, op) →
          n.links.lastStatus = St.denied ∧ n.links.lastOpcode = op ∧ n.links.lastSlot = k ∧ (n.sess k).outst.all (fun o => o.1 != tag) = true) ∧
        Frame (reqParts h) s n) ∧
    (h.kind = 0xC → h.busy = true → h.due ≤ (s.setNow t).time.now → ∃ n, exec (.passRepeat t ring e pos) s = .next n ∧
      n.head ring e pos = some { h with busy := false, due := (s.setNow t).time.now + (s.setNow t).answerNs } ∧
      n.ch.rings = s.ch.rings ∧ n.ch.nodes = s.ch.nodes ∧ Frame ringParts s n)

/-- NODE_READ, NODE_WRITE and NEST_PASS put the request on the ring and wait for its answer; a group write to nobody is
answered at once, a reserved address is out of bounds (R157, R188, R574, R646, R649, R650, 06_chain_protocol.md,
19_nesting.md). It rests on choices of the model: log 46, 108. -/
def Obligations.HostReachesNodes : Prop :=
  ∀ (t : Nat) (q : HReq) (s : State),
    ((s.setNow t).lets q 0x0202 Perm.read = true → q.args.length = 8 → s.cfg.ringOn (arg q 0 1) = true → 1 ≤ arg q 1 1 →
      arg q 1 1 ≤ s.cfg.nodeCount (arg q 0 1) → 1 ≤ arg q 4 2 → arg q 4 2 ≤ 32 → ∃ n, exec (.nodeRead t q) s = .next n ∧
      Waits n q 3 0x0202 ∧ ((s.setNow t).portOn ((s.setNow t).reqEnd (arg q 0 1) (arg q 1 1)) = true →
        (n.port (arg q 0 1) ((s.setNow t).reqEnd (arg q 0 1) (arg q 1 1)) (arg q 1 1)).q.any (fun r => r.purpose == .hostR q.sess q.tag (arg q 4 2) &&
          r.kind == 4 && r.reg == arg q 2 2) = true) ∧
      Frame (ringParts ++ hostParts) s n) ∧
    ((s.setNow t).opens q 0x0203 = true → (s.setNow t).role q.sess = 3 → q.args.length = 8 + arg q 6 2 → s.cfg.ringOn (arg q 0 1) = true →
      1 ≤ arg q 6 2 → arg q 6 2 ≤ 508 → 1 ≤ arg q 2 2 → arg q 4 2 + arg q 6 2 ≤ 0xFB00 →
      (∀ i ∈ s.cfg.ringStrings (arg q 0 1), (s.hs i).st = 0) →
      (arg q 2 2 ≤ 64 → arg q 2 2 ≤ s.cfg.nodeCount (arg q 0 1) → (s.node (arg q 0 1) (arg q 2 2)).quar = 0 →
        ∃ n, exec (.nodeWrite t q) s = .next n ∧ Waits n q 3 0x0203 ∧
        ((s.setNow t).portOn ((s.setNow t).reqEnd (arg q 0 1) (arg q 2 2)) = true →
          (n.port (arg q 0 1) ((s.setNow t).reqEnd (arg q 0 1) (arg q 2 2)) (arg q 2 2)).q.any (fun r => r.purpose == .hostW q.sess q.tag &&
            r.kind == 3 && r.payload == cfgWrP (arg q 4 2) (q.args.drop 8)) = true) ∧
        Frame (ringParts ++ hostParts) s n) ∧
      (arg q 2 2 < 0xFF00 → s.cfg.nodeCount (arg q 0 1) < arg q 2 2 → ∃ n, exec (.nodeWrite t q) s = .next n ∧
        Answered (s.setNow t) n q 3 0x0203 St.bounds [] ∧ Frame hostParts s n) ∧
      (0xFF00 ≤ arg q 2 2 →
        ((s.cfg.positions (arg q 0 1)).any (fun p => arg q 2 2 == 0xFFFF || s.cfg.nodeFld (arg q 0 1) p 0x1A == arg q 2 2) = false →
          ∃ n, exec (.nodeWrite t q) s = .next n ∧ AnsweredOk (s.setNow t) n q 0x0203 [] ∧ Frame (ringParts ++ hostParts) s n) ∧
        ((s.cfg.positions (arg q 0 1)).any (fun p => arg q 2 2 == 0xFFFF || s.cfg.nodeFld (arg q 0 1) p 0x1A == arg q 2 2) = true →
          ∃ n, exec (.nodeWrite t q) s = .next n ∧ Waits n q 3 0x0203 ∧ Frame (ringParts ++ hostParts) s n))) ∧
    (∀ x, (s.setNow t).opens q 0x0F01 = true → 15 ≤ q.args.length → passParts (q.args.drop 4) = some x → s.cfg.ringOn (arg q 0 1) = true →
      1 ≤ arg q 1 1 → arg q 1 1 ≤ s.cfg.nodeCount (arg q 0 1) → (s.node (arg q 0 1) (arg q 1 1)).quar = 0 →
      (x.kind = 4 ∧ (s.setNow t).may q.sess Perm.read = true) ∨
        (x.kind = 3 ∧ ((leAt x.inner 0 2 = 0xFB04 ∧ (s.setNow t).may q.sess Perm.strings = true) ∨ (s.setNow t).role q.sess = 3)) →
      ∃ n, exec (.nestPass t q) s = .next n ∧ Waits n q 3 0x0F01 ∧
      ((s.setNow t).portOn ((s.setNow t).reqEnd (arg q 0 1) (arg q 1 1)) = true →
        (n.port (arg q 0 1) ((s.setNow t).reqEnd (arg q 0 1) (arg q 1 1)) (arg q 1 1)).q.any (fun r => r.purpose == .pass q.sess q.tag &&
          r.kind == 0xC && r.payload == q.args.drop 4) = true) ∧
      Frame (ringParts ++ hostParts) s n)

/-- SW_SET sets a logic enable on the accepted path, a latch turns its channel off, SW_REENABLE and SW_RESTART_RESET give it
back (R13, R511, R513, R515, R516, R517, R521, R522, R523, R527, R528, 17_switch_channels.md). It rests on choices of the
model: log 84. -/
def Obligations.SwitchChannels : Prop :=
  ∀ (t : Nat) (s : State),
    (∀ q : HReq, q.args.length = 4 → arg q 0 1 < 24 →
      ((s.setNow t).lets q 0x0D01 Perm.strings = true → arg q 1 1 ≤ 1 →
        (s.cfg.chanString (arg q 0 1) = none → (s.cfg.sw (arg q 0 1) 1 = 1 ∨ s.cfg.sw (arg q 0 1) 1 = 3) →
          (s.aon.thermal && s.cfg.sw (arg q 0 1) 0 == 3 && arg q 1 1 == 1) = false →
          (s.pathTaken = true → ∃ n, exec (.swSet t q) s = .next n ∧
            (n.chan (arg q 0 1)).logic = (arg q 1 1 == 1) ∧ (n.chan (arg q 0 1)).on = n.chanWant (arg q 0 1) ∧
            (∀ k, k ≠ arg q 0 1 → n.chan k = s.chan k) ∧ AnsweredOk (s.setNow t) n q 0x0D01 [] ∧ Frame (hostParts ++ [.power]) s n) ∧
          (s.pathTaken = false → ∃ n, exec (.swSet t q) s = .next n ∧ Frame hostParts s n)) ∧
        ((s.cfg.chanString (arg q 0 1)).isSome = true → ∃ n, exec (.swSet t q) s = .next n ∧
          Answered (s.setNow t) n q 3 0x0D01 St.denied [] ∧ Frame hostParts s n)) ∧
      ((s.setNow t).lets q 0x0D02 Perm.clear = true → (s.chan (arg q 0 1)).latch ≠ 0 → bit (s.chan (arg q 0 1)).latch 3 = false →
        (s.setNow t).stringBusy (arg q 0 1) = false →
        (s.chan (arg q 0 1)).latchNow + 100000000 * s.cfg.sw (arg q 0 1) 7 ≤ (s.setNow t).time.now →
        ((s.chan (arg q 0 1)).restarts < s.cfg.sw (arg q 0 1) 6 ∨ (s.chan (arg q 0 1)).grant = true) → ∃ n, exec (.swReenable t q) s = .next n ∧
        (n.chan (arg q 0 1)).latch = 0 ∧ (n.chan (arg q 0 1)).restarts = min 255 ((s.chan (arg q 0 1)).restarts + 1) ∧
        (n.chan (arg q 0 1)).grant = false ∧ (n.chan (arg q 0 1)).on = n.chanWant (arg q 0 1) ∧ (∀ k, k ≠ arg q 0 1 → n.chan k = s.chan k) ∧
        AnsweredOk (s.setNow t) n q 0x0D02 [] ∧ Frame (hostParts ++ [.power, .log, .fifos]) s n) ∧
      ((s.setNow t).lets q 0x0D03 Perm.clear = true → (s.setNow t).role q.sess = 3 → bit (s.chan (arg q 0 1)).latch 3 = false →
        (s.setNow t).stringBusy (arg q 0 1) = false → ∃ n, exec (.swRestartReset t q) s = .next n ∧
        n.chan (arg q 0 1) = { s.chan (arg q 0 1) with restarts := 0, grant := true } ∧ (∀ k, k ≠ arg q 0 1 → n.chan k = s.chan k) ∧
        AnsweredOk (s.setNow t) n q 0x0D03 [] ∧ Frame (hostParts ++ [.power]) s n)) ∧
    (∀ ch : Nat, ch < 24 → s.aon.vaon = true →
      (∀ peak, (s.chan ch).on = true →
        (∃ n, exec (.swOcLatch t ch peak) s = .next n ∧ (n.chan ch).latch = setBit (s.chan ch).latch 0 true ∧ (n.chan ch).on = false ∧
          (n.chan ch).latches = satAdd 16 (s.chan ch).latches 1 ∧ (n.chan ch).latchPeak = min 2550 peak ∧
          (∀ k, k ≠ ch → n.chan k = s.chan k) ∧ Frame [.power, .log, .fifos] s n) ∧
        (∃ n, exec (.swShortLatch t ch peak) s = .next n ∧ (n.chan ch).latch = setBit (s.chan ch).latch 1 true ∧ (n.chan ch).on = false ∧
          (n.chan ch).latches = satAdd 16 (s.chan ch).latches 1 ∧ (n.chan ch).latchPeak = min 2550 peak ∧
          (∀ k, k ≠ ch → n.chan k = s.chan k) ∧ Frame [.power, .log, .fifos] s n)) ∧
      (∀ volt, (s.chan ch).on = false → (s.setNow t).time.now ≤ (s.chan ch).offNow + 100000 → ∃ n, exec (.swFreewheelFault t ch volt) s = .next n ∧
        (n.chan ch).fwCount = min 255 ((s.chan ch).fwCount + 1) ∧ (2 ≤ (s.chan ch).fwCount → bit (n.chan ch).latch 2 = true) ∧
        ((s.chan ch).fwCount < 2 → (n.chan ch).latch = (s.chan ch).latch) ∧ (∀ k, k ≠ ch → n.chan k = s.chan k) ∧ Frame [.power, .log, .fifos] s n) ∧
      (∀ temp, bit (s.chan ch).latch 3 = false → ∃ n, exec (.swThermalLatch t ch temp) s = .next n ∧
        (n.chan ch).latch = setBit (s.chan ch).latch 3 true ∧ (n.chan ch).on = false ∧ (n.chan ch).latches = satAdd 16 (s.chan ch).latches 1 ∧
        (∀ k, k ≠ ch → n.chan k = s.chan k) ∧ Frame [.power, .log, .fifos] s n) ∧
      (∀ temp, ∃ n, exec (.swThermalWarn t ch temp) s = .next n ∧ n.chan ch = { s.chan ch with warn := !(s.chan ch).warn } ∧
        (∀ k, k ≠ ch → n.chan k = s.chan k) ∧ (s.sleep.st = 0 → Frame [.power, .log, .fifos] s n)) ∧
      (∀ flag, ((s.chan ch).on = true ∨ flag = false → ∃ n, exec (.swOpenLoad t ch true flag) s = .next n ∧
          n.chan ch = { s.chan ch with olOn := flag } ∧ (∀ k, k ≠ ch → n.chan k = s.chan k) ∧ Frame [.power, .log, .fifos] s n) ∧
        (((s.chan ch).on = false ∧ s.cfg.sw ch 10 = 1) ∨ flag = false → ∃ n, exec (.swOpenLoad t ch false flag) s = .next n ∧
          n.chan ch = { s.chan ch with olOff := flag } ∧ (∀ k, k ≠ ch → n.chan k = s.chan k) ∧ Frame [.power, .log, .fifos, .free] s n)))

/-- Bank supply, overvoltage, enable pins and the keepalive switch the channels; undervoltage turns nothing off (R15, R32,
R511, R512, R514, R515, R528, R529, R763, 17_switch_channels.md). It rests on choices of the model: log 84. -/
def Obligations.SwitchBanks : Prop :=
  ∀ (t : Nat) (s : State),
    (∀ b, b < 4 →
      ((s.bank b).powered = true →
        (∃ n, exec (.swBankUnpowered t b) s = .next n ∧ n.bank b = { s.bank b with powered := false, live := false, ov := false } ∧
          (∀ k, k ∈ bankChans b → (n.chan k).on = false) ∧ (∀ k, k < 24 → (n.chan k).on = n.chanWant k) ∧ Frame [.power, .log, .fifos] s n) ∧
        (∀ volt, (s.bank b).ov = false → ∃ n, exec (.swBankOv t b volt) s = .next n ∧ n.bank b = { s.bank b with ov := true } ∧
          (∀ k, k ∈ bankChans b → (n.chan k).on = false) ∧ (∀ k, k < 24 → (n.chan k).on = n.chanWant k) ∧ Frame [.power, .log, .fifos] s n) ∧
        (∀ volt, s.aon.vaon = true → ∃ n, exec (.swBankUv t b volt) s = .next n ∧
          n.bank b = { s.bank b with uvPend := true, uvEvents := satAdd 16 (s.bank b).uvEvents 1 } ∧ n.power.chans = s.power.chans ∧
          Frame [.power, .log, .fifos] s n)) ∧
      ((s.bank b).powered = false → ∃ n, exec (.bankPowerUp t b) s = .next n ∧ n.bank b = { s.bank b with powered := true, live := false } ∧
        n.power.chans = s.power.chans ∧ Frame [.power] s n) ∧
      ((s.bank b).ov = true → ∃ n, exec (.bankOvEnd t b) s = .next n ∧ n.bank b = { s.bank b with ov := false } ∧
        (∀ k, k ∈ bankChans b → (n.chan k).on = false → (n.chan k).fresh = true) ∧ (∀ k, k < 24 → (n.chan k).on = n.chanWant k) ∧ Frame [.power] s n)) ∧
    (∀ (pin : Nat) (level : Bool), pin < 24 → ∃ n, exec (.inPinChange t pin level) s = .next n ∧ (n.chan pin).pin = level ∧
      (n.chan pin).on = n.chanWant pin ∧ (∀ k, k ≠ pin → n.chan k = s.chan k) ∧ Frame [.power] s n) ∧
    (∃ n, exec (.keepaliveLoss t) s = .next n ∧ n.power.kaLost = true ∧
      (∀ k, k < 24 → (n.chan k).logic = false ∧ (n.chan k).on = n.chanWant k) ∧ Frame [.power] s n) ∧
    (∀ ch : Nat, ((s.chan ch).blank = true → (s.chan ch).blankEnd ≤ (s.setNow t).time.now → ∃ n, exec (.blankingEnd t ch) s = .next n ∧
        n.chan ch = { s.chan ch with blank := false } ∧ (∀ k, k ≠ ch → n.chan k = s.chan k) ∧ Frame [.power] s n) ∧
      ((s.chan ch).latch = 0 → 0 < (s.chan ch).restarts → (s.chan ch).decayFrom + 600000000000 ≤ (s.setNow t).time.now →
        ∃ n, exec (.restartDecay t ch) s = .next n ∧
        n.chan ch = { s.chan ch with restarts := (s.chan ch).restarts - 1, decayFrom := (s.setNow t).time.now } ∧
        (∀ k, k ≠ ch → n.chan k = s.chan k) ∧ Frame [.power] s n))

/-- A fast comparator of a leaf that is not fenced throws the Deadbolt; TRIP_CLEAR waits for the seal; DEADBOLT_CLEAR is
armed, then confirmed (R271, R272, R281, R438, R441, R442, R443, R447, R448, R449, 14_protection.md). It rests on choices
of the model: log 64, 66. -/
def Obligations.DeadboltAndTrips : Prop :=
  ∀ (t : Nat) (s : State),
    (∀ (l : Leaf) (input : Nat) (dis : Bool) (mod : List Bool), (s.setNow t).alive l = false →
      ∃ n, exec (.compTrip t l input ⟨dis, mod⟩) s = .next n ∧ Frame [] s n) ∧
    (∀ (l : Leaf) (input : Nat) (dis : Bool) (mod : List Bool), (s.setNow t).alive l = true → s.cfg.compOn input dis = true → s.aon.dev ≠ .off →
      s.cfg.cur input 0 ≠ 1 ∨ s.cfg.compAbove input dis (compMean mod) = true →
      ∃ n, exec (.compTrip t l input ⟨dis, mod⟩) s = .next n ∧ n.aon.dbLatch = true ∧ (∀ x, n.permissive x = false) ∧
      (kget {} n.cur input).trips = satAdd 16 (kget {} s.cur input).trips 1 ∧
      (s.aon.dbLatch = false → n.aon.dbCause = (if dis then 2 else 1) ∧ n.aon.dbSource = input ∧ n.aon.holdDb = true)) ∧
    (∀ l : Leaf, ∃ n, exec (.rqLapse t l) s = .next n ∧ n.leaf l = { s.leaf l with rq := false } ∧ n.leaf l.other = s.leaf l.other ∧
      n.permissive l = false ∧ Frame [.leafA, .leafB] s n) ∧
    (∀ q : HReq, q.args.length = 4 →
      ((s.setNow t).lets q 0x0A01 Perm.clear = true → (arg q 0 1 < 64 ∨ arg q 0 1 = 0xFF) → ∃ n, exec (.tripClear t q) s = .next n ∧
        n.prot = { s.prot with clears := s.prot.clears ++ [(q.sess, q.tag, arg q 0 1)] } ∧ Waits n q 3 0x0A01 ∧ Frame (hostParts ++ [.prot]) s n) ∧
      ((s.setNow t).lets q 0x0A02 Perm.clear = true → arg q 0 1 = 0 →
        (s.aon.dbLatch = true → s.aon.thermal = false → s.aon.dev ≠ .sleep → s.sleep.st ≠ 1 → ∃ n, exec (.deadboltClearArm t q) s = .next n ∧
          n.aon.clearState = max 1 s.aon.clearState ∧ n.aon.armSlot = q.sess ∧ n.aon.armNow = (s.setNow t).time.now ∧ n.aon.dbLatch = true ∧
          AnsweredOk (s.setNow t) n q 0x0A02 [byteOf s.aon.clearResult] ∧ Frame (hostParts ++ [.aon]) s n) ∧
        (s.aon.dbLatch = false → ∃ n, exec (.deadboltClearArm t q) s = .next n ∧ n.aon.clearResult = 6 ∧ n.aon.clearState = s.aon.clearState ∧
          Answered (s.setNow t) n q 3 0x0A02 St.denied [byteOf 6] ∧ Frame (hostParts ++ [.aon]) s n)) ∧
      ((s.setNow t).lets q 0x0A02 Perm.clear = true → arg q 0 1 = 1 →
        (s.aon.clearState = 1 → s.aon.armSlot = q.sess → (s.setNow t).time.now ≤ s.aon.armNow + 5000000000 →
          ∃ n, exec (.deadboltClearConfirm t q) s = .next n ∧ n.aon.clearState = 2 ∧ n.prot = { s.prot with confirm := some (q.sess, q.tag) } ∧
          n.aon.dbLatch = s.aon.dbLatch ∧ Waits n q 3 0x0A02 ∧ Frame (hostParts ++ [.aon, .prot]) s n) ∧
        (s.aon.clearState = 0 → ∃ n, exec (.deadboltClearConfirm t q) s = .next n ∧ n.aon.clearResult = 2 ∧ n.aon.dbLatch = s.aon.dbLatch ∧
          Answered (s.setNow t) n q 3 0x0A02 St.denied [byteOf 2] ∧ Frame (hostParts ++ [.aon]) s n)))

/-- STRING_CLOSE queues a string that no row refuses, STRING_OPEN leaves the queue and asks for an opening, STRING_UNLOCK
waits (R460, R464, R465, R466, R482, R483, 15_contactors.md). It rests on choices of the model: log 69. -/
def Obligations.ContactorCommands : Prop :=
  ∀ (t : Nat) (s : State),
    (∀ q : HReq, q.args.length = 4 →
      ((s.setNow t).lets q 0x0B01 Perm.strings = true →
        (arg q 0 1 < 64 → (s.setNow t).closeRow (arg q 0 1) false false = none → ∃ n, exec (.stringClose t q) s = .next n ∧
          n.hasp = { s.hasp with queue := s.hasp.queue ++ [(arg q 0 1, (s.setNow t).time.now)] } ∧ AnsweredOk (s.setNow t) n q 0x0B01 [] ∧
          Frame (hostParts ++ [.hasp]) s n) ∧
        (∀ st, arg q 0 1 < 64 → (s.setNow t).closeRow (arg q 0 1) false false = some st → ∃ n, exec (.stringClose t q) s = .next n ∧
          Answered (s.setNow t) n q 3 0x0B01 st [] ∧ Frame hostParts s n) ∧
        (arg q 0 1 = 0xFF → (∃ i ∈ s.cfg.strings, (s.setNow t).closeRow i false false = none) → ∃ n, exec (.stringClose t q) s = .next n ∧
          AnsweredOk (s.setNow t) n q 0x0B01 [] ∧ (∀ i ∈ s.cfg.strings, (s.setNow t).closeRow i false false = none → n.hasp.queue.any (fun e => e.1 == i) = true) ∧
          n.hasp.strs = s.hasp.strs ∧ Frame (hostParts ++ [.hasp]) s n)) ∧
      ((s.setNow t).lets q 0x0B02 Perm.strings = true → (arg q 0 1 < 64 ∨ arg q 0 1 = 0xFF) → ∃ n, exec (.stringOpen t q) s = .next n ∧
        n.hasp.reqs = s.hasp.reqs ++ ((s.named (arg q 0 1)).map (fun i => (i, bit (arg q 1 1) 0))) ∧
        (∀ i ∈ s.named (arg q 0 1), n.hasp.queue.any (fun e => e.1 == i) = false) ∧ (∀ i, (n.hs i).st = (s.hs i).st) ∧
        AnsweredOk (s.setNow t) n q 0x0B02 [] ∧ Frame (hostParts ++ [.hasp, .log, .fifos]) s n) ∧
      ((s.setNow t).lets q 0x0B03 Perm.strings = true → (s.setNow t).may q.sess Perm.clear = true → arg q 0 1 < 64 →
        (s.hs (arg q 0 1)).st = 6 → (s.hs (arg q 0 1)).unlock = none → ∃ n, exec (.stringUnlock t q) s = .next n ∧
        n.hs (arg q 0 1) = { s.hs (arg q 0 1) with unlock := some (q.sess, q.tag), step := 11 } ∧ (∀ i, i ≠ arg q 0 1 → n.hs i = s.hs i) ∧
        Waits n q 3 0x0B03 ∧ Frame (hostParts ++ [.hasp]) s n)) ∧
    (∀ i : Nat, s.kn.active = none → ∃ n, exec (.weldRetest t i) s = .next n ∧ Frame [] s n) ∧
    (∀ i : Nat, s.kn.active ≠ none → (s.hs i).st = 5 → (s.hs i).testing = false → (s.hs i).cmdNow + 1000000000 ≤ (s.setNow t).time.now →
      ∃ n, exec (.weldRetest t i) s = .next n ∧ (n.hs i).testing = true ∧ (n.hs i).cmdNow = (s.setNow t).time.now ∧ (n.hs i).st = 5 ∧
      (n.hs i).cmdPos = false ∧ (n.hs i).cmdNeg = false ∧ (n.hs i).cmdPc = false ∧ (∀ k, k ≠ i → n.hs k = s.hs k) ∧
      Frame (fenceParts ++ [.hasp, .thermal]) s n)

/-- A lease follows each commit point and each idle half VALIDITY; acknowledgements wait for the seal; CAN frames leave (R491,
R493, R496, R497, R505, R599, R620, 16_pcs_leases.md). -/
def Obligations.LeasesAndCan : Prop :=
  ∀ (t : Nat) (s : State),
    (s.lease.due = true → s.sw.commitNow + 50000 ≤ (s.setNow t).time.now → (s.setNow t).sweeping = true → ∃ n, exec (.leasePublish t) s = .next n ∧
      n.lease.due = false ∧ ((s.setNow t).leasing = true → n.lease.no = nextNo s.lease.no ∧ n.lease.last.no = nextNo s.lease.no ∧
        n.lease.lastPub = (s.setNow t).time.now ∧ n.lease.published = satAdd 32 s.lease.published 1) ∧
      ((s.setNow t).leasing = false → n.lease = { s.lease with due := false }) ∧ Frame [.lease, .links, .log, .fifos, .pick, .out] s n) ∧
    ((s.setNow t).leasing = true → s.lease.st ≠ 0 → s.lease.lastPub + 500000 * s.cfg.lease 0 ≤ (s.setNow t).time.now →
      ∃ n, exec (.interimLease t) s = .next n ∧ n.lease.no = nextNo s.lease.no ∧ n.lease.lastPub = (s.setNow t).time.now ∧
      n.lease.published = satAdd 32 s.lease.published 1 ∧ Frame (fenceParts ++ [.lease, .com, .hasp, .thermal]) s n) ∧
    (∀ q : HReq, (s.setNow t).lets q 0x0C01 Perm.lease = true → q.args.length = 24 → ∃ n, exec (.leaseAck t q) s = .next n ∧
      n.lease = { s.lease with acks := s.lease.acks ++ [{ time := (s.setNow t).devTime, via := 1, picked := s.lg.picked, payload := q.args }] } ∧
      AnsweredOk (s.setNow t) n q 0x0C01 [] ∧ Frame (hostParts ++ [.lease]) s n) ∧
    (∀ f : CanFrame, (f.ctl ≠ 1 ∧ canHears s.links.can0 = true) ∨ (f.ctl ≠ 0 ∧ canHears s.links.can1 = true) → f.ident ≤ 3 →
      bit (s.cfg.lease 0x0E) 0 = true → s.pick.armed = false →
      (f.ident = 1 → f.data.length = 24 → ∃ n, exec (.canAckFrame t f) s = .next n ∧
        n.lease = { s.lease with acks := s.lease.acks ++ [{ time := (s.setNow t).devTime, via := 0, picked := s.lg.picked, payload := f.data }] } ∧
        Frame [.lease] s n) ∧
      (f.ident ≠ 1 ∨ f.data.length ≠ 24 → ∃ n, exec (.canAckFrame t f) s = .next n ∧
        n.lease = { s.lease with errors := satAdd 32 s.lease.errors 1 } ∧ Frame [.lease, .log, .fifos] s n)) ∧
    (∀ k, s.canTx = some k → bit (s.cfg.lease 0x0E) 0 = true → s.pick.armed = false → s.pick.held = [] →
      (s.lease.canTime = 0 ∨ s.lease.canTime + 1000000000 ≤ (s.setNow t).time.now) → ∃ n, exec (.canTimeFrame t) s = .next n ∧
      n.out = .can k 3 (toLe 8 (s.setNow t).devTime ++ toLe 4 s.lease.no ++ [0, 0, 0, 0]) true :: s.out ∧
      n.lease = { s.lease with canTime := (s.setNow t).time.now } ∧ Frame [.lease, .out] s n) ∧
    (((s.links.can0 ≠ 0 → s.links.can0 ≠ 4 → ∃ n, exec (.canBusOff t 0 false) s = .next n ∧ n.links = { s.links with can0 := 4 } ∧
        Frame [.links, .log, .fifos] s n) ∧
      (s.links.can1 ≠ 0 → s.links.can1 ≠ 4 → ∃ n, exec (.canBusOff t 1 false) s = .next n ∧ n.links = { s.links with can1 := 4 } ∧
        Frame [.links, .log, .fifos] s n)) ∧
      (s.links.can0 = 4 → ∃ n, exec (.canBusOff t 0 true) s = .next n ∧ n.links = { s.links with can0 := (s.setNow t).canWant .a 0 } ∧ Frame [.links] s n) ∧
      (s.links.can1 = 4 → ∃ n, exec (.canBusOff t 1 true) s = .next n ∧ n.links = { s.links with can1 := (s.setNow t).canWant .b 0 } ∧ Frame [.links] s n))

/-- Two hot die sensors or a hot power bank set the thermal latch; MRAM writes stop outside their window; a unit is written
whole or not at all; links and supplies are noted (R25, R33, R401, R415, R416, R420, R421, R537, 13_thermal.md,
18_leaves_knuckle.md). It rests on choices of the model: log 23, 94. -/
def Obligations.ThermalAndMemory : Prop :=
  ∀ (t : Nat) (s : State),
    (∀ temps : List Int, 2 ≤ ((upto 8).filter (fun i => decide (temps.getD i 0 ≥ 1350))).length → s.aon.dev ≠ .off →
      ∃ n, exec (.logicDieShutdown t temps) s = .next n ∧ n.aon.thermal = true ∧ (∀ x, n.permissive x = false) ∧
      (s.aon.thermal = false → n.aon.dbLatch = true ∧ n.aon.thCause = 4 ∧ (∀ k, k < 24 → s.cfg.sw k 0 = 3 → (n.chan k).on = false) ∧
        n.aon.dev ≠ .run) ∧ n.cfg = s.cfg ∧ n.sw.num = s.sw.num ∧ n.est = s.est) ∧
    (∀ (b : Nat) (temp : Int), b < 4 → 1650 ≤ temp → s.aon.dev ≠ .off → ∃ n, exec (.powerDieBankShutdown t b temp) s = .next n ∧
      n.aon.thermal = true ∧ (n.bank b).off = true ∧ (∀ k, k ∈ bankChans b → (n.chan k).on = false) ∧ (∀ x, n.permissive x = false) ∧
      (s.aon.thermal = false → n.aon.dbLatch = true ∧ n.aon.thCause = 5) ∧ n.cfg = s.cfg ∧ n.est = s.est) ∧
    (∀ l : Leaf, ((s.leaf l).supplied = true →
        (∀ temp : Int, (s.leaf l).writeOk = true → (temp < -400 ∨ 1150 < temp) → ∃ n, exec (.mramWriteRefuse t l temp) s = .next n ∧
          (n.leaf l).writeOk = false ∧ (n.leaf l).refuseNow = (s.setNow t).time.now ∧ (n.leaf l).mramQ = (s.leaf l).mramQ ∧
          Frame [.leafA, .leafB, .log, .fifos, .thermal] s n) ∧
        (∀ temp : Int, -400 ≤ temp → temp ≤ 1150 → ∃ n, exec (.mramWriteRefuse t l temp) s = .next n ∧ Frame [] s n) ∧
        (∀ reg : Bool, ∃ n, exec (.vddModeChange t l reg) s = .next n ∧ n.leaf l = { s.leaf l with regulated := reg } ∧
          n.leaf l.other = s.leaf l.other ∧ Frame [.leafA, .leafB] s n) ∧
        ((s.setNow t).fencedL l = false → ((s.leaf l).writeOk = true ∨ (s.setNow t).time.now ≤ (s.leaf l).refuseNow + 30000) →
          (∀ u r, (s.leaf l).mramQ = u :: r →
            (∃ n, exec (.mramUnitWriteComplete t l true) s = .next n ∧ n.leaf l = { s.leaf l with mramQ := r, mram := (s.leaf l).mram.write u } ∧
              n.leaf l.other = s.leaf l.other ∧ Frame [.leafA, .leafB] s n) ∧
            (∃ n, exec (.mramUnitWriteComplete t l false) s = .next n ∧ n.leaf l = { s.leaf l with mramQ := r } ∧
              n.leaf l.other = s.leaf l.other ∧ Frame [.leafA, .leafB, .estim] s n)) ∧
          ((s.leaf l).mramQ = [] → (s.leaf l).snapGo = true → s.aon.thermal = false → (s.leaf l).snapIdx < 4096 →
            (∃ n, exec (.mramUnitWriteComplete t l true) s = .next n ∧ (n.leaf l).snapIdx = (s.leaf l).snapIdx + 1 ∧
              (n.leaf l).mram = (s.leaf l).mram ∧ n.leaf l.other = s.leaf l.other ∧ Frame [.leafA, .leafB] s n) ∧
            (∃ n, exec (.mramUnitWriteComplete t l false) s = .next n ∧ Frame [] s n)))) ∧
      (∃ n, exec (.mramWriteAllow t l) s = .next n ∧ n.leaf l = { s.leaf l with writeOk := true } ∧ n.leaf l.other = s.leaf l.other ∧
        Frame [.leafA, .leafB] s n) ∧
      (∀ item, (s.setNow t).fenceable l = true → (s.setNow t).fenceable l.other = true →
        (∃ n, exec (.knuckleTransferReceived t l item true true) s = .next n ∧
          n.kn = { s.kn with linkErrors := satAdd 32 s.kn.linkErrors 1 } ∧ Frame [.knuckle, .sweep] s n) ∧
        (∀ bad again, (bad && again) = false → ∃ n, exec (.knuckleTransferReceived t l item bad again) s = .next n ∧ Frame [] s n)))

/-- The group node takes its position from ENUM, executes the parent's requests once each, holds their answers, and forwards
what is not its own (R160, R162, R163, R164, R166, R178, R204, R560, R562, R565, R570, R571). It rests on choices of the
model: log 85, 102. -/
def Obligations.GroupNodeAnswers : Prop :=
  ∀ (t : Nat) (s : State),
    (∀ (e : Leaf) (seq hop endNo count : Nat), (s.setNow t).upRx e = true →
      (∃ n, exec (.uplinkEnum t e seq hop ⟨endNo, count⟩) s = .next n ∧
        (endNo = 0 → hop < count → n.nest.position = hop + 1) ∧ (endNo ≠ 0 → hop < count → n.nest.position = count - hop) ∧
        (count ≤ hop → n.nest.position = 0) ∧ (n.upPort e).held = none ∧ (n.upPort e).busy = none ∧
        ((s.setNow t).upFree e → Out.up e (ringLine 0 n.upSrc 2 seq (enumRspP
          { src := 0, cls := 2, cells := 0, ntcs := 0, version := 1, uid := Config.deviceUid, caps := 0x202,
            boot := s.nest.boot, balIMax := 0, vFull := 0 })) true ∈ n.out) ∧
        ((s.setNow t).upThrough = true → (s.setNow t).upFree e.other →
          Out.up e.other (ringLine 0xFFFF 0 1 seq [byteOf (hop + 1), byteOf endNo, byteOf count, 0]) true ∈ n.out) ∧
        Frame [.nest, .out] s n)) ∧
    (∀ r : UpReq, (s.setNow t).upRx (upEnd r.port) = true → s.nest.position ≠ 0 → r.dest = s.nest.position → (s.setNow t).sweeping = true →
      s.sleep.st = 0 → (s.upPort (upEnd r.port)).busy ≠ some r.seq →
      let sent := fun (k : Nat) (p : List Byte) (n : State) =>
        ((s.setNow t).upFree (upEnd r.port) → n.out = .up (upEnd r.port) (ringLine 0 s.nest.position k r.seq p) true :: s.out) ∧
        ((∀ x, (s.upPort x).fwd = [] ∧ (s.upPort x).own = []) → (s.setNow t).time.now < (s.upPort (upEnd r.port)).txEnd →
          n.out = s.out ∧ (n.upPort (upEnd r.port)).own = [ringLine 0 s.nest.position k r.seq p])
      ((∀ k p, (s.upPort (upEnd r.port)).held ≠ some (r.seq, k, p)) →
        (∀ i c, r.kind = 3 → r.payload = cfgWrP 0xFB04 [byteOf i, byteOf c] → (i < 64 ∨ i = 0xFF) → 1 ≤ c → c ≤ 3 →
          ∃ n, exec (.stringCmd t r) s = .next n ∧ n.nest.cmd = some (i, c) ∧ n.nest.cmdResult = 4 ∧
          (n.upPort (upEnd r.port)).held = some (r.seq, 5, [3, 0, 0, 0]) ∧ sent 5 [3, 0, 0, 0] n ∧ Frame [.nest, .out] s n) ∧
        (∀ v, r.kind = 3 → r.payload = cfgWrP 0xFB02 [byteOf v] → (v ≤ 8 ∨ v = 0xFF) →
          ∃ n, exec (.parentPeriod t r) s = .next n ∧ n.nest.parentPeriod = v ∧ n.nest.newPeriod = true ∧
          (n.upPort (upEnd r.port)).held = some (r.seq, 5, [3, 0, 0, 0]) ∧ sent 5 [3, 0, 0, 0] n ∧ Frame [.nest, .out, .log, .fifos] s n) ∧
        (∀ d : List Byte, r.kind = 3 → d.length = 4 →
          (r.payload = cfgWrP 0xFF04 d → ∃ n, exec (.nodeRegisterWrite t r) s = .next n ∧ n.nest.offA = leAt d 0 4 ∧ n.nest.offB = s.nest.offB ∧
            (n.upPort (upEnd r.port)).held = some (r.seq, 5, [3, 0, 0, 0]) ∧ sent 5 [3, 0, 0, 0] n ∧ Frame [.nest, .out] s n) ∧
          (r.payload = cfgWrP 0xFF08 d → ∃ n, exec (.nodeRegisterWrite t r) s = .next n ∧ n.nest.offB = leAt d 0 4 ∧ n.nest.offA = s.nest.offA ∧
            (n.upPort (upEnd r.port)).held = some (r.seq, 5, [3, 0, 0, 0]) ∧ sent 5 [3, 0, 0, 0] n ∧ Frame [.nest, .out] s n)) ∧
        (∀ reg len b, r.kind = 4 → r.payload = cfgRdP reg len → reg < 65536 → len < 65536 → reg ≠ 0xFF20 →
          (s.setNow t).upRead (len + 1) reg len = some b → ∃ n, exec (.nodeRegisterWrite t r) s = .next n ∧
          (n.upPort (upEnd r.port)).held = some (r.seq, 5, [4, 0] ++ toLe 2 reg ++ b) ∧ sent 5 ([4, 0] ++ toLe 2 reg ++ b) n ∧
          Frame [.nest, .out] s n) ∧
        (∀ len, r.kind = 4 → r.payload = cfgRdP 0xFF20 len → ∃ n, exec (.uplinkSampleLastRead t r) s = .next n ∧
          sent 0x0B ((s.setNow t).summaryP (s.nest.lastLow.getD 0)) n ∧
          (n.upPort (upEnd r.port)).held = some (r.seq, 0x0B, (s.setNow t).summaryP (s.nest.lastLow.getD 0)) ∧ Frame [.nest, .out] s n) ∧
        (r.kind = 0 ∨ 0x0E ≤ r.kind → ∃ n, exec (.nodeRegisterWrite t r) s = .next n ∧
          (n.upPort (upEnd r.port)).held = some (r.seq, 0xD, nackP 1 r.kind) ∧ sent 0xD (nackP 1 r.kind) n ∧ Frame [.nest, .out] s n)) ∧
      (∀ k p, (s.upPort (upEnd r.port)).held = some (r.seq, k, p) → r.kind ≠ 1 → ∀ c,
        (c = Instr.stringCmd t r ∨ c = Instr.parentPeriod t r ∨ c = Instr.nodeRegisterWrite t r ∨ c = Instr.uplinkSampleLastRead t r) →
        ∃ n, exec c s = .next n ∧ sent k p n ∧ (n.upPort (upEnd r.port)).held = some (r.seq, k, p) ∧ Frame [.nest, .out] s n)) ∧
    (∀ r : UpReq, (s.setNow t).upRx (upEnd r.port) = true → r.dest ≠ s.nest.position → r.kind ≠ 1 → (s.setNow t).upToGroup r.dest = false →
      (s.setNow t).upThrough = true → (s.setNow t).upFree (upEnd r.port).other → ∃ n, exec (.nodeRegisterWrite t r) s = .next n ∧
      n.out = .up (upEnd r.port).other (ringLine r.dest r.src r.kind r.seq r.payload) true :: s.out ∧ Frame [.nest, .out] s n) ∧
    (∀ (e : Leaf) (seq : Nat) (payload : List Byte) (x : PassParts), (s.setNow t).upRx e = true → s.nest.position ≠ 0 →
      (s.setNow t).sweeping = true → s.sleep.st = 0 → (s.upPort e).busy ≠ some seq → (∀ k p, (s.upPort e).held ≠ some (seq, k, p)) →
      passParts payload = some x → (s.setNow t).passWhy x = 0 → ∃ n, exec (.uplinkPass t e seq payload) s = .next n ∧
      (n.upPort e).busy = some seq ∧ (n.upPort e).held = (s.upPort e).held ∧
      ((s.setNow t).upFree e → n.out.head? = some (.up e (ringLine 0 s.nest.position 0xD seq (nackP 4 0xC)) true)) ∧
      Frame (ringParts ++ [.nest]) s n)

/-- The group node forwards the parent's SYNC and RATE, opens its window, sends the summary after it, and notices loss (R151,
R153, R154, R171, R561, R567, R575, R576, R581, 19_nesting.md). It rests on choices of the model: log 85, 102. -/
def Obligations.GroupNodeFollows : Prop :=
  ∀ (t : Nat) (s : State),
    (∀ (e : Leaf) (low hop check : Nat), (s.setNow t).upRx e = true → (∀ x, (s.upPort x).fwd = [] ∧ (s.upPort x).own = []) →
      (check = crc8 [low, hop] → hop < 0xFF → s.nest.lastLow ≠ some low → ∃ n, exec (.parentSync t e low (some hop) check) s = .next n ∧
        n.nest.lastLow = some low ∧
        n.nest.window = some ((s.setNow t).time.now + (if e = .a then s.nest.offA else s.nest.offB), low) ∧
        n.nest.lastParent = (s.setNow t).time.now ∧ n.nest.lastSync = (s.setNow t).time.now ∧ n.nest.uplinkLost = false ∧
        n.out = (if (s.setNow t).upThrough then [syncOut 15 e.other low (hop + 1)] else []) ++ s.out ∧
        Frame [.nest, .out, .log, .fifos, .sweep] s n) ∧
      (check ≠ crc8 [low, hop] ∨ 0xFF ≤ hop → ∃ n, exec (.parentSync t e low (some hop) check) s = .next n ∧
        n.nest = { s.nest with lastSync := (s.setNow t).time.now, lastParent := (s.setNow t).time.now, uplinkLost := false } ∧
        n.out = (if (s.setNow t).upThrough then [syncOut 15 e.other low 0xFF] else []) ++ s.out ∧ Frame [.nest, .out] s n)) ∧
    (∀ (e : Leaf) (code check : Nat), (s.setNow t).upRx e = true → (∀ x, (s.upPort x).fwd = [] ∧ (s.upPort x).own = []) →
      ∃ n, exec (.parentSync t e code none check) s = .next n ∧
      n.nest = (if check = crc8 [code] ∧ code ≤ 1 then { s.nest with low := code == 1 } else s.nest) ∧
      n.out = (if (s.setNow t).upThrough then [.rate 15 e.other code check] else []) ++ s.out ∧ Frame [.nest, .out] s n) ∧
    (∀ c low, s.nest.window = some (c, low) → c + 50000 ≤ (s.setNow t).time.now → ∃ n, exec (.uplinkWindowEnd t) s = .next n ∧
      n.nest.window = none ∧ Frame [.nest, .out] s n ∧
      (s.nest.serveWritten = true → (s.setNow t).upOn (upEnd s.nest.servePort) = true → s.nest.low = false →
        n.nest.seqOut = (s.nest.seqOut + 1) % 256 ∧ ((s.setNow t).upFree (upEnd s.nest.servePort) →
          n.out = .up (upEnd s.nest.servePort) (ringLine 0 s.upSrc 0x0B s.nest.seqOut (s.summaryP low)) true :: s.out)) ∧
      (s.nest.low = true → (∀ x, (s.upPort x).fwd = [] ∧ (s.upPort x).own = []) → n.out = s.out ∧ n.nest.seqOut = s.nest.seqOut)) ∧
    ((s.nest.lock = 1 ∨ s.nest.lock = 2) → s.nest.parentPeriod ≤ 8 → s.nest.serveWritten = true →
      s.nest.lastSync + 4 * periodNs s.nest.parentPeriod ≤ (s.setNow t).time.now → ∃ n, exec (.holdoverTimeout t) s = .next n ∧
      n.nest.lock = 3 ∧ n.nest.centre = none ∧ n.nest.position = s.nest.position ∧ Frame [.nest, .log, .fifos] s n) ∧
    (((s.setNow t).upOn .a || (s.setNow t).upOn .b) = true → s.nest.uplinkLost = false →
      s.nest.lastParent + 2900000000 ≤ (s.setNow t).time.now → ∃ n, exec (.uplinkMasterLoss t) s = .next n ∧
      n.nest = { s.nest with uplinkLost := true } ∧ Frame [.nest, .log, .fifos] s n) ∧
    (∀ r : UpReq, (s.setNow t).upRx (upEnd r.port) = true → r.dest = 0xFFFF → s.nest.position ≠ 0xFFFF → r.kind = 0xA → r.payload.length = 8 →
      ∃ n, exec (.nodeRegisterWrite t r) s = .next n ∧ n.nest.lastParent = (s.setNow t).time.now ∧ n.nest.uplinkLost = false ∧
      n.nest.position = s.nest.position ∧ Frame [.nest, .out] s n) ∧
    (∀ (ring pos c : Nat), s.cfg.groups.findIdx? (· == (ring, pos)) = some c → secTicks 2 ≤ (s.kid c).age → (s.kid c).st ≠ 4 →
      ∃ n, exec (.childLost t ring pos) s = .next n ∧ n.kid c = { s.kid c with st := 3 } ∧ (∀ k, k ≠ c → n.kid k = s.kid k) ∧
      Frame [.nest, .log, .fifos] s n)

/-- HELLO is challenged, a right FINISH opens the session, a wrong one counts and the fifth locks; DATA is judged by tag and
counter (R603, R604, R605, R607, R608, R611, 20_host_links.md). It rests on choices of the model: log 7, 48, 91. -/
def Obligations.WardSessions : Prop :=
  ∀ (t : Nat) (s : State),
    (s.sleep.st = 0 → s.aon.dev ≠ .sleep → s.pick.armed = false →
      (∀ (port addr peer proto k : Nat) (nonce : List Byte), (s.setNow t).ethOn port = true → nonce.length = 16 → proto ≠ 0 →
        (s.setNow t).peerSess peer = some k → (s.sess k).lockedAt = none →
        (∀ h, (s.sess k).helloTime = some h → h + 100000000 ≤ (s.setNow t).time.now) →
        ∃ n, exec (.wardHello t port addr peer proto nonce) s = .next n ∧ (n.sess k).gen = ((s.sess k).gen + 1) % 512 ∧
        (n.sess k).hs = some (nonce, padTo 16 (Config.freeBytes s.free)) ∧ (n.sess k).hsTime = (s.setNow t).time.now ∧
        (n.sess k).st = (if (s.sess k).st = 3 then 3 else 2) ∧ n.links.rxPackets = satAdd 32 s.links.rxPackets 1 ∧
        n.out = .hand port (wardHeader 2 (n.sidOf k) 0 32) (toLe 8 Config.deviceUid ++ padTo 16 (Config.freeBytes s.free) ++
          [byteOf (b2n s.aon.unkeyed), 0, 0, 0, 0, 0, 0, 0]) :: s.out ∧ n.free = s.free + 1 ∧ Frame [.links, .out, .free] s n) ∧
      (∀ (port addr sid k : Nat) (ok : Bool) (plain cn dn : List Byte), (s.setNow t).ethOn port = true → (s.setNow t).sidSess sid = k →
        (s.sess k).hs = some (cn, dn) → sid = (s.setNow t).sidOf k → (s.setNow t).time.now < (s.sess k).hsTime + 2000000000 →
        (ok = true → plain = cn ++ dn → (s.sess k).st ≠ 3 → ∃ n, exec (.wardFinish t port addr sid ok plain) s = .next n ∧
          (n.sess k).st = 3 ∧ (n.sess k).hs = none ∧ (n.sess k).peer = addr ∧ (n.sess k).openTime = (s.setNow t).devTime ∧
          (n.sess k).rxHigh = 0 ∧ (n.sess k).window = [0] ∧ (n.sess k).lastAuth = (s.setNow t).time.now ∧ n.sleep = { s.sleep with ret := false } ∧
          Frame [.links, .out, .log, .fifos, .sleep] s n) ∧
        (ok = false ∨ plain ≠ cn ++ dn → ∃ n, exec (.wardFinish t port addr sid ok plain) s = .next n ∧
          n.links.authFails = satAdd 32 s.links.authFails 1 ∧ ((s.sess k).fails < 4 → n.sess k = { s.sess k with fails := (s.sess k).fails + 1 }) ∧
          (4 ≤ (s.sess k).fails → (n.sess k).fails = 0 ∧ (n.sess k).lockedAt = some (s.setNow t).time.now ∧ (n.sess k).hs = none) ∧
          Frame [.links, .out, .log, .fifos] s n)) ∧
      (∀ p : WardPkt, (s.setNow t).ethOn p.port = true → (s.sess ((s.setNow t).sidSess p.sid)).st = 3 →
        ((p.authentic && p.sid == (s.setNow t).sidOf ((s.setNow t).sidSess p.sid)) = false → ∃ n, exec (.wardData t p) s = .next n ∧
          n.links.authFails = satAdd 32 s.links.authFails 1 ∧ n.sess ((s.setNow t).sidSess p.sid) = s.sess ((s.setNow t).sidSess p.sid) ∧
          Frame [.links] s n) ∧
        (p.authentic = true → p.sid = (s.setNow t).sidOf ((s.setNow t).sidSess p.sid) →
          ((s.sess ((s.setNow t).sidSess p.sid)).fresh p.counter = false → ∃ n, exec (.wardData t p) s = .next n ∧
            n.links.replays = satAdd 32 s.links.replays 1 ∧
            (n.sess ((s.setNow t).sidSess p.sid)).window = (s.sess ((s.setNow t).sidSess p.sid)).window ∧ Frame [.links, .sleep, .out] s n) ∧
          ((s.sess ((s.setNow t).sidSess p.sid)).fresh p.counter = true → p.counter < 2 ^ 48 → ∃ v,
            v.sess ((s.setNow t).sidSess p.sid) = ({ s.sess ((s.setNow t).sidSess p.sid) with
              lastAuth := (s.setNow t).time.now, port := s.portNo p.port, peer := p.addr } : Sess).accept p.counter ∧
            v.links.rxPackets = satAdd 32 s.links.rxPackets 1 ∧ Frame [.links, .sleep] (s.setNow t) v ∧
            exec (.wardData t p) s = .next (settle s ((fun u => if 2 ^ 48 ≤ (u.sess ((s.setNow t).sidSess p.sid)).tx + 1 then
              u.closeSession ((s.setNow t).sidSess p.sid) Cc.counter else u) (p.msgs.foldl (fun u m => u.message ((s.setNow t).sidSess p.sid) m) v))))))) ∧
    (∀ k : Nat,
      ((s.sess k).hs.isSome = true → (s.sess k).hsTime + 2000000000 ≤ (s.setNow t).time.now → ∃ n, exec (.handshakeTimeout t k) s = .next n ∧
        n.sess k = { s.sess k with hs := none, st := if (s.sess k).st = 2 then 1 else (s.sess k).st } ∧ (∀ j, j ≠ k → n.sess j = s.sess j) ∧
        Frame [.links] s n) ∧
      (∀ l, (s.sess k).lockedAt = some l → l + 60000000000 ≤ (s.setNow t).time.now → ∃ n, exec (.sessionLockoutEnd t k) s = .next n ∧
        n.sess k = { s.sess k with lockedAt := none, st := if (s.sess k).st = 4 then 1 else (s.sess k).st } ∧ (∀ j, j ≠ k → n.sess j = s.sess j) ∧
        Frame [.links] s n) ∧
      (k ≠ sSpi → s.aon.dev ≠ .sleep → (s.sess k).st = 3 → (s.sess k).lastAuth + 30000000000 ≤ (s.setNow t).time.now →
        ∃ n, exec (.sessionIdleTimeout t k) s = .next n ∧ (n.sess k).st = (if (s.sess k).hs.isSome then 2 else 1) ∧ (n.sess k).cause = 2 ∧
        (n.sess k).subs = 0 ∧ (n.sess k).outst = [] ∧ Frame closeParts s n))

/-- READ answers with the object map, WRITE acts where it may, BATCH is all or nothing, CLOSE closes; UNKEYED denies the rest
(R321, R602, R611, R612, R617, R618, R628, R631, R634, R635, R637, R648). It rests on choices of the model: log 43, 44,
46, 91. -/
def Obligations.RequestsAnswered : Prop :=
  ∀ (t : Nat) (q : HReq) (s : State),
    ((s.setNow t).accepts q = true →
      (q.args.length = 8 → 1 ≤ arg q 4 2 → arg q 4 2 ≤ 1024 → (s.setNow t).may q.sess Perm.read = true → inOneBlock (arg q 0 4) (arg q 4 2) = true →
        inStreamData (arg q 0 4) (arg q 4 2) = false → (q.sess = sSpi ∨ inCells (arg q 0 4) (arg q 4 2) = false ∨ s.ready = true) →
        ∃ n, exec (.read t q) s = .next n ∧
        Answered (s.setNow t) n q 1 0 St.ok (((s.setNow t).taken q 1 0).obj (arg q 0 4) (arg q 4 2)) ∧ Frame hostParts s n) ∧
      (∀ e v, (s.setNow t).judgeWrite q.sess s.ovl.pend q.args = .overlay e v → ∃ n, exec (.overlayValueWrite t q) s = .next n ∧
        n.ovl = { s.ovl with pend := putOv s.ovl.pend e v, last := putOv s.ovl.last e v, pendGen := satAdd 32 s.ovl.pendGen 1 } ∧
        Answered (s.setNow t) n q 2 0 St.ok [] ∧ Frame (hostParts ++ [.overlay]) s n) ∧
      (∀ m, (s.setNow t).judgeWrite q.sess s.ovl.pend q.args = .sticky m → ∃ n, exec (.stickyClear t q) s = .next n ∧
        n.lg = { s.lg with sticky := s.lg.sticky - (s.lg.sticky &&& m) } ∧ Answered (s.setNow t) n q 2 0 St.ok [] ∧ Frame (hostParts ++ [.log]) s n) ∧
      (∀ b, (s.setNow t).judgeWrite q.sess s.ovl.pend q.args = .note b → ∃ n, exec (.hostNote t q) s = .next n ∧
        Answered (s.setNow t) n q 2 0 St.ok [] ∧ Frame (hostParts ++ [.log, .fifos]) s n) ∧
      (∀ st, (s.setNow t).judgeWrite q.sess s.ovl.pend q.args = .refuse st → ∃ n, exec (.writeOther t q) s = .next n ∧
        Answered (s.setNow t) n q 2 0 st [] ∧ Frame hostParts s n) ∧
      (∀ l, 4 ≤ q.args.length → 1 ≤ arg q 0 1 → arg q 0 1 ≤ 16 → batchItems (arg q 0 1) (q.args.drop 4) = some l →
        (l.all (fun i => i.1 == 1) = true → ∃ n body, exec (.batch t q) s = .next n ∧ Answered (s.setNow t) n q 5 1 St.ok body ∧
          Frame (hostParts ++ [.fifos]) s n) ∧
        (l.all (fun i => i.1 == 2) = true → l.all (fun i => i.1 == 1) = false →
          (((s.setNow t).batchJudge q.sess l).all (fun w => w.status == St.ok) = true → ∃ n, exec (.batch t q) s = .next n ∧
            n.ovl = (((s.setNow t).batchJudge q.sess l).foldl (fun s w => s.applyWrite q.sess w) s).ovl ∧
            Answered (s.setNow t) n q 5 0 St.ok (l.map (fun _ => itemAnswer 2 St.ok [])).flatten ∧ Frame (hostParts ++ [.overlay, .log, .fifos]) s n) ∧
          (((s.setNow t).batchJudge q.sess l).all (fun w => w.status == St.ok) = false → ∃ n body, exec (.batch t q) s = .next n ∧
            Answered (s.setNow t) n q 5 0 St.ok body ∧ Frame hostParts s n)) ∧
        (l.all (fun i => i.1 == 1) = false → l.all (fun i => i.1 == 2) = false → ∃ n, exec (.batch t q) s = .next n ∧
          Answered (s.setNow t) n q 5 0 St.badKind [] ∧ Frame hostParts s n)) ∧
      (q.args = [] →
        (q.sess ≠ sSpi → ∃ n, exec (.close t q) s = .next n ∧ (n.sess q.sess).st ≠ 3 ∧ (n.sess q.sess).cause = 1 ∧ (n.sess q.sess).outst = [] ∧
          ((s.sess q.sess).tx + 1 < 2 ^ 48 → Out.ward q.sess ((s.setNow t).dataHeader q.sess 0) 0x86 0 q.tag [] ∈ n.out) ∧ Frame (.sleep :: closeParts) s n) ∧
        (q.sess = sSpi → ∃ n, exec (.close t q) s = .next n ∧ Answered (s.setNow t) n q 6 0 St.ok [] ∧ Frame hostParts s n) ∧
        (∃ n, exec (.keepalive t q) s = .next n ∧ Answered (s.setNow t) n q 7 0 St.ok [] ∧ Frame hostParts s n)) ∧
      (∀ op a, opRow op t q s = some a → s.aon.unkeyed = true → unkeyedOp op = false → op ≠ 0x0003 → op ≠ 0x1301 →
        ∃ n, a = .next n ∧ Answered (s.setNow t) n q 3 op St.denied [] ∧ Frame hostParts s n)) ∧
    (s.aon.dev = .safe → q.sess = sSpi → (s.setNow t).spiOn = true → (s.sess sSpi).outst.all (fun o => o.1 != q.tag) = true → q.args.length = 8 →
      1 ≤ arg q 4 2 → arg q 4 2 ≤ 1024 → safeReadable (arg q 0 4) (arg q 4 2) = true → ∃ n, exec (.read t q) s = .next n ∧
      Answered (s.setNow t) n q 1 0 St.ok (((s.setNow t).accept q 1 0).obj (arg q 0 4) (arg q 4 2)) ∧ Frame [.links] s n)

/-- Receivers subscribe and leave, whole items go to each of them, a flush counts what it drops, SPI reads consume words
(R602, R619, R655, R656, R658, R659, R662, R663, 22_stream_fifos.md). It rests on choices of the model: log 91. -/
def Obligations.StreamsDelivered : Prop :=
  ∀ (t : Nat) (s : State),
    (∀ q : HReq, (s.setNow t).accepts q = true → q.args.length = 4 → arg q 0 1 < 16 → q.sess ≠ sSpi → (s.setNow t).may q.sess Perm.subscribe = true →
      (s.setNow t).streamOk q.sess (arg q 0 1) = true →
      (s.cfg.wardFits (arg q 0 1) = true → ((s.fifo (arg q 0 1)).recv.length < 8 ∨ (s.fifo (arg q 0 1)).recv.contains q.sess = true) →
        ∃ n, exec (.subscribeStart t q) s = .next n ∧
        (n.fifo (arg q 0 1)).recv = (if (s.fifo (arg q 0 1)).recv.contains q.sess then (s.fifo (arg q 0 1)).recv else (s.fifo (arg q 0 1)).recv ++ [q.sess]) ∧
        (n.fifo (arg q 0 1)).words = (s.fifo (arg q 0 1)).words ∧ (∀ k, k ≠ arg q 0 1 → n.fifo k = s.fifo k) ∧
        Answered (s.setNow t) n q 4 0 St.ok [] ∧ Frame (hostParts ++ [.fifos]) s n) ∧
      (∃ n, exec (.subscribeStop t q) s = .next n ∧ (n.fifo (arg q 0 1)).recv.contains q.sess = false ∧
        bit (n.sess q.sess).subs (arg q 0 1) = false ∧ (n.fifo (arg q 0 1)).words = (s.fifo (arg q 0 1)).words ∧
        (∀ k, k ≠ arg q 0 1 → n.fifo k = s.fifo k) ∧ Answered (s.setNow t) n q 4 0 St.ok [] ∧ Frame (hostParts ++ [.fifos]) s n)) ∧
    (∀ q : HReq, (s.setNow t).lets q 0x1101 Perm.subscribe = true → q.args.length = 4 → arg q 0 1 < 16 →
      (s.setNow t).streamOk q.sess (arg q 0 1) = true → ∃ n, exec (.streamFlush t q) s = .next n ∧
      (n.fifo (arg q 0 1)).flushes = satAdd 16 (s.fifo (arg q 0 1)).flushes 1 ∧
      AnsweredOk (s.setNow t) n q 0x1101 (toLe 4 (satAdd 32 (itemCount (s.fifo (arg q 0 1)).words) (s.fifo (arg q 0 1)).lossPend)) ∧
      Frame (hostParts ++ [.log, .fifos]) s n) ∧
    (∀ k : Nat, k < 16 →
      ((s.fifo k).lossPend ≠ 0 → (s.fifo k).words.length < 2048 → ∃ n, exec (.lossItemWrite t k) s = .next n ∧ (n.fifo k).lossPend = 0 ∧
        (n.fifo k).words = (s.fifo k).words ++ itemWords 8 (itemBytes 0xFE false (toLe 4 (s.fifo k).lossPend)) ∧
        (∀ j, j ≠ k → n.fifo j = s.fifo j) ∧ Frame [.fifos] s n) ∧
      ((s.setNow t).sweeping = true → (s.fifo k).recv ≠ [] → (takeItems 176 [] [] (s.fifo k).words).1 ≠ [] →
        (176 ≤ (s.fifo k).words.length ∨ (s.fifo k).oldest + 10000000 ≤ (s.setNow t).time.now) → ∃ n, exec (.streamSend t k) s = .next n ∧
        n.fifo k = { s.fifo k with
          words := (takeItems 176 [] [] (s.fifo k).words).2, sentNow := (s.setNow t).time.now,
          sentItems := itemCount (takeItems 176 [] [] (s.fifo k).words).1,
          wseq := ((s.fifo k).wseq + (takeItems 176 [] [] (s.fifo k).words).1.length) % 4294967296 } ∧
        (∀ j, j ≠ k → n.fifo j = s.fifo j) ∧
        (∀ x ∈ (s.fifo k).recv, x ≠ sSpi → (s.sess x).st = 3 → (s.sess x).tx + 1 < 2 ^ 48 → Out.ward x
          ((s.setNow t).dataHeader x (4 + 8 * (takeItems 176 [] [] (s.fifo k).words).1.length)) 0x91 0 0
          (toLe 4 (s.fifo k).wseq ++ ((takeItems 176 [] [] (s.fifo k).words).1.map (fun w => toLe 8 w.1)).flatten) ∈ n.out) ∧
        Frame [.fifos, .links, .out] s n)) ∧
    (∀ q : HReq, (s.setNow t).accepts q = true → q.sess = sSpi → q.args.length = 8 → inStreamData (arg q 0 4) (arg q 4 2) = true →
      0x002D1000 ≤ arg q 0 4 → arg q 0 4 % 16 = 0 → arg q 4 2 % 16 = 0 → 0 < arg q 4 2 → arg q 0 4 % 256 + arg q 4 2 ≤ 256 →
      ∃ n, exec (.streamDataRead t q) s = .next n ∧
      (n.fifo ((arg q 0 4 - 0x002D1000) / 256)).words = (s.fifo ((arg q 0 4 - 0x002D1000) / 256)).words.drop (arg q 4 2 / 16) ∧
      n.fifo ((arg q 0 4 - 0x002D1000) / 256) = { ((s.fifo ((arg q 0 4 - 0x002D1000) / 256)).slots (arg q 4 2 / 16)).2 with
        sentNow := (s.setNow t).time.now, sentItems := itemCount ((s.fifo ((arg q 0 4 - 0x002D1000) / 256)).words.take (arg q 4 2 / 16)) } ∧
      (∀ k, k ≠ (arg q 0 4 - 0x002D1000) / 256 → n.fifo k = s.fifo k) ∧
      Answered (s.setNow t) n q 1 0 St.ok ((s.fifo ((arg q 0 4 - 0x002D1000) / 256)).slots (arg q 4 2 / 16)).1 ∧ Frame (hostParts ++ [.fifos]) s n)

/-- The Ethernet ports answer for their addresses and follow their links; the SPI port takes requests and gives answers while
MAINT_EN is high (R587, R589, R591, R593, R594, R600, R601, R602, R624, 20_host_links.md). It rests on choices of the
model: log 50. -/
def Obligations.HostPorts : Prop :=
  ∀ (t : Nat) (s : State),
    (∀ port : Nat, (s.setNow t).netOn port = true →
      (∀ target sender, (s.eth port).addrs.contains (v4 target) = true → sender = 0 → ∃ n, exec (.arpRequest t port target sender false) s = .next n ∧
        n.out = .net port 1 (v4 target) :: s.out ∧ Frame [.out] s n) ∧
      (∀ target sender probe, sender ≠ 0 → (s.eth port).detecting.contains (v4 sender) = true → v4 sender / 65536 ≠ 0xFFFFA9FE → probe = false →
        ∃ n, exec (.arpRequest t port target sender probe) s = .next n ∧ (n.eth port).detecting.contains (v4 sender) = false ∧
        (n.eth port).addrs = (s.eth port).addrs ∧ Frame [.links, .out, .log, .fifos] s n) ∧
      (∀ target sender, (s.eth port).addrs.contains target = true → sender ≠ 0 → ∃ n, exec (.ndpMessage t port 0 target sender) s = .next n ∧
        n.out = .net port 2 target :: s.out ∧ Frame [.out] s n) ∧
      (∀ v6 dst len, (s.eth port).addrs.contains (if v6 then dst else v4 dst) = true → len ≤ 1024 →
        ((s.eth port).echo.filter (fun x => decide ((s.setNow t).time.now < x + 1000000000))).length < 20 →
        ∃ n, exec (.icmpEcho t port v6 dst len) s = .next n ∧ n.out = .net port 3 (if v6 then dst else v4 dst) :: s.out ∧ Frame [.links, .out] s n) ∧
      (∀ a, (s.eth port).detecting.contains a = true → ∃ n, exec (.duplicateAddressDetectionEnd t port a) s = .next n ∧
        n.eth port = { s.eth port with detecting := (s.eth port).detecting.filter (· != a), addrs := (s.eth port).addrs ++ [a] } ∧ Frame [.links] s n) ∧
      (∀ reg1 reg10, (∀ x, (s.eth port).polled = some x → x + 1000000000 ≤ (s.setNow t).time.now) → reg10 < 65536 →
        ∃ n, exec (.phyPoll t port reg1 reg10) s = .next n ∧ (n.eth port).phy = (reg1 != 0xFFFF) ∧ (n.eth port).polled = some (s.setNow t).time.now ∧
        (reg1 ≠ 0xFFFF → bit reg1 2 = false → (n.eth port).up = false) ∧
        (reg1 = 0xFFFF ∨ bit reg1 2 = true → (n.eth port).up = (s.eth port).up ∧ (n.eth port).addrs = (s.eth port).addrs) ∧
        Frame [.links, .log, .fifos] s n)) ∧
    (∀ (port speed : Nat) (up : Bool), port < 2 → (s.setNow t).running (if port = 0 then .a else .b) = true →
      ((s.eth port).up = false → up = true → speed = s.cfg.portSpeed port → ∃ n, exec (.hostLinkChange t port up speed) s = .next n ∧
        n.eth port = { s.eth port with up := true, speed := speed, addrs := [], detecting := [linkLocal, s.newV4] ++ s.cfg.portAddrs port } ∧
        Frame [.links, .log, .fifos, .free] s n) ∧
      ((s.eth port).up = true → (up && speed == s.cfg.portSpeed port) = false → ∃ n, exec (.hostLinkChange t port up speed) s = .next n ∧
        n.eth port = { s.eth port with up := false, speed := speed, addrs := [], detecting := [] } ∧ Frame [.links, .log, .fifos] s n)) ∧
    ((s.setNow t).sweeping = true → s.cfg.prp = true →
      ((∀ x, s.links.supLast = some x → x + 2000000000 ≤ (s.setNow t).time.now) → ∃ n, exec (.prpSupervision t) s = .next n ∧
        n.links = { s.links with supLast := some (s.setNow t).time.now } ∧
        n.out = (if (s.setNow t).netOn 1 then [.net 1 4 0] else []) ++ (if (s.setNow t).netOn 0 then [.net 0 4 0] else []) ++ s.out ∧
        Frame [.links, .out] s n) ∧
      (∀ lan, lan < 2 → ∃ n, exec (.prpLanFault t lan) s = .next n ∧ Frame [.log, .fifos] s n)) ∧
    ((s.setNow t).spiOn = true →
      (∀ (len : Nat) (m : Msg), s.sleep.st = 0 →
        (∀ whole crc, (whole && crc) = false ∨ len < 8 ∨ 552 < len → ∃ n, exec (.spiRequest t len whole crc m) s = .next n ∧
          n.links = { s.links with spiCrc := satAdd 16 s.links.spiCrc 1, spiRejected := true } ∧ Frame [.links] s n) ∧
        (8 ≤ len → len ≤ 552 → exec (.spiRequest t len true true m) s = .next (settle s (((s.setNow t).spiFrame).message sSpi m)) ∧
          (m.kind = 7 → m.len = 0 → m.body = [] → (s.setNow t).accepts ⟨sSpi, m.tag, []⟩ = true → ∃ n, exec (.spiRequest t len true true m) s = .next n ∧
            n.links.spiFrames = satAdd 32 s.links.spiFrames 1 ∧ Answered (s.setNow t) n ⟨sSpi, m.tag, []⟩ 7 0 St.ok [] ∧ Frame hostParts s n))) ∧
      (∃ n, exec (.spiAnswer t true) s = .next n ∧ n.links.spiQ = s.links.spiQ.drop 1 ∧ n.links.spiFrames = satAdd 32 s.links.spiFrames 1 ∧
        n.out = .spi (toLe 2 (s.links.spiQ.headD []).length ++ s.links.spiQ.headD [] ++
          toLe 4 (crc32 (toLe 2 (s.links.spiQ.headD []).length ++ s.links.spiQ.headD []))) :: s.out ∧ Frame [.links, .out] s n) ∧
      (∃ n, exec (.spiStatus t) s = .next n ∧ n.links.spiRejected = false ∧ n.links.spiQ = s.links.spiQ ∧
        n.out = .spi [byteOf (packBits [s.links.spiQ.length != 0, s.links.spiRejected, decide (8 ≤ s.links.spiQ.length)]), byteOf s.links.spiQ.length,
          byteOf (s.sess sSpi).outst.length, 0] :: s.out ∧ Frame [.links, .out] s n)) ∧
    (s.links.maintEn = false → ∃ n, exec (.maintEnChange t true) s = .next n ∧ n.links.maintEn = true ∧
      n.links.maintSince = (s.setNow t).time.now ∧ Frame [.links] s n) ∧
    (s.links.maintEn = true → ∃ n, exec (.maintEnChange t false) s = .next n ∧ n.links.maintEn = false ∧ n.links.spiQ = [] ∧
      n.sess sSpi = {} ∧ Frame closeParts s n)

/-- Event records reach a leaf's log, marks are allocated, freed and read by their owner, snapshots and refills complete
(R346, R387, R647, R673, R674, R676, R680, R686, R687, R688, R689, R691). It rests on choices of the model: log 94. -/
def Obligations.RecordsAndMarks : Prop :=
  ∀ (t : Nat) (s : State),
    (∀ (l : Leaf) (r : EventRec) (rest : List EventRec) (lost : List Nat), (s.leaf l).log.queue = r :: rest → (s.leaf l).supplied = true →
      (s.setNow t).fencedL l = false → (s.leaf l).log.failed = false → s.aon.dev ≠ .safe →
      ((s.leaf l).writeOk = true ∨ (s.setNow t).time.now ≤ (s.leaf l).refuseNow + 30000) →
      (∃ n, exec (.eventRecordWritten t l true lost) s = .next n ∧ (n.leaf l).log.keep = ((s.leaf l).log.put r).keep ∧
        (n.leaf l).log.ring = ((s.leaf l).log.put r).ring ∧ (s.lg.dropLow = 0 → s.lg.dropHigh = 0 → (n.leaf l).log.queue = rest) ∧
        Frame [.leafA, .leafB, .log, .fifos] s n) ∧
      (∃ n, exec (.eventRecordWritten t l false lost) s = .next n ∧ n.lg.mediaFaults = satAdd 16 s.lg.mediaFaults 1 ∧
        ((s.leaf l).log.spares < 64 → (n.leaf l).log.spares = (s.leaf l).log.spares + 1) ∧
        (64 ≤ (s.leaf l).log.spares → (n.leaf l).log.failed = true) ∧ Frame [.leafA, .leafB, .log, .fifos] s n)) ∧
    (∀ (q : HReq) (m : Nat), (s.setNow t).lets q 0x0010 Perm.mark = true → q.args.length = 8 → (upto 16).find? (fun m => !(s.mark m).alloc) = some m →
      (arg q 0 1 = 0 ∨ arg q 0 1 = 1 ∨ (arg q 0 1 = 2 ∧ (arg q 4 4 = s.lg.nextSeq ∨ ((s.leaf s.act).log.find (arg q 4 4)).isSome = true))) →
      ∃ n, exec (.markAlloc t q) s = .next n ∧ (n.mark m).alloc = true ∧ (n.mark m).owner = q.sess ∧
      (n.mark m).seq = (if arg q 0 1 = 0 then (s.leaf s.act).log.oldest.getD s.lg.nextSeq else if arg q 0 1 = 1 then s.lg.nextSeq else arg q 4 4) ∧
      (∀ k, k ≠ m → n.mark k = s.mark k) ∧ AnsweredOk (s.setNow t) n q 0x0010 [byteOf m] ∧ Frame (hostParts ++ [.log]) s n) ∧
    (∀ q : HReq, q.args.length = 4 → arg q 0 1 ≤ 15 → (s.mark (arg q 0 1)).alloc = true → (s.mark (arg q 0 1)).owner = q.sess →
      ((s.setNow t).lets q 0x0011 Perm.mark = true → ∃ n, exec (.markFree t q) s = .next n ∧ n.mark (arg q 0 1) = {} ∧
        (∀ k, k ≠ arg q 0 1 → n.mark k = s.mark k) ∧ AnsweredOk (s.setNow t) n q 0x0011 [] ∧ Frame (hostParts ++ [.log]) s n) ∧
      (∀ l : Leaf, (s.setNow t).lets q 0x0012 Perm.mark = true → arg q 1 1 ≤ 2 → 1 ≤ arg q 2 1 → arg q 2 1 ≤ 127 →
        l = (if arg q 1 1 = 0 then s.act else if arg q 1 1 = 1 then .a else .b) → (s.setNow t).running l = true → (s.leaf l).log.failed = false →
        (s.lg.winHeld = false ∨ s.lg.winOwner = q.sess ∨ s.lg.winTime + 1000000000 ≤ (s.setNow t).time.now) →
        ∃ n body, exec (.markRead t q) s = .next n ∧ n.lg.winOwner = q.sess ∧ n.lg.winHeld = true ∧ n.lg.winTime = (s.setNow t).time.now ∧
        n.lg.winGen = (s.lg.winGen + 1) % 4294967296 ∧ n.lg.winRecs.length ≤ arg q 2 1 ∧ (n.mark (arg q 0 1)).readTime = (s.setNow t).devTime ∧
        (∀ k, k ≠ arg q 0 1 → n.mark k = s.mark k) ∧ AnsweredOk (s.setNow t) n q 0x0012 body ∧ Frame (hostParts ++ [.log, .free]) s n)) ∧
    (s.lg.winHeld = true → s.lg.winTime + 1000000000 ≤ (s.setNow t).time.now → ∃ n, exec (.readWindowHoldEnd t) s = .next n ∧
      n.lg = { s.lg with winHeld := false } ∧ Frame [.log] s n) ∧
    (∀ code : Nat, refillNs (s.cfg.evClass code).2 ≠ 0 → s.sw.started = true → s.sw.firstSample < (s.setNow t).time.now →
      ((s.setNow t).time.now - s.sw.firstSample) / 10 % (refillNs (s.cfg.evClass code).2 / 10) = 0 →
      (kget {} s.lg.buckets code).refill < (s.setNow t).time.now → ∃ n, exec (.tokenRefill t code) s = .next n ∧
      kget {} n.lg.buckets code = { kget {} s.lg.buckets code with
        used := (kget {} s.lg.buckets code).used - 1, supp := 0, first := 0, refill := (s.setNow t).time.now } ∧ Frame [.log, .fifos] s n) ∧
    (∀ l : Leaf, s.snapOwed l = true → (s.leaf l).snapGo = true → (s.leaf l).writeOk = true → s.aon.thermal = false → (s.setNow t).running l = true →
      let full := fun (b : Snap) => ({ b with
        cells := s.snapUnits b.cells (s.leaf l).snapIdx 4096, firstSweep := if (s.leaf l).snapIdx = 0 then s.sw.cSweep else b.firstSweep } : Snap)
      let done := fun (b : Snap) => ({ full b with st := 2, seq := (s.leaf l).snapSeq, lastSweep := s.sw.cSweep, crc := crc32 (full b).bytes } : Snap)
      (∃ n, exec (.snapshotComplete t l true) s = .next n ∧ n.snapOwed l = false ∧ (n.leaf l).snapGo = false ∧
        (n.leaf l).snapA = (if (s.leaf l).nextSnap then (s.leaf l).snapA else done (s.leaf l).snapA) ∧
        (n.leaf l).snapB = (if (s.leaf l).nextSnap then done (s.leaf l).snapB else (s.leaf l).snapB) ∧
        Frame [.leafA, .leafB, .log, .fifos] s n) ∧
      (∃ n, exec (.snapshotComplete t l false) s = .next n ∧ Frame [] s n)) ∧
    (∀ q : HReq, q.args.length = 4 →
      ((s.setNow t).lets q 0x0501 Perm.overlay = true → 1 ≤ arg q 2 2 → arg q 0 2 + arg q 2 2 ≤ 16384 → ∃ n, exec (.cellMinmaxClear t q) s = .next n ∧
        n.est = { s.est with clears := s.est.clears ++ [(arg q 0 2, arg q 2 2)] } ∧ AnsweredOk (s.setNow t) n q 0x0501 [] ∧
        Frame (hostParts ++ [.estim]) s n) ∧
      ((s.setNow t).lets q 0x0801 Perm.overlay = true → arg q 0 1 < 16 → 1 ≤ arg q 1 1 → arg q 1 1 ≤ s.cfg.nodeCount (arg q 0 1) →
        ((s.nb (arg q 0 1) (arg q 1 1)).st = 4 → ∃ n, exec (.balNodeResume t q) s = .next n ∧
          n.nb (arg q 0 1) (arg q 1 1) = { s.nb (arg q 0 1) (arg q 1 1) with st := 3, suspTicks := secTicks 60, backTicks := none } ∧
          AnsweredOk (s.setNow t) n q 0x0801 [] ∧ Frame (hostParts ++ [.bal]) s n) ∧
        ((s.nb (arg q 0 1) (arg q 1 1)).st ≠ 4 → ∃ n, exec (.balNodeResume t q) s = .next n ∧ AnsweredOk (s.setNow t) n q 0x0801 [] ∧
          Frame hostParts s n)))

/-- SLEEP is asked for, entered 2 ms after its commit point and left by a wake source for RUN, or HALT with the thermal latch
(R697, R698, R699, R700, R701, R703, R725, 24_sleep.md). It rests on choices of the model: log 86. -/
def Obligations.SleepAndWake : Prop :=
  ∀ (t : Nat) (s : State),
    (∀ q : HReq, (s.setNow t).accepts q = true → (s.setNow t).may q.sess Perm.restart = true → q.args = [] →
      (s.sleep.st = 0 → (s.setNow t).sleepBlock = none → ∃ n, exec (.sleepEnter t q) s = .next n ∧ n.sleep.want = 1 ∧ n.sleep.st = 0 ∧
        AnsweredOk (s.setNow t) n q 0x0003 [] ∧ Frame hostParts s n) ∧
      (∀ r st, s.sleep.st = 0 → (s.setNow t).sleepBlock = some (r, st) → ∃ n, exec (.sleepEnter t q) s = .next n ∧ n.sleep.refusal = r ∧
        n.sleep.want = s.sleep.want ∧ Answered (s.setNow t) n q 3 0x0003 st [byteOf r] ∧ Frame hostParts s n) ∧
      (s.sleep.st ≠ 0 → ∃ n, exec (.sleepEnter t q) s = .next n ∧ n.sleep.want = s.sleep.want ∧ n.sleep.st = s.sleep.st ∧
        AnsweredOk (s.setNow t) n q 0x0003 [] ∧ Frame hostParts s n)) ∧
    (s.sleep.st = 1 → s.sleep.rateAt ≤ (s.setNow t).time.now →
      ((s.setNow t).inRun = true → s.sleep.wakePend = 0 → ∃ n, exec (.sleepRateLow t) s = .next n ∧ n.aon.dev = .sleep ∧ n.sleep.st = 2 ∧
        n.ch.low = true ∧ n.sleep.sleeps = satAdd 32 s.sleep.sleeps 1 ∧ n.sleep.entryNow = (s.setNow t).time.now ∧
        n.sleep.hbNext = (s.setNow t).time.now + 100000000 ∧ Frame wakeParts s n) ∧
      ((s.setNow t).inRun = true → s.sleep.wakePend ≠ 0 → ∃ n, exec (.sleepRateLow t) s = .next n ∧
        n.aon.dev = (if s.aon.thermal then .halt else .run) ∧ n.sleep.st = 0 ∧ n.sleep.wakeCause = s.sleep.wakePend ∧ n.ch.low = false ∧
        Frame wakeParts s n) ∧
      ((s.setNow t).inRun = false → ∃ n, exec (.sleepRateLow t) s = .next n ∧ n.sleep = { s.sleep with st := 0, wakePend := 0 } ∧
        Frame [.sleep] s n)) ∧
    (s.aon.dev = .sleep → s.sleep.st = 2 →
      (s.sleep.hbNext ≤ (s.setNow t).time.now → ∃ n, exec (.sleepHeartbeat t) s = .next n ∧
        n.sleep = { s.sleep with hbNext := (s.setNow t).time.now + 100000000 } ∧ n.aon.dev = .sleep ∧ Frame [.sleep, .log, .fifos, .pick, .out] s n) ∧
      (∀ raw : List Int, s.sleep.blkFrom + 100000000 ≤ (s.setNow t).time.now → ∃ n, exec (.sleepCurrentBlock t raw) s = .next n ∧
        n.sleep.blkFrom = s.sleep.blkFrom + 100000000 ∧ Frame wakeParts s n ∧
        ((∀ k v, k < 16 → s.blockValue k raw = some v → v.natAbs ≤ s.cfg.n Ty.sleep 0 4) → n.sleep.st = 2 ∧ n.aon.dev = .sleep ∧ Frame [.sleep] s n) ∧
        ((∃ k v, k < 16 ∧ s.blockValue k raw = some v ∧ s.cfg.n Ty.sleep 0 4 < v.natAbs) → n.sleep.st = 0 ∧ n.sleep.wakeCause = 0x10 ∧
          n.aon.dev = (if s.aon.thermal then .halt else .run))) ∧
      (∀ d : DevIn, s.sleep.convNext ≤ (s.setNow t).time.now →
        (s.thermalWake d = false → ∃ n, exec (.sleepSensorConversion t d) s = .next n ∧
          n.sleep = { s.sleep with convNext := (s.setNow t).time.now + 1000000000 } ∧ n.aon.dev = .sleep ∧ Frame [.sleep] s n) ∧
        (s.thermalWake d = true → ∃ n, exec (.sleepSensorConversion t d) s = .next n ∧ n.sleep.st = 0 ∧ n.sleep.wakeCause = 0x20 ∧
          n.aon.dev = (if s.aon.thermal then .halt else .run) ∧ n.ch.low = false ∧ Frame wakeParts s n)) ∧
      (bit (s.cfg.n Ty.sleep 0 0x0C) 0 = true → ∃ n, exec (.wakeNAssert t) s = .next n ∧ n.sleep.st = 0 ∧ n.sleep.wakeCause = 1 ∧
        n.aon.dev = (if s.aon.thermal then .halt else .run) ∧ n.sw.phase = .idle ∧ n.ch.low = false ∧ Frame wakeParts s n) ∧
      (bit (s.cfg.n Ty.sleep 0 0x0C) 2 = true → s.cfg.n Ty.sleep 0 8 ≠ 0 →
        s.sleep.entryNow + 1000000000 * s.cfg.n Ty.sleep 0 8 ≤ (s.setNow t).time.now → ∃ n, exec (.wakeTimer t) s = .next n ∧ n.sleep.st = 0 ∧
        n.sleep.wakeCause = 4 ∧ n.aon.dev = (if s.aon.thermal then .halt else .run) ∧ Frame wakeParts s n)) ∧
    (bit (s.cfg.n Ty.sleep 0 0x0C) 0 = false ∨ s.sleep.st = 0 → ∃ n, exec (.wakeNAssert t) s = .next n ∧ Frame [] s n)

/-- PICK_ARM arms the rules that the Bitting permits, a drop keeps a frame from its rule, disarming and release let held
frames go (R709, R710, R711, R713, R715, R716, R719, R722, 25_pick.md). It rests on choices of the model: log 90. -/
def Obligations.PickAltersTraffic : Prop :=
  ∀ (t : Nat) (s : State),
    (∀ q : HReq, (s.setNow t).accepts q = true → (s.setNow t).may q.sess Perm.pick = true → q.args.length = 4 + 32 * arg q 2 1 →
      (s.pick.armed = false → (s.setNow t).inRun = true → s.aon.unkeyed = false → s.stage.st ≠ 5 → s.kn.arb = 0 → s.kn.handoverAsked = false →
        (∀ l, (s.leaf l).st ≠ .rejoining ∧ (s.leaf l).st ≠ .resyncing) → (s.setNow t).pickDenied (armRules q.args) = 0 →
        (∀ r ∈ armRules q.args, (r.fld 2 1 = 2 → r.fld 0 1 ≠ 16) ∧ (s.setNow t).silentLive r = false ∧ r.inRange = true) → 1 ≤ arg q 0 2 →
        arg q 0 2 ≤ s.cfg.n Ty.pick 0 6 → 1 ≤ arg q 2 1 → arg q 2 1 ≤ 16 → arg q 3 1 = 0 → ∃ n, exec (.pickArm t q) s = .next n ∧
        n.pick = { s.pick with
          armed := true, owner := q.sess, count := arg q 2 1, armSeq := (s.pick.armSeq + 1) % 4294967296,
          armTime := (s.setNow t).devTime, armNow := (s.setNow t).time.now, tArm := arg q 0 2, rules := armRules q.args } ∧
        AnsweredOk (s.setNow t) n q 0x1301 (toLe 4 ((s.pick.armSeq + 1) % 4294967296)) ∧ Frame (hostParts ++ [.pick, .log, .fifos]) s n) ∧
      (s.pick.armed = true → ∃ n, exec (.pickArm t q) s = .next n ∧ Answered (s.setNow t) n q 3 0x1301 St.denied [byteOf 1] ∧ Frame hostParts s n)) ∧
    (∀ q : HReq, (s.setNow t).lets q 0x1302 Perm.pick = true → q.args = [] → ∃ n, exec (.pickDisarm t q) s = .next n ∧ n.pick.armed = false ∧
      (s.pick.armed = true → n.pick.lastDisarm = 1) ∧ AnsweredOk (s.setNow t) n q 0x1302 [] ∧ Frame (hostParts ++ [.pick, .log, .fifos]) s n) ∧
    (s.pick.armed = true → s.pick.armNow + 1000000000 * s.pick.tArm ≤ (s.setNow t).time.now → ∃ n, exec (.pickExpiry t) s = .next n ∧
      n.pick.armed = false ∧ n.pick.lastDisarm = 2 ∧ n.pick.rules = s.pick.rules ∧ Frame [.pick, .out, .log, .fifos] s n) ∧
    (∀ (ring : Nat) (e : Leaf), s.cfg.ringOn ring = true → (s.setNow t).portOn e = true → ((s.setNow t).pickJudge
        { target := ring, e := e.num, dir := 1, kindBit := 0x0A, kind := 0x0A, pos := 0, seq := 0 }).2 = .drop →
      ∃ n, exec (.broadcastReturned t ring e) s = .next n ∧ n.ch = s.ch ∧ n.pick.injections = satAdd 32 s.pick.injections 1 ∧
      Frame [.pick, .log, .fifos] s n) ∧
    (∀ (k : Nat) (h : PickHeld), s.pick.held[k]? = some h → h.due ≤ (s.setNow t).time.now →
      (∀ o, h.tx = some o → ∃ n, exec (.pickHeldRelease t k) s = .next n ∧ n.out = o :: s.out ∧ n.pick = { s.pick with held := s.pick.held.eraseIdx k } ∧
        Frame [.pick, .out, .log, .fifos] s n) ∧
      (∀ (ring : Nat) (e : Leaf) (x : Nat), h.tx = none → h.rx = some (.broadcastReturned x ring e) → s.cfg.ringOn ring = true →
        (s.setNow t).portOn e = true → ∃ n, exec (.pickHeldRelease t k) s = .next n ∧ n.pick.held = s.pick.held.eraseIdx k ∧
        n.ring ring = { s.ring ring with bcast := satAdd 32 (s.ring ring).bcast 1 } ∧ Frame [.pick, .chains, .log, .fifos] s n))

end
end

