-- ==== Sys2Proof/Laws/State.lean ====
section
/-!
SUPPORT. One lemma per field for each update of State and for what the hardware settles, so that no proof unfolds a record
update.
-/
namespace Sys2Proof.Machine

/-! The clock moves -/
@[simp] theorem setNow_pending (s : State) (t : Nat) : (s.setNow t).pending = s.pending := rfl
@[simp] theorem setNow_aon (s : State) (t : Nat) : (s.setNow t).aon = s.aon := rfl
@[simp] theorem setNow_la (s : State) (t : Nat) : (s.setNow t).la = s.la := rfl
@[simp] theorem setNow_lb (s : State) (t : Nat) : (s.setNow t).lb = s.lb := rfl
@[simp] theorem setNow_kn (s : State) (t : Nat) : (s.setNow t).kn = s.kn := rfl
@[simp] theorem setNow_lg (s : State) (t : Nat) : (s.setNow t).lg = s.lg := rfl
@[simp] theorem setNow_cfg (s : State) (t : Nat) : (s.setNow t).cfg = s.cfg := rfl
@[simp] theorem setNow_stage (s : State) (t : Nat) : (s.setNow t).stage = s.stage := rfl
@[simp] theorem setNow_ovl (s : State) (t : Nat) : (s.setNow t).ovl = s.ovl := rfl
@[simp] theorem setNow_ch (s : State) (t : Nat) : (s.setNow t).ch = s.ch := rfl
@[simp] theorem setNow_sw (s : State) (t : Nat) : (s.setNow t).sw = s.sw := rfl
@[simp] theorem setNow_cur (s : State) (t : Nat) : (s.setNow t).cur = s.cur := rfl
@[simp] theorem setNow_strCur (s : State) (t : Nat) : (s.setNow t).strCur = s.strCur := rfl
@[simp] theorem setNow_prot (s : State) (t : Nat) : (s.setNow t).prot = s.prot := rfl
@[simp] theorem setNow_th (s : State) (t : Nat) : (s.setNow t).th = s.th := rfl
@[simp] theorem setNow_est (s : State) (t : Nat) : (s.setNow t).est = s.est := rfl
@[simp] theorem setNow_lim (s : State) (t : Nat) : (s.setNow t).lim = s.lim := rfl
@[simp] theorem setNow_bal (s : State) (t : Nat) : (s.setNow t).bal = s.bal := rfl
@[simp] theorem setNow_hasp (s : State) (t : Nat) : (s.setNow t).hasp = s.hasp := rfl
@[simp] theorem setNow_lease (s : State) (t : Nat) : (s.setNow t).lease = s.lease := rfl
@[simp] theorem setNow_com (s : State) (t : Nat) : (s.setNow t).com = s.com := rfl
@[simp] theorem setNow_power (s : State) (t : Nat) : (s.setNow t).power = s.power := rfl
@[simp] theorem setNow_links (s : State) (t : Nat) : (s.setNow t).links = s.links := rfl
@[simp] theorem setNow_fifos (s : State) (t : Nat) : (s.setNow t).fifos = s.fifos := rfl
@[simp] theorem setNow_sleep (s : State) (t : Nat) : (s.setNow t).sleep = s.sleep := rfl
@[simp] theorem setNow_tap (s : State) (t : Nat) : (s.setNow t).tap = s.tap := rfl
@[simp] theorem setNow_balls (s : State) (t : Nat) : (s.setNow t).balls = s.balls := rfl
@[simp] theorem setNow_pick (s : State) (t : Nat) : (s.setNow t).pick = s.pick := rfl
@[simp] theorem setNow_nest (s : State) (t : Nat) : (s.setNow t).nest = s.nest := rfl
@[simp] theorem setNow_out (s : State) (t : Nat) : (s.setNow t).out = s.out := rfl
@[simp] theorem setNow_free (s : State) (t : Nat) : (s.setNow t).free = s.free := rfl

@[simp] theorem setNow_now (s : State) (t : Nat) : (s.setNow t).time.now = max s.time.now t := rfl
@[simp] theorem setNow_base (s : State) (t : Nat) : (s.setNow t).time.base = s.time.base := rfl

/-! A free value is drawn, a message is put out -/
@[simp] theorem draw_pending (s : State)  : (s.draw).pending = s.pending := rfl
@[simp] theorem draw_time (s : State)  : (s.draw).time = s.time := rfl
@[simp] theorem draw_aon (s : State)  : (s.draw).aon = s.aon := rfl
@[simp] theorem draw_la (s : State)  : (s.draw).la = s.la := rfl
@[simp] theorem draw_lb (s : State)  : (s.draw).lb = s.lb := rfl
@[simp] theorem draw_kn (s : State)  : (s.draw).kn = s.kn := rfl
@[simp] theorem draw_lg (s : State)  : (s.draw).lg = s.lg := rfl
@[simp] theorem draw_cfg (s : State)  : (s.draw).cfg = s.cfg := rfl
@[simp] theorem draw_stage (s : State)  : (s.draw).stage = s.stage := rfl
@[simp] theorem draw_ovl (s : State)  : (s.draw).ovl = s.ovl := rfl
@[simp] theorem draw_ch (s : State)  : (s.draw).ch = s.ch := rfl
@[simp] theorem draw_sw (s : State)  : (s.draw).sw = s.sw := rfl
@[simp] theorem draw_cur (s : State)  : (s.draw).cur = s.cur := rfl
@[simp] theorem draw_strCur (s : State)  : (s.draw).strCur = s.strCur := rfl
@[simp] theorem draw_prot (s : State)  : (s.draw).prot = s.prot := rfl
@[simp] theorem draw_th (s : State)  : (s.draw).th = s.th := rfl
@[simp] theorem draw_est (s : State)  : (s.draw).est = s.est := rfl
@[simp] theorem draw_lim (s : State)  : (s.draw).lim = s.lim := rfl
@[simp] theorem draw_bal (s : State)  : (s.draw).bal = s.bal := rfl
@[simp] theorem draw_hasp (s : State)  : (s.draw).hasp = s.hasp := rfl
@[simp] theorem draw_lease (s : State)  : (s.draw).lease = s.lease := rfl
@[simp] theorem draw_com (s : State)  : (s.draw).com = s.com := rfl
@[simp] theorem draw_power (s : State)  : (s.draw).power = s.power := rfl
@[simp] theorem draw_links (s : State)  : (s.draw).links = s.links := rfl
@[simp] theorem draw_fifos (s : State)  : (s.draw).fifos = s.fifos := rfl
@[simp] theorem draw_sleep (s : State)  : (s.draw).sleep = s.sleep := rfl
@[simp] theorem draw_tap (s : State)  : (s.draw).tap = s.tap := rfl
@[simp] theorem draw_balls (s : State)  : (s.draw).balls = s.balls := rfl
@[simp] theorem draw_pick (s : State)  : (s.draw).pick = s.pick := rfl
@[simp] theorem draw_nest (s : State)  : (s.draw).nest = s.nest := rfl
@[simp] theorem draw_out (s : State)  : (s.draw).out = s.out := rfl

@[simp] theorem emit_pending (s : State) (o : Out) : (s.emit o).pending = s.pending := rfl
@[simp] theorem emit_time (s : State) (o : Out) : (s.emit o).time = s.time := rfl
@[simp] theorem emit_aon (s : State) (o : Out) : (s.emit o).aon = s.aon := rfl
@[simp] theorem emit_la (s : State) (o : Out) : (s.emit o).la = s.la := rfl
@[simp] theorem emit_lb (s : State) (o : Out) : (s.emit o).lb = s.lb := rfl
@[simp] theorem emit_kn (s : State) (o : Out) : (s.emit o).kn = s.kn := rfl
@[simp] theorem emit_lg (s : State) (o : Out) : (s.emit o).lg = s.lg := rfl
@[simp] theorem emit_cfg (s : State) (o : Out) : (s.emit o).cfg = s.cfg := rfl
@[simp] theorem emit_stage (s : State) (o : Out) : (s.emit o).stage = s.stage := rfl
@[simp] theorem emit_ovl (s : State) (o : Out) : (s.emit o).ovl = s.ovl := rfl
@[simp] theorem emit_ch (s : State) (o : Out) : (s.emit o).ch = s.ch := rfl
@[simp] theorem emit_sw (s : State) (o : Out) : (s.emit o).sw = s.sw := rfl
@[simp] theorem emit_cur (s : State) (o : Out) : (s.emit o).cur = s.cur := rfl
@[simp] theorem emit_strCur (s : State) (o : Out) : (s.emit o).strCur = s.strCur := rfl
@[simp] theorem emit_prot (s : State) (o : Out) : (s.emit o).prot = s.prot := rfl
@[simp] theorem emit_th (s : State) (o : Out) : (s.emit o).th = s.th := rfl
@[simp] theorem emit_est (s : State) (o : Out) : (s.emit o).est = s.est := rfl
@[simp] theorem emit_lim (s : State) (o : Out) : (s.emit o).lim = s.lim := rfl
@[simp] theorem emit_bal (s : State) (o : Out) : (s.emit o).bal = s.bal := rfl
@[simp] theorem emit_hasp (s : State) (o : Out) : (s.emit o).hasp = s.hasp := rfl
@[simp] theorem emit_lease (s : State) (o : Out) : (s.emit o).lease = s.lease := rfl
@[simp] theorem emit_com (s : State) (o : Out) : (s.emit o).com = s.com := rfl
@[simp] theorem emit_power (s : State) (o : Out) : (s.emit o).power = s.power := rfl
@[simp] theorem emit_links (s : State) (o : Out) : (s.emit o).links = s.links := rfl
@[simp] theorem emit_fifos (s : State) (o : Out) : (s.emit o).fifos = s.fifos := rfl
@[simp] theorem emit_sleep (s : State) (o : Out) : (s.emit o).sleep = s.sleep := rfl
@[simp] theorem emit_tap (s : State) (o : Out) : (s.emit o).tap = s.tap := rfl
@[simp] theorem emit_balls (s : State) (o : Out) : (s.emit o).balls = s.balls := rfl
@[simp] theorem emit_pick (s : State) (o : Out) : (s.emit o).pick = s.pick := rfl
@[simp] theorem emit_nest (s : State) (o : Out) : (s.emit o).nest = s.nest := rfl
@[simp] theorem emit_free (s : State) (o : Out) : (s.emit o).free = s.free := rfl

@[simp] theorem emit_out (s : State) (o : Out) : (s.emit o).out = o :: s.out := rfl

/-! A leaf record changes -/
@[simp] theorem setLeaf_pending (s : State) (l : Leaf) (x : LeafRec) : (s.setLeaf l x).pending = s.pending := by cases l <;> rfl
@[simp] theorem setLeaf_time (s : State) (l : Leaf) (x : LeafRec) : (s.setLeaf l x).time = s.time := by cases l <;> rfl
@[simp] theorem setLeaf_aon (s : State) (l : Leaf) (x : LeafRec) : (s.setLeaf l x).aon = s.aon := by cases l <;> rfl
@[simp] theorem setLeaf_kn (s : State) (l : Leaf) (x : LeafRec) : (s.setLeaf l x).kn = s.kn := by cases l <;> rfl
@[simp] theorem setLeaf_lg (s : State) (l : Leaf) (x : LeafRec) : (s.setLeaf l x).lg = s.lg := by cases l <;> rfl
@[simp] theorem setLeaf_cfg (s : State) (l : Leaf) (x : LeafRec) : (s.setLeaf l x).cfg = s.cfg := by cases l <;> rfl
@[simp] theorem setLeaf_stage (s : State) (l : Leaf) (x : LeafRec) : (s.setLeaf l x).stage = s.stage := by cases l <;> rfl
@[simp] theorem setLeaf_ovl (s : State) (l : Leaf) (x : LeafRec) : (s.setLeaf l x).ovl = s.ovl := by cases l <;> rfl
@[simp] theorem setLeaf_ch (s : State) (l : Leaf) (x : LeafRec) : (s.setLeaf l x).ch = s.ch := by cases l <;> rfl
@[simp] theorem setLeaf_sw (s : State) (l : Leaf) (x : LeafRec) : (s.setLeaf l x).sw = s.sw := by cases l <;> rfl
@[simp] theorem setLeaf_cur (s : State) (l : Leaf) (x : LeafRec) : (s.setLeaf l x).cur = s.cur := by cases l <;> rfl
@[simp] theorem setLeaf_strCur (s : State) (l : Leaf) (x : LeafRec) : (s.setLeaf l x).strCur = s.strCur := by cases l <;> rfl
@[simp] theorem setLeaf_prot (s : State) (l : Leaf) (x : LeafRec) : (s.setLeaf l x).prot = s.prot := by cases l <;> rfl
@[simp] theorem setLeaf_th (s : State) (l : Leaf) (x : LeafRec) : (s.setLeaf l x).th = s.th := by cases l <;> rfl
@[simp] theorem setLeaf_est (s : State) (l : Leaf) (x : LeafRec) : (s.setLeaf l x).est = s.est := by cases l <;> rfl
@[simp] theorem setLeaf_lim (s : State) (l : Leaf) (x : LeafRec) : (s.setLeaf l x).lim = s.lim := by cases l <;> rfl
@[simp] theorem setLeaf_bal (s : State) (l : Leaf) (x : LeafRec) : (s.setLeaf l x).bal = s.bal := by cases l <;> rfl
@[simp] theorem setLeaf_hasp (s : State) (l : Leaf) (x : LeafRec) : (s.setLeaf l x).hasp = s.hasp := by cases l <;> rfl
@[simp] theorem setLeaf_lease (s : State) (l : Leaf) (x : LeafRec) : (s.setLeaf l x).lease = s.lease := by cases l <;> rfl
@[simp] theorem setLeaf_com (s : State) (l : Leaf) (x : LeafRec) : (s.setLeaf l x).com = s.com := by cases l <;> rfl
@[simp] theorem setLeaf_power (s : State) (l : Leaf) (x : LeafRec) : (s.setLeaf l x).power = s.power := by cases l <;> rfl
@[simp] theorem setLeaf_links (s : State) (l : Leaf) (x : LeafRec) : (s.setLeaf l x).links = s.links := by cases l <;> rfl
@[simp] theorem setLeaf_fifos (s : State) (l : Leaf) (x : LeafRec) : (s.setLeaf l x).fifos = s.fifos := by cases l <;> rfl
@[simp] theorem setLeaf_sleep (s : State) (l : Leaf) (x : LeafRec) : (s.setLeaf l x).sleep = s.sleep := by cases l <;> rfl
@[simp] theorem setLeaf_tap (s : State) (l : Leaf) (x : LeafRec) : (s.setLeaf l x).tap = s.tap := by cases l <;> rfl
@[simp] theorem setLeaf_balls (s : State) (l : Leaf) (x : LeafRec) : (s.setLeaf l x).balls = s.balls := by cases l <;> rfl
@[simp] theorem setLeaf_pick (s : State) (l : Leaf) (x : LeafRec) : (s.setLeaf l x).pick = s.pick := by cases l <;> rfl
@[simp] theorem setLeaf_nest (s : State) (l : Leaf) (x : LeafRec) : (s.setLeaf l x).nest = s.nest := by cases l <;> rfl
@[simp] theorem setLeaf_out (s : State) (l : Leaf) (x : LeafRec) : (s.setLeaf l x).out = s.out := by cases l <;> rfl
@[simp] theorem setLeaf_free (s : State) (l : Leaf) (x : LeafRec) : (s.setLeaf l x).free = s.free := by cases l <;> rfl

@[simp] theorem modLeaf_pending (s : State) (l : Leaf) (f : LeafRec → LeafRec) : (s.modLeaf l f).pending = s.pending := by cases l <;> rfl
@[simp] theorem modLeaf_time (s : State) (l : Leaf) (f : LeafRec → LeafRec) : (s.modLeaf l f).time = s.time := by cases l <;> rfl
@[simp] theorem modLeaf_aon (s : State) (l : Leaf) (f : LeafRec → LeafRec) : (s.modLeaf l f).aon = s.aon := by cases l <;> rfl
@[simp] theorem modLeaf_kn (s : State) (l : Leaf) (f : LeafRec → LeafRec) : (s.modLeaf l f).kn = s.kn := by cases l <;> rfl
@[simp] theorem modLeaf_lg (s : State) (l : Leaf) (f : LeafRec → LeafRec) : (s.modLeaf l f).lg = s.lg := by cases l <;> rfl
@[simp] theorem modLeaf_cfg (s : State) (l : Leaf) (f : LeafRec → LeafRec) : (s.modLeaf l f).cfg = s.cfg := by cases l <;> rfl
@[simp] theorem modLeaf_stage (s : State) (l : Leaf) (f : LeafRec → LeafRec) : (s.modLeaf l f).stage = s.stage := by cases l <;> rfl
@[simp] theorem modLeaf_ovl (s : State) (l : Leaf) (f : LeafRec → LeafRec) : (s.modLeaf l f).ovl = s.ovl := by cases l <;> rfl
@[simp] theorem modLeaf_ch (s : State) (l : Leaf) (f : LeafRec → LeafRec) : (s.modLeaf l f).ch = s.ch := by cases l <;> rfl
@[simp] theorem modLeaf_sw (s : State) (l : Leaf) (f : LeafRec → LeafRec) : (s.modLeaf l f).sw = s.sw := by cases l <;> rfl
@[simp] theorem modLeaf_cur (s : State) (l : Leaf) (f : LeafRec → LeafRec) : (s.modLeaf l f).cur = s.cur := by cases l <;> rfl
@[simp] theorem modLeaf_strCur (s : State) (l : Leaf) (f : LeafRec → LeafRec) : (s.modLeaf l f).strCur = s.strCur := by cases l <;> rfl
@[simp] theorem modLeaf_prot (s : State) (l : Leaf) (f : LeafRec → LeafRec) : (s.modLeaf l f).prot = s.prot := by cases l <;> rfl
@[simp] theorem modLeaf_th (s : State) (l : Leaf) (f : LeafRec → LeafRec) : (s.modLeaf l f).th = s.th := by cases l <;> rfl
@[simp] theorem modLeaf_est (s : State) (l : Leaf) (f : LeafRec → LeafRec) : (s.modLeaf l f).est = s.est := by cases l <;> rfl
@[simp] theorem modLeaf_lim (s : State) (l : Leaf) (f : LeafRec → LeafRec) : (s.modLeaf l f).lim = s.lim := by cases l <;> rfl
@[simp] theorem modLeaf_bal (s : State) (l : Leaf) (f : LeafRec → LeafRec) : (s.modLeaf l f).bal = s.bal := by cases l <;> rfl
@[simp] theorem modLeaf_hasp (s : State) (l : Leaf) (f : LeafRec → LeafRec) : (s.modLeaf l f).hasp = s.hasp := by cases l <;> rfl
@[simp] theorem modLeaf_lease (s : State) (l : Leaf) (f : LeafRec → LeafRec) : (s.modLeaf l f).lease = s.lease := by cases l <;> rfl
@[simp] theorem modLeaf_com (s : State) (l : Leaf) (f : LeafRec → LeafRec) : (s.modLeaf l f).com = s.com := by cases l <;> rfl
@[simp] theorem modLeaf_power (s : State) (l : Leaf) (f : LeafRec → LeafRec) : (s.modLeaf l f).power = s.power := by cases l <;> rfl
@[simp] theorem modLeaf_links (s : State) (l : Leaf) (f : LeafRec → LeafRec) : (s.modLeaf l f).links = s.links := by cases l <;> rfl
@[simp] theorem modLeaf_fifos (s : State) (l : Leaf) (f : LeafRec → LeafRec) : (s.modLeaf l f).fifos = s.fifos := by cases l <;> rfl
@[simp] theorem modLeaf_sleep (s : State) (l : Leaf) (f : LeafRec → LeafRec) : (s.modLeaf l f).sleep = s.sleep := by cases l <;> rfl
@[simp] theorem modLeaf_tap (s : State) (l : Leaf) (f : LeafRec → LeafRec) : (s.modLeaf l f).tap = s.tap := by cases l <;> rfl
@[simp] theorem modLeaf_balls (s : State) (l : Leaf) (f : LeafRec → LeafRec) : (s.modLeaf l f).balls = s.balls := by cases l <;> rfl
@[simp] theorem modLeaf_pick (s : State) (l : Leaf) (f : LeafRec → LeafRec) : (s.modLeaf l f).pick = s.pick := by cases l <;> rfl
@[simp] theorem modLeaf_nest (s : State) (l : Leaf) (f : LeafRec → LeafRec) : (s.modLeaf l f).nest = s.nest := by cases l <;> rfl
@[simp] theorem modLeaf_out (s : State) (l : Leaf) (f : LeafRec → LeafRec) : (s.modLeaf l f).out = s.out := by cases l <;> rfl
@[simp] theorem modLeaf_free (s : State) (l : Leaf) (f : LeafRec → LeafRec) : (s.modLeaf l f).free = s.free := by cases l <;> rfl

@[simp] theorem modLeaves_pending (s : State) (f : LeafRec → LeafRec) : (s.modLeaves f).pending = s.pending := rfl
@[simp] theorem modLeaves_time (s : State) (f : LeafRec → LeafRec) : (s.modLeaves f).time = s.time := rfl
@[simp] theorem modLeaves_aon (s : State) (f : LeafRec → LeafRec) : (s.modLeaves f).aon = s.aon := rfl
@[simp] theorem modLeaves_kn (s : State) (f : LeafRec → LeafRec) : (s.modLeaves f).kn = s.kn := rfl
@[simp] theorem modLeaves_lg (s : State) (f : LeafRec → LeafRec) : (s.modLeaves f).lg = s.lg := rfl
@[simp] theorem modLeaves_cfg (s : State) (f : LeafRec → LeafRec) : (s.modLeaves f).cfg = s.cfg := rfl
@[simp] theorem modLeaves_stage (s : State) (f : LeafRec → LeafRec) : (s.modLeaves f).stage = s.stage := rfl
@[simp] theorem modLeaves_ovl (s : State) (f : LeafRec → LeafRec) : (s.modLeaves f).ovl = s.ovl := rfl
@[simp] theorem modLeaves_ch (s : State) (f : LeafRec → LeafRec) : (s.modLeaves f).ch = s.ch := rfl
@[simp] theorem modLeaves_sw (s : State) (f : LeafRec → LeafRec) : (s.modLeaves f).sw = s.sw := rfl
@[simp] theorem modLeaves_cur (s : State) (f : LeafRec → LeafRec) : (s.modLeaves f).cur = s.cur := rfl
@[simp] theorem modLeaves_strCur (s : State) (f : LeafRec → LeafRec) : (s.modLeaves f).strCur = s.strCur := rfl
@[simp] theorem modLeaves_prot (s : State) (f : LeafRec → LeafRec) : (s.modLeaves f).prot = s.prot := rfl
@[simp] theorem modLeaves_th (s : State) (f : LeafRec → LeafRec) : (s.modLeaves f).th = s.th := rfl
@[simp] theorem modLeaves_est (s : State) (f : LeafRec → LeafRec) : (s.modLeaves f).est = s.est := rfl
@[simp] theorem modLeaves_lim (s : State) (f : LeafRec → LeafRec) : (s.modLeaves f).lim = s.lim := rfl
@[simp] theorem modLeaves_bal (s : State) (f : LeafRec → LeafRec) : (s.modLeaves f).bal = s.bal := rfl
@[simp] theorem modLeaves_hasp (s : State) (f : LeafRec → LeafRec) : (s.modLeaves f).hasp = s.hasp := rfl
@[simp] theorem modLeaves_lease (s : State) (f : LeafRec → LeafRec) : (s.modLeaves f).lease = s.lease := rfl
@[simp] theorem modLeaves_com (s : State) (f : LeafRec → LeafRec) : (s.modLeaves f).com = s.com := rfl
@[simp] theorem modLeaves_power (s : State) (f : LeafRec → LeafRec) : (s.modLeaves f).power = s.power := rfl
@[simp] theorem modLeaves_links (s : State) (f : LeafRec → LeafRec) : (s.modLeaves f).links = s.links := rfl
@[simp] theorem modLeaves_fifos (s : State) (f : LeafRec → LeafRec) : (s.modLeaves f).fifos = s.fifos := rfl
@[simp] theorem modLeaves_sleep (s : State) (f : LeafRec → LeafRec) : (s.modLeaves f).sleep = s.sleep := rfl
@[simp] theorem modLeaves_tap (s : State) (f : LeafRec → LeafRec) : (s.modLeaves f).tap = s.tap := rfl
@[simp] theorem modLeaves_balls (s : State) (f : LeafRec → LeafRec) : (s.modLeaves f).balls = s.balls := rfl
@[simp] theorem modLeaves_pick (s : State) (f : LeafRec → LeafRec) : (s.modLeaves f).pick = s.pick := rfl
@[simp] theorem modLeaves_nest (s : State) (f : LeafRec → LeafRec) : (s.modLeaves f).nest = s.nest := rfl
@[simp] theorem modLeaves_out (s : State) (f : LeafRec → LeafRec) : (s.modLeaves f).out = s.out := rfl
@[simp] theorem modLeaves_free (s : State) (f : LeafRec → LeafRec) : (s.modLeaves f).free = s.free := rfl

@[simp] theorem leaf_a (s : State) : s.leaf .a = s.la := rfl
@[simp] theorem leaf_b (s : State) : s.leaf .b = s.lb := rfl
@[simp] theorem leaf_setLeaf (s : State) (l : Leaf) (x : LeafRec) : (s.setLeaf l x).leaf l = x := by cases l <;> rfl
@[simp] theorem leaf_modLeaf (s : State) (l : Leaf) (f : LeafRec → LeafRec) : (s.modLeaf l f).leaf l = f (s.leaf l) := by cases l <;> rfl
theorem leaf_setLeaf_other (s : State) (l m : Leaf) (x : LeafRec) (h : m ≠ l) : (s.setLeaf l x).leaf m = s.leaf m := by
  cases l <;> cases m <;> first | rfl | exact absurd rfl h

@[simp] theorem setRing_pending (s : State) (r : Nat) (x : Ring) : (s.setRing r x).pending = s.pending := rfl
@[simp] theorem setRing_time (s : State) (r : Nat) (x : Ring) : (s.setRing r x).time = s.time := rfl
@[simp] theorem setRing_aon (s : State) (r : Nat) (x : Ring) : (s.setRing r x).aon = s.aon := rfl
@[simp] theorem setRing_la (s : State) (r : Nat) (x : Ring) : (s.setRing r x).la = s.la := rfl
@[simp] theorem setRing_lb (s : State) (r : Nat) (x : Ring) : (s.setRing r x).lb = s.lb := rfl
@[simp] theorem setRing_kn (s : State) (r : Nat) (x : Ring) : (s.setRing r x).kn = s.kn := rfl
@[simp] theorem setRing_lg (s : State) (r : Nat) (x : Ring) : (s.setRing r x).lg = s.lg := rfl
@[simp] theorem setRing_cfg (s : State) (r : Nat) (x : Ring) : (s.setRing r x).cfg = s.cfg := rfl
@[simp] theorem setRing_stage (s : State) (r : Nat) (x : Ring) : (s.setRing r x).stage = s.stage := rfl
@[simp] theorem setRing_ovl (s : State) (r : Nat) (x : Ring) : (s.setRing r x).ovl = s.ovl := rfl
@[simp] theorem setRing_sw (s : State) (r : Nat) (x : Ring) : (s.setRing r x).sw = s.sw := rfl
@[simp] theorem setRing_cur (s : State) (r : Nat) (x : Ring) : (s.setRing r x).cur = s.cur := rfl
@[simp] theorem setRing_strCur (s : State) (r : Nat) (x : Ring) : (s.setRing r x).strCur = s.strCur := rfl
@[simp] theorem setRing_prot (s : State) (r : Nat) (x : Ring) : (s.setRing r x).prot = s.prot := rfl
@[simp] theorem setRing_th (s : State) (r : Nat) (x : Ring) : (s.setRing r x).th = s.th := rfl
@[simp] theorem setRing_est (s : State) (r : Nat) (x : Ring) : (s.setRing r x).est = s.est := rfl
@[simp] theorem setRing_lim (s : State) (r : Nat) (x : Ring) : (s.setRing r x).lim = s.lim := rfl
@[simp] theorem setRing_bal (s : State) (r : Nat) (x : Ring) : (s.setRing r x).bal = s.bal := rfl
@[simp] theorem setRing_hasp (s : State) (r : Nat) (x : Ring) : (s.setRing r x).hasp = s.hasp := rfl
@[simp] theorem setRing_lease (s : State) (r : Nat) (x : Ring) : (s.setRing r x).lease = s.lease := rfl
@[simp] theorem setRing_com (s : State) (r : Nat) (x : Ring) : (s.setRing r x).com = s.com := rfl
@[simp] theorem setRing_power (s : State) (r : Nat) (x : Ring) : (s.setRing r x).power = s.power := rfl
@[simp] theorem setRing_links (s : State) (r : Nat) (x : Ring) : (s.setRing r x).links = s.links := rfl
@[simp] theorem setRing_fifos (s : State) (r : Nat) (x : Ring) : (s.setRing r x).fifos = s.fifos := rfl
@[simp] theorem setRing_sleep (s : State) (r : Nat) (x : Ring) : (s.setRing r x).sleep = s.sleep := rfl
@[simp] theorem setRing_tap (s : State) (r : Nat) (x : Ring) : (s.setRing r x).tap = s.tap := rfl
@[simp] theorem setRing_balls (s : State) (r : Nat) (x : Ring) : (s.setRing r x).balls = s.balls := rfl
@[simp] theorem setRing_pick (s : State) (r : Nat) (x : Ring) : (s.setRing r x).pick = s.pick := rfl
@[simp] theorem setRing_nest (s : State) (r : Nat) (x : Ring) : (s.setRing r x).nest = s.nest := rfl
@[simp] theorem setRing_out (s : State) (r : Nat) (x : Ring) : (s.setRing r x).out = s.out := rfl
@[simp] theorem setRing_free (s : State) (r : Nat) (x : Ring) : (s.setRing r x).free = s.free := rfl

@[simp] theorem modRing_pending (s : State) (r : Nat) (f : Ring → Ring) : (s.modRing r f).pending = s.pending := rfl
@[simp] theorem modRing_time (s : State) (r : Nat) (f : Ring → Ring) : (s.modRing r f).time = s.time := rfl
@[simp] theorem modRing_aon (s : State) (r : Nat) (f : Ring → Ring) : (s.modRing r f).aon = s.aon := rfl
@[simp] theorem modRing_la (s : State) (r : Nat) (f : Ring → Ring) : (s.modRing r f).la = s.la := rfl
@[simp] theorem modRing_lb (s : State) (r : Nat) (f : Ring → Ring) : (s.modRing r f).lb = s.lb := rfl
@[simp] theorem modRing_kn (s : State) (r : Nat) (f : Ring → Ring) : (s.modRing r f).kn = s.kn := rfl
@[simp] theorem modRing_lg (s : State) (r : Nat) (f : Ring → Ring) : (s.modRing r f).lg = s.lg := rfl
@[simp] theorem modRing_cfg (s : State) (r : Nat) (f : Ring → Ring) : (s.modRing r f).cfg = s.cfg := rfl
@[simp] theorem modRing_stage (s : State) (r : Nat) (f : Ring → Ring) : (s.modRing r f).stage = s.stage := rfl
@[simp] theorem modRing_ovl (s : State) (r : Nat) (f : Ring → Ring) : (s.modRing r f).ovl = s.ovl := rfl
@[simp] theorem modRing_sw (s : State) (r : Nat) (f : Ring → Ring) : (s.modRing r f).sw = s.sw := rfl
@[simp] theorem modRing_cur (s : State) (r : Nat) (f : Ring → Ring) : (s.modRing r f).cur = s.cur := rfl
@[simp] theorem modRing_strCur (s : State) (r : Nat) (f : Ring → Ring) : (s.modRing r f).strCur = s.strCur := rfl
@[simp] theorem modRing_prot (s : State) (r : Nat) (f : Ring → Ring) : (s.modRing r f).prot = s.prot := rfl
@[simp] theorem modRing_th (s : State) (r : Nat) (f : Ring → Ring) : (s.modRing r f).th = s.th := rfl
@[simp] theorem modRing_est (s : State) (r : Nat) (f : Ring → Ring) : (s.modRing r f).est = s.est := rfl
@[simp] theorem modRing_lim (s : State) (r : Nat) (f : Ring → Ring) : (s.modRing r f).lim = s.lim := rfl
@[simp] theorem modRing_bal (s : State) (r : Nat) (f : Ring → Ring) : (s.modRing r f).bal = s.bal := rfl
@[simp] theorem modRing_hasp (s : State) (r : Nat) (f : Ring → Ring) : (s.modRing r f).hasp = s.hasp := rfl
@[simp] theorem modRing_lease (s : State) (r : Nat) (f : Ring → Ring) : (s.modRing r f).lease = s.lease := rfl
@[simp] theorem modRing_com (s : State) (r : Nat) (f : Ring → Ring) : (s.modRing r f).com = s.com := rfl
@[simp] theorem modRing_power (s : State) (r : Nat) (f : Ring → Ring) : (s.modRing r f).power = s.power := rfl
@[simp] theorem modRing_links (s : State) (r : Nat) (f : Ring → Ring) : (s.modRing r f).links = s.links := rfl
@[simp] theorem modRing_fifos (s : State) (r : Nat) (f : Ring → Ring) : (s.modRing r f).fifos = s.fifos := rfl
@[simp] theorem modRing_sleep (s : State) (r : Nat) (f : Ring → Ring) : (s.modRing r f).sleep = s.sleep := rfl
@[simp] theorem modRing_tap (s : State) (r : Nat) (f : Ring → Ring) : (s.modRing r f).tap = s.tap := rfl
@[simp] theorem modRing_balls (s : State) (r : Nat) (f : Ring → Ring) : (s.modRing r f).balls = s.balls := rfl
@[simp] theorem modRing_pick (s : State) (r : Nat) (f : Ring → Ring) : (s.modRing r f).pick = s.pick := rfl
@[simp] theorem modRing_nest (s : State) (r : Nat) (f : Ring → Ring) : (s.modRing r f).nest = s.nest := rfl
@[simp] theorem modRing_out (s : State) (r : Nat) (f : Ring → Ring) : (s.modRing r f).out = s.out := rfl
@[simp] theorem modRing_free (s : State) (r : Nat) (f : Ring → Ring) : (s.modRing r f).free = s.free := rfl

@[simp] theorem setNode_pending (s : State) (r p : Nat) (x : Node) : (s.setNode r p x).pending = s.pending := rfl
@[simp] theorem setNode_time (s : State) (r p : Nat) (x : Node) : (s.setNode r p x).time = s.time := rfl
@[simp] theorem setNode_aon (s : State) (r p : Nat) (x : Node) : (s.setNode r p x).aon = s.aon := rfl
@[simp] theorem setNode_la (s : State) (r p : Nat) (x : Node) : (s.setNode r p x).la = s.la := rfl
@[simp] theorem setNode_lb (s : State) (r p : Nat) (x : Node) : (s.setNode r p x).lb = s.lb := rfl
@[simp] theorem setNode_kn (s : State) (r p : Nat) (x : Node) : (s.setNode r p x).kn = s.kn := rfl
@[simp] theorem setNode_lg (s : State) (r p : Nat) (x : Node) : (s.setNode r p x).lg = s.lg := rfl
@[simp] theorem setNode_cfg (s : State) (r p : Nat) (x : Node) : (s.setNode r p x).cfg = s.cfg := rfl
@[simp] theorem setNode_stage (s : State) (r p : Nat) (x : Node) : (s.setNode r p x).stage = s.stage := rfl
@[simp] theorem setNode_ovl (s : State) (r p : Nat) (x : Node) : (s.setNode r p x).ovl = s.ovl := rfl
@[simp] theorem setNode_sw (s : State) (r p : Nat) (x : Node) : (s.setNode r p x).sw = s.sw := rfl
@[simp] theorem setNode_cur (s : State) (r p : Nat) (x : Node) : (s.setNode r p x).cur = s.cur := rfl
@[simp] theorem setNode_strCur (s : State) (r p : Nat) (x : Node) : (s.setNode r p x).strCur = s.strCur := rfl
@[simp] theorem setNode_prot (s : State) (r p : Nat) (x : Node) : (s.setNode r p x).prot = s.prot := rfl
@[simp] theorem setNode_th (s : State) (r p : Nat) (x : Node) : (s.setNode r p x).th = s.th := rfl
@[simp] theorem setNode_est (s : State) (r p : Nat) (x : Node) : (s.setNode r p x).est = s.est := rfl
@[simp] theorem setNode_lim (s : State) (r p : Nat) (x : Node) : (s.setNode r p x).lim = s.lim := rfl
@[simp] theorem setNode_bal (s : State) (r p : Nat) (x : Node) : (s.setNode r p x).bal = s.bal := rfl
@[simp] theorem setNode_hasp (s : State) (r p : Nat) (x : Node) : (s.setNode r p x).hasp = s.hasp := rfl
@[simp] theorem setNode_lease (s : State) (r p : Nat) (x : Node) : (s.setNode r p x).lease = s.lease := rfl
@[simp] theorem setNode_com (s : State) (r p : Nat) (x : Node) : (s.setNode r p x).com = s.com := rfl
@[simp] theorem setNode_power (s : State) (r p : Nat) (x : Node) : (s.setNode r p x).power = s.power := rfl
@[simp] theorem setNode_links (s : State) (r p : Nat) (x : Node) : (s.setNode r p x).links = s.links := rfl
@[simp] theorem setNode_fifos (s : State) (r p : Nat) (x : Node) : (s.setNode r p x).fifos = s.fifos := rfl
@[simp] theorem setNode_sleep (s : State) (r p : Nat) (x : Node) : (s.setNode r p x).sleep = s.sleep := rfl
@[simp] theorem setNode_tap (s : State) (r p : Nat) (x : Node) : (s.setNode r p x).tap = s.tap := rfl
@[simp] theorem setNode_balls (s : State) (r p : Nat) (x : Node) : (s.setNode r p x).balls = s.balls := rfl
@[simp] theorem setNode_pick (s : State) (r p : Nat) (x : Node) : (s.setNode r p x).pick = s.pick := rfl
@[simp] theorem setNode_nest (s : State) (r p : Nat) (x : Node) : (s.setNode r p x).nest = s.nest := rfl
@[simp] theorem setNode_out (s : State) (r p : Nat) (x : Node) : (s.setNode r p x).out = s.out := rfl
@[simp] theorem setNode_free (s : State) (r p : Nat) (x : Node) : (s.setNode r p x).free = s.free := rfl

@[simp] theorem modNode_pending (s : State) (r p : Nat) (f : Node → Node) : (s.modNode r p f).pending = s.pending := rfl
@[simp] theorem modNode_time (s : State) (r p : Nat) (f : Node → Node) : (s.modNode r p f).time = s.time := rfl
@[simp] theorem modNode_aon (s : State) (r p : Nat) (f : Node → Node) : (s.modNode r p f).aon = s.aon := rfl
@[simp] theorem modNode_la (s : State) (r p : Nat) (f : Node → Node) : (s.modNode r p f).la = s.la := rfl
@[simp] theorem modNode_lb (s : State) (r p : Nat) (f : Node → Node) : (s.modNode r p f).lb = s.lb := rfl
@[simp] theorem modNode_kn (s : State) (r p : Nat) (f : Node → Node) : (s.modNode r p f).kn = s.kn := rfl
@[simp] theorem modNode_lg (s : State) (r p : Nat) (f : Node → Node) : (s.modNode r p f).lg = s.lg := rfl
@[simp] theorem modNode_cfg (s : State) (r p : Nat) (f : Node → Node) : (s.modNode r p f).cfg = s.cfg := rfl
@[simp] theorem modNode_stage (s : State) (r p : Nat) (f : Node → Node) : (s.modNode r p f).stage = s.stage := rfl
@[simp] theorem modNode_ovl (s : State) (r p : Nat) (f : Node → Node) : (s.modNode r p f).ovl = s.ovl := rfl
@[simp] theorem modNode_sw (s : State) (r p : Nat) (f : Node → Node) : (s.modNode r p f).sw = s.sw := rfl
@[simp] theorem modNode_cur (s : State) (r p : Nat) (f : Node → Node) : (s.modNode r p f).cur = s.cur := rfl
@[simp] theorem modNode_strCur (s : State) (r p : Nat) (f : Node → Node) : (s.modNode r p f).strCur = s.strCur := rfl
@[simp] theorem modNode_prot (s : State) (r p : Nat) (f : Node → Node) : (s.modNode r p f).prot = s.prot := rfl
@[simp] theorem modNode_th (s : State) (r p : Nat) (f : Node → Node) : (s.modNode r p f).th = s.th := rfl
@[simp] theorem modNode_est (s : State) (r p : Nat) (f : Node → Node) : (s.modNode r p f).est = s.est := rfl
@[simp] theorem modNode_lim (s : State) (r p : Nat) (f : Node → Node) : (s.modNode r p f).lim = s.lim := rfl
@[simp] theorem modNode_bal (s : State) (r p : Nat) (f : Node → Node) : (s.modNode r p f).bal = s.bal := rfl
@[simp] theorem modNode_hasp (s : State) (r p : Nat) (f : Node → Node) : (s.modNode r p f).hasp = s.hasp := rfl
@[simp] theorem modNode_lease (s : State) (r p : Nat) (f : Node → Node) : (s.modNode r p f).lease = s.lease := rfl
@[simp] theorem modNode_com (s : State) (r p : Nat) (f : Node → Node) : (s.modNode r p f).com = s.com := rfl
@[simp] theorem modNode_power (s : State) (r p : Nat) (f : Node → Node) : (s.modNode r p f).power = s.power := rfl
@[simp] theorem modNode_links (s : State) (r p : Nat) (f : Node → Node) : (s.modNode r p f).links = s.links := rfl
@[simp] theorem modNode_fifos (s : State) (r p : Nat) (f : Node → Node) : (s.modNode r p f).fifos = s.fifos := rfl
@[simp] theorem modNode_sleep (s : State) (r p : Nat) (f : Node → Node) : (s.modNode r p f).sleep = s.sleep := rfl
@[simp] theorem modNode_tap (s : State) (r p : Nat) (f : Node → Node) : (s.modNode r p f).tap = s.tap := rfl
@[simp] theorem modNode_balls (s : State) (r p : Nat) (f : Node → Node) : (s.modNode r p f).balls = s.balls := rfl
@[simp] theorem modNode_pick (s : State) (r p : Nat) (f : Node → Node) : (s.modNode r p f).pick = s.pick := rfl
@[simp] theorem modNode_nest (s : State) (r p : Nat) (f : Node → Node) : (s.modNode r p f).nest = s.nest := rfl
@[simp] theorem modNode_out (s : State) (r p : Nat) (f : Node → Node) : (s.modNode r p f).out = s.out := rfl
@[simp] theorem modNode_free (s : State) (r p : Nat) (f : Node → Node) : (s.modNode r p f).free = s.free := rfl

@[simp] theorem setPort_pending (s : State) (r : Nat) (e : Leaf) (p : Nat) (x : PortPos) : (s.setPort r e p x).pending = s.pending := rfl
@[simp] theorem setPort_time (s : State) (r : Nat) (e : Leaf) (p : Nat) (x : PortPos) : (s.setPort r e p x).time = s.time := rfl
@[simp] theorem setPort_aon (s : State) (r : Nat) (e : Leaf) (p : Nat) (x : PortPos) : (s.setPort r e p x).aon = s.aon := rfl
@[simp] theorem setPort_la (s : State) (r : Nat) (e : Leaf) (p : Nat) (x : PortPos) : (s.setPort r e p x).la = s.la := rfl
@[simp] theorem setPort_lb (s : State) (r : Nat) (e : Leaf) (p : Nat) (x : PortPos) : (s.setPort r e p x).lb = s.lb := rfl
@[simp] theorem setPort_kn (s : State) (r : Nat) (e : Leaf) (p : Nat) (x : PortPos) : (s.setPort r e p x).kn = s.kn := rfl
@[simp] theorem setPort_lg (s : State) (r : Nat) (e : Leaf) (p : Nat) (x : PortPos) : (s.setPort r e p x).lg = s.lg := rfl
@[simp] theorem setPort_cfg (s : State) (r : Nat) (e : Leaf) (p : Nat) (x : PortPos) : (s.setPort r e p x).cfg = s.cfg := rfl
@[simp] theorem setPort_stage (s : State) (r : Nat) (e : Leaf) (p : Nat) (x : PortPos) : (s.setPort r e p x).stage = s.stage := rfl
@[simp] theorem setPort_ovl (s : State) (r : Nat) (e : Leaf) (p : Nat) (x : PortPos) : (s.setPort r e p x).ovl = s.ovl := rfl
@[simp] theorem setPort_sw (s : State) (r : Nat) (e : Leaf) (p : Nat) (x : PortPos) : (s.setPort r e p x).sw = s.sw := rfl
@[simp] theorem setPort_cur (s : State) (r : Nat) (e : Leaf) (p : Nat) (x : PortPos) : (s.setPort r e p x).cur = s.cur := rfl
@[simp] theorem setPort_strCur (s : State) (r : Nat) (e : Leaf) (p : Nat) (x : PortPos) : (s.setPort r e p x).strCur = s.strCur := rfl
@[simp] theorem setPort_prot (s : State) (r : Nat) (e : Leaf) (p : Nat) (x : PortPos) : (s.setPort r e p x).prot = s.prot := rfl
@[simp] theorem setPort_th (s : State) (r : Nat) (e : Leaf) (p : Nat) (x : PortPos) : (s.setPort r e p x).th = s.th := rfl
@[simp] theorem setPort_est (s : State) (r : Nat) (e : Leaf) (p : Nat) (x : PortPos) : (s.setPort r e p x).est = s.est := rfl
@[simp] theorem setPort_lim (s : State) (r : Nat) (e : Leaf) (p : Nat) (x : PortPos) : (s.setPort r e p x).lim = s.lim := rfl
@[simp] theorem setPort_bal (s : State) (r : Nat) (e : Leaf) (p : Nat) (x : PortPos) : (s.setPort r e p x).bal = s.bal := rfl
@[simp] theorem setPort_hasp (s : State) (r : Nat) (e : Leaf) (p : Nat) (x : PortPos) : (s.setPort r e p x).hasp = s.hasp := rfl
@[simp] theorem setPort_lease (s : State) (r : Nat) (e : Leaf) (p : Nat) (x : PortPos) : (s.setPort r e p x).lease = s.lease := rfl
@[simp] theorem setPort_com (s : State) (r : Nat) (e : Leaf) (p : Nat) (x : PortPos) : (s.setPort r e p x).com = s.com := rfl
@[simp] theorem setPort_power (s : State) (r : Nat) (e : Leaf) (p : Nat) (x : PortPos) : (s.setPort r e p x).power = s.power := rfl
@[simp] theorem setPort_links (s : State) (r : Nat) (e : Leaf) (p : Nat) (x : PortPos) : (s.setPort r e p x).links = s.links := rfl
@[simp] theorem setPort_fifos (s : State) (r : Nat) (e : Leaf) (p : Nat) (x : PortPos) : (s.setPort r e p x).fifos = s.fifos := rfl
@[simp] theorem setPort_sleep (s : State) (r : Nat) (e : Leaf) (p : Nat) (x : PortPos) : (s.setPort r e p x).sleep = s.sleep := rfl
@[simp] theorem setPort_tap (s : State) (r : Nat) (e : Leaf) (p : Nat) (x : PortPos) : (s.setPort r e p x).tap = s.tap := rfl
@[simp] theorem setPort_balls (s : State) (r : Nat) (e : Leaf) (p : Nat) (x : PortPos) : (s.setPort r e p x).balls = s.balls := rfl
@[simp] theorem setPort_pick (s : State) (r : Nat) (e : Leaf) (p : Nat) (x : PortPos) : (s.setPort r e p x).pick = s.pick := rfl
@[simp] theorem setPort_nest (s : State) (r : Nat) (e : Leaf) (p : Nat) (x : PortPos) : (s.setPort r e p x).nest = s.nest := rfl
@[simp] theorem setPort_out (s : State) (r : Nat) (e : Leaf) (p : Nat) (x : PortPos) : (s.setPort r e p x).out = s.out := rfl
@[simp] theorem setPort_free (s : State) (r : Nat) (e : Leaf) (p : Nat) (x : PortPos) : (s.setPort r e p x).free = s.free := rfl

@[simp] theorem setChan_pending (s : State) (k : Nat) (x : Chan) : (s.setChan k x).pending = s.pending := rfl
@[simp] theorem setChan_time (s : State) (k : Nat) (x : Chan) : (s.setChan k x).time = s.time := rfl
@[simp] theorem setChan_aon (s : State) (k : Nat) (x : Chan) : (s.setChan k x).aon = s.aon := rfl
@[simp] theorem setChan_la (s : State) (k : Nat) (x : Chan) : (s.setChan k x).la = s.la := rfl
@[simp] theorem setChan_lb (s : State) (k : Nat) (x : Chan) : (s.setChan k x).lb = s.lb := rfl
@[simp] theorem setChan_kn (s : State) (k : Nat) (x : Chan) : (s.setChan k x).kn = s.kn := rfl
@[simp] theorem setChan_lg (s : State) (k : Nat) (x : Chan) : (s.setChan k x).lg = s.lg := rfl
@[simp] theorem setChan_cfg (s : State) (k : Nat) (x : Chan) : (s.setChan k x).cfg = s.cfg := rfl
@[simp] theorem setChan_stage (s : State) (k : Nat) (x : Chan) : (s.setChan k x).stage = s.stage := rfl
@[simp] theorem setChan_ovl (s : State) (k : Nat) (x : Chan) : (s.setChan k x).ovl = s.ovl := rfl
@[simp] theorem setChan_ch (s : State) (k : Nat) (x : Chan) : (s.setChan k x).ch = s.ch := rfl
@[simp] theorem setChan_sw (s : State) (k : Nat) (x : Chan) : (s.setChan k x).sw = s.sw := rfl
@[simp] theorem setChan_cur (s : State) (k : Nat) (x : Chan) : (s.setChan k x).cur = s.cur := rfl
@[simp] theorem setChan_strCur (s : State) (k : Nat) (x : Chan) : (s.setChan k x).strCur = s.strCur := rfl
@[simp] theorem setChan_prot (s : State) (k : Nat) (x : Chan) : (s.setChan k x).prot = s.prot := rfl
@[simp] theorem setChan_th (s : State) (k : Nat) (x : Chan) : (s.setChan k x).th = s.th := rfl
@[simp] theorem setChan_est (s : State) (k : Nat) (x : Chan) : (s.setChan k x).est = s.est := rfl
@[simp] theorem setChan_lim (s : State) (k : Nat) (x : Chan) : (s.setChan k x).lim = s.lim := rfl
@[simp] theorem setChan_bal (s : State) (k : Nat) (x : Chan) : (s.setChan k x).bal = s.bal := rfl
@[simp] theorem setChan_hasp (s : State) (k : Nat) (x : Chan) : (s.setChan k x).hasp = s.hasp := rfl
@[simp] theorem setChan_lease (s : State) (k : Nat) (x : Chan) : (s.setChan k x).lease = s.lease := rfl
@[simp] theorem setChan_com (s : State) (k : Nat) (x : Chan) : (s.setChan k x).com = s.com := rfl
@[simp] theorem setChan_links (s : State) (k : Nat) (x : Chan) : (s.setChan k x).links = s.links := rfl
@[simp] theorem setChan_fifos (s : State) (k : Nat) (x : Chan) : (s.setChan k x).fifos = s.fifos := rfl
@[simp] theorem setChan_sleep (s : State) (k : Nat) (x : Chan) : (s.setChan k x).sleep = s.sleep := rfl
@[simp] theorem setChan_tap (s : State) (k : Nat) (x : Chan) : (s.setChan k x).tap = s.tap := rfl
@[simp] theorem setChan_balls (s : State) (k : Nat) (x : Chan) : (s.setChan k x).balls = s.balls := rfl
@[simp] theorem setChan_pick (s : State) (k : Nat) (x : Chan) : (s.setChan k x).pick = s.pick := rfl
@[simp] theorem setChan_nest (s : State) (k : Nat) (x : Chan) : (s.setChan k x).nest = s.nest := rfl
@[simp] theorem setChan_out (s : State) (k : Nat) (x : Chan) : (s.setChan k x).out = s.out := rfl
@[simp] theorem setChan_free (s : State) (k : Nat) (x : Chan) : (s.setChan k x).free = s.free := rfl

@[simp] theorem setBank_pending (s : State) (k : Nat) (x : Bank) : (s.setBank k x).pending = s.pending := rfl
@[simp] theorem setBank_time (s : State) (k : Nat) (x : Bank) : (s.setBank k x).time = s.time := rfl
@[simp] theorem setBank_aon (s : State) (k : Nat) (x : Bank) : (s.setBank k x).aon = s.aon := rfl
@[simp] theorem setBank_la (s : State) (k : Nat) (x : Bank) : (s.setBank k x).la = s.la := rfl
@[simp] theorem setBank_lb (s : State) (k : Nat) (x : Bank) : (s.setBank k x).lb = s.lb := rfl
@[simp] theorem setBank_kn (s : State) (k : Nat) (x : Bank) : (s.setBank k x).kn = s.kn := rfl
@[simp] theorem setBank_lg (s : State) (k : Nat) (x : Bank) : (s.setBank k x).lg = s.lg := rfl
@[simp] theorem setBank_cfg (s : State) (k : Nat) (x : Bank) : (s.setBank k x).cfg = s.cfg := rfl
@[simp] theorem setBank_stage (s : State) (k : Nat) (x : Bank) : (s.setBank k x).stage = s.stage := rfl
@[simp] theorem setBank_ovl (s : State) (k : Nat) (x : Bank) : (s.setBank k x).ovl = s.ovl := rfl
@[simp] theorem setBank_ch (s : State) (k : Nat) (x : Bank) : (s.setBank k x).ch = s.ch := rfl
@[simp] theorem setBank_sw (s : State) (k : Nat) (x : Bank) : (s.setBank k x).sw = s.sw := rfl
@[simp] theorem setBank_cur (s : State) (k : Nat) (x : Bank) : (s.setBank k x).cur = s.cur := rfl
@[simp] theorem setBank_strCur (s : State) (k : Nat) (x : Bank) : (s.setBank k x).strCur = s.strCur := rfl
@[simp] theorem setBank_prot (s : State) (k : Nat) (x : Bank) : (s.setBank k x).prot = s.prot := rfl
@[simp] theorem setBank_th (s : State) (k : Nat) (x : Bank) : (s.setBank k x).th = s.th := rfl
@[simp] theorem setBank_est (s : State) (k : Nat) (x : Bank) : (s.setBank k x).est = s.est := rfl
@[simp] theorem setBank_lim (s : State) (k : Nat) (x : Bank) : (s.setBank k x).lim = s.lim := rfl
@[simp] theorem setBank_bal (s : State) (k : Nat) (x : Bank) : (s.setBank k x).bal = s.bal := rfl
@[simp] theorem setBank_hasp (s : State) (k : Nat) (x : Bank) : (s.setBank k x).hasp = s.hasp := rfl
@[simp] theorem setBank_lease (s : State) (k : Nat) (x : Bank) : (s.setBank k x).lease = s.lease := rfl
@[simp] theorem setBank_com (s : State) (k : Nat) (x : Bank) : (s.setBank k x).com = s.com := rfl
@[simp] theorem setBank_links (s : State) (k : Nat) (x : Bank) : (s.setBank k x).links = s.links := rfl
@[simp] theorem setBank_fifos (s : State) (k : Nat) (x : Bank) : (s.setBank k x).fifos = s.fifos := rfl
@[simp] theorem setBank_sleep (s : State) (k : Nat) (x : Bank) : (s.setBank k x).sleep = s.sleep := rfl
@[simp] theorem setBank_tap (s : State) (k : Nat) (x : Bank) : (s.setBank k x).tap = s.tap := rfl
@[simp] theorem setBank_balls (s : State) (k : Nat) (x : Bank) : (s.setBank k x).balls = s.balls := rfl
@[simp] theorem setBank_pick (s : State) (k : Nat) (x : Bank) : (s.setBank k x).pick = s.pick := rfl
@[simp] theorem setBank_nest (s : State) (k : Nat) (x : Bank) : (s.setBank k x).nest = s.nest := rfl
@[simp] theorem setBank_out (s : State) (k : Nat) (x : Bank) : (s.setBank k x).out = s.out := rfl
@[simp] theorem setBank_free (s : State) (k : Nat) (x : Bank) : (s.setBank k x).free = s.free := rfl

@[simp] theorem setSess_pending (s : State) (k : Nat) (x : Sess) : (s.setSess k x).pending = s.pending := rfl
@[simp] theorem setSess_time (s : State) (k : Nat) (x : Sess) : (s.setSess k x).time = s.time := rfl
@[simp] theorem setSess_aon (s : State) (k : Nat) (x : Sess) : (s.setSess k x).aon = s.aon := rfl
@[simp] theorem setSess_la (s : State) (k : Nat) (x : Sess) : (s.setSess k x).la = s.la := rfl
@[simp] theorem setSess_lb (s : State) (k : Nat) (x : Sess) : (s.setSess k x).lb = s.lb := rfl
@[simp] theorem setSess_kn (s : State) (k : Nat) (x : Sess) : (s.setSess k x).kn = s.kn := rfl
@[simp] theorem setSess_lg (s : State) (k : Nat) (x : Sess) : (s.setSess k x).lg = s.lg := rfl
@[simp] theorem setSess_cfg (s : State) (k : Nat) (x : Sess) : (s.setSess k x).cfg = s.cfg := rfl
@[simp] theorem setSess_stage (s : State) (k : Nat) (x : Sess) : (s.setSess k x).stage = s.stage := rfl
@[simp] theorem setSess_ovl (s : State) (k : Nat) (x : Sess) : (s.setSess k x).ovl = s.ovl := rfl
@[simp] theorem setSess_ch (s : State) (k : Nat) (x : Sess) : (s.setSess k x).ch = s.ch := rfl
@[simp] theorem setSess_sw (s : State) (k : Nat) (x : Sess) : (s.setSess k x).sw = s.sw := rfl
@[simp] theorem setSess_cur (s : State) (k : Nat) (x : Sess) : (s.setSess k x).cur = s.cur := rfl
@[simp] theorem setSess_strCur (s : State) (k : Nat) (x : Sess) : (s.setSess k x).strCur = s.strCur := rfl
@[simp] theorem setSess_prot (s : State) (k : Nat) (x : Sess) : (s.setSess k x).prot = s.prot := rfl
@[simp] theorem setSess_th (s : State) (k : Nat) (x : Sess) : (s.setSess k x).th = s.th := rfl
@[simp] theorem setSess_est (s : State) (k : Nat) (x : Sess) : (s.setSess k x).est = s.est := rfl
@[simp] theorem setSess_lim (s : State) (k : Nat) (x : Sess) : (s.setSess k x).lim = s.lim := rfl
@[simp] theorem setSess_bal (s : State) (k : Nat) (x : Sess) : (s.setSess k x).bal = s.bal := rfl
@[simp] theorem setSess_hasp (s : State) (k : Nat) (x : Sess) : (s.setSess k x).hasp = s.hasp := rfl
@[simp] theorem setSess_lease (s : State) (k : Nat) (x : Sess) : (s.setSess k x).lease = s.lease := rfl
@[simp] theorem setSess_com (s : State) (k : Nat) (x : Sess) : (s.setSess k x).com = s.com := rfl
@[simp] theorem setSess_power (s : State) (k : Nat) (x : Sess) : (s.setSess k x).power = s.power := rfl
@[simp] theorem setSess_fifos (s : State) (k : Nat) (x : Sess) : (s.setSess k x).fifos = s.fifos := rfl
@[simp] theorem setSess_sleep (s : State) (k : Nat) (x : Sess) : (s.setSess k x).sleep = s.sleep := rfl
@[simp] theorem setSess_tap (s : State) (k : Nat) (x : Sess) : (s.setSess k x).tap = s.tap := rfl
@[simp] theorem setSess_balls (s : State) (k : Nat) (x : Sess) : (s.setSess k x).balls = s.balls := rfl
@[simp] theorem setSess_pick (s : State) (k : Nat) (x : Sess) : (s.setSess k x).pick = s.pick := rfl
@[simp] theorem setSess_nest (s : State) (k : Nat) (x : Sess) : (s.setSess k x).nest = s.nest := rfl
@[simp] theorem setSess_out (s : State) (k : Nat) (x : Sess) : (s.setSess k x).out = s.out := rfl
@[simp] theorem setSess_free (s : State) (k : Nat) (x : Sess) : (s.setSess k x).free = s.free := rfl

@[simp] theorem modSess_pending (s : State) (k : Nat) (f : Sess → Sess) : (s.modSess k f).pending = s.pending := rfl
@[simp] theorem modSess_time (s : State) (k : Nat) (f : Sess → Sess) : (s.modSess k f).time = s.time := rfl
@[simp] theorem modSess_aon (s : State) (k : Nat) (f : Sess → Sess) : (s.modSess k f).aon = s.aon := rfl
@[simp] theorem modSess_la (s : State) (k : Nat) (f : Sess → Sess) : (s.modSess k f).la = s.la := rfl
@[simp] theorem modSess_lb (s : State) (k : Nat) (f : Sess → Sess) : (s.modSess k f).lb = s.lb := rfl
@[simp] theorem modSess_kn (s : State) (k : Nat) (f : Sess → Sess) : (s.modSess k f).kn = s.kn := rfl
@[simp] theorem modSess_lg (s : State) (k : Nat) (f : Sess → Sess) : (s.modSess k f).lg = s.lg := rfl
@[simp] theorem modSess_cfg (s : State) (k : Nat) (f : Sess → Sess) : (s.modSess k f).cfg = s.cfg := rfl
@[simp] theorem modSess_stage (s : State) (k : Nat) (f : Sess → Sess) : (s.modSess k f).stage = s.stage := rfl
@[simp] theorem modSess_ovl (s : State) (k : Nat) (f : Sess → Sess) : (s.modSess k f).ovl = s.ovl := rfl
@[simp] theorem modSess_ch (s : State) (k : Nat) (f : Sess → Sess) : (s.modSess k f).ch = s.ch := rfl
@[simp] theorem modSess_sw (s : State) (k : Nat) (f : Sess → Sess) : (s.modSess k f).sw = s.sw := rfl
@[simp] theorem modSess_cur (s : State) (k : Nat) (f : Sess → Sess) : (s.modSess k f).cur = s.cur := rfl
@[simp] theorem modSess_strCur (s : State) (k : Nat) (f : Sess → Sess) : (s.modSess k f).strCur = s.strCur := rfl
@[simp] theorem modSess_prot (s : State) (k : Nat) (f : Sess → Sess) : (s.modSess k f).prot = s.prot := rfl
@[simp] theorem modSess_th (s : State) (k : Nat) (f : Sess → Sess) : (s.modSess k f).th = s.th := rfl
@[simp] theorem modSess_est (s : State) (k : Nat) (f : Sess → Sess) : (s.modSess k f).est = s.est := rfl
@[simp] theorem modSess_lim (s : State) (k : Nat) (f : Sess → Sess) : (s.modSess k f).lim = s.lim := rfl
@[simp] theorem modSess_bal (s : State) (k : Nat) (f : Sess → Sess) : (s.modSess k f).bal = s.bal := rfl
@[simp] theorem modSess_hasp (s : State) (k : Nat) (f : Sess → Sess) : (s.modSess k f).hasp = s.hasp := rfl
@[simp] theorem modSess_lease (s : State) (k : Nat) (f : Sess → Sess) : (s.modSess k f).lease = s.lease := rfl
@[simp] theorem modSess_com (s : State) (k : Nat) (f : Sess → Sess) : (s.modSess k f).com = s.com := rfl
@[simp] theorem modSess_power (s : State) (k : Nat) (f : Sess → Sess) : (s.modSess k f).power = s.power := rfl
@[simp] theorem modSess_fifos (s : State) (k : Nat) (f : Sess → Sess) : (s.modSess k f).fifos = s.fifos := rfl
@[simp] theorem modSess_sleep (s : State) (k : Nat) (f : Sess → Sess) : (s.modSess k f).sleep = s.sleep := rfl
@[simp] theorem modSess_tap (s : State) (k : Nat) (f : Sess → Sess) : (s.modSess k f).tap = s.tap := rfl
@[simp] theorem modSess_balls (s : State) (k : Nat) (f : Sess → Sess) : (s.modSess k f).balls = s.balls := rfl
@[simp] theorem modSess_pick (s : State) (k : Nat) (f : Sess → Sess) : (s.modSess k f).pick = s.pick := rfl
@[simp] theorem modSess_nest (s : State) (k : Nat) (f : Sess → Sess) : (s.modSess k f).nest = s.nest := rfl
@[simp] theorem modSess_out (s : State) (k : Nat) (f : Sess → Sess) : (s.modSess k f).out = s.out := rfl
@[simp] theorem modSess_free (s : State) (k : Nat) (f : Sess → Sess) : (s.modSess k f).free = s.free := rfl

@[simp] theorem setFifo_pending (s : State) (k : Nat) (x : Fifo) : (s.setFifo k x).pending = s.pending := rfl
@[simp] theorem setFifo_time (s : State) (k : Nat) (x : Fifo) : (s.setFifo k x).time = s.time := rfl
@[simp] theorem setFifo_aon (s : State) (k : Nat) (x : Fifo) : (s.setFifo k x).aon = s.aon := rfl
@[simp] theorem setFifo_la (s : State) (k : Nat) (x : Fifo) : (s.setFifo k x).la = s.la := rfl
@[simp] theorem setFifo_lb (s : State) (k : Nat) (x : Fifo) : (s.setFifo k x).lb = s.lb := rfl
@[simp] theorem setFifo_kn (s : State) (k : Nat) (x : Fifo) : (s.setFifo k x).kn = s.kn := rfl
@[simp] theorem setFifo_lg (s : State) (k : Nat) (x : Fifo) : (s.setFifo k x).lg = s.lg := rfl
@[simp] theorem setFifo_cfg (s : State) (k : Nat) (x : Fifo) : (s.setFifo k x).cfg = s.cfg := rfl
@[simp] theorem setFifo_stage (s : State) (k : Nat) (x : Fifo) : (s.setFifo k x).stage = s.stage := rfl
@[simp] theorem setFifo_ovl (s : State) (k : Nat) (x : Fifo) : (s.setFifo k x).ovl = s.ovl := rfl
@[simp] theorem setFifo_ch (s : State) (k : Nat) (x : Fifo) : (s.setFifo k x).ch = s.ch := rfl
@[simp] theorem setFifo_sw (s : State) (k : Nat) (x : Fifo) : (s.setFifo k x).sw = s.sw := rfl
@[simp] theorem setFifo_cur (s : State) (k : Nat) (x : Fifo) : (s.setFifo k x).cur = s.cur := rfl
@[simp] theorem setFifo_strCur (s : State) (k : Nat) (x : Fifo) : (s.setFifo k x).strCur = s.strCur := rfl
@[simp] theorem setFifo_prot (s : State) (k : Nat) (x : Fifo) : (s.setFifo k x).prot = s.prot := rfl
@[simp] theorem setFifo_th (s : State) (k : Nat) (x : Fifo) : (s.setFifo k x).th = s.th := rfl
@[simp] theorem setFifo_est (s : State) (k : Nat) (x : Fifo) : (s.setFifo k x).est = s.est := rfl
@[simp] theorem setFifo_lim (s : State) (k : Nat) (x : Fifo) : (s.setFifo k x).lim = s.lim := rfl
@[simp] theorem setFifo_bal (s : State) (k : Nat) (x : Fifo) : (s.setFifo k x).bal = s.bal := rfl
@[simp] theorem setFifo_hasp (s : State) (k : Nat) (x : Fifo) : (s.setFifo k x).hasp = s.hasp := rfl
@[simp] theorem setFifo_lease (s : State) (k : Nat) (x : Fifo) : (s.setFifo k x).lease = s.lease := rfl
@[simp] theorem setFifo_com (s : State) (k : Nat) (x : Fifo) : (s.setFifo k x).com = s.com := rfl
@[simp] theorem setFifo_power (s : State) (k : Nat) (x : Fifo) : (s.setFifo k x).power = s.power := rfl
@[simp] theorem setFifo_links (s : State) (k : Nat) (x : Fifo) : (s.setFifo k x).links = s.links := rfl
@[simp] theorem setFifo_sleep (s : State) (k : Nat) (x : Fifo) : (s.setFifo k x).sleep = s.sleep := rfl
@[simp] theorem setFifo_tap (s : State) (k : Nat) (x : Fifo) : (s.setFifo k x).tap = s.tap := rfl
@[simp] theorem setFifo_balls (s : State) (k : Nat) (x : Fifo) : (s.setFifo k x).balls = s.balls := rfl
@[simp] theorem setFifo_pick (s : State) (k : Nat) (x : Fifo) : (s.setFifo k x).pick = s.pick := rfl
@[simp] theorem setFifo_nest (s : State) (k : Nat) (x : Fifo) : (s.setFifo k x).nest = s.nest := rfl
@[simp] theorem setFifo_out (s : State) (k : Nat) (x : Fifo) : (s.setFifo k x).out = s.out := rfl
@[simp] theorem setFifo_free (s : State) (k : Nat) (x : Fifo) : (s.setFifo k x).free = s.free := rfl

@[simp] theorem setHs_pending (s : State) (i : Nat) (x : HaspStr) : (s.setHs i x).pending = s.pending := rfl
@[simp] theorem setHs_time (s : State) (i : Nat) (x : HaspStr) : (s.setHs i x).time = s.time := rfl
@[simp] theorem setHs_aon (s : State) (i : Nat) (x : HaspStr) : (s.setHs i x).aon = s.aon := rfl
@[simp] theorem setHs_la (s : State) (i : Nat) (x : HaspStr) : (s.setHs i x).la = s.la := rfl
@[simp] theorem setHs_lb (s : State) (i : Nat) (x : HaspStr) : (s.setHs i x).lb = s.lb := rfl
@[simp] theorem setHs_kn (s : State) (i : Nat) (x : HaspStr) : (s.setHs i x).kn = s.kn := rfl
@[simp] theorem setHs_lg (s : State) (i : Nat) (x : HaspStr) : (s.setHs i x).lg = s.lg := rfl
@[simp] theorem setHs_cfg (s : State) (i : Nat) (x : HaspStr) : (s.setHs i x).cfg = s.cfg := rfl
@[simp] theorem setHs_stage (s : State) (i : Nat) (x : HaspStr) : (s.setHs i x).stage = s.stage := rfl
@[simp] theorem setHs_ovl (s : State) (i : Nat) (x : HaspStr) : (s.setHs i x).ovl = s.ovl := rfl
@[simp] theorem setHs_ch (s : State) (i : Nat) (x : HaspStr) : (s.setHs i x).ch = s.ch := rfl
@[simp] theorem setHs_sw (s : State) (i : Nat) (x : HaspStr) : (s.setHs i x).sw = s.sw := rfl
@[simp] theorem setHs_cur (s : State) (i : Nat) (x : HaspStr) : (s.setHs i x).cur = s.cur := rfl
@[simp] theorem setHs_strCur (s : State) (i : Nat) (x : HaspStr) : (s.setHs i x).strCur = s.strCur := rfl
@[simp] theorem setHs_prot (s : State) (i : Nat) (x : HaspStr) : (s.setHs i x).prot = s.prot := rfl
@[simp] theorem setHs_th (s : State) (i : Nat) (x : HaspStr) : (s.setHs i x).th = s.th := rfl
@[simp] theorem setHs_est (s : State) (i : Nat) (x : HaspStr) : (s.setHs i x).est = s.est := rfl
@[simp] theorem setHs_lim (s : State) (i : Nat) (x : HaspStr) : (s.setHs i x).lim = s.lim := rfl
@[simp] theorem setHs_bal (s : State) (i : Nat) (x : HaspStr) : (s.setHs i x).bal = s.bal := rfl
@[simp] theorem setHs_lease (s : State) (i : Nat) (x : HaspStr) : (s.setHs i x).lease = s.lease := rfl
@[simp] theorem setHs_com (s : State) (i : Nat) (x : HaspStr) : (s.setHs i x).com = s.com := rfl
@[simp] theorem setHs_power (s : State) (i : Nat) (x : HaspStr) : (s.setHs i x).power = s.power := rfl
@[simp] theorem setHs_links (s : State) (i : Nat) (x : HaspStr) : (s.setHs i x).links = s.links := rfl
@[simp] theorem setHs_fifos (s : State) (i : Nat) (x : HaspStr) : (s.setHs i x).fifos = s.fifos := rfl
@[simp] theorem setHs_sleep (s : State) (i : Nat) (x : HaspStr) : (s.setHs i x).sleep = s.sleep := rfl
@[simp] theorem setHs_tap (s : State) (i : Nat) (x : HaspStr) : (s.setHs i x).tap = s.tap := rfl
@[simp] theorem setHs_balls (s : State) (i : Nat) (x : HaspStr) : (s.setHs i x).balls = s.balls := rfl
@[simp] theorem setHs_pick (s : State) (i : Nat) (x : HaspStr) : (s.setHs i x).pick = s.pick := rfl
@[simp] theorem setHs_nest (s : State) (i : Nat) (x : HaspStr) : (s.setHs i x).nest = s.nest := rfl
@[simp] theorem setHs_out (s : State) (i : Nat) (x : HaspStr) : (s.setHs i x).out = s.out := rfl
@[simp] theorem setHs_free (s : State) (i : Nat) (x : HaspStr) : (s.setHs i x).free = s.free := rfl

@[simp] theorem modHs_pending (s : State) (i : Nat) (f : HaspStr → HaspStr) : (s.modHs i f).pending = s.pending := rfl
@[simp] theorem modHs_time (s : State) (i : Nat) (f : HaspStr → HaspStr) : (s.modHs i f).time = s.time := rfl
@[simp] theorem modHs_aon (s : State) (i : Nat) (f : HaspStr → HaspStr) : (s.modHs i f).aon = s.aon := rfl
@[simp] theorem modHs_la (s : State) (i : Nat) (f : HaspStr → HaspStr) : (s.modHs i f).la = s.la := rfl
@[simp] theorem modHs_lb (s : State) (i : Nat) (f : HaspStr → HaspStr) : (s.modHs i f).lb = s.lb := rfl
@[simp] theorem modHs_kn (s : State) (i : Nat) (f : HaspStr → HaspStr) : (s.modHs i f).kn = s.kn := rfl
@[simp] theorem modHs_lg (s : State) (i : Nat) (f : HaspStr → HaspStr) : (s.modHs i f).lg = s.lg := rfl
@[simp] theorem modHs_cfg (s : State) (i : Nat) (f : HaspStr → HaspStr) : (s.modHs i f).cfg = s.cfg := rfl
@[simp] theorem modHs_stage (s : State) (i : Nat) (f : HaspStr → HaspStr) : (s.modHs i f).stage = s.stage := rfl
@[simp] theorem modHs_ovl (s : State) (i : Nat) (f : HaspStr → HaspStr) : (s.modHs i f).ovl = s.ovl := rfl
@[simp] theorem modHs_ch (s : State) (i : Nat) (f : HaspStr → HaspStr) : (s.modHs i f).ch = s.ch := rfl
@[simp] theorem modHs_sw (s : State) (i : Nat) (f : HaspStr → HaspStr) : (s.modHs i f).sw = s.sw := rfl
@[simp] theorem modHs_cur (s : State) (i : Nat) (f : HaspStr → HaspStr) : (s.modHs i f).cur = s.cur := rfl
@[simp] theorem modHs_strCur (s : State) (i : Nat) (f : HaspStr → HaspStr) : (s.modHs i f).strCur = s.strCur := rfl
@[simp] theorem modHs_prot (s : State) (i : Nat) (f : HaspStr → HaspStr) : (s.modHs i f).prot = s.prot := rfl
@[simp] theorem modHs_th (s : State) (i : Nat) (f : HaspStr → HaspStr) : (s.modHs i f).th = s.th := rfl
@[simp] theorem modHs_est (s : State) (i : Nat) (f : HaspStr → HaspStr) : (s.modHs i f).est = s.est := rfl
@[simp] theorem modHs_lim (s : State) (i : Nat) (f : HaspStr → HaspStr) : (s.modHs i f).lim = s.lim := rfl
@[simp] theorem modHs_bal (s : State) (i : Nat) (f : HaspStr → HaspStr) : (s.modHs i f).bal = s.bal := rfl
@[simp] theorem modHs_lease (s : State) (i : Nat) (f : HaspStr → HaspStr) : (s.modHs i f).lease = s.lease := rfl
@[simp] theorem modHs_com (s : State) (i : Nat) (f : HaspStr → HaspStr) : (s.modHs i f).com = s.com := rfl
@[simp] theorem modHs_power (s : State) (i : Nat) (f : HaspStr → HaspStr) : (s.modHs i f).power = s.power := rfl
@[simp] theorem modHs_links (s : State) (i : Nat) (f : HaspStr → HaspStr) : (s.modHs i f).links = s.links := rfl
@[simp] theorem modHs_fifos (s : State) (i : Nat) (f : HaspStr → HaspStr) : (s.modHs i f).fifos = s.fifos := rfl
@[simp] theorem modHs_sleep (s : State) (i : Nat) (f : HaspStr → HaspStr) : (s.modHs i f).sleep = s.sleep := rfl
@[simp] theorem modHs_tap (s : State) (i : Nat) (f : HaspStr → HaspStr) : (s.modHs i f).tap = s.tap := rfl
@[simp] theorem modHs_balls (s : State) (i : Nat) (f : HaspStr → HaspStr) : (s.modHs i f).balls = s.balls := rfl
@[simp] theorem modHs_pick (s : State) (i : Nat) (f : HaspStr → HaspStr) : (s.modHs i f).pick = s.pick := rfl
@[simp] theorem modHs_nest (s : State) (i : Nat) (f : HaspStr → HaspStr) : (s.modHs i f).nest = s.nest := rfl
@[simp] theorem modHs_out (s : State) (i : Nat) (f : HaspStr → HaspStr) : (s.modHs i f).out = s.out := rfl
@[simp] theorem modHs_free (s : State) (i : Nat) (f : HaspStr → HaspStr) : (s.modHs i f).free = s.free := rfl

@[simp] theorem modSp_pending (s : State) (i : Nat) (f : StrProt → StrProt) : (s.modSp i f).pending = s.pending := rfl
@[simp] theorem modSp_time (s : State) (i : Nat) (f : StrProt → StrProt) : (s.modSp i f).time = s.time := rfl
@[simp] theorem modSp_aon (s : State) (i : Nat) (f : StrProt → StrProt) : (s.modSp i f).aon = s.aon := rfl
@[simp] theorem modSp_la (s : State) (i : Nat) (f : StrProt → StrProt) : (s.modSp i f).la = s.la := rfl
@[simp] theorem modSp_lb (s : State) (i : Nat) (f : StrProt → StrProt) : (s.modSp i f).lb = s.lb := rfl
@[simp] theorem modSp_kn (s : State) (i : Nat) (f : StrProt → StrProt) : (s.modSp i f).kn = s.kn := rfl
@[simp] theorem modSp_lg (s : State) (i : Nat) (f : StrProt → StrProt) : (s.modSp i f).lg = s.lg := rfl
@[simp] theorem modSp_cfg (s : State) (i : Nat) (f : StrProt → StrProt) : (s.modSp i f).cfg = s.cfg := rfl
@[simp] theorem modSp_stage (s : State) (i : Nat) (f : StrProt → StrProt) : (s.modSp i f).stage = s.stage := rfl
@[simp] theorem modSp_ovl (s : State) (i : Nat) (f : StrProt → StrProt) : (s.modSp i f).ovl = s.ovl := rfl
@[simp] theorem modSp_ch (s : State) (i : Nat) (f : StrProt → StrProt) : (s.modSp i f).ch = s.ch := rfl
@[simp] theorem modSp_sw (s : State) (i : Nat) (f : StrProt → StrProt) : (s.modSp i f).sw = s.sw := rfl
@[simp] theorem modSp_cur (s : State) (i : Nat) (f : StrProt → StrProt) : (s.modSp i f).cur = s.cur := rfl
@[simp] theorem modSp_strCur (s : State) (i : Nat) (f : StrProt → StrProt) : (s.modSp i f).strCur = s.strCur := rfl
@[simp] theorem modSp_th (s : State) (i : Nat) (f : StrProt → StrProt) : (s.modSp i f).th = s.th := rfl
@[simp] theorem modSp_est (s : State) (i : Nat) (f : StrProt → StrProt) : (s.modSp i f).est = s.est := rfl
@[simp] theorem modSp_lim (s : State) (i : Nat) (f : StrProt → StrProt) : (s.modSp i f).lim = s.lim := rfl
@[simp] theorem modSp_bal (s : State) (i : Nat) (f : StrProt → StrProt) : (s.modSp i f).bal = s.bal := rfl
@[simp] theorem modSp_hasp (s : State) (i : Nat) (f : StrProt → StrProt) : (s.modSp i f).hasp = s.hasp := rfl
@[simp] theorem modSp_lease (s : State) (i : Nat) (f : StrProt → StrProt) : (s.modSp i f).lease = s.lease := rfl
@[simp] theorem modSp_com (s : State) (i : Nat) (f : StrProt → StrProt) : (s.modSp i f).com = s.com := rfl
@[simp] theorem modSp_power (s : State) (i : Nat) (f : StrProt → StrProt) : (s.modSp i f).power = s.power := rfl
@[simp] theorem modSp_links (s : State) (i : Nat) (f : StrProt → StrProt) : (s.modSp i f).links = s.links := rfl
@[simp] theorem modSp_fifos (s : State) (i : Nat) (f : StrProt → StrProt) : (s.modSp i f).fifos = s.fifos := rfl
@[simp] theorem modSp_sleep (s : State) (i : Nat) (f : StrProt → StrProt) : (s.modSp i f).sleep = s.sleep := rfl
@[simp] theorem modSp_tap (s : State) (i : Nat) (f : StrProt → StrProt) : (s.modSp i f).tap = s.tap := rfl
@[simp] theorem modSp_balls (s : State) (i : Nat) (f : StrProt → StrProt) : (s.modSp i f).balls = s.balls := rfl
@[simp] theorem modSp_pick (s : State) (i : Nat) (f : StrProt → StrProt) : (s.modSp i f).pick = s.pick := rfl
@[simp] theorem modSp_nest (s : State) (i : Nat) (f : StrProt → StrProt) : (s.modSp i f).nest = s.nest := rfl
@[simp] theorem modSp_out (s : State) (i : Nat) (f : StrProt → StrProt) : (s.modSp i f).out = s.out := rfl
@[simp] theorem modSp_free (s : State) (i : Nat) (f : StrProt → StrProt) : (s.modSp i f).free = s.free := rfl

@[simp] theorem modCp_pending (s : State) (i : Nat) (f : CellProt → CellProt) : (s.modCp i f).pending = s.pending := rfl
@[simp] theorem modCp_time (s : State) (i : Nat) (f : CellProt → CellProt) : (s.modCp i f).time = s.time := rfl
@[simp] theorem modCp_aon (s : State) (i : Nat) (f : CellProt → CellProt) : (s.modCp i f).aon = s.aon := rfl
@[simp] theorem modCp_la (s : State) (i : Nat) (f : CellProt → CellProt) : (s.modCp i f).la = s.la := rfl
@[simp] theorem modCp_lb (s : State) (i : Nat) (f : CellProt → CellProt) : (s.modCp i f).lb = s.lb := rfl
@[simp] theorem modCp_kn (s : State) (i : Nat) (f : CellProt → CellProt) : (s.modCp i f).kn = s.kn := rfl
@[simp] theorem modCp_lg (s : State) (i : Nat) (f : CellProt → CellProt) : (s.modCp i f).lg = s.lg := rfl
@[simp] theorem modCp_cfg (s : State) (i : Nat) (f : CellProt → CellProt) : (s.modCp i f).cfg = s.cfg := rfl
@[simp] theorem modCp_stage (s : State) (i : Nat) (f : CellProt → CellProt) : (s.modCp i f).stage = s.stage := rfl
@[simp] theorem modCp_ovl (s : State) (i : Nat) (f : CellProt → CellProt) : (s.modCp i f).ovl = s.ovl := rfl
@[simp] theorem modCp_ch (s : State) (i : Nat) (f : CellProt → CellProt) : (s.modCp i f).ch = s.ch := rfl
@[simp] theorem modCp_sw (s : State) (i : Nat) (f : CellProt → CellProt) : (s.modCp i f).sw = s.sw := rfl
@[simp] theorem modCp_cur (s : State) (i : Nat) (f : CellProt → CellProt) : (s.modCp i f).cur = s.cur := rfl
@[simp] theorem modCp_strCur (s : State) (i : Nat) (f : CellProt → CellProt) : (s.modCp i f).strCur = s.strCur := rfl
@[simp] theorem modCp_th (s : State) (i : Nat) (f : CellProt → CellProt) : (s.modCp i f).th = s.th := rfl
@[simp] theorem modCp_est (s : State) (i : Nat) (f : CellProt → CellProt) : (s.modCp i f).est = s.est := rfl
@[simp] theorem modCp_lim (s : State) (i : Nat) (f : CellProt → CellProt) : (s.modCp i f).lim = s.lim := rfl
@[simp] theorem modCp_bal (s : State) (i : Nat) (f : CellProt → CellProt) : (s.modCp i f).bal = s.bal := rfl
@[simp] theorem modCp_hasp (s : State) (i : Nat) (f : CellProt → CellProt) : (s.modCp i f).hasp = s.hasp := rfl
@[simp] theorem modCp_lease (s : State) (i : Nat) (f : CellProt → CellProt) : (s.modCp i f).lease = s.lease := rfl
@[simp] theorem modCp_com (s : State) (i : Nat) (f : CellProt → CellProt) : (s.modCp i f).com = s.com := rfl
@[simp] theorem modCp_power (s : State) (i : Nat) (f : CellProt → CellProt) : (s.modCp i f).power = s.power := rfl
@[simp] theorem modCp_links (s : State) (i : Nat) (f : CellProt → CellProt) : (s.modCp i f).links = s.links := rfl
@[simp] theorem modCp_fifos (s : State) (i : Nat) (f : CellProt → CellProt) : (s.modCp i f).fifos = s.fifos := rfl
@[simp] theorem modCp_sleep (s : State) (i : Nat) (f : CellProt → CellProt) : (s.modCp i f).sleep = s.sleep := rfl
@[simp] theorem modCp_tap (s : State) (i : Nat) (f : CellProt → CellProt) : (s.modCp i f).tap = s.tap := rfl
@[simp] theorem modCp_balls (s : State) (i : Nat) (f : CellProt → CellProt) : (s.modCp i f).balls = s.balls := rfl
@[simp] theorem modCp_pick (s : State) (i : Nat) (f : CellProt → CellProt) : (s.modCp i f).pick = s.pick := rfl
@[simp] theorem modCp_nest (s : State) (i : Nat) (f : CellProt → CellProt) : (s.modCp i f).nest = s.nest := rfl
@[simp] theorem modCp_out (s : State) (i : Nat) (f : CellProt → CellProt) : (s.modCp i f).out = s.out := rfl
@[simp] theorem modCp_free (s : State) (i : Nat) (f : CellProt → CellProt) : (s.modCp i f).free = s.free := rfl

@[simp] theorem setMark_pending (s : State) (m : Nat) (x : Mark) : (s.setMark m x).pending = s.pending := rfl
@[simp] theorem setMark_time (s : State) (m : Nat) (x : Mark) : (s.setMark m x).time = s.time := rfl
@[simp] theorem setMark_aon (s : State) (m : Nat) (x : Mark) : (s.setMark m x).aon = s.aon := rfl
@[simp] theorem setMark_la (s : State) (m : Nat) (x : Mark) : (s.setMark m x).la = s.la := rfl
@[simp] theorem setMark_lb (s : State) (m : Nat) (x : Mark) : (s.setMark m x).lb = s.lb := rfl
@[simp] theorem setMark_kn (s : State) (m : Nat) (x : Mark) : (s.setMark m x).kn = s.kn := rfl
@[simp] theorem setMark_cfg (s : State) (m : Nat) (x : Mark) : (s.setMark m x).cfg = s.cfg := rfl
@[simp] theorem setMark_stage (s : State) (m : Nat) (x : Mark) : (s.setMark m x).stage = s.stage := rfl
@[simp] theorem setMark_ovl (s : State) (m : Nat) (x : Mark) : (s.setMark m x).ovl = s.ovl := rfl
@[simp] theorem setMark_ch (s : State) (m : Nat) (x : Mark) : (s.setMark m x).ch = s.ch := rfl
@[simp] theorem setMark_sw (s : State) (m : Nat) (x : Mark) : (s.setMark m x).sw = s.sw := rfl
@[simp] theorem setMark_cur (s : State) (m : Nat) (x : Mark) : (s.setMark m x).cur = s.cur := rfl
@[simp] theorem setMark_strCur (s : State) (m : Nat) (x : Mark) : (s.setMark m x).strCur = s.strCur := rfl
@[simp] theorem setMark_prot (s : State) (m : Nat) (x : Mark) : (s.setMark m x).prot = s.prot := rfl
@[simp] theorem setMark_th (s : State) (m : Nat) (x : Mark) : (s.setMark m x).th = s.th := rfl
@[simp] theorem setMark_est (s : State) (m : Nat) (x : Mark) : (s.setMark m x).est = s.est := rfl
@[simp] theorem setMark_lim (s : State) (m : Nat) (x : Mark) : (s.setMark m x).lim = s.lim := rfl
@[simp] theorem setMark_bal (s : State) (m : Nat) (x : Mark) : (s.setMark m x).bal = s.bal := rfl
@[simp] theorem setMark_hasp (s : State) (m : Nat) (x : Mark) : (s.setMark m x).hasp = s.hasp := rfl
@[simp] theorem setMark_lease (s : State) (m : Nat) (x : Mark) : (s.setMark m x).lease = s.lease := rfl
@[simp] theorem setMark_com (s : State) (m : Nat) (x : Mark) : (s.setMark m x).com = s.com := rfl
@[simp] theorem setMark_power (s : State) (m : Nat) (x : Mark) : (s.setMark m x).power = s.power := rfl
@[simp] theorem setMark_links (s : State) (m : Nat) (x : Mark) : (s.setMark m x).links = s.links := rfl
@[simp] theorem setMark_fifos (s : State) (m : Nat) (x : Mark) : (s.setMark m x).fifos = s.fifos := rfl
@[simp] theorem setMark_sleep (s : State) (m : Nat) (x : Mark) : (s.setMark m x).sleep = s.sleep := rfl
@[simp] theorem setMark_tap (s : State) (m : Nat) (x : Mark) : (s.setMark m x).tap = s.tap := rfl
@[simp] theorem setMark_balls (s : State) (m : Nat) (x : Mark) : (s.setMark m x).balls = s.balls := rfl
@[simp] theorem setMark_pick (s : State) (m : Nat) (x : Mark) : (s.setMark m x).pick = s.pick := rfl
@[simp] theorem setMark_nest (s : State) (m : Nat) (x : Mark) : (s.setMark m x).nest = s.nest := rfl
@[simp] theorem setMark_out (s : State) (m : Nat) (x : Mark) : (s.setMark m x).out = s.out := rfl
@[simp] theorem setMark_free (s : State) (m : Nat) (x : Mark) : (s.setMark m x).free = s.free := rfl

@[simp] theorem setKid_pending (s : State) (c : Nat) (x : Child) : (s.setKid c x).pending = s.pending := rfl
@[simp] theorem setKid_time (s : State) (c : Nat) (x : Child) : (s.setKid c x).time = s.time := rfl
@[simp] theorem setKid_aon (s : State) (c : Nat) (x : Child) : (s.setKid c x).aon = s.aon := rfl
@[simp] theorem setKid_la (s : State) (c : Nat) (x : Child) : (s.setKid c x).la = s.la := rfl
@[simp] theorem setKid_lb (s : State) (c : Nat) (x : Child) : (s.setKid c x).lb = s.lb := rfl
@[simp] theorem setKid_kn (s : State) (c : Nat) (x : Child) : (s.setKid c x).kn = s.kn := rfl
@[simp] theorem setKid_lg (s : State) (c : Nat) (x : Child) : (s.setKid c x).lg = s.lg := rfl
@[simp] theorem setKid_cfg (s : State) (c : Nat) (x : Child) : (s.setKid c x).cfg = s.cfg := rfl
@[simp] theorem setKid_stage (s : State) (c : Nat) (x : Child) : (s.setKid c x).stage = s.stage := rfl
@[simp] theorem setKid_ovl (s : State) (c : Nat) (x : Child) : (s.setKid c x).ovl = s.ovl := rfl
@[simp] theorem setKid_ch (s : State) (c : Nat) (x : Child) : (s.setKid c x).ch = s.ch := rfl
@[simp] theorem setKid_sw (s : State) (c : Nat) (x : Child) : (s.setKid c x).sw = s.sw := rfl
@[simp] theorem setKid_cur (s : State) (c : Nat) (x : Child) : (s.setKid c x).cur = s.cur := rfl
@[simp] theorem setKid_strCur (s : State) (c : Nat) (x : Child) : (s.setKid c x).strCur = s.strCur := rfl
@[simp] theorem setKid_prot (s : State) (c : Nat) (x : Child) : (s.setKid c x).prot = s.prot := rfl
@[simp] theorem setKid_th (s : State) (c : Nat) (x : Child) : (s.setKid c x).th = s.th := rfl
@[simp] theorem setKid_est (s : State) (c : Nat) (x : Child) : (s.setKid c x).est = s.est := rfl
@[simp] theorem setKid_lim (s : State) (c : Nat) (x : Child) : (s.setKid c x).lim = s.lim := rfl
@[simp] theorem setKid_bal (s : State) (c : Nat) (x : Child) : (s.setKid c x).bal = s.bal := rfl
@[simp] theorem setKid_hasp (s : State) (c : Nat) (x : Child) : (s.setKid c x).hasp = s.hasp := rfl
@[simp] theorem setKid_lease (s : State) (c : Nat) (x : Child) : (s.setKid c x).lease = s.lease := rfl
@[simp] theorem setKid_com (s : State) (c : Nat) (x : Child) : (s.setKid c x).com = s.com := rfl
@[simp] theorem setKid_power (s : State) (c : Nat) (x : Child) : (s.setKid c x).power = s.power := rfl
@[simp] theorem setKid_links (s : State) (c : Nat) (x : Child) : (s.setKid c x).links = s.links := rfl
@[simp] theorem setKid_fifos (s : State) (c : Nat) (x : Child) : (s.setKid c x).fifos = s.fifos := rfl
@[simp] theorem setKid_sleep (s : State) (c : Nat) (x : Child) : (s.setKid c x).sleep = s.sleep := rfl
@[simp] theorem setKid_tap (s : State) (c : Nat) (x : Child) : (s.setKid c x).tap = s.tap := rfl
@[simp] theorem setKid_balls (s : State) (c : Nat) (x : Child) : (s.setKid c x).balls = s.balls := rfl
@[simp] theorem setKid_pick (s : State) (c : Nat) (x : Child) : (s.setKid c x).pick = s.pick := rfl
@[simp] theorem setKid_out (s : State) (c : Nat) (x : Child) : (s.setKid c x).out = s.out := rfl
@[simp] theorem setKid_free (s : State) (c : Nat) (x : Child) : (s.setKid c x).free = s.free := rfl

@[simp] theorem setZone_pending (s : State) (z : Nat) (x : Zone) : (s.setZone z x).pending = s.pending := rfl
@[simp] theorem setZone_time (s : State) (z : Nat) (x : Zone) : (s.setZone z x).time = s.time := rfl
@[simp] theorem setZone_aon (s : State) (z : Nat) (x : Zone) : (s.setZone z x).aon = s.aon := rfl
@[simp] theorem setZone_la (s : State) (z : Nat) (x : Zone) : (s.setZone z x).la = s.la := rfl
@[simp] theorem setZone_lb (s : State) (z : Nat) (x : Zone) : (s.setZone z x).lb = s.lb := rfl
@[simp] theorem setZone_kn (s : State) (z : Nat) (x : Zone) : (s.setZone z x).kn = s.kn := rfl
@[simp] theorem setZone_lg (s : State) (z : Nat) (x : Zone) : (s.setZone z x).lg = s.lg := rfl
@[simp] theorem setZone_cfg (s : State) (z : Nat) (x : Zone) : (s.setZone z x).cfg = s.cfg := rfl
@[simp] theorem setZone_stage (s : State) (z : Nat) (x : Zone) : (s.setZone z x).stage = s.stage := rfl
@[simp] theorem setZone_ovl (s : State) (z : Nat) (x : Zone) : (s.setZone z x).ovl = s.ovl := rfl
@[simp] theorem setZone_ch (s : State) (z : Nat) (x : Zone) : (s.setZone z x).ch = s.ch := rfl
@[simp] theorem setZone_sw (s : State) (z : Nat) (x : Zone) : (s.setZone z x).sw = s.sw := rfl
@[simp] theorem setZone_cur (s : State) (z : Nat) (x : Zone) : (s.setZone z x).cur = s.cur := rfl
@[simp] theorem setZone_strCur (s : State) (z : Nat) (x : Zone) : (s.setZone z x).strCur = s.strCur := rfl
@[simp] theorem setZone_prot (s : State) (z : Nat) (x : Zone) : (s.setZone z x).prot = s.prot := rfl
@[simp] theorem setZone_est (s : State) (z : Nat) (x : Zone) : (s.setZone z x).est = s.est := rfl
@[simp] theorem setZone_lim (s : State) (z : Nat) (x : Zone) : (s.setZone z x).lim = s.lim := rfl
@[simp] theorem setZone_bal (s : State) (z : Nat) (x : Zone) : (s.setZone z x).bal = s.bal := rfl
@[simp] theorem setZone_hasp (s : State) (z : Nat) (x : Zone) : (s.setZone z x).hasp = s.hasp := rfl
@[simp] theorem setZone_lease (s : State) (z : Nat) (x : Zone) : (s.setZone z x).lease = s.lease := rfl
@[simp] theorem setZone_com (s : State) (z : Nat) (x : Zone) : (s.setZone z x).com = s.com := rfl
@[simp] theorem setZone_power (s : State) (z : Nat) (x : Zone) : (s.setZone z x).power = s.power := rfl
@[simp] theorem setZone_links (s : State) (z : Nat) (x : Zone) : (s.setZone z x).links = s.links := rfl
@[simp] theorem setZone_fifos (s : State) (z : Nat) (x : Zone) : (s.setZone z x).fifos = s.fifos := rfl
@[simp] theorem setZone_sleep (s : State) (z : Nat) (x : Zone) : (s.setZone z x).sleep = s.sleep := rfl
@[simp] theorem setZone_tap (s : State) (z : Nat) (x : Zone) : (s.setZone z x).tap = s.tap := rfl
@[simp] theorem setZone_balls (s : State) (z : Nat) (x : Zone) : (s.setZone z x).balls = s.balls := rfl
@[simp] theorem setZone_pick (s : State) (z : Nat) (x : Zone) : (s.setZone z x).pick = s.pick := rfl
@[simp] theorem setZone_nest (s : State) (z : Nat) (x : Zone) : (s.setZone z x).nest = s.nest := rfl
@[simp] theorem setZone_out (s : State) (z : Nat) (x : Zone) : (s.setZone z x).out = s.out := rfl
@[simp] theorem setZone_free (s : State) (z : Nat) (x : Zone) : (s.setZone z x).free = s.free := rfl

@[simp] theorem setUpPort_pending (s : State) (e : Leaf) (x : UpPort) : (s.setUpPort e x).pending = s.pending := by cases e <;> rfl
@[simp] theorem setUpPort_time (s : State) (e : Leaf) (x : UpPort) : (s.setUpPort e x).time = s.time := by cases e <;> rfl
@[simp] theorem setUpPort_aon (s : State) (e : Leaf) (x : UpPort) : (s.setUpPort e x).aon = s.aon := by cases e <;> rfl
@[simp] theorem setUpPort_la (s : State) (e : Leaf) (x : UpPort) : (s.setUpPort e x).la = s.la := by cases e <;> rfl
@[simp] theorem setUpPort_lb (s : State) (e : Leaf) (x : UpPort) : (s.setUpPort e x).lb = s.lb := by cases e <;> rfl
@[simp] theorem setUpPort_kn (s : State) (e : Leaf) (x : UpPort) : (s.setUpPort e x).kn = s.kn := by cases e <;> rfl
@[simp] theorem setUpPort_lg (s : State) (e : Leaf) (x : UpPort) : (s.setUpPort e x).lg = s.lg := by cases e <;> rfl
@[simp] theorem setUpPort_cfg (s : State) (e : Leaf) (x : UpPort) : (s.setUpPort e x).cfg = s.cfg := by cases e <;> rfl
@[simp] theorem setUpPort_stage (s : State) (e : Leaf) (x : UpPort) : (s.setUpPort e x).stage = s.stage := by cases e <;> rfl
@[simp] theorem setUpPort_ovl (s : State) (e : Leaf) (x : UpPort) : (s.setUpPort e x).ovl = s.ovl := by cases e <;> rfl
@[simp] theorem setUpPort_ch (s : State) (e : Leaf) (x : UpPort) : (s.setUpPort e x).ch = s.ch := by cases e <;> rfl
@[simp] theorem setUpPort_sw (s : State) (e : Leaf) (x : UpPort) : (s.setUpPort e x).sw = s.sw := by cases e <;> rfl
@[simp] theorem setUpPort_cur (s : State) (e : Leaf) (x : UpPort) : (s.setUpPort e x).cur = s.cur := by cases e <;> rfl
@[simp] theorem setUpPort_strCur (s : State) (e : Leaf) (x : UpPort) : (s.setUpPort e x).strCur = s.strCur := by cases e <;> rfl
@[simp] theorem setUpPort_prot (s : State) (e : Leaf) (x : UpPort) : (s.setUpPort e x).prot = s.prot := by cases e <;> rfl
@[simp] theorem setUpPort_th (s : State) (e : Leaf) (x : UpPort) : (s.setUpPort e x).th = s.th := by cases e <;> rfl
@[simp] theorem setUpPort_est (s : State) (e : Leaf) (x : UpPort) : (s.setUpPort e x).est = s.est := by cases e <;> rfl
@[simp] theorem setUpPort_lim (s : State) (e : Leaf) (x : UpPort) : (s.setUpPort e x).lim = s.lim := by cases e <;> rfl
@[simp] theorem setUpPort_bal (s : State) (e : Leaf) (x : UpPort) : (s.setUpPort e x).bal = s.bal := by cases e <;> rfl
@[simp] theorem setUpPort_hasp (s : State) (e : Leaf) (x : UpPort) : (s.setUpPort e x).hasp = s.hasp := by cases e <;> rfl
@[simp] theorem setUpPort_lease (s : State) (e : Leaf) (x : UpPort) : (s.setUpPort e x).lease = s.lease := by cases e <;> rfl
@[simp] theorem setUpPort_com (s : State) (e : Leaf) (x : UpPort) : (s.setUpPort e x).com = s.com := by cases e <;> rfl
@[simp] theorem setUpPort_power (s : State) (e : Leaf) (x : UpPort) : (s.setUpPort e x).power = s.power := by cases e <;> rfl
@[simp] theorem setUpPort_links (s : State) (e : Leaf) (x : UpPort) : (s.setUpPort e x).links = s.links := by cases e <;> rfl
@[simp] theorem setUpPort_fifos (s : State) (e : Leaf) (x : UpPort) : (s.setUpPort e x).fifos = s.fifos := by cases e <;> rfl
@[simp] theorem setUpPort_sleep (s : State) (e : Leaf) (x : UpPort) : (s.setUpPort e x).sleep = s.sleep := by cases e <;> rfl
@[simp] theorem setUpPort_tap (s : State) (e : Leaf) (x : UpPort) : (s.setUpPort e x).tap = s.tap := by cases e <;> rfl
@[simp] theorem setUpPort_balls (s : State) (e : Leaf) (x : UpPort) : (s.setUpPort e x).balls = s.balls := by cases e <;> rfl
@[simp] theorem setUpPort_pick (s : State) (e : Leaf) (x : UpPort) : (s.setUpPort e x).pick = s.pick := by cases e <;> rfl
@[simp] theorem setUpPort_out (s : State) (e : Leaf) (x : UpPort) : (s.setUpPort e x).out = s.out := by cases e <;> rfl
@[simp] theorem setUpPort_free (s : State) (e : Leaf) (x : UpPort) : (s.setUpPort e x).free = s.free := by cases e <;> rfl

@[simp] theorem modEth_pending (s : State) (p : Nat) (f : Eth → Eth) : (s.modEth p f).pending = s.pending := by unfold State.modEth; split <;> (try split) <;> rfl
@[simp] theorem modEth_time (s : State) (p : Nat) (f : Eth → Eth) : (s.modEth p f).time = s.time := by unfold State.modEth; split <;> (try split) <;> rfl
@[simp] theorem modEth_aon (s : State) (p : Nat) (f : Eth → Eth) : (s.modEth p f).aon = s.aon := by unfold State.modEth; split <;> (try split) <;> rfl
@[simp] theorem modEth_la (s : State) (p : Nat) (f : Eth → Eth) : (s.modEth p f).la = s.la := by unfold State.modEth; split <;> (try split) <;> rfl
@[simp] theorem modEth_lb (s : State) (p : Nat) (f : Eth → Eth) : (s.modEth p f).lb = s.lb := by unfold State.modEth; split <;> (try split) <;> rfl
@[simp] theorem modEth_kn (s : State) (p : Nat) (f : Eth → Eth) : (s.modEth p f).kn = s.kn := by unfold State.modEth; split <;> (try split) <;> rfl
@[simp] theorem modEth_lg (s : State) (p : Nat) (f : Eth → Eth) : (s.modEth p f).lg = s.lg := by unfold State.modEth; split <;> (try split) <;> rfl
@[simp] theorem modEth_cfg (s : State) (p : Nat) (f : Eth → Eth) : (s.modEth p f).cfg = s.cfg := by unfold State.modEth; split <;> (try split) <;> rfl
@[simp] theorem modEth_stage (s : State) (p : Nat) (f : Eth → Eth) : (s.modEth p f).stage = s.stage := by unfold State.modEth; split <;> (try split) <;> rfl
@[simp] theorem modEth_ovl (s : State) (p : Nat) (f : Eth → Eth) : (s.modEth p f).ovl = s.ovl := by unfold State.modEth; split <;> (try split) <;> rfl
@[simp] theorem modEth_ch (s : State) (p : Nat) (f : Eth → Eth) : (s.modEth p f).ch = s.ch := by unfold State.modEth; split <;> (try split) <;> rfl
@[simp] theorem modEth_sw (s : State) (p : Nat) (f : Eth → Eth) : (s.modEth p f).sw = s.sw := by unfold State.modEth; split <;> (try split) <;> rfl
@[simp] theorem modEth_cur (s : State) (p : Nat) (f : Eth → Eth) : (s.modEth p f).cur = s.cur := by unfold State.modEth; split <;> (try split) <;> rfl
@[simp] theorem modEth_strCur (s : State) (p : Nat) (f : Eth → Eth) : (s.modEth p f).strCur = s.strCur := by unfold State.modEth; split <;> (try split) <;> rfl
@[simp] theorem modEth_prot (s : State) (p : Nat) (f : Eth → Eth) : (s.modEth p f).prot = s.prot := by unfold State.modEth; split <;> (try split) <;> rfl
@[simp] theorem modEth_th (s : State) (p : Nat) (f : Eth → Eth) : (s.modEth p f).th = s.th := by unfold State.modEth; split <;> (try split) <;> rfl
@[simp] theorem modEth_est (s : State) (p : Nat) (f : Eth → Eth) : (s.modEth p f).est = s.est := by unfold State.modEth; split <;> (try split) <;> rfl
@[simp] theorem modEth_lim (s : State) (p : Nat) (f : Eth → Eth) : (s.modEth p f).lim = s.lim := by unfold State.modEth; split <;> (try split) <;> rfl
@[simp] theorem modEth_bal (s : State) (p : Nat) (f : Eth → Eth) : (s.modEth p f).bal = s.bal := by unfold State.modEth; split <;> (try split) <;> rfl
@[simp] theorem modEth_hasp (s : State) (p : Nat) (f : Eth → Eth) : (s.modEth p f).hasp = s.hasp := by unfold State.modEth; split <;> (try split) <;> rfl
@[simp] theorem modEth_lease (s : State) (p : Nat) (f : Eth → Eth) : (s.modEth p f).lease = s.lease := by unfold State.modEth; split <;> (try split) <;> rfl
@[simp] theorem modEth_com (s : State) (p : Nat) (f : Eth → Eth) : (s.modEth p f).com = s.com := by unfold State.modEth; split <;> (try split) <;> rfl
@[simp] theorem modEth_power (s : State) (p : Nat) (f : Eth → Eth) : (s.modEth p f).power = s.power := by unfold State.modEth; split <;> (try split) <;> rfl
@[simp] theorem modEth_fifos (s : State) (p : Nat) (f : Eth → Eth) : (s.modEth p f).fifos = s.fifos := by unfold State.modEth; split <;> (try split) <;> rfl
@[simp] theorem modEth_sleep (s : State) (p : Nat) (f : Eth → Eth) : (s.modEth p f).sleep = s.sleep := by unfold State.modEth; split <;> (try split) <;> rfl
@[simp] theorem modEth_tap (s : State) (p : Nat) (f : Eth → Eth) : (s.modEth p f).tap = s.tap := by unfold State.modEth; split <;> (try split) <;> rfl
@[simp] theorem modEth_balls (s : State) (p : Nat) (f : Eth → Eth) : (s.modEth p f).balls = s.balls := by unfold State.modEth; split <;> (try split) <;> rfl
@[simp] theorem modEth_pick (s : State) (p : Nat) (f : Eth → Eth) : (s.modEth p f).pick = s.pick := by unfold State.modEth; split <;> (try split) <;> rfl
@[simp] theorem modEth_nest (s : State) (p : Nat) (f : Eth → Eth) : (s.modEth p f).nest = s.nest := by unfold State.modEth; split <;> (try split) <;> rfl
@[simp] theorem modEth_out (s : State) (p : Nat) (f : Eth → Eth) : (s.modEth p f).out = s.out := by unfold State.modEth; split <;> (try split) <;> rfl
@[simp] theorem modEth_free (s : State) (p : Nat) (f : Eth → Eth) : (s.modEth p f).free = s.free := by unfold State.modEth; split <;> (try split) <;> rfl

/-! What the hardware settles after every command -/
@[simp] theorem settle_la (o n : State) : (settle o n).la = n.la := rfl
@[simp] theorem settle_lb (o n : State) : (settle o n).lb = n.lb := rfl
@[simp] theorem settle_kn (o n : State) : (settle o n).kn = n.kn := rfl
@[simp] theorem settle_lg (o n : State) : (settle o n).lg = n.lg := rfl
@[simp] theorem settle_cfg (o n : State) : (settle o n).cfg = n.cfg := rfl
@[simp] theorem settle_ovl (o n : State) : (settle o n).ovl = n.ovl := rfl
@[simp] theorem settle_ch (o n : State) : (settle o n).ch = n.ch := rfl
@[simp] theorem settle_sw (o n : State) : (settle o n).sw = n.sw := rfl
@[simp] theorem settle_cur (o n : State) : (settle o n).cur = n.cur := rfl
@[simp] theorem settle_strCur (o n : State) : (settle o n).strCur = n.strCur := rfl
@[simp] theorem settle_prot (o n : State) : (settle o n).prot = n.prot := rfl
@[simp] theorem settle_th (o n : State) : (settle o n).th = n.th := rfl
@[simp] theorem settle_est (o n : State) : (settle o n).est = n.est := rfl
@[simp] theorem settle_lim (o n : State) : (settle o n).lim = n.lim := rfl
@[simp] theorem settle_bal (o n : State) : (settle o n).bal = n.bal := rfl
@[simp] theorem settle_hasp (o n : State) : (settle o n).hasp = n.hasp := rfl
@[simp] theorem settle_lease (o n : State) : (settle o n).lease = n.lease := rfl
@[simp] theorem settle_com (o n : State) : (settle o n).com = n.com := rfl
@[simp] theorem settle_power (o n : State) : (settle o n).power = n.power := rfl
@[simp] theorem settle_links (o n : State) : (settle o n).links = n.links := rfl
@[simp] theorem settle_fifos (o n : State) : (settle o n).fifos = n.fifos := rfl
@[simp] theorem settle_sleep (o n : State) : (settle o n).sleep = n.sleep := rfl
@[simp] theorem settle_pick (o n : State) : (settle o n).pick = n.pick := rfl
@[simp] theorem settle_nest (o n : State) : (settle o n).nest = n.nest := rfl
@[simp] theorem settle_out (o n : State) : (settle o n).out = n.out := rfl
@[simp] theorem settle_free (o n : State) : (settle o n).free = n.free := rfl
@[simp] theorem settle_pending (o n : State) : (settle o n).pending = o.pending := rfl
@[simp] theorem settle_now (o n : State) : (settle o n).time.now = max o.time.now n.time.now := rfl
@[simp] theorem settle_time_base (o n : State) : (settle o n).time.base = n.time.base := rfl
@[simp] theorem settle_time_t0 (o n : State) : (settle o n).time.t0 = n.time.t0 := rfl
@[simp] theorem settle_time_locked (o n : State) : (settle o n).time.locked = n.time.locked := rfl
@[simp] theorem settle_time_source (o n : State) : (settle o n).time.source = n.time.source := rfl
@[simp] theorem settle_time_lateTotal (o n : State) : (settle o n).time.lateTotal = n.time.lateTotal := rfl
@[simp] theorem settle_time_lastStep (o n : State) : (settle o n).time.lastStep = n.time.lastStep := rfl
@[simp] theorem settle_time_stepTime (o n : State) : (settle o n).time.stepTime = n.time.stepTime := rfl
@[simp] theorem settle_time_ptpPort (o n : State) : (settle o n).time.ptpPort = n.time.ptpPort := rfl
@[simp] theorem settle_time_ptpOffset (o n : State) : (settle o n).time.ptpOffset = n.time.ptpOffset := rfl
@[simp] theorem settle_time_ptpGood (o n : State) : (settle o n).time.ptpGood = n.time.ptpGood := rfl
@[simp] theorem settle_time_master (o n : State) : (settle o n).time.master = n.time.master := rfl
@[simp] theorem settle_time_heard0 (o n : State) : (settle o n).time.heard0 = n.time.heard0 := rfl
@[simp] theorem settle_time_heard1 (o n : State) : (settle o n).time.heard1 = n.time.heard1 := rfl
@[simp] theorem settle_time_lastSync (o n : State) : (settle o n).time.lastSync = n.time.lastSync := rfl
@[simp] theorem settle_time_lostLogged (o n : State) : (settle o n).time.lostLogged = n.time.lostLogged := rfl
@[simp] theorem settle_time_ppsOut (o n : State) : (settle o n).time.ppsOut = n.time.ppsOut := rfl
@[simp] theorem settle_time_ppsLast (o n : State) : (settle o n).time.ppsLast = n.time.ppsLast := rfl
@[simp] theorem settle_time_ppsEdges (o n : State) : (settle o n).time.ppsEdges = n.time.ppsEdges := rfl
@[simp] theorem settle_keys (o n : State) : (settle o n).stage.keys = List.zipWith fuseKeep o.stage.keys n.stage.keys := rfl
@[simp] theorem settle_stage_st (o n : State) : (settle o n).stage.st = n.stage.st := rfl
@[simp] theorem settle_stage_reason (o n : State) : (settle o n).stage.reason = n.stage.reason := rfl
@[simp] theorem settle_stage_activeSlot (o n : State) : (settle o n).stage.activeSlot = n.stage.activeSlot := rfl
@[simp] theorem settle_stage_buildId (o n : State) : (settle o n).stage.buildId = n.stage.buildId := rfl
@[simp] theorem settle_stage_floor (o n : State) : (settle o n).stage.floor = n.stage.floor := rfl
@[simp] theorem settle_stage_stagedSeq (o n : State) : (settle o n).stage.stagedSeq = n.stage.stagedSeq := rfl
@[simp] theorem settle_stage_received (o n : State) : (settle o n).stage.received = n.stage.received := rfl
@[simp] theorem settle_stage_mode (o n : State) : (settle o n).stage.mode = n.stage.mode := rfl
@[simp] theorem settle_stage_hingeSweep (o n : State) : (settle o n).stage.hingeSweep = n.stage.hingeSweep := rfl
@[simp] theorem settle_stage_hingeTime (o n : State) : (settle o n).stage.hingeTime = n.stage.hingeTime := rfl
@[simp] theorem settle_stage_sess (o n : State) : (settle o n).stage.sess = n.stage.sess := rfl
@[simp] theorem settle_stage_len (o n : State) : (settle o n).stage.len = n.stage.len := rfl
@[simp] theorem settle_stage_chunks (o n : State) : (settle o n).stage.chunks = n.stage.chunks := rfl
@[simp] theorem settle_stage_lastChunk (o n : State) : (settle o n).stage.lastChunk = n.stage.lastChunk := rfl
@[simp] theorem settle_stage_closeReq (o n : State) : (settle o n).stage.closeReq = n.stage.closeReq := rfl
@[simp] theorem settle_stage_applyFrom (o n : State) : (settle o n).stage.applyFrom = n.stage.applyFrom := rfl
@[simp] theorem settle_stage_applyReason (o n : State) : (settle o n).stage.applyReason = n.stage.applyReason := rfl
@[simp] theorem settle_stage_revert (o n : State) : (settle o n).stage.revert = n.stage.revert := rfl
@[simp] theorem settle_stage_image (o n : State) : (settle o n).stage.image = n.stage.image := rfl
@[simp] theorem settle_stage_target (o n : State) : (settle o n).stage.target = n.stage.target := rfl
@[simp] theorem settle_stage_torn (o n : State) : (settle o n).stage.torn = n.stage.torn := rfl
@[simp] theorem settle_stage_verTime (o n : State) : (settle o n).stage.verTime = n.stage.verTime := rfl
@[simp] theorem settle_stage_aborted (o n : State) : (settle o n).stage.aborted = n.stage.aborted := rfl
@[simp] theorem settle_tap (o n : State) : (settle o n).tap = n.tap := rfl
@[simp] theorem settle_thermal (o n : State) : (settle o n).aon.thermal = (o.aon.thermal || n.aon.thermal) := rfl
@[simp] theorem settle_aon_vaon (o n : State) : (settle o n).aon.vaon = n.aon.vaon := rfl
@[simp] theorem settle_aon_testEn (o n : State) : (settle o n).aon.testEn = n.aon.testEn := rfl
@[simp] theorem settle_aon_x32Fallback (o n : State) : (settle o n).aon.x32Fallback = n.aon.x32Fallback := rfl
@[simp] theorem settle_aon_dev (o n : State) : (settle o n).aon.dev = n.aon.dev := rfl
@[simp] theorem settle_aon_unkeyed (o n : State) : (settle o n).aon.unkeyed = n.aon.unkeyed := rfl
@[simp] theorem settle_aon_faultHold (o n : State) : (settle o n).aon.faultHold = n.aon.faultHold := rfl
@[simp] theorem settle_aon_resetCause (o n : State) : (settle o n).aon.resetCause = n.aon.resetCause := rfl
@[simp] theorem settle_aon_starts (o n : State) : (settle o n).aon.starts = n.aon.starts := rfl
@[simp] theorem settle_aon_xaGood (o n : State) : (settle o n).aon.xaGood = n.aon.xaGood := rfl
@[simp] theorem settle_aon_supplyEvents (o n : State) : (settle o n).aon.supplyEvents = n.aon.supplyEvents := rfl
@[simp] theorem settle_aon_rails (o n : State) : (settle o n).aon.rails = n.aon.rails := rfl
@[simp] theorem settle_aon_holdThermal (o n : State) : (settle o n).aon.holdThermal = n.aon.holdThermal := rfl
@[simp] theorem settle_aon_holdThermalCause (o n : State) : (settle o n).aon.holdThermalCause = n.aon.holdThermalCause := rfl
@[simp] theorem settle_aon_holdDb (o n : State) : (settle o n).aon.holdDb = n.aon.holdDb := rfl
@[simp] theorem settle_aon_holdDbCause (o n : State) : (settle o n).aon.holdDbCause = n.aon.holdDbCause := rfl
@[simp] theorem settle_aon_lastStep (o n : State) : (settle o n).aon.lastStep = n.aon.lastStep := rfl
@[simp] theorem settle_aon_dbLatch (o n : State) : (settle o n).aon.dbLatch = n.aon.dbLatch := rfl
@[simp] theorem settle_aon_dbCause (o n : State) : (settle o n).aon.dbCause = n.aon.dbCause := rfl
@[simp] theorem settle_aon_dbSource (o n : State) : (settle o n).aon.dbSource = n.aon.dbSource := rfl
@[simp] theorem settle_aon_dbTime (o n : State) : (settle o n).aon.dbTime = n.aon.dbTime := rfl
@[simp] theorem settle_aon_dbSweep (o n : State) : (settle o n).aon.dbSweep = n.aon.dbSweep := rfl
@[simp] theorem settle_aon_hold (o n : State) : (settle o n).aon.hold = n.aon.hold := rfl
@[simp] theorem settle_aon_holdCause (o n : State) : (settle o n).aon.holdCause = n.aon.holdCause := rfl
@[simp] theorem settle_aon_throws (o n : State) : (settle o n).aon.throws = n.aon.throws := rfl
@[simp] theorem settle_aon_clearState (o n : State) : (settle o n).aon.clearState = n.aon.clearState := rfl
@[simp] theorem settle_aon_clearResult (o n : State) : (settle o n).aon.clearResult = n.aon.clearResult := rfl
@[simp] theorem settle_aon_armSlot (o n : State) : (settle o n).aon.armSlot = n.aon.armSlot := rfl
@[simp] theorem settle_aon_armTime (o n : State) : (settle o n).aon.armTime = n.aon.armTime := rfl
@[simp] theorem settle_aon_armNow (o n : State) : (settle o n).aon.armNow = n.aon.armNow := rfl
@[simp] theorem settle_aon_bankActing (o n : State) : (settle o n).aon.bankActing = n.aon.bankActing := rfl
@[simp] theorem settle_aon_thCause (o n : State) : (settle o n).aon.thCause = n.aon.thCause := rfl
@[simp] theorem settle_aon_thSource (o n : State) : (settle o n).aon.thSource = n.aon.thSource := rfl
@[simp] theorem settle_aon_thTime (o n : State) : (settle o n).aon.thTime = n.aon.thTime := rfl
@[simp] theorem settle_aon_thValue (o n : State) : (settle o n).aon.thValue = n.aon.thValue := rfl
@[simp] theorem settle_aon_thSweep (o n : State) : (settle o n).aon.thSweep = n.aon.thSweep := rfl
@[simp] theorem settle_aon_carried (o n : State) : (settle o n).aon.carried = n.aon.carried := rfl

end Sys2Proof.Machine
end

