-- ==== Sys2Proof/Laws/Table.lean ====
section
/-!
SUPPORT. The laws of the sparse tables and of the staging store's bytes: what is written reads back, nothing else changes,
and a store keeps its canonical form.
-/
namespace Sys2Proof.Machine

/-! ### Sparse tables -/

theorem kget_kput_same {α : Type} (d : α) (m : KMap α) (k : Nat) (x : α) : kget d (kput m k x) k = x := by
  induction m with
  | nil => simp [kput, kget]
  | cons e r ih =>
    obtain ⟨i, y⟩ := e
    simp only [kput]
    split
    · simp [kget]
    · split
      · simp [kget]
      · rename_i h1 h2
        simp only [kget, ih]
        rw [if_neg (fun h => h2 h.symm)]

theorem kget_kput_other {α : Type} (d : α) (m : KMap α) (k j : Nat) (x : α) (h : j ≠ k) : kget d (kput m k x) j = kget d m j := by
  induction m with
  | nil => simp [kput, kget, h.symm]
  | cons e r ih =>
    obtain ⟨i, y⟩ := e
    simp only [kput]
    split
    · simp [kget, h.symm]
    · split
      · rename_i h1 h2
        subst h2
        simp [kget, h.symm]
      · simp only [kget, ih]

theorem kget_filter_same {α : Type} (d : α) (m : KMap α) (k : Nat) : kget d (m.filter (fun e => e.1 != k)) k = d := by
  induction m with
  | nil => rfl
  | cons e r ih =>
    obtain ⟨i, y⟩ := e
    by_cases h : i = k
    · simp [h, ih]
    · simp [h, kget, ih]

theorem kget_filter_other {α : Type} (d : α) (m : KMap α) (k j : Nat) (h : j ≠ k) :
    kget d (m.filter (fun e => e.1 != k)) j = kget d m j := by
  induction m with
  | nil => rfl
  | cons e r ih =>
    obtain ⟨i, y⟩ := e
    by_cases hk : i = k
    · subst hk
      simp [ih, kget, h.symm]
    · simp [hk, kget, ih]

/-- A record that was put reads back. -/
@[simp] theorem kget_kset_same {α : Type} [DecidableEq α] (d : α) (m : KMap α) (k : Nat) (x : α) : kget d (kset d m k x) k = x := by
  unfold kset
  split
  · rename_i h
    rw [kget_filter_same, h]
  · exact kget_kput_same d m k x

/-- The other records stay. -/
theorem kget_kset_other {α : Type} [DecidableEq α] (d : α) (m : KMap α) (k j : Nat) (x : α) (h : j ≠ k) :
    kget d (kset d m k x) j = kget d m j := by
  unfold kset
  split
  · exact kget_filter_other d m k j h
  · exact kget_kput_other d m k j x h

/-- A record after a write, for any index. -/
theorem kget_kset {α : Type} [DecidableEq α] (d : α) (m : KMap α) (k j : Nat) (x : α) :
    kget d (kset d m k x) j = if j = k then x else kget d m j := by
  split
  · rename_i h
    rw [h, kget_kset_same]
  · rename_i h
    exact kget_kset_other d m k j x h

@[simp] theorem kget_kmod_same {α : Type} [DecidableEq α] (d : α) (m : KMap α) (k : Nat) (f : α → α) :
    kget d (kmod d m k f) k = f (kget d m k) := kget_kset_same d m k _

theorem kget_kmod_other {α : Type} [DecidableEq α] (d : α) (m : KMap α) (k j : Nat) (f : α → α) (h : j ≠ k) :
    kget d (kmod d m k f) j = kget d m j := kget_kset_other d m k j _ h

/-! ### Bytes of the staging store -/

@[simp] theorem mget_mput_same (m : List Host.Cell) (k : Nat) (x : Byte) : mget (mput m k x) k = some x := by
  induction m with
  | nil => simp [mput, mget]
  | cons e r ih =>
    obtain ⟨i, y⟩ := e
    simp only [mput]
    split
    · simp [mget]
    · split
      · simp [mget]
      · rename_i h1 h2
        simp only [mget, ih]
        rw [if_neg (fun h => h2 h.symm)]

theorem mget_mput_other (m : List Host.Cell) (k j : Nat) (x : Byte) (h : j ≠ k) : mget (mput m k x) j = mget m j := by
  induction m with
  | nil => simp [mput, mget, h.symm]
  | cons e r ih =>
    obtain ⟨i, y⟩ := e
    simp only [mput]
    split
    · simp [mget, h.symm]
    · split
      · rename_i h1 h2
        subst h2
        simp [mget, h.symm]
      · simp only [mget, ih]

/-- Outside the bytes written, a store reads as before. -/
theorem mget_mputs_other (a : Nat) (p : List Byte) : ∀ (m : List Host.Cell) (k : Nat), k < a ∨ a + p.length ≤ k →
    mget (mputs m a p) k = mget m k := by
  induction p generalizing a with
  | nil => intro m k _; rfl
  | cons b r ih =>
    intro m k h
    simp only [mputs, List.length_cons] at *
    rw [ih (a + 1) _ k (by omega), mget_mput_other _ _ _ _ (by omega)]

/-- The bytes written read back. -/
theorem mget_mputs_same (a : Nat) (p : List Byte) : ∀ (m : List Host.Cell) (i : Nat), i < p.length →
    mget (mputs m a p) (a + i) = p[i]? := by
  induction p generalizing a with
  | nil => intro m i h; simp at h
  | cons b r ih =>
    intro m i h
    simp only [mputs]
    cases i with
    | zero =>
      rw [mget_mputs_other (a + 1) r _ (a + 0) (by omega)]
      simp
    | succ j =>
      have := ih (a + 1) (mput m a b) j (by simpa using h)
      rw [show a + (j + 1) = a + 1 + j by omega, this]
      simp

/-- The first address of a store that is not empty. -/
theorem memWf_cons (i : Nat) (x : Byte) (r : List Host.Cell) :
    memWf ((i, x) :: r) = true ↔ memWf r = true ∧ ∀ j y, r.head? = some (j, y) → i < j := by
  cases r with
  | nil => simp [memWf]
  | cons e t =>
    obtain ⟨j, y⟩ := e
    simp [memWf, and_comm]

theorem mput_head (m : List Host.Cell) (k : Nat) (x : Byte) (j : Nat) (y : Byte) (h : (mput m k x).head? = some (j, y)) :
    j = k ∨ ∃ z, m.head? = some (j, z) := by
  cases m with
  | nil => simp [mput] at h; exact .inl h.1.symm
  | cons e r =>
    obtain ⟨i, z⟩ := e
    simp only [mput] at h
    split at h
    · simp at h; exact .inl h.1.symm
    · split at h
      · simp at h; exact .inl h.1.symm
      · simp at h; exact .inr ⟨z, by simp [h.1]⟩

/-- Writing a byte keeps the canonical form. -/
theorem memWf_mput (m : List Host.Cell) (k : Nat) (x : Byte) (h : memWf m = true) : memWf (mput m k x) = true := by
  induction m with
  | nil => rfl
  | cons e r ih =>
    obtain ⟨i, y⟩ := e
    obtain ⟨hr, hh⟩ := (memWf_cons i y r).mp h
    simp only [mput]
    split
    · rename_i hk
      exact (memWf_cons k x _).mpr ⟨h, by intro j z hj; simp at hj; omega⟩
    · split
      · rename_i h1 h2
        subst h2
        exact (memWf_cons k x r).mpr ⟨hr, hh⟩
      · rename_i h1 h2
        refine (memWf_cons i y _).mpr ⟨ih hr, ?_⟩
        intro j z hj
        rcases mput_head r k x j z hj with rfl | ⟨w, hw⟩
        · omega
        · exact hh j w hw

/-- Writing bytes keeps the canonical form. -/
theorem memWf_mputs (a : Nat) (p : List Byte) : ∀ m : List Host.Cell, memWf m = true → memWf (mputs m a p) = true := by
  induction p generalizing a with
  | nil => intro m h; exact h
  | cons b r ih => intro m h; exact ih (a + 1) _ (memWf_mput m a b h)

end Sys2Proof.Machine
end

