-- ==== Sys2Proof/Laws/Log.lean ====
section
/-!
SUPPORT. What raising an event or offering an item can change: the recorder, the stream FIFOs and the leaves' log queues,
nothing else (R652 to R679).
-/
namespace Sys2Proof.Machine

/-- The state with another recorder, other FIFOs and other log queues. -/
def State.logged (s : State) (g : Recorder) (fs : KMap Fifo) (qa qb : List EventRec) : State :=
  { s with lg := g, fifos := fs, la := { s.la with log := { s.la.log with queue := qa } }, lb := { s.lb with log := { s.lb.log with queue := qb } } }

/-- A state that differs in the recorder, the FIFOs and the log queues alone. -/
def Logs (s n : State) : Prop := ∃ g fs qa qb, n = s.logged g fs qa qb

theorem Logs.refl (s : State) : Logs s s := ⟨s.lg, s.fifos, s.la.log.queue, s.lb.log.queue, rfl⟩

theorem Logs.trans {s t u : State} (h : Logs s t) (k : Logs t u) : Logs s u := by
  obtain ⟨g, fs, qa, qb, rfl⟩ := h
  obtain ⟨g', fs', qa', qb', rfl⟩ := k
  exact ⟨g', fs', qa', qb', rfl⟩

theorem Logs.ite {s t u : State} (c : Prop) [Decidable c] (h : Logs s t) (k : Logs s u) : Logs s (if c then t else u) := by
  split
  · exact h
  · exact k

theorem Logs.lg (s : State) (g : Recorder) : Logs s { s with lg := g } := ⟨g, s.fifos, s.la.log.queue, s.lb.log.queue, rfl⟩

theorem Logs.setFifo (s : State) (k : Nat) (f : Fifo) : Logs s (s.setFifo k f) :=
  ⟨s.lg, kset {} s.fifos k f, s.la.log.queue, s.lb.log.queue, rfl⟩

/-- A fold of steps each of which only logs, only logs. -/
theorem Logs.fold {α : Type} (f : State → α → State) (h : ∀ s x, Logs s (f s x)) : ∀ (l : List α) (s : State), Logs s (l.foldl f s) := by
  intro l
  induction l with
  | nil => exact fun s => Logs.refl s
  | cons x r ih => exact fun s => (h s x).trans (ih _)

theorem Logs.offerTo (s : State) (ns : List Nat) (ty : Nat) (picked : Bool) (p : List Byte) : Logs s (s.offerTo ns ty picked p).1 := by
  unfold State.offerTo
  suffices h : ∀ (l : List Nat) (a : State × List Nat), Logs s a.1 → Logs s (l.foldl (fun a n =>
      let r := (a.1.fifo n).offer s.time.now ty picked p
      (a.1.setFifo n r.1, if r.2 then a.2 ++ [n] else a.2)) a).1 from h ns (s, []) (Logs.refl s)
  intro l
  induction l with
  | nil => exact fun a h => h
  | cons n r ih => exact fun a h => ih _ (h.trans (Logs.setFifo _ _ _))

theorem Logs.queue (s : State) (l : Leaf) (q : List EventRec) :
    Logs s (s.modLeaf l (fun x => { x with log := { (s.leaf l).log with queue := q } })) := by
  cases l
  · exact ⟨s.lg, s.fifos, q, s.lb.log.queue, rfl⟩
  · exact ⟨s.lg, s.fifos, s.la.log.queue, q, rfl⟩

theorem Logs.enqueue (s : State) (l : Leaf) (r : EventRec) : Logs s (s.enqueue l r) := by
  unfold State.enqueue
  dsimp only
  split
  · exact Logs.refl s
  · split
    · exact Logs.queue s l _
    · exact Logs.lg s _

/-- Raising an event only logs. -/
theorem Logs.raiseN : ∀ (k code src org : Nat) (picked : Bool) (ps : List Param) (s : State), Logs s (State.raiseN k code src org picked ps s) := by
  intro k
  induction k with
  | zero => intro code src org picked ps s; exact Logs.refl s
  | succ k ih =>
    intro code src org picked ps s
    have streams : ∀ (ns : List Nat) (picked : Bool) (p : List Byte) (t : State), Logs t
        ((t.offerTo ns 2 picked p).2.foldl (fun s n => State.raiseN k Ev.streamLoss n s.act.num false [p4 (s.fifo n).lossPend] s) (t.offerTo ns 2 picked p).1) :=
      fun ns pk p t => (Logs.offerTo t ns 2 pk p).trans (Logs.fold _ (fun s n => ih _ _ _ _ _ s) _ _)
    have queues : ∀ (ls : List Leaf) (r : EventRec) (t : State), Logs t (ls.foldl (fun s l => s.enqueue l r) t) :=
      fun ls r t => Logs.fold _ (fun s l => Logs.enqueue s l r) _ _
    unfold State.raiseN
    dsimp only
    split
    · refine Logs.ite _ (Logs.lg _ _) (Logs.ite _ ?_ (Logs.ite _ (Logs.lg _ _) (Logs.ite _ (Logs.ite _ ?_ ?_) (Logs.lg _ _))))
      · exact (Logs.lg _ _).trans (streams _ _ _ _)
      · exact (Logs.lg _ _).trans ((queues _ _ _).trans ((streams _ _ _ _).trans (Logs.lg _ _)))
      · exact (Logs.lg _ _).trans ((queues _ _ _).trans (streams _ _ _ _))
    · refine Logs.ite _ (Logs.refl _) (Logs.ite _ ?_ (Logs.ite _ (Logs.lg _ _) (Logs.ite _ (Logs.ite _ ?_ ?_) (Logs.lg _ _))))
      · exact (Logs.lg _ _).trans (streams _ _ _ _)
      · exact (Logs.lg _ _).trans ((queues _ _ _).trans ((streams _ _ _ _).trans (Logs.lg _ _)))
      · exact (Logs.lg _ _).trans ((queues _ _ _).trans (streams _ _ _ _))

theorem Logs.raiseO (s : State) (code src org : Nat) (ps : List Param) : Logs s (s.raiseO code src org ps) := Logs.raiseN _ _ _ _ _ _ s
theorem Logs.ev (s : State) (code src : Nat) (ps : List Param) : Logs s (s.ev code src ps) := Logs.raiseN _ _ _ _ _ _ s
theorem Logs.evA (s : State) (code src : Nat) (ps : List Param) : Logs s (s.evA code src ps) := Logs.raiseN _ _ _ _ _ _ s
theorem Logs.evAon (s : State) (code src : Nat) (ps : List Param) : Logs s (s.evAon code src ps) := Logs.raiseN _ _ _ _ _ _ s

/-- Offering an item to the streams of a producer only logs. -/
theorem Logs.produce (s : State) (prod ty : Nat) (takes : Nat → Bool) (p : List Byte) : Logs s (s.produce prod ty takes p) := by
  unfold State.produce
  exact (Logs.offerTo _ _ _ _ _).trans (Logs.fold _ (fun s n => Logs.evA s _ _ _) _ _)

theorem Logs.traceFrame (s : State) (r : Nat) (e : Leaf) (dir res : Nat) (b : List Byte) : Logs s (s.traceFrame r e dir res b) := Logs.produce _ _ _ _ _

theorem Logs.withPick (s : State) (b : Bool) (f : State → State) (h : ∀ t, Logs t (f t)) : Logs s (s.withPick b f) :=
  (Logs.lg s _).trans ((h _).trans (Logs.lg _ _))

theorem Logs.asPick (s : State) (b : Bool) (f : State → State) (h : ∀ t, Logs t (f t)) : Logs s (s.asPick b f) :=
  (Logs.lg s _).trans ((h _).trans (Logs.lg _ _))

theorem Logs.suppRaise (s : State) (code : Nat) : Logs s (s.suppRaise code) := by
  unfold State.suppRaise
  dsimp only
  split
  · exact Logs.refl s
  · exact (Logs.lg s _).trans (Logs.evA _ _ _ _)

theorem Logs.queueLoss (s : State) : Logs s s.queueLoss := by
  unfold State.queueLoss
  split
  · exact Logs.refl s
  · exact (Logs.lg s _).trans (Logs.evA _ _ _ _)

/-! What logging leaves alone -/

theorem Logs.pending {s n : State} (h : Logs s n) : n.pending = s.pending := by obtain ⟨g, fs, qa, qb, rfl⟩ := h; rfl
theorem Logs.time {s n : State} (h : Logs s n) : n.time = s.time := by obtain ⟨g, fs, qa, qb, rfl⟩ := h; rfl
theorem Logs.aon {s n : State} (h : Logs s n) : n.aon = s.aon := by obtain ⟨g, fs, qa, qb, rfl⟩ := h; rfl
theorem Logs.kn {s n : State} (h : Logs s n) : n.kn = s.kn := by obtain ⟨g, fs, qa, qb, rfl⟩ := h; rfl
theorem Logs.cfg {s n : State} (h : Logs s n) : n.cfg = s.cfg := by obtain ⟨g, fs, qa, qb, rfl⟩ := h; rfl
theorem Logs.stage {s n : State} (h : Logs s n) : n.stage = s.stage := by obtain ⟨g, fs, qa, qb, rfl⟩ := h; rfl
theorem Logs.ovl {s n : State} (h : Logs s n) : n.ovl = s.ovl := by obtain ⟨g, fs, qa, qb, rfl⟩ := h; rfl
theorem Logs.ch {s n : State} (h : Logs s n) : n.ch = s.ch := by obtain ⟨g, fs, qa, qb, rfl⟩ := h; rfl
theorem Logs.sw {s n : State} (h : Logs s n) : n.sw = s.sw := by obtain ⟨g, fs, qa, qb, rfl⟩ := h; rfl
theorem Logs.cur {s n : State} (h : Logs s n) : n.cur = s.cur := by obtain ⟨g, fs, qa, qb, rfl⟩ := h; rfl
theorem Logs.strCur {s n : State} (h : Logs s n) : n.strCur = s.strCur := by obtain ⟨g, fs, qa, qb, rfl⟩ := h; rfl
theorem Logs.prot {s n : State} (h : Logs s n) : n.prot = s.prot := by obtain ⟨g, fs, qa, qb, rfl⟩ := h; rfl
theorem Logs.th {s n : State} (h : Logs s n) : n.th = s.th := by obtain ⟨g, fs, qa, qb, rfl⟩ := h; rfl
theorem Logs.est {s n : State} (h : Logs s n) : n.est = s.est := by obtain ⟨g, fs, qa, qb, rfl⟩ := h; rfl
theorem Logs.lim {s n : State} (h : Logs s n) : n.lim = s.lim := by obtain ⟨g, fs, qa, qb, rfl⟩ := h; rfl
theorem Logs.bal {s n : State} (h : Logs s n) : n.bal = s.bal := by obtain ⟨g, fs, qa, qb, rfl⟩ := h; rfl
theorem Logs.hasp {s n : State} (h : Logs s n) : n.hasp = s.hasp := by obtain ⟨g, fs, qa, qb, rfl⟩ := h; rfl
theorem Logs.lease {s n : State} (h : Logs s n) : n.lease = s.lease := by obtain ⟨g, fs, qa, qb, rfl⟩ := h; rfl
theorem Logs.com {s n : State} (h : Logs s n) : n.com = s.com := by obtain ⟨g, fs, qa, qb, rfl⟩ := h; rfl
theorem Logs.power {s n : State} (h : Logs s n) : n.power = s.power := by obtain ⟨g, fs, qa, qb, rfl⟩ := h; rfl
theorem Logs.links {s n : State} (h : Logs s n) : n.links = s.links := by obtain ⟨g, fs, qa, qb, rfl⟩ := h; rfl
theorem Logs.sleep {s n : State} (h : Logs s n) : n.sleep = s.sleep := by obtain ⟨g, fs, qa, qb, rfl⟩ := h; rfl
theorem Logs.tap {s n : State} (h : Logs s n) : n.tap = s.tap := by obtain ⟨g, fs, qa, qb, rfl⟩ := h; rfl
theorem Logs.balls {s n : State} (h : Logs s n) : n.balls = s.balls := by obtain ⟨g, fs, qa, qb, rfl⟩ := h; rfl
theorem Logs.pick {s n : State} (h : Logs s n) : n.pick = s.pick := by obtain ⟨g, fs, qa, qb, rfl⟩ := h; rfl
theorem Logs.nest {s n : State} (h : Logs s n) : n.nest = s.nest := by obtain ⟨g, fs, qa, qb, rfl⟩ := h; rfl
theorem Logs.out {s n : State} (h : Logs s n) : n.out = s.out := by obtain ⟨g, fs, qa, qb, rfl⟩ := h; rfl
theorem Logs.free {s n : State} (h : Logs s n) : n.free = s.free := by obtain ⟨g, fs, qa, qb, rfl⟩ := h; rfl
theorem Logs.la_supplied {s n : State} (h : Logs s n) : n.la.supplied = s.la.supplied := by obtain ⟨g, fs, qa, qb, rfl⟩ := h; rfl
theorem Logs.la_pllOk {s n : State} (h : Logs s n) : n.la.pllOk = s.la.pllOk := by obtain ⟨g, fs, qa, qb, rfl⟩ := h; rfl
theorem Logs.la_mramOk {s n : State} (h : Logs s n) : n.la.mramOk = s.la.mramOk := by obtain ⟨g, fs, qa, qb, rfl⟩ := h; rfl
theorem Logs.la_sramOk {s n : State} (h : Logs s n) : n.la.sramOk = s.la.sramOk := by obtain ⟨g, fs, qa, qb, rfl⟩ := h; rfl
theorem Logs.la_t0 {s n : State} (h : Logs s n) : n.la.t0 = s.la.t0 := by obtain ⟨g, fs, qa, qb, rfl⟩ := h; rfl
theorem Logs.la_st {s n : State} (h : Logs s n) : n.la.st = s.la.st := by obtain ⟨g, fs, qa, qb, rfl⟩ := h; rfl
theorem Logs.la_cause {s n : State} (h : Logs s n) : n.la.cause = s.la.cause := by obtain ⟨g, fs, qa, qb, rfl⟩ := h; rfl
theorem Logs.la_fenceTime {s n : State} (h : Logs s n) : n.la.fenceTime = s.la.fenceTime := by obtain ⟨g, fs, qa, qb, rfl⟩ := h; rfl
theorem Logs.la_rejoin {s n : State} (h : Logs s n) : n.la.rejoin = s.la.rejoin := by obtain ⟨g, fs, qa, qb, rfl⟩ := h; rfl
theorem Logs.la_slot0 {s n : State} (h : Logs s n) : n.la.slot0 = s.la.slot0 := by obtain ⟨g, fs, qa, qb, rfl⟩ := h; rfl
theorem Logs.la_slot1 {s n : State} (h : Logs s n) : n.la.slot1 = s.la.slot1 := by obtain ⟨g, fs, qa, qb, rfl⟩ := h; rfl
theorem Logs.la_valid0 {s n : State} (h : Logs s n) : n.la.valid0 = s.la.valid0 := by obtain ⟨g, fs, qa, qb, rfl⟩ := h; rfl
theorem Logs.la_valid1 {s n : State} (h : Logs s n) : n.la.valid1 = s.la.valid1 := by obtain ⟨g, fs, qa, qb, rfl⟩ := h; rfl
theorem Logs.la_stage {s n : State} (h : Logs s n) : n.la.stage = s.la.stage := by obtain ⟨g, fs, qa, qb, rfl⟩ := h; rfl
theorem Logs.la_mramQ {s n : State} (h : Logs s n) : n.la.mramQ = s.la.mramQ := by obtain ⟨g, fs, qa, qb, rfl⟩ := h; rfl
theorem Logs.la_writeOk {s n : State} (h : Logs s n) : n.la.writeOk = s.la.writeOk := by obtain ⟨g, fs, qa, qb, rfl⟩ := h; rfl
theorem Logs.la_refuseNow {s n : State} (h : Logs s n) : n.la.refuseNow = s.la.refuseNow := by obtain ⟨g, fs, qa, qb, rfl⟩ := h; rfl
theorem Logs.la_regulated {s n : State} (h : Logs s n) : n.la.regulated = s.la.regulated := by obtain ⟨g, fs, qa, qb, rfl⟩ := h; rfl
theorem Logs.la_rq {s n : State} (h : Logs s n) : n.la.rq = s.la.rq := by obtain ⟨g, fs, qa, qb, rfl⟩ := h; rfl
theorem Logs.la_digest {s n : State} (h : Logs s n) : n.la.digest = s.la.digest := by obtain ⟨g, fs, qa, qb, rfl⟩ := h; rfl
theorem Logs.la_snapA {s n : State} (h : Logs s n) : n.la.snapA = s.la.snapA := by obtain ⟨g, fs, qa, qb, rfl⟩ := h; rfl
theorem Logs.la_snapB {s n : State} (h : Logs s n) : n.la.snapB = s.la.snapB := by obtain ⟨g, fs, qa, qb, rfl⟩ := h; rfl
theorem Logs.la_snapGo {s n : State} (h : Logs s n) : n.la.snapGo = s.la.snapGo := by obtain ⟨g, fs, qa, qb, rfl⟩ := h; rfl
theorem Logs.la_snapIdx {s n : State} (h : Logs s n) : n.la.snapIdx = s.la.snapIdx := by obtain ⟨g, fs, qa, qb, rfl⟩ := h; rfl
theorem Logs.la_snapOwed {s n : State} (h : Logs s n) : n.la.snapOwed = s.la.snapOwed := by obtain ⟨g, fs, qa, qb, rfl⟩ := h; rfl
theorem Logs.la_snapHeld {s n : State} (h : Logs s n) : n.la.snapHeld = s.la.snapHeld := by obtain ⟨g, fs, qa, qb, rfl⟩ := h; rfl
theorem Logs.la_mram {s n : State} (h : Logs s n) : n.la.mram = s.la.mram := by obtain ⟨g, fs, qa, qb, rfl⟩ := h; rfl
theorem Logs.la_dbReq {s n : State} (h : Logs s n) : n.la.dbReq = s.la.dbReq := by obtain ⟨g, fs, qa, qb, rfl⟩ := h; rfl
theorem Logs.lb_supplied {s n : State} (h : Logs s n) : n.lb.supplied = s.lb.supplied := by obtain ⟨g, fs, qa, qb, rfl⟩ := h; rfl
theorem Logs.lb_pllOk {s n : State} (h : Logs s n) : n.lb.pllOk = s.lb.pllOk := by obtain ⟨g, fs, qa, qb, rfl⟩ := h; rfl
theorem Logs.lb_mramOk {s n : State} (h : Logs s n) : n.lb.mramOk = s.lb.mramOk := by obtain ⟨g, fs, qa, qb, rfl⟩ := h; rfl
theorem Logs.lb_sramOk {s n : State} (h : Logs s n) : n.lb.sramOk = s.lb.sramOk := by obtain ⟨g, fs, qa, qb, rfl⟩ := h; rfl
theorem Logs.lb_t0 {s n : State} (h : Logs s n) : n.lb.t0 = s.lb.t0 := by obtain ⟨g, fs, qa, qb, rfl⟩ := h; rfl
theorem Logs.lb_st {s n : State} (h : Logs s n) : n.lb.st = s.lb.st := by obtain ⟨g, fs, qa, qb, rfl⟩ := h; rfl
theorem Logs.lb_cause {s n : State} (h : Logs s n) : n.lb.cause = s.lb.cause := by obtain ⟨g, fs, qa, qb, rfl⟩ := h; rfl
theorem Logs.lb_fenceTime {s n : State} (h : Logs s n) : n.lb.fenceTime = s.lb.fenceTime := by obtain ⟨g, fs, qa, qb, rfl⟩ := h; rfl
theorem Logs.lb_rejoin {s n : State} (h : Logs s n) : n.lb.rejoin = s.lb.rejoin := by obtain ⟨g, fs, qa, qb, rfl⟩ := h; rfl
theorem Logs.lb_slot0 {s n : State} (h : Logs s n) : n.lb.slot0 = s.lb.slot0 := by obtain ⟨g, fs, qa, qb, rfl⟩ := h; rfl
theorem Logs.lb_slot1 {s n : State} (h : Logs s n) : n.lb.slot1 = s.lb.slot1 := by obtain ⟨g, fs, qa, qb, rfl⟩ := h; rfl
theorem Logs.lb_valid0 {s n : State} (h : Logs s n) : n.lb.valid0 = s.lb.valid0 := by obtain ⟨g, fs, qa, qb, rfl⟩ := h; rfl
theorem Logs.lb_valid1 {s n : State} (h : Logs s n) : n.lb.valid1 = s.lb.valid1 := by obtain ⟨g, fs, qa, qb, rfl⟩ := h; rfl
theorem Logs.lb_stage {s n : State} (h : Logs s n) : n.lb.stage = s.lb.stage := by obtain ⟨g, fs, qa, qb, rfl⟩ := h; rfl
theorem Logs.lb_mramQ {s n : State} (h : Logs s n) : n.lb.mramQ = s.lb.mramQ := by obtain ⟨g, fs, qa, qb, rfl⟩ := h; rfl
theorem Logs.lb_writeOk {s n : State} (h : Logs s n) : n.lb.writeOk = s.lb.writeOk := by obtain ⟨g, fs, qa, qb, rfl⟩ := h; rfl
theorem Logs.lb_refuseNow {s n : State} (h : Logs s n) : n.lb.refuseNow = s.lb.refuseNow := by obtain ⟨g, fs, qa, qb, rfl⟩ := h; rfl
theorem Logs.lb_regulated {s n : State} (h : Logs s n) : n.lb.regulated = s.lb.regulated := by obtain ⟨g, fs, qa, qb, rfl⟩ := h; rfl
theorem Logs.lb_rq {s n : State} (h : Logs s n) : n.lb.rq = s.lb.rq := by obtain ⟨g, fs, qa, qb, rfl⟩ := h; rfl
theorem Logs.lb_digest {s n : State} (h : Logs s n) : n.lb.digest = s.lb.digest := by obtain ⟨g, fs, qa, qb, rfl⟩ := h; rfl
theorem Logs.lb_snapA {s n : State} (h : Logs s n) : n.lb.snapA = s.lb.snapA := by obtain ⟨g, fs, qa, qb, rfl⟩ := h; rfl
theorem Logs.lb_snapB {s n : State} (h : Logs s n) : n.lb.snapB = s.lb.snapB := by obtain ⟨g, fs, qa, qb, rfl⟩ := h; rfl
theorem Logs.lb_snapGo {s n : State} (h : Logs s n) : n.lb.snapGo = s.lb.snapGo := by obtain ⟨g, fs, qa, qb, rfl⟩ := h; rfl
theorem Logs.lb_snapIdx {s n : State} (h : Logs s n) : n.lb.snapIdx = s.lb.snapIdx := by obtain ⟨g, fs, qa, qb, rfl⟩ := h; rfl
theorem Logs.lb_snapOwed {s n : State} (h : Logs s n) : n.lb.snapOwed = s.lb.snapOwed := by obtain ⟨g, fs, qa, qb, rfl⟩ := h; rfl
theorem Logs.lb_snapHeld {s n : State} (h : Logs s n) : n.lb.snapHeld = s.lb.snapHeld := by obtain ⟨g, fs, qa, qb, rfl⟩ := h; rfl
theorem Logs.lb_mram {s n : State} (h : Logs s n) : n.lb.mram = s.lb.mram := by obtain ⟨g, fs, qa, qb, rfl⟩ := h; rfl
theorem Logs.lb_dbReq {s n : State} (h : Logs s n) : n.lb.dbReq = s.lb.dbReq := by obtain ⟨g, fs, qa, qb, rfl⟩ := h; rfl
theorem Logs.leaf_supplied {s n : State} (h : Logs s n) (l : Leaf) : (n.leaf l).supplied = (s.leaf l).supplied := by obtain ⟨g, fs, qa, qb, rfl⟩ := h; cases l <;> rfl
theorem Logs.leaf_pllOk {s n : State} (h : Logs s n) (l : Leaf) : (n.leaf l).pllOk = (s.leaf l).pllOk := by obtain ⟨g, fs, qa, qb, rfl⟩ := h; cases l <;> rfl
theorem Logs.leaf_mramOk {s n : State} (h : Logs s n) (l : Leaf) : (n.leaf l).mramOk = (s.leaf l).mramOk := by obtain ⟨g, fs, qa, qb, rfl⟩ := h; cases l <;> rfl
theorem Logs.leaf_sramOk {s n : State} (h : Logs s n) (l : Leaf) : (n.leaf l).sramOk = (s.leaf l).sramOk := by obtain ⟨g, fs, qa, qb, rfl⟩ := h; cases l <;> rfl
theorem Logs.leaf_t0 {s n : State} (h : Logs s n) (l : Leaf) : (n.leaf l).t0 = (s.leaf l).t0 := by obtain ⟨g, fs, qa, qb, rfl⟩ := h; cases l <;> rfl
theorem Logs.leaf_st {s n : State} (h : Logs s n) (l : Leaf) : (n.leaf l).st = (s.leaf l).st := by obtain ⟨g, fs, qa, qb, rfl⟩ := h; cases l <;> rfl
theorem Logs.leaf_cause {s n : State} (h : Logs s n) (l : Leaf) : (n.leaf l).cause = (s.leaf l).cause := by obtain ⟨g, fs, qa, qb, rfl⟩ := h; cases l <;> rfl
theorem Logs.leaf_fenceTime {s n : State} (h : Logs s n) (l : Leaf) : (n.leaf l).fenceTime = (s.leaf l).fenceTime := by obtain ⟨g, fs, qa, qb, rfl⟩ := h; cases l <;> rfl
theorem Logs.leaf_rejoin {s n : State} (h : Logs s n) (l : Leaf) : (n.leaf l).rejoin = (s.leaf l).rejoin := by obtain ⟨g, fs, qa, qb, rfl⟩ := h; cases l <;> rfl
theorem Logs.leaf_slot0 {s n : State} (h : Logs s n) (l : Leaf) : (n.leaf l).slot0 = (s.leaf l).slot0 := by obtain ⟨g, fs, qa, qb, rfl⟩ := h; cases l <;> rfl
theorem Logs.leaf_slot1 {s n : State} (h : Logs s n) (l : Leaf) : (n.leaf l).slot1 = (s.leaf l).slot1 := by obtain ⟨g, fs, qa, qb, rfl⟩ := h; cases l <;> rfl
theorem Logs.leaf_valid0 {s n : State} (h : Logs s n) (l : Leaf) : (n.leaf l).valid0 = (s.leaf l).valid0 := by obtain ⟨g, fs, qa, qb, rfl⟩ := h; cases l <;> rfl
theorem Logs.leaf_valid1 {s n : State} (h : Logs s n) (l : Leaf) : (n.leaf l).valid1 = (s.leaf l).valid1 := by obtain ⟨g, fs, qa, qb, rfl⟩ := h; cases l <;> rfl
theorem Logs.leaf_stage {s n : State} (h : Logs s n) (l : Leaf) : (n.leaf l).stage = (s.leaf l).stage := by obtain ⟨g, fs, qa, qb, rfl⟩ := h; cases l <;> rfl
theorem Logs.leaf_mramQ {s n : State} (h : Logs s n) (l : Leaf) : (n.leaf l).mramQ = (s.leaf l).mramQ := by obtain ⟨g, fs, qa, qb, rfl⟩ := h; cases l <;> rfl
theorem Logs.leaf_writeOk {s n : State} (h : Logs s n) (l : Leaf) : (n.leaf l).writeOk = (s.leaf l).writeOk := by obtain ⟨g, fs, qa, qb, rfl⟩ := h; cases l <;> rfl
theorem Logs.leaf_refuseNow {s n : State} (h : Logs s n) (l : Leaf) : (n.leaf l).refuseNow = (s.leaf l).refuseNow := by obtain ⟨g, fs, qa, qb, rfl⟩ := h; cases l <;> rfl
theorem Logs.leaf_regulated {s n : State} (h : Logs s n) (l : Leaf) : (n.leaf l).regulated = (s.leaf l).regulated := by obtain ⟨g, fs, qa, qb, rfl⟩ := h; cases l <;> rfl
theorem Logs.leaf_rq {s n : State} (h : Logs s n) (l : Leaf) : (n.leaf l).rq = (s.leaf l).rq := by obtain ⟨g, fs, qa, qb, rfl⟩ := h; cases l <;> rfl
theorem Logs.leaf_digest {s n : State} (h : Logs s n) (l : Leaf) : (n.leaf l).digest = (s.leaf l).digest := by obtain ⟨g, fs, qa, qb, rfl⟩ := h; cases l <;> rfl
theorem Logs.leaf_snapA {s n : State} (h : Logs s n) (l : Leaf) : (n.leaf l).snapA = (s.leaf l).snapA := by obtain ⟨g, fs, qa, qb, rfl⟩ := h; cases l <;> rfl
theorem Logs.leaf_snapB {s n : State} (h : Logs s n) (l : Leaf) : (n.leaf l).snapB = (s.leaf l).snapB := by obtain ⟨g, fs, qa, qb, rfl⟩ := h; cases l <;> rfl
theorem Logs.leaf_snapGo {s n : State} (h : Logs s n) (l : Leaf) : (n.leaf l).snapGo = (s.leaf l).snapGo := by obtain ⟨g, fs, qa, qb, rfl⟩ := h; cases l <;> rfl
theorem Logs.leaf_snapIdx {s n : State} (h : Logs s n) (l : Leaf) : (n.leaf l).snapIdx = (s.leaf l).snapIdx := by obtain ⟨g, fs, qa, qb, rfl⟩ := h; cases l <;> rfl
theorem Logs.leaf_snapOwed {s n : State} (h : Logs s n) (l : Leaf) : (n.leaf l).snapOwed = (s.leaf l).snapOwed := by obtain ⟨g, fs, qa, qb, rfl⟩ := h; cases l <;> rfl
theorem Logs.leaf_snapHeld {s n : State} (h : Logs s n) (l : Leaf) : (n.leaf l).snapHeld = (s.leaf l).snapHeld := by obtain ⟨g, fs, qa, qb, rfl⟩ := h; cases l <;> rfl
theorem Logs.leaf_mram {s n : State} (h : Logs s n) (l : Leaf) : (n.leaf l).mram = (s.leaf l).mram := by obtain ⟨g, fs, qa, qb, rfl⟩ := h; cases l <;> rfl
theorem Logs.leaf_dbReq {s n : State} (h : Logs s n) (l : Leaf) : (n.leaf l).dbReq = (s.leaf l).dbReq := by obtain ⟨g, fs, qa, qb, rfl⟩ := h; cases l <;> rfl

/-! `raiseO` -/
@[simp] theorem raiseO_pending (s : State) (code src org : Nat) (ps : List Param) : (s.raiseO code src org ps).pending = s.pending := (Logs.raiseO _ _ _ _ _).pending
@[simp] theorem raiseO_time (s : State) (code src org : Nat) (ps : List Param) : (s.raiseO code src org ps).time = s.time := (Logs.raiseO _ _ _ _ _).time
@[simp] theorem raiseO_aon (s : State) (code src org : Nat) (ps : List Param) : (s.raiseO code src org ps).aon = s.aon := (Logs.raiseO _ _ _ _ _).aon
@[simp] theorem raiseO_kn (s : State) (code src org : Nat) (ps : List Param) : (s.raiseO code src org ps).kn = s.kn := (Logs.raiseO _ _ _ _ _).kn
@[simp] theorem raiseO_cfg (s : State) (code src org : Nat) (ps : List Param) : (s.raiseO code src org ps).cfg = s.cfg := (Logs.raiseO _ _ _ _ _).cfg
@[simp] theorem raiseO_stage (s : State) (code src org : Nat) (ps : List Param) : (s.raiseO code src org ps).stage = s.stage := (Logs.raiseO _ _ _ _ _).stage
@[simp] theorem raiseO_ovl (s : State) (code src org : Nat) (ps : List Param) : (s.raiseO code src org ps).ovl = s.ovl := (Logs.raiseO _ _ _ _ _).ovl
@[simp] theorem raiseO_ch (s : State) (code src org : Nat) (ps : List Param) : (s.raiseO code src org ps).ch = s.ch := (Logs.raiseO _ _ _ _ _).ch
@[simp] theorem raiseO_sw (s : State) (code src org : Nat) (ps : List Param) : (s.raiseO code src org ps).sw = s.sw := (Logs.raiseO _ _ _ _ _).sw
@[simp] theorem raiseO_cur (s : State) (code src org : Nat) (ps : List Param) : (s.raiseO code src org ps).cur = s.cur := (Logs.raiseO _ _ _ _ _).cur
@[simp] theorem raiseO_strCur (s : State) (code src org : Nat) (ps : List Param) : (s.raiseO code src org ps).strCur = s.strCur := (Logs.raiseO _ _ _ _ _).strCur
@[simp] theorem raiseO_prot (s : State) (code src org : Nat) (ps : List Param) : (s.raiseO code src org ps).prot = s.prot := (Logs.raiseO _ _ _ _ _).prot
@[simp] theorem raiseO_th (s : State) (code src org : Nat) (ps : List Param) : (s.raiseO code src org ps).th = s.th := (Logs.raiseO _ _ _ _ _).th
@[simp] theorem raiseO_est (s : State) (code src org : Nat) (ps : List Param) : (s.raiseO code src org ps).est = s.est := (Logs.raiseO _ _ _ _ _).est
@[simp] theorem raiseO_lim (s : State) (code src org : Nat) (ps : List Param) : (s.raiseO code src org ps).lim = s.lim := (Logs.raiseO _ _ _ _ _).lim
@[simp] theorem raiseO_bal (s : State) (code src org : Nat) (ps : List Param) : (s.raiseO code src org ps).bal = s.bal := (Logs.raiseO _ _ _ _ _).bal
@[simp] theorem raiseO_hasp (s : State) (code src org : Nat) (ps : List Param) : (s.raiseO code src org ps).hasp = s.hasp := (Logs.raiseO _ _ _ _ _).hasp
@[simp] theorem raiseO_lease (s : State) (code src org : Nat) (ps : List Param) : (s.raiseO code src org ps).lease = s.lease := (Logs.raiseO _ _ _ _ _).lease
@[simp] theorem raiseO_com (s : State) (code src org : Nat) (ps : List Param) : (s.raiseO code src org ps).com = s.com := (Logs.raiseO _ _ _ _ _).com
@[simp] theorem raiseO_power (s : State) (code src org : Nat) (ps : List Param) : (s.raiseO code src org ps).power = s.power := (Logs.raiseO _ _ _ _ _).power
@[simp] theorem raiseO_links (s : State) (code src org : Nat) (ps : List Param) : (s.raiseO code src org ps).links = s.links := (Logs.raiseO _ _ _ _ _).links
@[simp] theorem raiseO_sleep (s : State) (code src org : Nat) (ps : List Param) : (s.raiseO code src org ps).sleep = s.sleep := (Logs.raiseO _ _ _ _ _).sleep
@[simp] theorem raiseO_tap (s : State) (code src org : Nat) (ps : List Param) : (s.raiseO code src org ps).tap = s.tap := (Logs.raiseO _ _ _ _ _).tap
@[simp] theorem raiseO_balls (s : State) (code src org : Nat) (ps : List Param) : (s.raiseO code src org ps).balls = s.balls := (Logs.raiseO _ _ _ _ _).balls
@[simp] theorem raiseO_pick (s : State) (code src org : Nat) (ps : List Param) : (s.raiseO code src org ps).pick = s.pick := (Logs.raiseO _ _ _ _ _).pick
@[simp] theorem raiseO_nest (s : State) (code src org : Nat) (ps : List Param) : (s.raiseO code src org ps).nest = s.nest := (Logs.raiseO _ _ _ _ _).nest
@[simp] theorem raiseO_out (s : State) (code src org : Nat) (ps : List Param) : (s.raiseO code src org ps).out = s.out := (Logs.raiseO _ _ _ _ _).out
@[simp] theorem raiseO_free (s : State) (code src org : Nat) (ps : List Param) : (s.raiseO code src org ps).free = s.free := (Logs.raiseO _ _ _ _ _).free
@[simp] theorem raiseO_la_supplied (s : State) (code src org : Nat) (ps : List Param) : (s.raiseO code src org ps).la.supplied = s.la.supplied := (Logs.raiseO _ _ _ _ _).la_supplied
@[simp] theorem raiseO_la_pllOk (s : State) (code src org : Nat) (ps : List Param) : (s.raiseO code src org ps).la.pllOk = s.la.pllOk := (Logs.raiseO _ _ _ _ _).la_pllOk
@[simp] theorem raiseO_la_mramOk (s : State) (code src org : Nat) (ps : List Param) : (s.raiseO code src org ps).la.mramOk = s.la.mramOk := (Logs.raiseO _ _ _ _ _).la_mramOk
@[simp] theorem raiseO_la_sramOk (s : State) (code src org : Nat) (ps : List Param) : (s.raiseO code src org ps).la.sramOk = s.la.sramOk := (Logs.raiseO _ _ _ _ _).la_sramOk
@[simp] theorem raiseO_la_t0 (s : State) (code src org : Nat) (ps : List Param) : (s.raiseO code src org ps).la.t0 = s.la.t0 := (Logs.raiseO _ _ _ _ _).la_t0
@[simp] theorem raiseO_la_st (s : State) (code src org : Nat) (ps : List Param) : (s.raiseO code src org ps).la.st = s.la.st := (Logs.raiseO _ _ _ _ _).la_st
@[simp] theorem raiseO_la_cause (s : State) (code src org : Nat) (ps : List Param) : (s.raiseO code src org ps).la.cause = s.la.cause := (Logs.raiseO _ _ _ _ _).la_cause
@[simp] theorem raiseO_la_fenceTime (s : State) (code src org : Nat) (ps : List Param) : (s.raiseO code src org ps).la.fenceTime = s.la.fenceTime := (Logs.raiseO _ _ _ _ _).la_fenceTime
@[simp] theorem raiseO_la_rejoin (s : State) (code src org : Nat) (ps : List Param) : (s.raiseO code src org ps).la.rejoin = s.la.rejoin := (Logs.raiseO _ _ _ _ _).la_rejoin
@[simp] theorem raiseO_la_slot0 (s : State) (code src org : Nat) (ps : List Param) : (s.raiseO code src org ps).la.slot0 = s.la.slot0 := (Logs.raiseO _ _ _ _ _).la_slot0
@[simp] theorem raiseO_la_slot1 (s : State) (code src org : Nat) (ps : List Param) : (s.raiseO code src org ps).la.slot1 = s.la.slot1 := (Logs.raiseO _ _ _ _ _).la_slot1
@[simp] theorem raiseO_la_valid0 (s : State) (code src org : Nat) (ps : List Param) : (s.raiseO code src org ps).la.valid0 = s.la.valid0 := (Logs.raiseO _ _ _ _ _).la_valid0
@[simp] theorem raiseO_la_valid1 (s : State) (code src org : Nat) (ps : List Param) : (s.raiseO code src org ps).la.valid1 = s.la.valid1 := (Logs.raiseO _ _ _ _ _).la_valid1
@[simp] theorem raiseO_la_stage (s : State) (code src org : Nat) (ps : List Param) : (s.raiseO code src org ps).la.stage = s.la.stage := (Logs.raiseO _ _ _ _ _).la_stage
@[simp] theorem raiseO_la_mramQ (s : State) (code src org : Nat) (ps : List Param) : (s.raiseO code src org ps).la.mramQ = s.la.mramQ := (Logs.raiseO _ _ _ _ _).la_mramQ
@[simp] theorem raiseO_la_writeOk (s : State) (code src org : Nat) (ps : List Param) : (s.raiseO code src org ps).la.writeOk = s.la.writeOk := (Logs.raiseO _ _ _ _ _).la_writeOk
@[simp] theorem raiseO_la_refuseNow (s : State) (code src org : Nat) (ps : List Param) : (s.raiseO code src org ps).la.refuseNow = s.la.refuseNow := (Logs.raiseO _ _ _ _ _).la_refuseNow
@[simp] theorem raiseO_la_regulated (s : State) (code src org : Nat) (ps : List Param) : (s.raiseO code src org ps).la.regulated = s.la.regulated := (Logs.raiseO _ _ _ _ _).la_regulated
@[simp] theorem raiseO_la_rq (s : State) (code src org : Nat) (ps : List Param) : (s.raiseO code src org ps).la.rq = s.la.rq := (Logs.raiseO _ _ _ _ _).la_rq
@[simp] theorem raiseO_la_digest (s : State) (code src org : Nat) (ps : List Param) : (s.raiseO code src org ps).la.digest = s.la.digest := (Logs.raiseO _ _ _ _ _).la_digest
@[simp] theorem raiseO_la_snapA (s : State) (code src org : Nat) (ps : List Param) : (s.raiseO code src org ps).la.snapA = s.la.snapA := (Logs.raiseO _ _ _ _ _).la_snapA
@[simp] theorem raiseO_la_snapB (s : State) (code src org : Nat) (ps : List Param) : (s.raiseO code src org ps).la.snapB = s.la.snapB := (Logs.raiseO _ _ _ _ _).la_snapB
@[simp] theorem raiseO_la_snapGo (s : State) (code src org : Nat) (ps : List Param) : (s.raiseO code src org ps).la.snapGo = s.la.snapGo := (Logs.raiseO _ _ _ _ _).la_snapGo
@[simp] theorem raiseO_la_snapIdx (s : State) (code src org : Nat) (ps : List Param) : (s.raiseO code src org ps).la.snapIdx = s.la.snapIdx := (Logs.raiseO _ _ _ _ _).la_snapIdx
@[simp] theorem raiseO_la_snapOwed (s : State) (code src org : Nat) (ps : List Param) : (s.raiseO code src org ps).la.snapOwed = s.la.snapOwed := (Logs.raiseO _ _ _ _ _).la_snapOwed
@[simp] theorem raiseO_la_snapHeld (s : State) (code src org : Nat) (ps : List Param) : (s.raiseO code src org ps).la.snapHeld = s.la.snapHeld := (Logs.raiseO _ _ _ _ _).la_snapHeld
@[simp] theorem raiseO_la_mram (s : State) (code src org : Nat) (ps : List Param) : (s.raiseO code src org ps).la.mram = s.la.mram := (Logs.raiseO _ _ _ _ _).la_mram
@[simp] theorem raiseO_la_dbReq (s : State) (code src org : Nat) (ps : List Param) : (s.raiseO code src org ps).la.dbReq = s.la.dbReq := (Logs.raiseO _ _ _ _ _).la_dbReq
@[simp] theorem raiseO_lb_supplied (s : State) (code src org : Nat) (ps : List Param) : (s.raiseO code src org ps).lb.supplied = s.lb.supplied := (Logs.raiseO _ _ _ _ _).lb_supplied
@[simp] theorem raiseO_lb_pllOk (s : State) (code src org : Nat) (ps : List Param) : (s.raiseO code src org ps).lb.pllOk = s.lb.pllOk := (Logs.raiseO _ _ _ _ _).lb_pllOk
@[simp] theorem raiseO_lb_mramOk (s : State) (code src org : Nat) (ps : List Param) : (s.raiseO code src org ps).lb.mramOk = s.lb.mramOk := (Logs.raiseO _ _ _ _ _).lb_mramOk
@[simp] theorem raiseO_lb_sramOk (s : State) (code src org : Nat) (ps : List Param) : (s.raiseO code src org ps).lb.sramOk = s.lb.sramOk := (Logs.raiseO _ _ _ _ _).lb_sramOk
@[simp] theorem raiseO_lb_t0 (s : State) (code src org : Nat) (ps : List Param) : (s.raiseO code src org ps).lb.t0 = s.lb.t0 := (Logs.raiseO _ _ _ _ _).lb_t0
@[simp] theorem raiseO_lb_st (s : State) (code src org : Nat) (ps : List Param) : (s.raiseO code src org ps).lb.st = s.lb.st := (Logs.raiseO _ _ _ _ _).lb_st
@[simp] theorem raiseO_lb_cause (s : State) (code src org : Nat) (ps : List Param) : (s.raiseO code src org ps).lb.cause = s.lb.cause := (Logs.raiseO _ _ _ _ _).lb_cause
@[simp] theorem raiseO_lb_fenceTime (s : State) (code src org : Nat) (ps : List Param) : (s.raiseO code src org ps).lb.fenceTime = s.lb.fenceTime := (Logs.raiseO _ _ _ _ _).lb_fenceTime
@[simp] theorem raiseO_lb_rejoin (s : State) (code src org : Nat) (ps : List Param) : (s.raiseO code src org ps).lb.rejoin = s.lb.rejoin := (Logs.raiseO _ _ _ _ _).lb_rejoin
@[simp] theorem raiseO_lb_slot0 (s : State) (code src org : Nat) (ps : List Param) : (s.raiseO code src org ps).lb.slot0 = s.lb.slot0 := (Logs.raiseO _ _ _ _ _).lb_slot0
@[simp] theorem raiseO_lb_slot1 (s : State) (code src org : Nat) (ps : List Param) : (s.raiseO code src org ps).lb.slot1 = s.lb.slot1 := (Logs.raiseO _ _ _ _ _).lb_slot1
@[simp] theorem raiseO_lb_valid0 (s : State) (code src org : Nat) (ps : List Param) : (s.raiseO code src org ps).lb.valid0 = s.lb.valid0 := (Logs.raiseO _ _ _ _ _).lb_valid0
@[simp] theorem raiseO_lb_valid1 (s : State) (code src org : Nat) (ps : List Param) : (s.raiseO code src org ps).lb.valid1 = s.lb.valid1 := (Logs.raiseO _ _ _ _ _).lb_valid1
@[simp] theorem raiseO_lb_stage (s : State) (code src org : Nat) (ps : List Param) : (s.raiseO code src org ps).lb.stage = s.lb.stage := (Logs.raiseO _ _ _ _ _).lb_stage
@[simp] theorem raiseO_lb_mramQ (s : State) (code src org : Nat) (ps : List Param) : (s.raiseO code src org ps).lb.mramQ = s.lb.mramQ := (Logs.raiseO _ _ _ _ _).lb_mramQ
@[simp] theorem raiseO_lb_writeOk (s : State) (code src org : Nat) (ps : List Param) : (s.raiseO code src org ps).lb.writeOk = s.lb.writeOk := (Logs.raiseO _ _ _ _ _).lb_writeOk
@[simp] theorem raiseO_lb_refuseNow (s : State) (code src org : Nat) (ps : List Param) : (s.raiseO code src org ps).lb.refuseNow = s.lb.refuseNow := (Logs.raiseO _ _ _ _ _).lb_refuseNow
@[simp] theorem raiseO_lb_regulated (s : State) (code src org : Nat) (ps : List Param) : (s.raiseO code src org ps).lb.regulated = s.lb.regulated := (Logs.raiseO _ _ _ _ _).lb_regulated
@[simp] theorem raiseO_lb_rq (s : State) (code src org : Nat) (ps : List Param) : (s.raiseO code src org ps).lb.rq = s.lb.rq := (Logs.raiseO _ _ _ _ _).lb_rq
@[simp] theorem raiseO_lb_digest (s : State) (code src org : Nat) (ps : List Param) : (s.raiseO code src org ps).lb.digest = s.lb.digest := (Logs.raiseO _ _ _ _ _).lb_digest
@[simp] theorem raiseO_lb_snapA (s : State) (code src org : Nat) (ps : List Param) : (s.raiseO code src org ps).lb.snapA = s.lb.snapA := (Logs.raiseO _ _ _ _ _).lb_snapA
@[simp] theorem raiseO_lb_snapB (s : State) (code src org : Nat) (ps : List Param) : (s.raiseO code src org ps).lb.snapB = s.lb.snapB := (Logs.raiseO _ _ _ _ _).lb_snapB
@[simp] theorem raiseO_lb_snapGo (s : State) (code src org : Nat) (ps : List Param) : (s.raiseO code src org ps).lb.snapGo = s.lb.snapGo := (Logs.raiseO _ _ _ _ _).lb_snapGo
@[simp] theorem raiseO_lb_snapIdx (s : State) (code src org : Nat) (ps : List Param) : (s.raiseO code src org ps).lb.snapIdx = s.lb.snapIdx := (Logs.raiseO _ _ _ _ _).lb_snapIdx
@[simp] theorem raiseO_lb_snapOwed (s : State) (code src org : Nat) (ps : List Param) : (s.raiseO code src org ps).lb.snapOwed = s.lb.snapOwed := (Logs.raiseO _ _ _ _ _).lb_snapOwed
@[simp] theorem raiseO_lb_snapHeld (s : State) (code src org : Nat) (ps : List Param) : (s.raiseO code src org ps).lb.snapHeld = s.lb.snapHeld := (Logs.raiseO _ _ _ _ _).lb_snapHeld
@[simp] theorem raiseO_lb_mram (s : State) (code src org : Nat) (ps : List Param) : (s.raiseO code src org ps).lb.mram = s.lb.mram := (Logs.raiseO _ _ _ _ _).lb_mram
@[simp] theorem raiseO_lb_dbReq (s : State) (code src org : Nat) (ps : List Param) : (s.raiseO code src org ps).lb.dbReq = s.lb.dbReq := (Logs.raiseO _ _ _ _ _).lb_dbReq
@[simp] theorem raiseO_leaf_supplied (s : State) (code src org : Nat) (ps : List Param) (l : Leaf) : ((s.raiseO code src org ps).leaf l).supplied = (s.leaf l).supplied := (Logs.raiseO _ _ _ _ _).leaf_supplied l
@[simp] theorem raiseO_leaf_pllOk (s : State) (code src org : Nat) (ps : List Param) (l : Leaf) : ((s.raiseO code src org ps).leaf l).pllOk = (s.leaf l).pllOk := (Logs.raiseO _ _ _ _ _).leaf_pllOk l
@[simp] theorem raiseO_leaf_mramOk (s : State) (code src org : Nat) (ps : List Param) (l : Leaf) : ((s.raiseO code src org ps).leaf l).mramOk = (s.leaf l).mramOk := (Logs.raiseO _ _ _ _ _).leaf_mramOk l
@[simp] theorem raiseO_leaf_sramOk (s : State) (code src org : Nat) (ps : List Param) (l : Leaf) : ((s.raiseO code src org ps).leaf l).sramOk = (s.leaf l).sramOk := (Logs.raiseO _ _ _ _ _).leaf_sramOk l
@[simp] theorem raiseO_leaf_t0 (s : State) (code src org : Nat) (ps : List Param) (l : Leaf) : ((s.raiseO code src org ps).leaf l).t0 = (s.leaf l).t0 := (Logs.raiseO _ _ _ _ _).leaf_t0 l
@[simp] theorem raiseO_leaf_st (s : State) (code src org : Nat) (ps : List Param) (l : Leaf) : ((s.raiseO code src org ps).leaf l).st = (s.leaf l).st := (Logs.raiseO _ _ _ _ _).leaf_st l
@[simp] theorem raiseO_leaf_cause (s : State) (code src org : Nat) (ps : List Param) (l : Leaf) : ((s.raiseO code src org ps).leaf l).cause = (s.leaf l).cause := (Logs.raiseO _ _ _ _ _).leaf_cause l
@[simp] theorem raiseO_leaf_fenceTime (s : State) (code src org : Nat) (ps : List Param) (l : Leaf) : ((s.raiseO code src org ps).leaf l).fenceTime = (s.leaf l).fenceTime := (Logs.raiseO _ _ _ _ _).leaf_fenceTime l
@[simp] theorem raiseO_leaf_rejoin (s : State) (code src org : Nat) (ps : List Param) (l : Leaf) : ((s.raiseO code src org ps).leaf l).rejoin = (s.leaf l).rejoin := (Logs.raiseO _ _ _ _ _).leaf_rejoin l
@[simp] theorem raiseO_leaf_slot0 (s : State) (code src org : Nat) (ps : List Param) (l : Leaf) : ((s.raiseO code src org ps).leaf l).slot0 = (s.leaf l).slot0 := (Logs.raiseO _ _ _ _ _).leaf_slot0 l
@[simp] theorem raiseO_leaf_slot1 (s : State) (code src org : Nat) (ps : List Param) (l : Leaf) : ((s.raiseO code src org ps).leaf l).slot1 = (s.leaf l).slot1 := (Logs.raiseO _ _ _ _ _).leaf_slot1 l
@[simp] theorem raiseO_leaf_valid0 (s : State) (code src org : Nat) (ps : List Param) (l : Leaf) : ((s.raiseO code src org ps).leaf l).valid0 = (s.leaf l).valid0 := (Logs.raiseO _ _ _ _ _).leaf_valid0 l
@[simp] theorem raiseO_leaf_valid1 (s : State) (code src org : Nat) (ps : List Param) (l : Leaf) : ((s.raiseO code src org ps).leaf l).valid1 = (s.leaf l).valid1 := (Logs.raiseO _ _ _ _ _).leaf_valid1 l
@[simp] theorem raiseO_leaf_stage (s : State) (code src org : Nat) (ps : List Param) (l : Leaf) : ((s.raiseO code src org ps).leaf l).stage = (s.leaf l).stage := (Logs.raiseO _ _ _ _ _).leaf_stage l
@[simp] theorem raiseO_leaf_mramQ (s : State) (code src org : Nat) (ps : List Param) (l : Leaf) : ((s.raiseO code src org ps).leaf l).mramQ = (s.leaf l).mramQ := (Logs.raiseO _ _ _ _ _).leaf_mramQ l
@[simp] theorem raiseO_leaf_writeOk (s : State) (code src org : Nat) (ps : List Param) (l : Leaf) : ((s.raiseO code src org ps).leaf l).writeOk = (s.leaf l).writeOk := (Logs.raiseO _ _ _ _ _).leaf_writeOk l
@[simp] theorem raiseO_leaf_refuseNow (s : State) (code src org : Nat) (ps : List Param) (l : Leaf) : ((s.raiseO code src org ps).leaf l).refuseNow = (s.leaf l).refuseNow := (Logs.raiseO _ _ _ _ _).leaf_refuseNow l
@[simp] theorem raiseO_leaf_regulated (s : State) (code src org : Nat) (ps : List Param) (l : Leaf) : ((s.raiseO code src org ps).leaf l).regulated = (s.leaf l).regulated := (Logs.raiseO _ _ _ _ _).leaf_regulated l
@[simp] theorem raiseO_leaf_rq (s : State) (code src org : Nat) (ps : List Param) (l : Leaf) : ((s.raiseO code src org ps).leaf l).rq = (s.leaf l).rq := (Logs.raiseO _ _ _ _ _).leaf_rq l
@[simp] theorem raiseO_leaf_digest (s : State) (code src org : Nat) (ps : List Param) (l : Leaf) : ((s.raiseO code src org ps).leaf l).digest = (s.leaf l).digest := (Logs.raiseO _ _ _ _ _).leaf_digest l
@[simp] theorem raiseO_leaf_snapA (s : State) (code src org : Nat) (ps : List Param) (l : Leaf) : ((s.raiseO code src org ps).leaf l).snapA = (s.leaf l).snapA := (Logs.raiseO _ _ _ _ _).leaf_snapA l
@[simp] theorem raiseO_leaf_snapB (s : State) (code src org : Nat) (ps : List Param) (l : Leaf) : ((s.raiseO code src org ps).leaf l).snapB = (s.leaf l).snapB := (Logs.raiseO _ _ _ _ _).leaf_snapB l
@[simp] theorem raiseO_leaf_snapGo (s : State) (code src org : Nat) (ps : List Param) (l : Leaf) : ((s.raiseO code src org ps).leaf l).snapGo = (s.leaf l).snapGo := (Logs.raiseO _ _ _ _ _).leaf_snapGo l
@[simp] theorem raiseO_leaf_snapIdx (s : State) (code src org : Nat) (ps : List Param) (l : Leaf) : ((s.raiseO code src org ps).leaf l).snapIdx = (s.leaf l).snapIdx := (Logs.raiseO _ _ _ _ _).leaf_snapIdx l
@[simp] theorem raiseO_leaf_snapOwed (s : State) (code src org : Nat) (ps : List Param) (l : Leaf) : ((s.raiseO code src org ps).leaf l).snapOwed = (s.leaf l).snapOwed := (Logs.raiseO _ _ _ _ _).leaf_snapOwed l
@[simp] theorem raiseO_leaf_snapHeld (s : State) (code src org : Nat) (ps : List Param) (l : Leaf) : ((s.raiseO code src org ps).leaf l).snapHeld = (s.leaf l).snapHeld := (Logs.raiseO _ _ _ _ _).leaf_snapHeld l
@[simp] theorem raiseO_leaf_mram (s : State) (code src org : Nat) (ps : List Param) (l : Leaf) : ((s.raiseO code src org ps).leaf l).mram = (s.leaf l).mram := (Logs.raiseO _ _ _ _ _).leaf_mram l
@[simp] theorem raiseO_leaf_dbReq (s : State) (code src org : Nat) (ps : List Param) (l : Leaf) : ((s.raiseO code src org ps).leaf l).dbReq = (s.leaf l).dbReq := (Logs.raiseO _ _ _ _ _).leaf_dbReq l

/-! `ev` -/
@[simp] theorem ev_pending (s : State) (code src : Nat) (ps : List Param) : (s.ev code src ps).pending = s.pending := (Logs.ev _ _ _ _).pending
@[simp] theorem ev_time (s : State) (code src : Nat) (ps : List Param) : (s.ev code src ps).time = s.time := (Logs.ev _ _ _ _).time
@[simp] theorem ev_aon (s : State) (code src : Nat) (ps : List Param) : (s.ev code src ps).aon = s.aon := (Logs.ev _ _ _ _).aon
@[simp] theorem ev_kn (s : State) (code src : Nat) (ps : List Param) : (s.ev code src ps).kn = s.kn := (Logs.ev _ _ _ _).kn
@[simp] theorem ev_cfg (s : State) (code src : Nat) (ps : List Param) : (s.ev code src ps).cfg = s.cfg := (Logs.ev _ _ _ _).cfg
@[simp] theorem ev_stage (s : State) (code src : Nat) (ps : List Param) : (s.ev code src ps).stage = s.stage := (Logs.ev _ _ _ _).stage
@[simp] theorem ev_ovl (s : State) (code src : Nat) (ps : List Param) : (s.ev code src ps).ovl = s.ovl := (Logs.ev _ _ _ _).ovl
@[simp] theorem ev_ch (s : State) (code src : Nat) (ps : List Param) : (s.ev code src ps).ch = s.ch := (Logs.ev _ _ _ _).ch
@[simp] theorem ev_sw (s : State) (code src : Nat) (ps : List Param) : (s.ev code src ps).sw = s.sw := (Logs.ev _ _ _ _).sw
@[simp] theorem ev_cur (s : State) (code src : Nat) (ps : List Param) : (s.ev code src ps).cur = s.cur := (Logs.ev _ _ _ _).cur
@[simp] theorem ev_strCur (s : State) (code src : Nat) (ps : List Param) : (s.ev code src ps).strCur = s.strCur := (Logs.ev _ _ _ _).strCur
@[simp] theorem ev_prot (s : State) (code src : Nat) (ps : List Param) : (s.ev code src ps).prot = s.prot := (Logs.ev _ _ _ _).prot
@[simp] theorem ev_th (s : State) (code src : Nat) (ps : List Param) : (s.ev code src ps).th = s.th := (Logs.ev _ _ _ _).th
@[simp] theorem ev_est (s : State) (code src : Nat) (ps : List Param) : (s.ev code src ps).est = s.est := (Logs.ev _ _ _ _).est
@[simp] theorem ev_lim (s : State) (code src : Nat) (ps : List Param) : (s.ev code src ps).lim = s.lim := (Logs.ev _ _ _ _).lim
@[simp] theorem ev_bal (s : State) (code src : Nat) (ps : List Param) : (s.ev code src ps).bal = s.bal := (Logs.ev _ _ _ _).bal
@[simp] theorem ev_hasp (s : State) (code src : Nat) (ps : List Param) : (s.ev code src ps).hasp = s.hasp := (Logs.ev _ _ _ _).hasp
@[simp] theorem ev_lease (s : State) (code src : Nat) (ps : List Param) : (s.ev code src ps).lease = s.lease := (Logs.ev _ _ _ _).lease
@[simp] theorem ev_com (s : State) (code src : Nat) (ps : List Param) : (s.ev code src ps).com = s.com := (Logs.ev _ _ _ _).com
@[simp] theorem ev_power (s : State) (code src : Nat) (ps : List Param) : (s.ev code src ps).power = s.power := (Logs.ev _ _ _ _).power
@[simp] theorem ev_links (s : State) (code src : Nat) (ps : List Param) : (s.ev code src ps).links = s.links := (Logs.ev _ _ _ _).links
@[simp] theorem ev_sleep (s : State) (code src : Nat) (ps : List Param) : (s.ev code src ps).sleep = s.sleep := (Logs.ev _ _ _ _).sleep
@[simp] theorem ev_tap (s : State) (code src : Nat) (ps : List Param) : (s.ev code src ps).tap = s.tap := (Logs.ev _ _ _ _).tap
@[simp] theorem ev_balls (s : State) (code src : Nat) (ps : List Param) : (s.ev code src ps).balls = s.balls := (Logs.ev _ _ _ _).balls
@[simp] theorem ev_pick (s : State) (code src : Nat) (ps : List Param) : (s.ev code src ps).pick = s.pick := (Logs.ev _ _ _ _).pick
@[simp] theorem ev_nest (s : State) (code src : Nat) (ps : List Param) : (s.ev code src ps).nest = s.nest := (Logs.ev _ _ _ _).nest
@[simp] theorem ev_out (s : State) (code src : Nat) (ps : List Param) : (s.ev code src ps).out = s.out := (Logs.ev _ _ _ _).out
@[simp] theorem ev_free (s : State) (code src : Nat) (ps : List Param) : (s.ev code src ps).free = s.free := (Logs.ev _ _ _ _).free
@[simp] theorem ev_la_supplied (s : State) (code src : Nat) (ps : List Param) : (s.ev code src ps).la.supplied = s.la.supplied := (Logs.ev _ _ _ _).la_supplied
@[simp] theorem ev_la_pllOk (s : State) (code src : Nat) (ps : List Param) : (s.ev code src ps).la.pllOk = s.la.pllOk := (Logs.ev _ _ _ _).la_pllOk
@[simp] theorem ev_la_mramOk (s : State) (code src : Nat) (ps : List Param) : (s.ev code src ps).la.mramOk = s.la.mramOk := (Logs.ev _ _ _ _).la_mramOk
@[simp] theorem ev_la_sramOk (s : State) (code src : Nat) (ps : List Param) : (s.ev code src ps).la.sramOk = s.la.sramOk := (Logs.ev _ _ _ _).la_sramOk
@[simp] theorem ev_la_t0 (s : State) (code src : Nat) (ps : List Param) : (s.ev code src ps).la.t0 = s.la.t0 := (Logs.ev _ _ _ _).la_t0
@[simp] theorem ev_la_st (s : State) (code src : Nat) (ps : List Param) : (s.ev code src ps).la.st = s.la.st := (Logs.ev _ _ _ _).la_st
@[simp] theorem ev_la_cause (s : State) (code src : Nat) (ps : List Param) : (s.ev code src ps).la.cause = s.la.cause := (Logs.ev _ _ _ _).la_cause
@[simp] theorem ev_la_fenceTime (s : State) (code src : Nat) (ps : List Param) : (s.ev code src ps).la.fenceTime = s.la.fenceTime := (Logs.ev _ _ _ _).la_fenceTime
@[simp] theorem ev_la_rejoin (s : State) (code src : Nat) (ps : List Param) : (s.ev code src ps).la.rejoin = s.la.rejoin := (Logs.ev _ _ _ _).la_rejoin
@[simp] theorem ev_la_slot0 (s : State) (code src : Nat) (ps : List Param) : (s.ev code src ps).la.slot0 = s.la.slot0 := (Logs.ev _ _ _ _).la_slot0
@[simp] theorem ev_la_slot1 (s : State) (code src : Nat) (ps : List Param) : (s.ev code src ps).la.slot1 = s.la.slot1 := (Logs.ev _ _ _ _).la_slot1
@[simp] theorem ev_la_valid0 (s : State) (code src : Nat) (ps : List Param) : (s.ev code src ps).la.valid0 = s.la.valid0 := (Logs.ev _ _ _ _).la_valid0
@[simp] theorem ev_la_valid1 (s : State) (code src : Nat) (ps : List Param) : (s.ev code src ps).la.valid1 = s.la.valid1 := (Logs.ev _ _ _ _).la_valid1
@[simp] theorem ev_la_stage (s : State) (code src : Nat) (ps : List Param) : (s.ev code src ps).la.stage = s.la.stage := (Logs.ev _ _ _ _).la_stage
@[simp] theorem ev_la_mramQ (s : State) (code src : Nat) (ps : List Param) : (s.ev code src ps).la.mramQ = s.la.mramQ := (Logs.ev _ _ _ _).la_mramQ
@[simp] theorem ev_la_writeOk (s : State) (code src : Nat) (ps : List Param) : (s.ev code src ps).la.writeOk = s.la.writeOk := (Logs.ev _ _ _ _).la_writeOk
@[simp] theorem ev_la_refuseNow (s : State) (code src : Nat) (ps : List Param) : (s.ev code src ps).la.refuseNow = s.la.refuseNow := (Logs.ev _ _ _ _).la_refuseNow
@[simp] theorem ev_la_regulated (s : State) (code src : Nat) (ps : List Param) : (s.ev code src ps).la.regulated = s.la.regulated := (Logs.ev _ _ _ _).la_regulated
@[simp] theorem ev_la_rq (s : State) (code src : Nat) (ps : List Param) : (s.ev code src ps).la.rq = s.la.rq := (Logs.ev _ _ _ _).la_rq
@[simp] theorem ev_la_digest (s : State) (code src : Nat) (ps : List Param) : (s.ev code src ps).la.digest = s.la.digest := (Logs.ev _ _ _ _).la_digest
@[simp] theorem ev_la_snapA (s : State) (code src : Nat) (ps : List Param) : (s.ev code src ps).la.snapA = s.la.snapA := (Logs.ev _ _ _ _).la_snapA
@[simp] theorem ev_la_snapB (s : State) (code src : Nat) (ps : List Param) : (s.ev code src ps).la.snapB = s.la.snapB := (Logs.ev _ _ _ _).la_snapB
@[simp] theorem ev_la_snapGo (s : State) (code src : Nat) (ps : List Param) : (s.ev code src ps).la.snapGo = s.la.snapGo := (Logs.ev _ _ _ _).la_snapGo
@[simp] theorem ev_la_snapIdx (s : State) (code src : Nat) (ps : List Param) : (s.ev code src ps).la.snapIdx = s.la.snapIdx := (Logs.ev _ _ _ _).la_snapIdx
@[simp] theorem ev_la_snapOwed (s : State) (code src : Nat) (ps : List Param) : (s.ev code src ps).la.snapOwed = s.la.snapOwed := (Logs.ev _ _ _ _).la_snapOwed
@[simp] theorem ev_la_snapHeld (s : State) (code src : Nat) (ps : List Param) : (s.ev code src ps).la.snapHeld = s.la.snapHeld := (Logs.ev _ _ _ _).la_snapHeld
@[simp] theorem ev_la_mram (s : State) (code src : Nat) (ps : List Param) : (s.ev code src ps).la.mram = s.la.mram := (Logs.ev _ _ _ _).la_mram
@[simp] theorem ev_la_dbReq (s : State) (code src : Nat) (ps : List Param) : (s.ev code src ps).la.dbReq = s.la.dbReq := (Logs.ev _ _ _ _).la_dbReq
@[simp] theorem ev_lb_supplied (s : State) (code src : Nat) (ps : List Param) : (s.ev code src ps).lb.supplied = s.lb.supplied := (Logs.ev _ _ _ _).lb_supplied
@[simp] theorem ev_lb_pllOk (s : State) (code src : Nat) (ps : List Param) : (s.ev code src ps).lb.pllOk = s.lb.pllOk := (Logs.ev _ _ _ _).lb_pllOk
@[simp] theorem ev_lb_mramOk (s : State) (code src : Nat) (ps : List Param) : (s.ev code src ps).lb.mramOk = s.lb.mramOk := (Logs.ev _ _ _ _).lb_mramOk
@[simp] theorem ev_lb_sramOk (s : State) (code src : Nat) (ps : List Param) : (s.ev code src ps).lb.sramOk = s.lb.sramOk := (Logs.ev _ _ _ _).lb_sramOk
@[simp] theorem ev_lb_t0 (s : State) (code src : Nat) (ps : List Param) : (s.ev code src ps).lb.t0 = s.lb.t0 := (Logs.ev _ _ _ _).lb_t0
@[simp] theorem ev_lb_st (s : State) (code src : Nat) (ps : List Param) : (s.ev code src ps).lb.st = s.lb.st := (Logs.ev _ _ _ _).lb_st
@[simp] theorem ev_lb_cause (s : State) (code src : Nat) (ps : List Param) : (s.ev code src ps).lb.cause = s.lb.cause := (Logs.ev _ _ _ _).lb_cause
@[simp] theorem ev_lb_fenceTime (s : State) (code src : Nat) (ps : List Param) : (s.ev code src ps).lb.fenceTime = s.lb.fenceTime := (Logs.ev _ _ _ _).lb_fenceTime
@[simp] theorem ev_lb_rejoin (s : State) (code src : Nat) (ps : List Param) : (s.ev code src ps).lb.rejoin = s.lb.rejoin := (Logs.ev _ _ _ _).lb_rejoin
@[simp] theorem ev_lb_slot0 (s : State) (code src : Nat) (ps : List Param) : (s.ev code src ps).lb.slot0 = s.lb.slot0 := (Logs.ev _ _ _ _).lb_slot0
@[simp] theorem ev_lb_slot1 (s : State) (code src : Nat) (ps : List Param) : (s.ev code src ps).lb.slot1 = s.lb.slot1 := (Logs.ev _ _ _ _).lb_slot1
@[simp] theorem ev_lb_valid0 (s : State) (code src : Nat) (ps : List Param) : (s.ev code src ps).lb.valid0 = s.lb.valid0 := (Logs.ev _ _ _ _).lb_valid0
@[simp] theorem ev_lb_valid1 (s : State) (code src : Nat) (ps : List Param) : (s.ev code src ps).lb.valid1 = s.lb.valid1 := (Logs.ev _ _ _ _).lb_valid1
@[simp] theorem ev_lb_stage (s : State) (code src : Nat) (ps : List Param) : (s.ev code src ps).lb.stage = s.lb.stage := (Logs.ev _ _ _ _).lb_stage
@[simp] theorem ev_lb_mramQ (s : State) (code src : Nat) (ps : List Param) : (s.ev code src ps).lb.mramQ = s.lb.mramQ := (Logs.ev _ _ _ _).lb_mramQ
@[simp] theorem ev_lb_writeOk (s : State) (code src : Nat) (ps : List Param) : (s.ev code src ps).lb.writeOk = s.lb.writeOk := (Logs.ev _ _ _ _).lb_writeOk
@[simp] theorem ev_lb_refuseNow (s : State) (code src : Nat) (ps : List Param) : (s.ev code src ps).lb.refuseNow = s.lb.refuseNow := (Logs.ev _ _ _ _).lb_refuseNow
@[simp] theorem ev_lb_regulated (s : State) (code src : Nat) (ps : List Param) : (s.ev code src ps).lb.regulated = s.lb.regulated := (Logs.ev _ _ _ _).lb_regulated
@[simp] theorem ev_lb_rq (s : State) (code src : Nat) (ps : List Param) : (s.ev code src ps).lb.rq = s.lb.rq := (Logs.ev _ _ _ _).lb_rq
@[simp] theorem ev_lb_digest (s : State) (code src : Nat) (ps : List Param) : (s.ev code src ps).lb.digest = s.lb.digest := (Logs.ev _ _ _ _).lb_digest
@[simp] theorem ev_lb_snapA (s : State) (code src : Nat) (ps : List Param) : (s.ev code src ps).lb.snapA = s.lb.snapA := (Logs.ev _ _ _ _).lb_snapA
@[simp] theorem ev_lb_snapB (s : State) (code src : Nat) (ps : List Param) : (s.ev code src ps).lb.snapB = s.lb.snapB := (Logs.ev _ _ _ _).lb_snapB
@[simp] theorem ev_lb_snapGo (s : State) (code src : Nat) (ps : List Param) : (s.ev code src ps).lb.snapGo = s.lb.snapGo := (Logs.ev _ _ _ _).lb_snapGo
@[simp] theorem ev_lb_snapIdx (s : State) (code src : Nat) (ps : List Param) : (s.ev code src ps).lb.snapIdx = s.lb.snapIdx := (Logs.ev _ _ _ _).lb_snapIdx
@[simp] theorem ev_lb_snapOwed (s : State) (code src : Nat) (ps : List Param) : (s.ev code src ps).lb.snapOwed = s.lb.snapOwed := (Logs.ev _ _ _ _).lb_snapOwed
@[simp] theorem ev_lb_snapHeld (s : State) (code src : Nat) (ps : List Param) : (s.ev code src ps).lb.snapHeld = s.lb.snapHeld := (Logs.ev _ _ _ _).lb_snapHeld
@[simp] theorem ev_lb_mram (s : State) (code src : Nat) (ps : List Param) : (s.ev code src ps).lb.mram = s.lb.mram := (Logs.ev _ _ _ _).lb_mram
@[simp] theorem ev_lb_dbReq (s : State) (code src : Nat) (ps : List Param) : (s.ev code src ps).lb.dbReq = s.lb.dbReq := (Logs.ev _ _ _ _).lb_dbReq
@[simp] theorem ev_leaf_supplied (s : State) (code src : Nat) (ps : List Param) (l : Leaf) : ((s.ev code src ps).leaf l).supplied = (s.leaf l).supplied := (Logs.ev _ _ _ _).leaf_supplied l
@[simp] theorem ev_leaf_pllOk (s : State) (code src : Nat) (ps : List Param) (l : Leaf) : ((s.ev code src ps).leaf l).pllOk = (s.leaf l).pllOk := (Logs.ev _ _ _ _).leaf_pllOk l
@[simp] theorem ev_leaf_mramOk (s : State) (code src : Nat) (ps : List Param) (l : Leaf) : ((s.ev code src ps).leaf l).mramOk = (s.leaf l).mramOk := (Logs.ev _ _ _ _).leaf_mramOk l
@[simp] theorem ev_leaf_sramOk (s : State) (code src : Nat) (ps : List Param) (l : Leaf) : ((s.ev code src ps).leaf l).sramOk = (s.leaf l).sramOk := (Logs.ev _ _ _ _).leaf_sramOk l
@[simp] theorem ev_leaf_t0 (s : State) (code src : Nat) (ps : List Param) (l : Leaf) : ((s.ev code src ps).leaf l).t0 = (s.leaf l).t0 := (Logs.ev _ _ _ _).leaf_t0 l
@[simp] theorem ev_leaf_st (s : State) (code src : Nat) (ps : List Param) (l : Leaf) : ((s.ev code src ps).leaf l).st = (s.leaf l).st := (Logs.ev _ _ _ _).leaf_st l
@[simp] theorem ev_leaf_cause (s : State) (code src : Nat) (ps : List Param) (l : Leaf) : ((s.ev code src ps).leaf l).cause = (s.leaf l).cause := (Logs.ev _ _ _ _).leaf_cause l
@[simp] theorem ev_leaf_fenceTime (s : State) (code src : Nat) (ps : List Param) (l : Leaf) : ((s.ev code src ps).leaf l).fenceTime = (s.leaf l).fenceTime := (Logs.ev _ _ _ _).leaf_fenceTime l
@[simp] theorem ev_leaf_rejoin (s : State) (code src : Nat) (ps : List Param) (l : Leaf) : ((s.ev code src ps).leaf l).rejoin = (s.leaf l).rejoin := (Logs.ev _ _ _ _).leaf_rejoin l
@[simp] theorem ev_leaf_slot0 (s : State) (code src : Nat) (ps : List Param) (l : Leaf) : ((s.ev code src ps).leaf l).slot0 = (s.leaf l).slot0 := (Logs.ev _ _ _ _).leaf_slot0 l
@[simp] theorem ev_leaf_slot1 (s : State) (code src : Nat) (ps : List Param) (l : Leaf) : ((s.ev code src ps).leaf l).slot1 = (s.leaf l).slot1 := (Logs.ev _ _ _ _).leaf_slot1 l
@[simp] theorem ev_leaf_valid0 (s : State) (code src : Nat) (ps : List Param) (l : Leaf) : ((s.ev code src ps).leaf l).valid0 = (s.leaf l).valid0 := (Logs.ev _ _ _ _).leaf_valid0 l
@[simp] theorem ev_leaf_valid1 (s : State) (code src : Nat) (ps : List Param) (l : Leaf) : ((s.ev code src ps).leaf l).valid1 = (s.leaf l).valid1 := (Logs.ev _ _ _ _).leaf_valid1 l
@[simp] theorem ev_leaf_stage (s : State) (code src : Nat) (ps : List Param) (l : Leaf) : ((s.ev code src ps).leaf l).stage = (s.leaf l).stage := (Logs.ev _ _ _ _).leaf_stage l
@[simp] theorem ev_leaf_mramQ (s : State) (code src : Nat) (ps : List Param) (l : Leaf) : ((s.ev code src ps).leaf l).mramQ = (s.leaf l).mramQ := (Logs.ev _ _ _ _).leaf_mramQ l
@[simp] theorem ev_leaf_writeOk (s : State) (code src : Nat) (ps : List Param) (l : Leaf) : ((s.ev code src ps).leaf l).writeOk = (s.leaf l).writeOk := (Logs.ev _ _ _ _).leaf_writeOk l
@[simp] theorem ev_leaf_refuseNow (s : State) (code src : Nat) (ps : List Param) (l : Leaf) : ((s.ev code src ps).leaf l).refuseNow = (s.leaf l).refuseNow := (Logs.ev _ _ _ _).leaf_refuseNow l
@[simp] theorem ev_leaf_regulated (s : State) (code src : Nat) (ps : List Param) (l : Leaf) : ((s.ev code src ps).leaf l).regulated = (s.leaf l).regulated := (Logs.ev _ _ _ _).leaf_regulated l
@[simp] theorem ev_leaf_rq (s : State) (code src : Nat) (ps : List Param) (l : Leaf) : ((s.ev code src ps).leaf l).rq = (s.leaf l).rq := (Logs.ev _ _ _ _).leaf_rq l
@[simp] theorem ev_leaf_digest (s : State) (code src : Nat) (ps : List Param) (l : Leaf) : ((s.ev code src ps).leaf l).digest = (s.leaf l).digest := (Logs.ev _ _ _ _).leaf_digest l
@[simp] theorem ev_leaf_snapA (s : State) (code src : Nat) (ps : List Param) (l : Leaf) : ((s.ev code src ps).leaf l).snapA = (s.leaf l).snapA := (Logs.ev _ _ _ _).leaf_snapA l
@[simp] theorem ev_leaf_snapB (s : State) (code src : Nat) (ps : List Param) (l : Leaf) : ((s.ev code src ps).leaf l).snapB = (s.leaf l).snapB := (Logs.ev _ _ _ _).leaf_snapB l
@[simp] theorem ev_leaf_snapGo (s : State) (code src : Nat) (ps : List Param) (l : Leaf) : ((s.ev code src ps).leaf l).snapGo = (s.leaf l).snapGo := (Logs.ev _ _ _ _).leaf_snapGo l
@[simp] theorem ev_leaf_snapIdx (s : State) (code src : Nat) (ps : List Param) (l : Leaf) : ((s.ev code src ps).leaf l).snapIdx = (s.leaf l).snapIdx := (Logs.ev _ _ _ _).leaf_snapIdx l
@[simp] theorem ev_leaf_snapOwed (s : State) (code src : Nat) (ps : List Param) (l : Leaf) : ((s.ev code src ps).leaf l).snapOwed = (s.leaf l).snapOwed := (Logs.ev _ _ _ _).leaf_snapOwed l
@[simp] theorem ev_leaf_snapHeld (s : State) (code src : Nat) (ps : List Param) (l : Leaf) : ((s.ev code src ps).leaf l).snapHeld = (s.leaf l).snapHeld := (Logs.ev _ _ _ _).leaf_snapHeld l
@[simp] theorem ev_leaf_mram (s : State) (code src : Nat) (ps : List Param) (l : Leaf) : ((s.ev code src ps).leaf l).mram = (s.leaf l).mram := (Logs.ev _ _ _ _).leaf_mram l
@[simp] theorem ev_leaf_dbReq (s : State) (code src : Nat) (ps : List Param) (l : Leaf) : ((s.ev code src ps).leaf l).dbReq = (s.leaf l).dbReq := (Logs.ev _ _ _ _).leaf_dbReq l

/-! `evA` -/
@[simp] theorem evA_pending (s : State) (code src : Nat) (ps : List Param) : (s.evA code src ps).pending = s.pending := (Logs.evA _ _ _ _).pending
@[simp] theorem evA_time (s : State) (code src : Nat) (ps : List Param) : (s.evA code src ps).time = s.time := (Logs.evA _ _ _ _).time
@[simp] theorem evA_aon (s : State) (code src : Nat) (ps : List Param) : (s.evA code src ps).aon = s.aon := (Logs.evA _ _ _ _).aon
@[simp] theorem evA_kn (s : State) (code src : Nat) (ps : List Param) : (s.evA code src ps).kn = s.kn := (Logs.evA _ _ _ _).kn
@[simp] theorem evA_cfg (s : State) (code src : Nat) (ps : List Param) : (s.evA code src ps).cfg = s.cfg := (Logs.evA _ _ _ _).cfg
@[simp] theorem evA_stage (s : State) (code src : Nat) (ps : List Param) : (s.evA code src ps).stage = s.stage := (Logs.evA _ _ _ _).stage
@[simp] theorem evA_ovl (s : State) (code src : Nat) (ps : List Param) : (s.evA code src ps).ovl = s.ovl := (Logs.evA _ _ _ _).ovl
@[simp] theorem evA_ch (s : State) (code src : Nat) (ps : List Param) : (s.evA code src ps).ch = s.ch := (Logs.evA _ _ _ _).ch
@[simp] theorem evA_sw (s : State) (code src : Nat) (ps : List Param) : (s.evA code src ps).sw = s.sw := (Logs.evA _ _ _ _).sw
@[simp] theorem evA_cur (s : State) (code src : Nat) (ps : List Param) : (s.evA code src ps).cur = s.cur := (Logs.evA _ _ _ _).cur
@[simp] theorem evA_strCur (s : State) (code src : Nat) (ps : List Param) : (s.evA code src ps).strCur = s.strCur := (Logs.evA _ _ _ _).strCur
@[simp] theorem evA_prot (s : State) (code src : Nat) (ps : List Param) : (s.evA code src ps).prot = s.prot := (Logs.evA _ _ _ _).prot
@[simp] theorem evA_th (s : State) (code src : Nat) (ps : List Param) : (s.evA code src ps).th = s.th := (Logs.evA _ _ _ _).th
@[simp] theorem evA_est (s : State) (code src : Nat) (ps : List Param) : (s.evA code src ps).est = s.est := (Logs.evA _ _ _ _).est
@[simp] theorem evA_lim (s : State) (code src : Nat) (ps : List Param) : (s.evA code src ps).lim = s.lim := (Logs.evA _ _ _ _).lim
@[simp] theorem evA_bal (s : State) (code src : Nat) (ps : List Param) : (s.evA code src ps).bal = s.bal := (Logs.evA _ _ _ _).bal
@[simp] theorem evA_hasp (s : State) (code src : Nat) (ps : List Param) : (s.evA code src ps).hasp = s.hasp := (Logs.evA _ _ _ _).hasp
@[simp] theorem evA_lease (s : State) (code src : Nat) (ps : List Param) : (s.evA code src ps).lease = s.lease := (Logs.evA _ _ _ _).lease
@[simp] theorem evA_com (s : State) (code src : Nat) (ps : List Param) : (s.evA code src ps).com = s.com := (Logs.evA _ _ _ _).com
@[simp] theorem evA_power (s : State) (code src : Nat) (ps : List Param) : (s.evA code src ps).power = s.power := (Logs.evA _ _ _ _).power
@[simp] theorem evA_links (s : State) (code src : Nat) (ps : List Param) : (s.evA code src ps).links = s.links := (Logs.evA _ _ _ _).links
@[simp] theorem evA_sleep (s : State) (code src : Nat) (ps : List Param) : (s.evA code src ps).sleep = s.sleep := (Logs.evA _ _ _ _).sleep
@[simp] theorem evA_tap (s : State) (code src : Nat) (ps : List Param) : (s.evA code src ps).tap = s.tap := (Logs.evA _ _ _ _).tap
@[simp] theorem evA_balls (s : State) (code src : Nat) (ps : List Param) : (s.evA code src ps).balls = s.balls := (Logs.evA _ _ _ _).balls
@[simp] theorem evA_pick (s : State) (code src : Nat) (ps : List Param) : (s.evA code src ps).pick = s.pick := (Logs.evA _ _ _ _).pick
@[simp] theorem evA_nest (s : State) (code src : Nat) (ps : List Param) : (s.evA code src ps).nest = s.nest := (Logs.evA _ _ _ _).nest
@[simp] theorem evA_out (s : State) (code src : Nat) (ps : List Param) : (s.evA code src ps).out = s.out := (Logs.evA _ _ _ _).out
@[simp] theorem evA_free (s : State) (code src : Nat) (ps : List Param) : (s.evA code src ps).free = s.free := (Logs.evA _ _ _ _).free
@[simp] theorem evA_la_supplied (s : State) (code src : Nat) (ps : List Param) : (s.evA code src ps).la.supplied = s.la.supplied := (Logs.evA _ _ _ _).la_supplied
@[simp] theorem evA_la_pllOk (s : State) (code src : Nat) (ps : List Param) : (s.evA code src ps).la.pllOk = s.la.pllOk := (Logs.evA _ _ _ _).la_pllOk
@[simp] theorem evA_la_mramOk (s : State) (code src : Nat) (ps : List Param) : (s.evA code src ps).la.mramOk = s.la.mramOk := (Logs.evA _ _ _ _).la_mramOk
@[simp] theorem evA_la_sramOk (s : State) (code src : Nat) (ps : List Param) : (s.evA code src ps).la.sramOk = s.la.sramOk := (Logs.evA _ _ _ _).la_sramOk
@[simp] theorem evA_la_t0 (s : State) (code src : Nat) (ps : List Param) : (s.evA code src ps).la.t0 = s.la.t0 := (Logs.evA _ _ _ _).la_t0
@[simp] theorem evA_la_st (s : State) (code src : Nat) (ps : List Param) : (s.evA code src ps).la.st = s.la.st := (Logs.evA _ _ _ _).la_st
@[simp] theorem evA_la_cause (s : State) (code src : Nat) (ps : List Param) : (s.evA code src ps).la.cause = s.la.cause := (Logs.evA _ _ _ _).la_cause
@[simp] theorem evA_la_fenceTime (s : State) (code src : Nat) (ps : List Param) : (s.evA code src ps).la.fenceTime = s.la.fenceTime := (Logs.evA _ _ _ _).la_fenceTime
@[simp] theorem evA_la_rejoin (s : State) (code src : Nat) (ps : List Param) : (s.evA code src ps).la.rejoin = s.la.rejoin := (Logs.evA _ _ _ _).la_rejoin
@[simp] theorem evA_la_slot0 (s : State) (code src : Nat) (ps : List Param) : (s.evA code src ps).la.slot0 = s.la.slot0 := (Logs.evA _ _ _ _).la_slot0
@[simp] theorem evA_la_slot1 (s : State) (code src : Nat) (ps : List Param) : (s.evA code src ps).la.slot1 = s.la.slot1 := (Logs.evA _ _ _ _).la_slot1
@[simp] theorem evA_la_valid0 (s : State) (code src : Nat) (ps : List Param) : (s.evA code src ps).la.valid0 = s.la.valid0 := (Logs.evA _ _ _ _).la_valid0
@[simp] theorem evA_la_valid1 (s : State) (code src : Nat) (ps : List Param) : (s.evA code src ps).la.valid1 = s.la.valid1 := (Logs.evA _ _ _ _).la_valid1
@[simp] theorem evA_la_stage (s : State) (code src : Nat) (ps : List Param) : (s.evA code src ps).la.stage = s.la.stage := (Logs.evA _ _ _ _).la_stage
@[simp] theorem evA_la_mramQ (s : State) (code src : Nat) (ps : List Param) : (s.evA code src ps).la.mramQ = s.la.mramQ := (Logs.evA _ _ _ _).la_mramQ
@[simp] theorem evA_la_writeOk (s : State) (code src : Nat) (ps : List Param) : (s.evA code src ps).la.writeOk = s.la.writeOk := (Logs.evA _ _ _ _).la_writeOk
@[simp] theorem evA_la_refuseNow (s : State) (code src : Nat) (ps : List Param) : (s.evA code src ps).la.refuseNow = s.la.refuseNow := (Logs.evA _ _ _ _).la_refuseNow
@[simp] theorem evA_la_regulated (s : State) (code src : Nat) (ps : List Param) : (s.evA code src ps).la.regulated = s.la.regulated := (Logs.evA _ _ _ _).la_regulated
@[simp] theorem evA_la_rq (s : State) (code src : Nat) (ps : List Param) : (s.evA code src ps).la.rq = s.la.rq := (Logs.evA _ _ _ _).la_rq
@[simp] theorem evA_la_digest (s : State) (code src : Nat) (ps : List Param) : (s.evA code src ps).la.digest = s.la.digest := (Logs.evA _ _ _ _).la_digest
@[simp] theorem evA_la_snapA (s : State) (code src : Nat) (ps : List Param) : (s.evA code src ps).la.snapA = s.la.snapA := (Logs.evA _ _ _ _).la_snapA
@[simp] theorem evA_la_snapB (s : State) (code src : Nat) (ps : List Param) : (s.evA code src ps).la.snapB = s.la.snapB := (Logs.evA _ _ _ _).la_snapB
@[simp] theorem evA_la_snapGo (s : State) (code src : Nat) (ps : List Param) : (s.evA code src ps).la.snapGo = s.la.snapGo := (Logs.evA _ _ _ _).la_snapGo
@[simp] theorem evA_la_snapIdx (s : State) (code src : Nat) (ps : List Param) : (s.evA code src ps).la.snapIdx = s.la.snapIdx := (Logs.evA _ _ _ _).la_snapIdx
@[simp] theorem evA_la_snapOwed (s : State) (code src : Nat) (ps : List Param) : (s.evA code src ps).la.snapOwed = s.la.snapOwed := (Logs.evA _ _ _ _).la_snapOwed
@[simp] theorem evA_la_snapHeld (s : State) (code src : Nat) (ps : List Param) : (s.evA code src ps).la.snapHeld = s.la.snapHeld := (Logs.evA _ _ _ _).la_snapHeld
@[simp] theorem evA_la_mram (s : State) (code src : Nat) (ps : List Param) : (s.evA code src ps).la.mram = s.la.mram := (Logs.evA _ _ _ _).la_mram
@[simp] theorem evA_la_dbReq (s : State) (code src : Nat) (ps : List Param) : (s.evA code src ps).la.dbReq = s.la.dbReq := (Logs.evA _ _ _ _).la_dbReq
@[simp] theorem evA_lb_supplied (s : State) (code src : Nat) (ps : List Param) : (s.evA code src ps).lb.supplied = s.lb.supplied := (Logs.evA _ _ _ _).lb_supplied
@[simp] theorem evA_lb_pllOk (s : State) (code src : Nat) (ps : List Param) : (s.evA code src ps).lb.pllOk = s.lb.pllOk := (Logs.evA _ _ _ _).lb_pllOk
@[simp] theorem evA_lb_mramOk (s : State) (code src : Nat) (ps : List Param) : (s.evA code src ps).lb.mramOk = s.lb.mramOk := (Logs.evA _ _ _ _).lb_mramOk
@[simp] theorem evA_lb_sramOk (s : State) (code src : Nat) (ps : List Param) : (s.evA code src ps).lb.sramOk = s.lb.sramOk := (Logs.evA _ _ _ _).lb_sramOk
@[simp] theorem evA_lb_t0 (s : State) (code src : Nat) (ps : List Param) : (s.evA code src ps).lb.t0 = s.lb.t0 := (Logs.evA _ _ _ _).lb_t0
@[simp] theorem evA_lb_st (s : State) (code src : Nat) (ps : List Param) : (s.evA code src ps).lb.st = s.lb.st := (Logs.evA _ _ _ _).lb_st
@[simp] theorem evA_lb_cause (s : State) (code src : Nat) (ps : List Param) : (s.evA code src ps).lb.cause = s.lb.cause := (Logs.evA _ _ _ _).lb_cause
@[simp] theorem evA_lb_fenceTime (s : State) (code src : Nat) (ps : List Param) : (s.evA code src ps).lb.fenceTime = s.lb.fenceTime := (Logs.evA _ _ _ _).lb_fenceTime
@[simp] theorem evA_lb_rejoin (s : State) (code src : Nat) (ps : List Param) : (s.evA code src ps).lb.rejoin = s.lb.rejoin := (Logs.evA _ _ _ _).lb_rejoin
@[simp] theorem evA_lb_slot0 (s : State) (code src : Nat) (ps : List Param) : (s.evA code src ps).lb.slot0 = s.lb.slot0 := (Logs.evA _ _ _ _).lb_slot0
@[simp] theorem evA_lb_slot1 (s : State) (code src : Nat) (ps : List Param) : (s.evA code src ps).lb.slot1 = s.lb.slot1 := (Logs.evA _ _ _ _).lb_slot1
@[simp] theorem evA_lb_valid0 (s : State) (code src : Nat) (ps : List Param) : (s.evA code src ps).lb.valid0 = s.lb.valid0 := (Logs.evA _ _ _ _).lb_valid0
@[simp] theorem evA_lb_valid1 (s : State) (code src : Nat) (ps : List Param) : (s.evA code src ps).lb.valid1 = s.lb.valid1 := (Logs.evA _ _ _ _).lb_valid1
@[simp] theorem evA_lb_stage (s : State) (code src : Nat) (ps : List Param) : (s.evA code src ps).lb.stage = s.lb.stage := (Logs.evA _ _ _ _).lb_stage
@[simp] theorem evA_lb_mramQ (s : State) (code src : Nat) (ps : List Param) : (s.evA code src ps).lb.mramQ = s.lb.mramQ := (Logs.evA _ _ _ _).lb_mramQ
@[simp] theorem evA_lb_writeOk (s : State) (code src : Nat) (ps : List Param) : (s.evA code src ps).lb.writeOk = s.lb.writeOk := (Logs.evA _ _ _ _).lb_writeOk
@[simp] theorem evA_lb_refuseNow (s : State) (code src : Nat) (ps : List Param) : (s.evA code src ps).lb.refuseNow = s.lb.refuseNow := (Logs.evA _ _ _ _).lb_refuseNow
@[simp] theorem evA_lb_regulated (s : State) (code src : Nat) (ps : List Param) : (s.evA code src ps).lb.regulated = s.lb.regulated := (Logs.evA _ _ _ _).lb_regulated
@[simp] theorem evA_lb_rq (s : State) (code src : Nat) (ps : List Param) : (s.evA code src ps).lb.rq = s.lb.rq := (Logs.evA _ _ _ _).lb_rq
@[simp] theorem evA_lb_digest (s : State) (code src : Nat) (ps : List Param) : (s.evA code src ps).lb.digest = s.lb.digest := (Logs.evA _ _ _ _).lb_digest
@[simp] theorem evA_lb_snapA (s : State) (code src : Nat) (ps : List Param) : (s.evA code src ps).lb.snapA = s.lb.snapA := (Logs.evA _ _ _ _).lb_snapA
@[simp] theorem evA_lb_snapB (s : State) (code src : Nat) (ps : List Param) : (s.evA code src ps).lb.snapB = s.lb.snapB := (Logs.evA _ _ _ _).lb_snapB
@[simp] theorem evA_lb_snapGo (s : State) (code src : Nat) (ps : List Param) : (s.evA code src ps).lb.snapGo = s.lb.snapGo := (Logs.evA _ _ _ _).lb_snapGo
@[simp] theorem evA_lb_snapIdx (s : State) (code src : Nat) (ps : List Param) : (s.evA code src ps).lb.snapIdx = s.lb.snapIdx := (Logs.evA _ _ _ _).lb_snapIdx
@[simp] theorem evA_lb_snapOwed (s : State) (code src : Nat) (ps : List Param) : (s.evA code src ps).lb.snapOwed = s.lb.snapOwed := (Logs.evA _ _ _ _).lb_snapOwed
@[simp] theorem evA_lb_snapHeld (s : State) (code src : Nat) (ps : List Param) : (s.evA code src ps).lb.snapHeld = s.lb.snapHeld := (Logs.evA _ _ _ _).lb_snapHeld
@[simp] theorem evA_lb_mram (s : State) (code src : Nat) (ps : List Param) : (s.evA code src ps).lb.mram = s.lb.mram := (Logs.evA _ _ _ _).lb_mram
@[simp] theorem evA_lb_dbReq (s : State) (code src : Nat) (ps : List Param) : (s.evA code src ps).lb.dbReq = s.lb.dbReq := (Logs.evA _ _ _ _).lb_dbReq
@[simp] theorem evA_leaf_supplied (s : State) (code src : Nat) (ps : List Param) (l : Leaf) : ((s.evA code src ps).leaf l).supplied = (s.leaf l).supplied := (Logs.evA _ _ _ _).leaf_supplied l
@[simp] theorem evA_leaf_pllOk (s : State) (code src : Nat) (ps : List Param) (l : Leaf) : ((s.evA code src ps).leaf l).pllOk = (s.leaf l).pllOk := (Logs.evA _ _ _ _).leaf_pllOk l
@[simp] theorem evA_leaf_mramOk (s : State) (code src : Nat) (ps : List Param) (l : Leaf) : ((s.evA code src ps).leaf l).mramOk = (s.leaf l).mramOk := (Logs.evA _ _ _ _).leaf_mramOk l
@[simp] theorem evA_leaf_sramOk (s : State) (code src : Nat) (ps : List Param) (l : Leaf) : ((s.evA code src ps).leaf l).sramOk = (s.leaf l).sramOk := (Logs.evA _ _ _ _).leaf_sramOk l
@[simp] theorem evA_leaf_t0 (s : State) (code src : Nat) (ps : List Param) (l : Leaf) : ((s.evA code src ps).leaf l).t0 = (s.leaf l).t0 := (Logs.evA _ _ _ _).leaf_t0 l
@[simp] theorem evA_leaf_st (s : State) (code src : Nat) (ps : List Param) (l : Leaf) : ((s.evA code src ps).leaf l).st = (s.leaf l).st := (Logs.evA _ _ _ _).leaf_st l
@[simp] theorem evA_leaf_cause (s : State) (code src : Nat) (ps : List Param) (l : Leaf) : ((s.evA code src ps).leaf l).cause = (s.leaf l).cause := (Logs.evA _ _ _ _).leaf_cause l
@[simp] theorem evA_leaf_fenceTime (s : State) (code src : Nat) (ps : List Param) (l : Leaf) : ((s.evA code src ps).leaf l).fenceTime = (s.leaf l).fenceTime := (Logs.evA _ _ _ _).leaf_fenceTime l
@[simp] theorem evA_leaf_rejoin (s : State) (code src : Nat) (ps : List Param) (l : Leaf) : ((s.evA code src ps).leaf l).rejoin = (s.leaf l).rejoin := (Logs.evA _ _ _ _).leaf_rejoin l
@[simp] theorem evA_leaf_slot0 (s : State) (code src : Nat) (ps : List Param) (l : Leaf) : ((s.evA code src ps).leaf l).slot0 = (s.leaf l).slot0 := (Logs.evA _ _ _ _).leaf_slot0 l
@[simp] theorem evA_leaf_slot1 (s : State) (code src : Nat) (ps : List Param) (l : Leaf) : ((s.evA code src ps).leaf l).slot1 = (s.leaf l).slot1 := (Logs.evA _ _ _ _).leaf_slot1 l
@[simp] theorem evA_leaf_valid0 (s : State) (code src : Nat) (ps : List Param) (l : Leaf) : ((s.evA code src ps).leaf l).valid0 = (s.leaf l).valid0 := (Logs.evA _ _ _ _).leaf_valid0 l
@[simp] theorem evA_leaf_valid1 (s : State) (code src : Nat) (ps : List Param) (l : Leaf) : ((s.evA code src ps).leaf l).valid1 = (s.leaf l).valid1 := (Logs.evA _ _ _ _).leaf_valid1 l
@[simp] theorem evA_leaf_stage (s : State) (code src : Nat) (ps : List Param) (l : Leaf) : ((s.evA code src ps).leaf l).stage = (s.leaf l).stage := (Logs.evA _ _ _ _).leaf_stage l
@[simp] theorem evA_leaf_mramQ (s : State) (code src : Nat) (ps : List Param) (l : Leaf) : ((s.evA code src ps).leaf l).mramQ = (s.leaf l).mramQ := (Logs.evA _ _ _ _).leaf_mramQ l
@[simp] theorem evA_leaf_writeOk (s : State) (code src : Nat) (ps : List Param) (l : Leaf) : ((s.evA code src ps).leaf l).writeOk = (s.leaf l).writeOk := (Logs.evA _ _ _ _).leaf_writeOk l
@[simp] theorem evA_leaf_refuseNow (s : State) (code src : Nat) (ps : List Param) (l : Leaf) : ((s.evA code src ps).leaf l).refuseNow = (s.leaf l).refuseNow := (Logs.evA _ _ _ _).leaf_refuseNow l
@[simp] theorem evA_leaf_regulated (s : State) (code src : Nat) (ps : List Param) (l : Leaf) : ((s.evA code src ps).leaf l).regulated = (s.leaf l).regulated := (Logs.evA _ _ _ _).leaf_regulated l
@[simp] theorem evA_leaf_rq (s : State) (code src : Nat) (ps : List Param) (l : Leaf) : ((s.evA code src ps).leaf l).rq = (s.leaf l).rq := (Logs.evA _ _ _ _).leaf_rq l
@[simp] theorem evA_leaf_digest (s : State) (code src : Nat) (ps : List Param) (l : Leaf) : ((s.evA code src ps).leaf l).digest = (s.leaf l).digest := (Logs.evA _ _ _ _).leaf_digest l
@[simp] theorem evA_leaf_snapA (s : State) (code src : Nat) (ps : List Param) (l : Leaf) : ((s.evA code src ps).leaf l).snapA = (s.leaf l).snapA := (Logs.evA _ _ _ _).leaf_snapA l
@[simp] theorem evA_leaf_snapB (s : State) (code src : Nat) (ps : List Param) (l : Leaf) : ((s.evA code src ps).leaf l).snapB = (s.leaf l).snapB := (Logs.evA _ _ _ _).leaf_snapB l
@[simp] theorem evA_leaf_snapGo (s : State) (code src : Nat) (ps : List Param) (l : Leaf) : ((s.evA code src ps).leaf l).snapGo = (s.leaf l).snapGo := (Logs.evA _ _ _ _).leaf_snapGo l
@[simp] theorem evA_leaf_snapIdx (s : State) (code src : Nat) (ps : List Param) (l : Leaf) : ((s.evA code src ps).leaf l).snapIdx = (s.leaf l).snapIdx := (Logs.evA _ _ _ _).leaf_snapIdx l
@[simp] theorem evA_leaf_snapOwed (s : State) (code src : Nat) (ps : List Param) (l : Leaf) : ((s.evA code src ps).leaf l).snapOwed = (s.leaf l).snapOwed := (Logs.evA _ _ _ _).leaf_snapOwed l
@[simp] theorem evA_leaf_snapHeld (s : State) (code src : Nat) (ps : List Param) (l : Leaf) : ((s.evA code src ps).leaf l).snapHeld = (s.leaf l).snapHeld := (Logs.evA _ _ _ _).leaf_snapHeld l
@[simp] theorem evA_leaf_mram (s : State) (code src : Nat) (ps : List Param) (l : Leaf) : ((s.evA code src ps).leaf l).mram = (s.leaf l).mram := (Logs.evA _ _ _ _).leaf_mram l
@[simp] theorem evA_leaf_dbReq (s : State) (code src : Nat) (ps : List Param) (l : Leaf) : ((s.evA code src ps).leaf l).dbReq = (s.leaf l).dbReq := (Logs.evA _ _ _ _).leaf_dbReq l

/-! `evAon` -/
@[simp] theorem evAon_pending (s : State) (code src : Nat) (ps : List Param) : (s.evAon code src ps).pending = s.pending := (Logs.evAon _ _ _ _).pending
@[simp] theorem evAon_time (s : State) (code src : Nat) (ps : List Param) : (s.evAon code src ps).time = s.time := (Logs.evAon _ _ _ _).time
@[simp] theorem evAon_aon (s : State) (code src : Nat) (ps : List Param) : (s.evAon code src ps).aon = s.aon := (Logs.evAon _ _ _ _).aon
@[simp] theorem evAon_kn (s : State) (code src : Nat) (ps : List Param) : (s.evAon code src ps).kn = s.kn := (Logs.evAon _ _ _ _).kn
@[simp] theorem evAon_cfg (s : State) (code src : Nat) (ps : List Param) : (s.evAon code src ps).cfg = s.cfg := (Logs.evAon _ _ _ _).cfg
@[simp] theorem evAon_stage (s : State) (code src : Nat) (ps : List Param) : (s.evAon code src ps).stage = s.stage := (Logs.evAon _ _ _ _).stage
@[simp] theorem evAon_ovl (s : State) (code src : Nat) (ps : List Param) : (s.evAon code src ps).ovl = s.ovl := (Logs.evAon _ _ _ _).ovl
@[simp] theorem evAon_ch (s : State) (code src : Nat) (ps : List Param) : (s.evAon code src ps).ch = s.ch := (Logs.evAon _ _ _ _).ch
@[simp] theorem evAon_sw (s : State) (code src : Nat) (ps : List Param) : (s.evAon code src ps).sw = s.sw := (Logs.evAon _ _ _ _).sw
@[simp] theorem evAon_cur (s : State) (code src : Nat) (ps : List Param) : (s.evAon code src ps).cur = s.cur := (Logs.evAon _ _ _ _).cur
@[simp] theorem evAon_strCur (s : State) (code src : Nat) (ps : List Param) : (s.evAon code src ps).strCur = s.strCur := (Logs.evAon _ _ _ _).strCur
@[simp] theorem evAon_prot (s : State) (code src : Nat) (ps : List Param) : (s.evAon code src ps).prot = s.prot := (Logs.evAon _ _ _ _).prot
@[simp] theorem evAon_th (s : State) (code src : Nat) (ps : List Param) : (s.evAon code src ps).th = s.th := (Logs.evAon _ _ _ _).th
@[simp] theorem evAon_est (s : State) (code src : Nat) (ps : List Param) : (s.evAon code src ps).est = s.est := (Logs.evAon _ _ _ _).est
@[simp] theorem evAon_lim (s : State) (code src : Nat) (ps : List Param) : (s.evAon code src ps).lim = s.lim := (Logs.evAon _ _ _ _).lim
@[simp] theorem evAon_bal (s : State) (code src : Nat) (ps : List Param) : (s.evAon code src ps).bal = s.bal := (Logs.evAon _ _ _ _).bal
@[simp] theorem evAon_hasp (s : State) (code src : Nat) (ps : List Param) : (s.evAon code src ps).hasp = s.hasp := (Logs.evAon _ _ _ _).hasp
@[simp] theorem evAon_lease (s : State) (code src : Nat) (ps : List Param) : (s.evAon code src ps).lease = s.lease := (Logs.evAon _ _ _ _).lease
@[simp] theorem evAon_com (s : State) (code src : Nat) (ps : List Param) : (s.evAon code src ps).com = s.com := (Logs.evAon _ _ _ _).com
@[simp] theorem evAon_power (s : State) (code src : Nat) (ps : List Param) : (s.evAon code src ps).power = s.power := (Logs.evAon _ _ _ _).power
@[simp] theorem evAon_links (s : State) (code src : Nat) (ps : List Param) : (s.evAon code src ps).links = s.links := (Logs.evAon _ _ _ _).links
@[simp] theorem evAon_sleep (s : State) (code src : Nat) (ps : List Param) : (s.evAon code src ps).sleep = s.sleep := (Logs.evAon _ _ _ _).sleep
@[simp] theorem evAon_tap (s : State) (code src : Nat) (ps : List Param) : (s.evAon code src ps).tap = s.tap := (Logs.evAon _ _ _ _).tap
@[simp] theorem evAon_balls (s : State) (code src : Nat) (ps : List Param) : (s.evAon code src ps).balls = s.balls := (Logs.evAon _ _ _ _).balls
@[simp] theorem evAon_pick (s : State) (code src : Nat) (ps : List Param) : (s.evAon code src ps).pick = s.pick := (Logs.evAon _ _ _ _).pick
@[simp] theorem evAon_nest (s : State) (code src : Nat) (ps : List Param) : (s.evAon code src ps).nest = s.nest := (Logs.evAon _ _ _ _).nest
@[simp] theorem evAon_out (s : State) (code src : Nat) (ps : List Param) : (s.evAon code src ps).out = s.out := (Logs.evAon _ _ _ _).out
@[simp] theorem evAon_free (s : State) (code src : Nat) (ps : List Param) : (s.evAon code src ps).free = s.free := (Logs.evAon _ _ _ _).free
@[simp] theorem evAon_la_supplied (s : State) (code src : Nat) (ps : List Param) : (s.evAon code src ps).la.supplied = s.la.supplied := (Logs.evAon _ _ _ _).la_supplied
@[simp] theorem evAon_la_pllOk (s : State) (code src : Nat) (ps : List Param) : (s.evAon code src ps).la.pllOk = s.la.pllOk := (Logs.evAon _ _ _ _).la_pllOk
@[simp] theorem evAon_la_mramOk (s : State) (code src : Nat) (ps : List Param) : (s.evAon code src ps).la.mramOk = s.la.mramOk := (Logs.evAon _ _ _ _).la_mramOk
@[simp] theorem evAon_la_sramOk (s : State) (code src : Nat) (ps : List Param) : (s.evAon code src ps).la.sramOk = s.la.sramOk := (Logs.evAon _ _ _ _).la_sramOk
@[simp] theorem evAon_la_t0 (s : State) (code src : Nat) (ps : List Param) : (s.evAon code src ps).la.t0 = s.la.t0 := (Logs.evAon _ _ _ _).la_t0
@[simp] theorem evAon_la_st (s : State) (code src : Nat) (ps : List Param) : (s.evAon code src ps).la.st = s.la.st := (Logs.evAon _ _ _ _).la_st
@[simp] theorem evAon_la_cause (s : State) (code src : Nat) (ps : List Param) : (s.evAon code src ps).la.cause = s.la.cause := (Logs.evAon _ _ _ _).la_cause
@[simp] theorem evAon_la_fenceTime (s : State) (code src : Nat) (ps : List Param) : (s.evAon code src ps).la.fenceTime = s.la.fenceTime := (Logs.evAon _ _ _ _).la_fenceTime
@[simp] theorem evAon_la_rejoin (s : State) (code src : Nat) (ps : List Param) : (s.evAon code src ps).la.rejoin = s.la.rejoin := (Logs.evAon _ _ _ _).la_rejoin
@[simp] theorem evAon_la_slot0 (s : State) (code src : Nat) (ps : List Param) : (s.evAon code src ps).la.slot0 = s.la.slot0 := (Logs.evAon _ _ _ _).la_slot0
@[simp] theorem evAon_la_slot1 (s : State) (code src : Nat) (ps : List Param) : (s.evAon code src ps).la.slot1 = s.la.slot1 := (Logs.evAon _ _ _ _).la_slot1
@[simp] theorem evAon_la_valid0 (s : State) (code src : Nat) (ps : List Param) : (s.evAon code src ps).la.valid0 = s.la.valid0 := (Logs.evAon _ _ _ _).la_valid0
@[simp] theorem evAon_la_valid1 (s : State) (code src : Nat) (ps : List Param) : (s.evAon code src ps).la.valid1 = s.la.valid1 := (Logs.evAon _ _ _ _).la_valid1
@[simp] theorem evAon_la_stage (s : State) (code src : Nat) (ps : List Param) : (s.evAon code src ps).la.stage = s.la.stage := (Logs.evAon _ _ _ _).la_stage
@[simp] theorem evAon_la_mramQ (s : State) (code src : Nat) (ps : List Param) : (s.evAon code src ps).la.mramQ = s.la.mramQ := (Logs.evAon _ _ _ _).la_mramQ
@[simp] theorem evAon_la_writeOk (s : State) (code src : Nat) (ps : List Param) : (s.evAon code src ps).la.writeOk = s.la.writeOk := (Logs.evAon _ _ _ _).la_writeOk
@[simp] theorem evAon_la_refuseNow (s : State) (code src : Nat) (ps : List Param) : (s.evAon code src ps).la.refuseNow = s.la.refuseNow := (Logs.evAon _ _ _ _).la_refuseNow
@[simp] theorem evAon_la_regulated (s : State) (code src : Nat) (ps : List Param) : (s.evAon code src ps).la.regulated = s.la.regulated := (Logs.evAon _ _ _ _).la_regulated
@[simp] theorem evAon_la_rq (s : State) (code src : Nat) (ps : List Param) : (s.evAon code src ps).la.rq = s.la.rq := (Logs.evAon _ _ _ _).la_rq
@[simp] theorem evAon_la_digest (s : State) (code src : Nat) (ps : List Param) : (s.evAon code src ps).la.digest = s.la.digest := (Logs.evAon _ _ _ _).la_digest
@[simp] theorem evAon_la_snapA (s : State) (code src : Nat) (ps : List Param) : (s.evAon code src ps).la.snapA = s.la.snapA := (Logs.evAon _ _ _ _).la_snapA
@[simp] theorem evAon_la_snapB (s : State) (code src : Nat) (ps : List Param) : (s.evAon code src ps).la.snapB = s.la.snapB := (Logs.evAon _ _ _ _).la_snapB
@[simp] theorem evAon_la_snapGo (s : State) (code src : Nat) (ps : List Param) : (s.evAon code src ps).la.snapGo = s.la.snapGo := (Logs.evAon _ _ _ _).la_snapGo
@[simp] theorem evAon_la_snapIdx (s : State) (code src : Nat) (ps : List Param) : (s.evAon code src ps).la.snapIdx = s.la.snapIdx := (Logs.evAon _ _ _ _).la_snapIdx
@[simp] theorem evAon_la_snapOwed (s : State) (code src : Nat) (ps : List Param) : (s.evAon code src ps).la.snapOwed = s.la.snapOwed := (Logs.evAon _ _ _ _).la_snapOwed
@[simp] theorem evAon_la_snapHeld (s : State) (code src : Nat) (ps : List Param) : (s.evAon code src ps).la.snapHeld = s.la.snapHeld := (Logs.evAon _ _ _ _).la_snapHeld
@[simp] theorem evAon_la_mram (s : State) (code src : Nat) (ps : List Param) : (s.evAon code src ps).la.mram = s.la.mram := (Logs.evAon _ _ _ _).la_mram
@[simp] theorem evAon_la_dbReq (s : State) (code src : Nat) (ps : List Param) : (s.evAon code src ps).la.dbReq = s.la.dbReq := (Logs.evAon _ _ _ _).la_dbReq
@[simp] theorem evAon_lb_supplied (s : State) (code src : Nat) (ps : List Param) : (s.evAon code src ps).lb.supplied = s.lb.supplied := (Logs.evAon _ _ _ _).lb_supplied
@[simp] theorem evAon_lb_pllOk (s : State) (code src : Nat) (ps : List Param) : (s.evAon code src ps).lb.pllOk = s.lb.pllOk := (Logs.evAon _ _ _ _).lb_pllOk
@[simp] theorem evAon_lb_mramOk (s : State) (code src : Nat) (ps : List Param) : (s.evAon code src ps).lb.mramOk = s.lb.mramOk := (Logs.evAon _ _ _ _).lb_mramOk
@[simp] theorem evAon_lb_sramOk (s : State) (code src : Nat) (ps : List Param) : (s.evAon code src ps).lb.sramOk = s.lb.sramOk := (Logs.evAon _ _ _ _).lb_sramOk
@[simp] theorem evAon_lb_t0 (s : State) (code src : Nat) (ps : List Param) : (s.evAon code src ps).lb.t0 = s.lb.t0 := (Logs.evAon _ _ _ _).lb_t0
@[simp] theorem evAon_lb_st (s : State) (code src : Nat) (ps : List Param) : (s.evAon code src ps).lb.st = s.lb.st := (Logs.evAon _ _ _ _).lb_st
@[simp] theorem evAon_lb_cause (s : State) (code src : Nat) (ps : List Param) : (s.evAon code src ps).lb.cause = s.lb.cause := (Logs.evAon _ _ _ _).lb_cause
@[simp] theorem evAon_lb_fenceTime (s : State) (code src : Nat) (ps : List Param) : (s.evAon code src ps).lb.fenceTime = s.lb.fenceTime := (Logs.evAon _ _ _ _).lb_fenceTime
@[simp] theorem evAon_lb_rejoin (s : State) (code src : Nat) (ps : List Param) : (s.evAon code src ps).lb.rejoin = s.lb.rejoin := (Logs.evAon _ _ _ _).lb_rejoin
@[simp] theorem evAon_lb_slot0 (s : State) (code src : Nat) (ps : List Param) : (s.evAon code src ps).lb.slot0 = s.lb.slot0 := (Logs.evAon _ _ _ _).lb_slot0
@[simp] theorem evAon_lb_slot1 (s : State) (code src : Nat) (ps : List Param) : (s.evAon code src ps).lb.slot1 = s.lb.slot1 := (Logs.evAon _ _ _ _).lb_slot1
@[simp] theorem evAon_lb_valid0 (s : State) (code src : Nat) (ps : List Param) : (s.evAon code src ps).lb.valid0 = s.lb.valid0 := (Logs.evAon _ _ _ _).lb_valid0
@[simp] theorem evAon_lb_valid1 (s : State) (code src : Nat) (ps : List Param) : (s.evAon code src ps).lb.valid1 = s.lb.valid1 := (Logs.evAon _ _ _ _).lb_valid1
@[simp] theorem evAon_lb_stage (s : State) (code src : Nat) (ps : List Param) : (s.evAon code src ps).lb.stage = s.lb.stage := (Logs.evAon _ _ _ _).lb_stage
@[simp] theorem evAon_lb_mramQ (s : State) (code src : Nat) (ps : List Param) : (s.evAon code src ps).lb.mramQ = s.lb.mramQ := (Logs.evAon _ _ _ _).lb_mramQ
@[simp] theorem evAon_lb_writeOk (s : State) (code src : Nat) (ps : List Param) : (s.evAon code src ps).lb.writeOk = s.lb.writeOk := (Logs.evAon _ _ _ _).lb_writeOk
@[simp] theorem evAon_lb_refuseNow (s : State) (code src : Nat) (ps : List Param) : (s.evAon code src ps).lb.refuseNow = s.lb.refuseNow := (Logs.evAon _ _ _ _).lb_refuseNow
@[simp] theorem evAon_lb_regulated (s : State) (code src : Nat) (ps : List Param) : (s.evAon code src ps).lb.regulated = s.lb.regulated := (Logs.evAon _ _ _ _).lb_regulated
@[simp] theorem evAon_lb_rq (s : State) (code src : Nat) (ps : List Param) : (s.evAon code src ps).lb.rq = s.lb.rq := (Logs.evAon _ _ _ _).lb_rq
@[simp] theorem evAon_lb_digest (s : State) (code src : Nat) (ps : List Param) : (s.evAon code src ps).lb.digest = s.lb.digest := (Logs.evAon _ _ _ _).lb_digest
@[simp] theorem evAon_lb_snapA (s : State) (code src : Nat) (ps : List Param) : (s.evAon code src ps).lb.snapA = s.lb.snapA := (Logs.evAon _ _ _ _).lb_snapA
@[simp] theorem evAon_lb_snapB (s : State) (code src : Nat) (ps : List Param) : (s.evAon code src ps).lb.snapB = s.lb.snapB := (Logs.evAon _ _ _ _).lb_snapB
@[simp] theorem evAon_lb_snapGo (s : State) (code src : Nat) (ps : List Param) : (s.evAon code src ps).lb.snapGo = s.lb.snapGo := (Logs.evAon _ _ _ _).lb_snapGo
@[simp] theorem evAon_lb_snapIdx (s : State) (code src : Nat) (ps : List Param) : (s.evAon code src ps).lb.snapIdx = s.lb.snapIdx := (Logs.evAon _ _ _ _).lb_snapIdx
@[simp] theorem evAon_lb_snapOwed (s : State) (code src : Nat) (ps : List Param) : (s.evAon code src ps).lb.snapOwed = s.lb.snapOwed := (Logs.evAon _ _ _ _).lb_snapOwed
@[simp] theorem evAon_lb_snapHeld (s : State) (code src : Nat) (ps : List Param) : (s.evAon code src ps).lb.snapHeld = s.lb.snapHeld := (Logs.evAon _ _ _ _).lb_snapHeld
@[simp] theorem evAon_lb_mram (s : State) (code src : Nat) (ps : List Param) : (s.evAon code src ps).lb.mram = s.lb.mram := (Logs.evAon _ _ _ _).lb_mram
@[simp] theorem evAon_lb_dbReq (s : State) (code src : Nat) (ps : List Param) : (s.evAon code src ps).lb.dbReq = s.lb.dbReq := (Logs.evAon _ _ _ _).lb_dbReq
@[simp] theorem evAon_leaf_supplied (s : State) (code src : Nat) (ps : List Param) (l : Leaf) : ((s.evAon code src ps).leaf l).supplied = (s.leaf l).supplied := (Logs.evAon _ _ _ _).leaf_supplied l
@[simp] theorem evAon_leaf_pllOk (s : State) (code src : Nat) (ps : List Param) (l : Leaf) : ((s.evAon code src ps).leaf l).pllOk = (s.leaf l).pllOk := (Logs.evAon _ _ _ _).leaf_pllOk l
@[simp] theorem evAon_leaf_mramOk (s : State) (code src : Nat) (ps : List Param) (l : Leaf) : ((s.evAon code src ps).leaf l).mramOk = (s.leaf l).mramOk := (Logs.evAon _ _ _ _).leaf_mramOk l
@[simp] theorem evAon_leaf_sramOk (s : State) (code src : Nat) (ps : List Param) (l : Leaf) : ((s.evAon code src ps).leaf l).sramOk = (s.leaf l).sramOk := (Logs.evAon _ _ _ _).leaf_sramOk l
@[simp] theorem evAon_leaf_t0 (s : State) (code src : Nat) (ps : List Param) (l : Leaf) : ((s.evAon code src ps).leaf l).t0 = (s.leaf l).t0 := (Logs.evAon _ _ _ _).leaf_t0 l
@[simp] theorem evAon_leaf_st (s : State) (code src : Nat) (ps : List Param) (l : Leaf) : ((s.evAon code src ps).leaf l).st = (s.leaf l).st := (Logs.evAon _ _ _ _).leaf_st l
@[simp] theorem evAon_leaf_cause (s : State) (code src : Nat) (ps : List Param) (l : Leaf) : ((s.evAon code src ps).leaf l).cause = (s.leaf l).cause := (Logs.evAon _ _ _ _).leaf_cause l
@[simp] theorem evAon_leaf_fenceTime (s : State) (code src : Nat) (ps : List Param) (l : Leaf) : ((s.evAon code src ps).leaf l).fenceTime = (s.leaf l).fenceTime := (Logs.evAon _ _ _ _).leaf_fenceTime l
@[simp] theorem evAon_leaf_rejoin (s : State) (code src : Nat) (ps : List Param) (l : Leaf) : ((s.evAon code src ps).leaf l).rejoin = (s.leaf l).rejoin := (Logs.evAon _ _ _ _).leaf_rejoin l
@[simp] theorem evAon_leaf_slot0 (s : State) (code src : Nat) (ps : List Param) (l : Leaf) : ((s.evAon code src ps).leaf l).slot0 = (s.leaf l).slot0 := (Logs.evAon _ _ _ _).leaf_slot0 l
@[simp] theorem evAon_leaf_slot1 (s : State) (code src : Nat) (ps : List Param) (l : Leaf) : ((s.evAon code src ps).leaf l).slot1 = (s.leaf l).slot1 := (Logs.evAon _ _ _ _).leaf_slot1 l
@[simp] theorem evAon_leaf_valid0 (s : State) (code src : Nat) (ps : List Param) (l : Leaf) : ((s.evAon code src ps).leaf l).valid0 = (s.leaf l).valid0 := (Logs.evAon _ _ _ _).leaf_valid0 l
@[simp] theorem evAon_leaf_valid1 (s : State) (code src : Nat) (ps : List Param) (l : Leaf) : ((s.evAon code src ps).leaf l).valid1 = (s.leaf l).valid1 := (Logs.evAon _ _ _ _).leaf_valid1 l
@[simp] theorem evAon_leaf_stage (s : State) (code src : Nat) (ps : List Param) (l : Leaf) : ((s.evAon code src ps).leaf l).stage = (s.leaf l).stage := (Logs.evAon _ _ _ _).leaf_stage l
@[simp] theorem evAon_leaf_mramQ (s : State) (code src : Nat) (ps : List Param) (l : Leaf) : ((s.evAon code src ps).leaf l).mramQ = (s.leaf l).mramQ := (Logs.evAon _ _ _ _).leaf_mramQ l
@[simp] theorem evAon_leaf_writeOk (s : State) (code src : Nat) (ps : List Param) (l : Leaf) : ((s.evAon code src ps).leaf l).writeOk = (s.leaf l).writeOk := (Logs.evAon _ _ _ _).leaf_writeOk l
@[simp] theorem evAon_leaf_refuseNow (s : State) (code src : Nat) (ps : List Param) (l : Leaf) : ((s.evAon code src ps).leaf l).refuseNow = (s.leaf l).refuseNow := (Logs.evAon _ _ _ _).leaf_refuseNow l
@[simp] theorem evAon_leaf_regulated (s : State) (code src : Nat) (ps : List Param) (l : Leaf) : ((s.evAon code src ps).leaf l).regulated = (s.leaf l).regulated := (Logs.evAon _ _ _ _).leaf_regulated l
@[simp] theorem evAon_leaf_rq (s : State) (code src : Nat) (ps : List Param) (l : Leaf) : ((s.evAon code src ps).leaf l).rq = (s.leaf l).rq := (Logs.evAon _ _ _ _).leaf_rq l
@[simp] theorem evAon_leaf_digest (s : State) (code src : Nat) (ps : List Param) (l : Leaf) : ((s.evAon code src ps).leaf l).digest = (s.leaf l).digest := (Logs.evAon _ _ _ _).leaf_digest l
@[simp] theorem evAon_leaf_snapA (s : State) (code src : Nat) (ps : List Param) (l : Leaf) : ((s.evAon code src ps).leaf l).snapA = (s.leaf l).snapA := (Logs.evAon _ _ _ _).leaf_snapA l
@[simp] theorem evAon_leaf_snapB (s : State) (code src : Nat) (ps : List Param) (l : Leaf) : ((s.evAon code src ps).leaf l).snapB = (s.leaf l).snapB := (Logs.evAon _ _ _ _).leaf_snapB l
@[simp] theorem evAon_leaf_snapGo (s : State) (code src : Nat) (ps : List Param) (l : Leaf) : ((s.evAon code src ps).leaf l).snapGo = (s.leaf l).snapGo := (Logs.evAon _ _ _ _).leaf_snapGo l
@[simp] theorem evAon_leaf_snapIdx (s : State) (code src : Nat) (ps : List Param) (l : Leaf) : ((s.evAon code src ps).leaf l).snapIdx = (s.leaf l).snapIdx := (Logs.evAon _ _ _ _).leaf_snapIdx l
@[simp] theorem evAon_leaf_snapOwed (s : State) (code src : Nat) (ps : List Param) (l : Leaf) : ((s.evAon code src ps).leaf l).snapOwed = (s.leaf l).snapOwed := (Logs.evAon _ _ _ _).leaf_snapOwed l
@[simp] theorem evAon_leaf_snapHeld (s : State) (code src : Nat) (ps : List Param) (l : Leaf) : ((s.evAon code src ps).leaf l).snapHeld = (s.leaf l).snapHeld := (Logs.evAon _ _ _ _).leaf_snapHeld l
@[simp] theorem evAon_leaf_mram (s : State) (code src : Nat) (ps : List Param) (l : Leaf) : ((s.evAon code src ps).leaf l).mram = (s.leaf l).mram := (Logs.evAon _ _ _ _).leaf_mram l
@[simp] theorem evAon_leaf_dbReq (s : State) (code src : Nat) (ps : List Param) (l : Leaf) : ((s.evAon code src ps).leaf l).dbReq = (s.leaf l).dbReq := (Logs.evAon _ _ _ _).leaf_dbReq l

/-! `produce` -/
@[simp] theorem produce_pending (s : State) (prod ty : Nat) (takes : Nat → Bool) (p : List Byte) : (s.produce prod ty takes p).pending = s.pending := (Logs.produce _ _ _ _ _).pending
@[simp] theorem produce_time (s : State) (prod ty : Nat) (takes : Nat → Bool) (p : List Byte) : (s.produce prod ty takes p).time = s.time := (Logs.produce _ _ _ _ _).time
@[simp] theorem produce_aon (s : State) (prod ty : Nat) (takes : Nat → Bool) (p : List Byte) : (s.produce prod ty takes p).aon = s.aon := (Logs.produce _ _ _ _ _).aon
@[simp] theorem produce_kn (s : State) (prod ty : Nat) (takes : Nat → Bool) (p : List Byte) : (s.produce prod ty takes p).kn = s.kn := (Logs.produce _ _ _ _ _).kn
@[simp] theorem produce_cfg (s : State) (prod ty : Nat) (takes : Nat → Bool) (p : List Byte) : (s.produce prod ty takes p).cfg = s.cfg := (Logs.produce _ _ _ _ _).cfg
@[simp] theorem produce_stage (s : State) (prod ty : Nat) (takes : Nat → Bool) (p : List Byte) : (s.produce prod ty takes p).stage = s.stage := (Logs.produce _ _ _ _ _).stage
@[simp] theorem produce_ovl (s : State) (prod ty : Nat) (takes : Nat → Bool) (p : List Byte) : (s.produce prod ty takes p).ovl = s.ovl := (Logs.produce _ _ _ _ _).ovl
@[simp] theorem produce_ch (s : State) (prod ty : Nat) (takes : Nat → Bool) (p : List Byte) : (s.produce prod ty takes p).ch = s.ch := (Logs.produce _ _ _ _ _).ch
@[simp] theorem produce_sw (s : State) (prod ty : Nat) (takes : Nat → Bool) (p : List Byte) : (s.produce prod ty takes p).sw = s.sw := (Logs.produce _ _ _ _ _).sw
@[simp] theorem produce_cur (s : State) (prod ty : Nat) (takes : Nat → Bool) (p : List Byte) : (s.produce prod ty takes p).cur = s.cur := (Logs.produce _ _ _ _ _).cur
@[simp] theorem produce_strCur (s : State) (prod ty : Nat) (takes : Nat → Bool) (p : List Byte) : (s.produce prod ty takes p).strCur = s.strCur := (Logs.produce _ _ _ _ _).strCur
@[simp] theorem produce_prot (s : State) (prod ty : Nat) (takes : Nat → Bool) (p : List Byte) : (s.produce prod ty takes p).prot = s.prot := (Logs.produce _ _ _ _ _).prot
@[simp] theorem produce_th (s : State) (prod ty : Nat) (takes : Nat → Bool) (p : List Byte) : (s.produce prod ty takes p).th = s.th := (Logs.produce _ _ _ _ _).th
@[simp] theorem produce_est (s : State) (prod ty : Nat) (takes : Nat → Bool) (p : List Byte) : (s.produce prod ty takes p).est = s.est := (Logs.produce _ _ _ _ _).est
@[simp] theorem produce_lim (s : State) (prod ty : Nat) (takes : Nat → Bool) (p : List Byte) : (s.produce prod ty takes p).lim = s.lim := (Logs.produce _ _ _ _ _).lim
@[simp] theorem produce_bal (s : State) (prod ty : Nat) (takes : Nat → Bool) (p : List Byte) : (s.produce prod ty takes p).bal = s.bal := (Logs.produce _ _ _ _ _).bal
@[simp] theorem produce_hasp (s : State) (prod ty : Nat) (takes : Nat → Bool) (p : List Byte) : (s.produce prod ty takes p).hasp = s.hasp := (Logs.produce _ _ _ _ _).hasp
@[simp] theorem produce_lease (s : State) (prod ty : Nat) (takes : Nat → Bool) (p : List Byte) : (s.produce prod ty takes p).lease = s.lease := (Logs.produce _ _ _ _ _).lease
@[simp] theorem produce_com (s : State) (prod ty : Nat) (takes : Nat → Bool) (p : List Byte) : (s.produce prod ty takes p).com = s.com := (Logs.produce _ _ _ _ _).com
@[simp] theorem produce_power (s : State) (prod ty : Nat) (takes : Nat → Bool) (p : List Byte) : (s.produce prod ty takes p).power = s.power := (Logs.produce _ _ _ _ _).power
@[simp] theorem produce_links (s : State) (prod ty : Nat) (takes : Nat → Bool) (p : List Byte) : (s.produce prod ty takes p).links = s.links := (Logs.produce _ _ _ _ _).links
@[simp] theorem produce_sleep (s : State) (prod ty : Nat) (takes : Nat → Bool) (p : List Byte) : (s.produce prod ty takes p).sleep = s.sleep := (Logs.produce _ _ _ _ _).sleep
@[simp] theorem produce_tap (s : State) (prod ty : Nat) (takes : Nat → Bool) (p : List Byte) : (s.produce prod ty takes p).tap = s.tap := (Logs.produce _ _ _ _ _).tap
@[simp] theorem produce_balls (s : State) (prod ty : Nat) (takes : Nat → Bool) (p : List Byte) : (s.produce prod ty takes p).balls = s.balls := (Logs.produce _ _ _ _ _).balls
@[simp] theorem produce_pick (s : State) (prod ty : Nat) (takes : Nat → Bool) (p : List Byte) : (s.produce prod ty takes p).pick = s.pick := (Logs.produce _ _ _ _ _).pick
@[simp] theorem produce_nest (s : State) (prod ty : Nat) (takes : Nat → Bool) (p : List Byte) : (s.produce prod ty takes p).nest = s.nest := (Logs.produce _ _ _ _ _).nest
@[simp] theorem produce_out (s : State) (prod ty : Nat) (takes : Nat → Bool) (p : List Byte) : (s.produce prod ty takes p).out = s.out := (Logs.produce _ _ _ _ _).out
@[simp] theorem produce_free (s : State) (prod ty : Nat) (takes : Nat → Bool) (p : List Byte) : (s.produce prod ty takes p).free = s.free := (Logs.produce _ _ _ _ _).free
@[simp] theorem produce_la_supplied (s : State) (prod ty : Nat) (takes : Nat → Bool) (p : List Byte) : (s.produce prod ty takes p).la.supplied = s.la.supplied := (Logs.produce _ _ _ _ _).la_supplied
@[simp] theorem produce_la_pllOk (s : State) (prod ty : Nat) (takes : Nat → Bool) (p : List Byte) : (s.produce prod ty takes p).la.pllOk = s.la.pllOk := (Logs.produce _ _ _ _ _).la_pllOk
@[simp] theorem produce_la_mramOk (s : State) (prod ty : Nat) (takes : Nat → Bool) (p : List Byte) : (s.produce prod ty takes p).la.mramOk = s.la.mramOk := (Logs.produce _ _ _ _ _).la_mramOk
@[simp] theorem produce_la_sramOk (s : State) (prod ty : Nat) (takes : Nat → Bool) (p : List Byte) : (s.produce prod ty takes p).la.sramOk = s.la.sramOk := (Logs.produce _ _ _ _ _).la_sramOk
@[simp] theorem produce_la_t0 (s : State) (prod ty : Nat) (takes : Nat → Bool) (p : List Byte) : (s.produce prod ty takes p).la.t0 = s.la.t0 := (Logs.produce _ _ _ _ _).la_t0
@[simp] theorem produce_la_st (s : State) (prod ty : Nat) (takes : Nat → Bool) (p : List Byte) : (s.produce prod ty takes p).la.st = s.la.st := (Logs.produce _ _ _ _ _).la_st
@[simp] theorem produce_la_cause (s : State) (prod ty : Nat) (takes : Nat → Bool) (p : List Byte) : (s.produce prod ty takes p).la.cause = s.la.cause := (Logs.produce _ _ _ _ _).la_cause
@[simp] theorem produce_la_fenceTime (s : State) (prod ty : Nat) (takes : Nat → Bool) (p : List Byte) : (s.produce prod ty takes p).la.fenceTime = s.la.fenceTime := (Logs.produce _ _ _ _ _).la_fenceTime
@[simp] theorem produce_la_rejoin (s : State) (prod ty : Nat) (takes : Nat → Bool) (p : List Byte) : (s.produce prod ty takes p).la.rejoin = s.la.rejoin := (Logs.produce _ _ _ _ _).la_rejoin
@[simp] theorem produce_la_slot0 (s : State) (prod ty : Nat) (takes : Nat → Bool) (p : List Byte) : (s.produce prod ty takes p).la.slot0 = s.la.slot0 := (Logs.produce _ _ _ _ _).la_slot0
@[simp] theorem produce_la_slot1 (s : State) (prod ty : Nat) (takes : Nat → Bool) (p : List Byte) : (s.produce prod ty takes p).la.slot1 = s.la.slot1 := (Logs.produce _ _ _ _ _).la_slot1
@[simp] theorem produce_la_valid0 (s : State) (prod ty : Nat) (takes : Nat → Bool) (p : List Byte) : (s.produce prod ty takes p).la.valid0 = s.la.valid0 := (Logs.produce _ _ _ _ _).la_valid0
@[simp] theorem produce_la_valid1 (s : State) (prod ty : Nat) (takes : Nat → Bool) (p : List Byte) : (s.produce prod ty takes p).la.valid1 = s.la.valid1 := (Logs.produce _ _ _ _ _).la_valid1
@[simp] theorem produce_la_stage (s : State) (prod ty : Nat) (takes : Nat → Bool) (p : List Byte) : (s.produce prod ty takes p).la.stage = s.la.stage := (Logs.produce _ _ _ _ _).la_stage
@[simp] theorem produce_la_mramQ (s : State) (prod ty : Nat) (takes : Nat → Bool) (p : List Byte) : (s.produce prod ty takes p).la.mramQ = s.la.mramQ := (Logs.produce _ _ _ _ _).la_mramQ
@[simp] theorem produce_la_writeOk (s : State) (prod ty : Nat) (takes : Nat → Bool) (p : List Byte) : (s.produce prod ty takes p).la.writeOk = s.la.writeOk := (Logs.produce _ _ _ _ _).la_writeOk
@[simp] theorem produce_la_refuseNow (s : State) (prod ty : Nat) (takes : Nat → Bool) (p : List Byte) : (s.produce prod ty takes p).la.refuseNow = s.la.refuseNow := (Logs.produce _ _ _ _ _).la_refuseNow
@[simp] theorem produce_la_regulated (s : State) (prod ty : Nat) (takes : Nat → Bool) (p : List Byte) : (s.produce prod ty takes p).la.regulated = s.la.regulated := (Logs.produce _ _ _ _ _).la_regulated
@[simp] theorem produce_la_rq (s : State) (prod ty : Nat) (takes : Nat → Bool) (p : List Byte) : (s.produce prod ty takes p).la.rq = s.la.rq := (Logs.produce _ _ _ _ _).la_rq
@[simp] theorem produce_la_digest (s : State) (prod ty : Nat) (takes : Nat → Bool) (p : List Byte) : (s.produce prod ty takes p).la.digest = s.la.digest := (Logs.produce _ _ _ _ _).la_digest
@[simp] theorem produce_la_snapA (s : State) (prod ty : Nat) (takes : Nat → Bool) (p : List Byte) : (s.produce prod ty takes p).la.snapA = s.la.snapA := (Logs.produce _ _ _ _ _).la_snapA
@[simp] theorem produce_la_snapB (s : State) (prod ty : Nat) (takes : Nat → Bool) (p : List Byte) : (s.produce prod ty takes p).la.snapB = s.la.snapB := (Logs.produce _ _ _ _ _).la_snapB
@[simp] theorem produce_la_snapGo (s : State) (prod ty : Nat) (takes : Nat → Bool) (p : List Byte) : (s.produce prod ty takes p).la.snapGo = s.la.snapGo := (Logs.produce _ _ _ _ _).la_snapGo
@[simp] theorem produce_la_snapIdx (s : State) (prod ty : Nat) (takes : Nat → Bool) (p : List Byte) : (s.produce prod ty takes p).la.snapIdx = s.la.snapIdx := (Logs.produce _ _ _ _ _).la_snapIdx
@[simp] theorem produce_la_snapOwed (s : State) (prod ty : Nat) (takes : Nat → Bool) (p : List Byte) : (s.produce prod ty takes p).la.snapOwed = s.la.snapOwed := (Logs.produce _ _ _ _ _).la_snapOwed
@[simp] theorem produce_la_snapHeld (s : State) (prod ty : Nat) (takes : Nat → Bool) (p : List Byte) : (s.produce prod ty takes p).la.snapHeld = s.la.snapHeld := (Logs.produce _ _ _ _ _).la_snapHeld
@[simp] theorem produce_la_mram (s : State) (prod ty : Nat) (takes : Nat → Bool) (p : List Byte) : (s.produce prod ty takes p).la.mram = s.la.mram := (Logs.produce _ _ _ _ _).la_mram
@[simp] theorem produce_la_dbReq (s : State) (prod ty : Nat) (takes : Nat → Bool) (p : List Byte) : (s.produce prod ty takes p).la.dbReq = s.la.dbReq := (Logs.produce _ _ _ _ _).la_dbReq
@[simp] theorem produce_lb_supplied (s : State) (prod ty : Nat) (takes : Nat → Bool) (p : List Byte) : (s.produce prod ty takes p).lb.supplied = s.lb.supplied := (Logs.produce _ _ _ _ _).lb_supplied
@[simp] theorem produce_lb_pllOk (s : State) (prod ty : Nat) (takes : Nat → Bool) (p : List Byte) : (s.produce prod ty takes p).lb.pllOk = s.lb.pllOk := (Logs.produce _ _ _ _ _).lb_pllOk
@[simp] theorem produce_lb_mramOk (s : State) (prod ty : Nat) (takes : Nat → Bool) (p : List Byte) : (s.produce prod ty takes p).lb.mramOk = s.lb.mramOk := (Logs.produce _ _ _ _ _).lb_mramOk
@[simp] theorem produce_lb_sramOk (s : State) (prod ty : Nat) (takes : Nat → Bool) (p : List Byte) : (s.produce prod ty takes p).lb.sramOk = s.lb.sramOk := (Logs.produce _ _ _ _ _).lb_sramOk
@[simp] theorem produce_lb_t0 (s : State) (prod ty : Nat) (takes : Nat → Bool) (p : List Byte) : (s.produce prod ty takes p).lb.t0 = s.lb.t0 := (Logs.produce _ _ _ _ _).lb_t0
@[simp] theorem produce_lb_st (s : State) (prod ty : Nat) (takes : Nat → Bool) (p : List Byte) : (s.produce prod ty takes p).lb.st = s.lb.st := (Logs.produce _ _ _ _ _).lb_st
@[simp] theorem produce_lb_cause (s : State) (prod ty : Nat) (takes : Nat → Bool) (p : List Byte) : (s.produce prod ty takes p).lb.cause = s.lb.cause := (Logs.produce _ _ _ _ _).lb_cause
@[simp] theorem produce_lb_fenceTime (s : State) (prod ty : Nat) (takes : Nat → Bool) (p : List Byte) : (s.produce prod ty takes p).lb.fenceTime = s.lb.fenceTime := (Logs.produce _ _ _ _ _).lb_fenceTime
@[simp] theorem produce_lb_rejoin (s : State) (prod ty : Nat) (takes : Nat → Bool) (p : List Byte) : (s.produce prod ty takes p).lb.rejoin = s.lb.rejoin := (Logs.produce _ _ _ _ _).lb_rejoin
@[simp] theorem produce_lb_slot0 (s : State) (prod ty : Nat) (takes : Nat → Bool) (p : List Byte) : (s.produce prod ty takes p).lb.slot0 = s.lb.slot0 := (Logs.produce _ _ _ _ _).lb_slot0
@[simp] theorem produce_lb_slot1 (s : State) (prod ty : Nat) (takes : Nat → Bool) (p : List Byte) : (s.produce prod ty takes p).lb.slot1 = s.lb.slot1 := (Logs.produce _ _ _ _ _).lb_slot1
@[simp] theorem produce_lb_valid0 (s : State) (prod ty : Nat) (takes : Nat → Bool) (p : List Byte) : (s.produce prod ty takes p).lb.valid0 = s.lb.valid0 := (Logs.produce _ _ _ _ _).lb_valid0
@[simp] theorem produce_lb_valid1 (s : State) (prod ty : Nat) (takes : Nat → Bool) (p : List Byte) : (s.produce prod ty takes p).lb.valid1 = s.lb.valid1 := (Logs.produce _ _ _ _ _).lb_valid1
@[simp] theorem produce_lb_stage (s : State) (prod ty : Nat) (takes : Nat → Bool) (p : List Byte) : (s.produce prod ty takes p).lb.stage = s.lb.stage := (Logs.produce _ _ _ _ _).lb_stage
@[simp] theorem produce_lb_mramQ (s : State) (prod ty : Nat) (takes : Nat → Bool) (p : List Byte) : (s.produce prod ty takes p).lb.mramQ = s.lb.mramQ := (Logs.produce _ _ _ _ _).lb_mramQ
@[simp] theorem produce_lb_writeOk (s : State) (prod ty : Nat) (takes : Nat → Bool) (p : List Byte) : (s.produce prod ty takes p).lb.writeOk = s.lb.writeOk := (Logs.produce _ _ _ _ _).lb_writeOk
@[simp] theorem produce_lb_refuseNow (s : State) (prod ty : Nat) (takes : Nat → Bool) (p : List Byte) : (s.produce prod ty takes p).lb.refuseNow = s.lb.refuseNow := (Logs.produce _ _ _ _ _).lb_refuseNow
@[simp] theorem produce_lb_regulated (s : State) (prod ty : Nat) (takes : Nat → Bool) (p : List Byte) : (s.produce prod ty takes p).lb.regulated = s.lb.regulated := (Logs.produce _ _ _ _ _).lb_regulated
@[simp] theorem produce_lb_rq (s : State) (prod ty : Nat) (takes : Nat → Bool) (p : List Byte) : (s.produce prod ty takes p).lb.rq = s.lb.rq := (Logs.produce _ _ _ _ _).lb_rq
@[simp] theorem produce_lb_digest (s : State) (prod ty : Nat) (takes : Nat → Bool) (p : List Byte) : (s.produce prod ty takes p).lb.digest = s.lb.digest := (Logs.produce _ _ _ _ _).lb_digest
@[simp] theorem produce_lb_snapA (s : State) (prod ty : Nat) (takes : Nat → Bool) (p : List Byte) : (s.produce prod ty takes p).lb.snapA = s.lb.snapA := (Logs.produce _ _ _ _ _).lb_snapA
@[simp] theorem produce_lb_snapB (s : State) (prod ty : Nat) (takes : Nat → Bool) (p : List Byte) : (s.produce prod ty takes p).lb.snapB = s.lb.snapB := (Logs.produce _ _ _ _ _).lb_snapB
@[simp] theorem produce_lb_snapGo (s : State) (prod ty : Nat) (takes : Nat → Bool) (p : List Byte) : (s.produce prod ty takes p).lb.snapGo = s.lb.snapGo := (Logs.produce _ _ _ _ _).lb_snapGo
@[simp] theorem produce_lb_snapIdx (s : State) (prod ty : Nat) (takes : Nat → Bool) (p : List Byte) : (s.produce prod ty takes p).lb.snapIdx = s.lb.snapIdx := (Logs.produce _ _ _ _ _).lb_snapIdx
@[simp] theorem produce_lb_snapOwed (s : State) (prod ty : Nat) (takes : Nat → Bool) (p : List Byte) : (s.produce prod ty takes p).lb.snapOwed = s.lb.snapOwed := (Logs.produce _ _ _ _ _).lb_snapOwed
@[simp] theorem produce_lb_snapHeld (s : State) (prod ty : Nat) (takes : Nat → Bool) (p : List Byte) : (s.produce prod ty takes p).lb.snapHeld = s.lb.snapHeld := (Logs.produce _ _ _ _ _).lb_snapHeld
@[simp] theorem produce_lb_mram (s : State) (prod ty : Nat) (takes : Nat → Bool) (p : List Byte) : (s.produce prod ty takes p).lb.mram = s.lb.mram := (Logs.produce _ _ _ _ _).lb_mram
@[simp] theorem produce_lb_dbReq (s : State) (prod ty : Nat) (takes : Nat → Bool) (p : List Byte) : (s.produce prod ty takes p).lb.dbReq = s.lb.dbReq := (Logs.produce _ _ _ _ _).lb_dbReq
@[simp] theorem produce_leaf_supplied (s : State) (prod ty : Nat) (takes : Nat → Bool) (p : List Byte) (l : Leaf) : ((s.produce prod ty takes p).leaf l).supplied = (s.leaf l).supplied := (Logs.produce _ _ _ _ _).leaf_supplied l
@[simp] theorem produce_leaf_pllOk (s : State) (prod ty : Nat) (takes : Nat → Bool) (p : List Byte) (l : Leaf) : ((s.produce prod ty takes p).leaf l).pllOk = (s.leaf l).pllOk := (Logs.produce _ _ _ _ _).leaf_pllOk l
@[simp] theorem produce_leaf_mramOk (s : State) (prod ty : Nat) (takes : Nat → Bool) (p : List Byte) (l : Leaf) : ((s.produce prod ty takes p).leaf l).mramOk = (s.leaf l).mramOk := (Logs.produce _ _ _ _ _).leaf_mramOk l
@[simp] theorem produce_leaf_sramOk (s : State) (prod ty : Nat) (takes : Nat → Bool) (p : List Byte) (l : Leaf) : ((s.produce prod ty takes p).leaf l).sramOk = (s.leaf l).sramOk := (Logs.produce _ _ _ _ _).leaf_sramOk l
@[simp] theorem produce_leaf_t0 (s : State) (prod ty : Nat) (takes : Nat → Bool) (p : List Byte) (l : Leaf) : ((s.produce prod ty takes p).leaf l).t0 = (s.leaf l).t0 := (Logs.produce _ _ _ _ _).leaf_t0 l
@[simp] theorem produce_leaf_st (s : State) (prod ty : Nat) (takes : Nat → Bool) (p : List Byte) (l : Leaf) : ((s.produce prod ty takes p).leaf l).st = (s.leaf l).st := (Logs.produce _ _ _ _ _).leaf_st l
@[simp] theorem produce_leaf_cause (s : State) (prod ty : Nat) (takes : Nat → Bool) (p : List Byte) (l : Leaf) : ((s.produce prod ty takes p).leaf l).cause = (s.leaf l).cause := (Logs.produce _ _ _ _ _).leaf_cause l
@[simp] theorem produce_leaf_fenceTime (s : State) (prod ty : Nat) (takes : Nat → Bool) (p : List Byte) (l : Leaf) : ((s.produce prod ty takes p).leaf l).fenceTime = (s.leaf l).fenceTime := (Logs.produce _ _ _ _ _).leaf_fenceTime l
@[simp] theorem produce_leaf_rejoin (s : State) (prod ty : Nat) (takes : Nat → Bool) (p : List Byte) (l : Leaf) : ((s.produce prod ty takes p).leaf l).rejoin = (s.leaf l).rejoin := (Logs.produce _ _ _ _ _).leaf_rejoin l
@[simp] theorem produce_leaf_slot0 (s : State) (prod ty : Nat) (takes : Nat → Bool) (p : List Byte) (l : Leaf) : ((s.produce prod ty takes p).leaf l).slot0 = (s.leaf l).slot0 := (Logs.produce _ _ _ _ _).leaf_slot0 l
@[simp] theorem produce_leaf_slot1 (s : State) (prod ty : Nat) (takes : Nat → Bool) (p : List Byte) (l : Leaf) : ((s.produce prod ty takes p).leaf l).slot1 = (s.leaf l).slot1 := (Logs.produce _ _ _ _ _).leaf_slot1 l
@[simp] theorem produce_leaf_valid0 (s : State) (prod ty : Nat) (takes : Nat → Bool) (p : List Byte) (l : Leaf) : ((s.produce prod ty takes p).leaf l).valid0 = (s.leaf l).valid0 := (Logs.produce _ _ _ _ _).leaf_valid0 l
@[simp] theorem produce_leaf_valid1 (s : State) (prod ty : Nat) (takes : Nat → Bool) (p : List Byte) (l : Leaf) : ((s.produce prod ty takes p).leaf l).valid1 = (s.leaf l).valid1 := (Logs.produce _ _ _ _ _).leaf_valid1 l
@[simp] theorem produce_leaf_stage (s : State) (prod ty : Nat) (takes : Nat → Bool) (p : List Byte) (l : Leaf) : ((s.produce prod ty takes p).leaf l).stage = (s.leaf l).stage := (Logs.produce _ _ _ _ _).leaf_stage l
@[simp] theorem produce_leaf_mramQ (s : State) (prod ty : Nat) (takes : Nat → Bool) (p : List Byte) (l : Leaf) : ((s.produce prod ty takes p).leaf l).mramQ = (s.leaf l).mramQ := (Logs.produce _ _ _ _ _).leaf_mramQ l
@[simp] theorem produce_leaf_writeOk (s : State) (prod ty : Nat) (takes : Nat → Bool) (p : List Byte) (l : Leaf) : ((s.produce prod ty takes p).leaf l).writeOk = (s.leaf l).writeOk := (Logs.produce _ _ _ _ _).leaf_writeOk l
@[simp] theorem produce_leaf_refuseNow (s : State) (prod ty : Nat) (takes : Nat → Bool) (p : List Byte) (l : Leaf) : ((s.produce prod ty takes p).leaf l).refuseNow = (s.leaf l).refuseNow := (Logs.produce _ _ _ _ _).leaf_refuseNow l
@[simp] theorem produce_leaf_regulated (s : State) (prod ty : Nat) (takes : Nat → Bool) (p : List Byte) (l : Leaf) : ((s.produce prod ty takes p).leaf l).regulated = (s.leaf l).regulated := (Logs.produce _ _ _ _ _).leaf_regulated l
@[simp] theorem produce_leaf_rq (s : State) (prod ty : Nat) (takes : Nat → Bool) (p : List Byte) (l : Leaf) : ((s.produce prod ty takes p).leaf l).rq = (s.leaf l).rq := (Logs.produce _ _ _ _ _).leaf_rq l
@[simp] theorem produce_leaf_digest (s : State) (prod ty : Nat) (takes : Nat → Bool) (p : List Byte) (l : Leaf) : ((s.produce prod ty takes p).leaf l).digest = (s.leaf l).digest := (Logs.produce _ _ _ _ _).leaf_digest l
@[simp] theorem produce_leaf_snapA (s : State) (prod ty : Nat) (takes : Nat → Bool) (p : List Byte) (l : Leaf) : ((s.produce prod ty takes p).leaf l).snapA = (s.leaf l).snapA := (Logs.produce _ _ _ _ _).leaf_snapA l
@[simp] theorem produce_leaf_snapB (s : State) (prod ty : Nat) (takes : Nat → Bool) (p : List Byte) (l : Leaf) : ((s.produce prod ty takes p).leaf l).snapB = (s.leaf l).snapB := (Logs.produce _ _ _ _ _).leaf_snapB l
@[simp] theorem produce_leaf_snapGo (s : State) (prod ty : Nat) (takes : Nat → Bool) (p : List Byte) (l : Leaf) : ((s.produce prod ty takes p).leaf l).snapGo = (s.leaf l).snapGo := (Logs.produce _ _ _ _ _).leaf_snapGo l
@[simp] theorem produce_leaf_snapIdx (s : State) (prod ty : Nat) (takes : Nat → Bool) (p : List Byte) (l : Leaf) : ((s.produce prod ty takes p).leaf l).snapIdx = (s.leaf l).snapIdx := (Logs.produce _ _ _ _ _).leaf_snapIdx l
@[simp] theorem produce_leaf_snapOwed (s : State) (prod ty : Nat) (takes : Nat → Bool) (p : List Byte) (l : Leaf) : ((s.produce prod ty takes p).leaf l).snapOwed = (s.leaf l).snapOwed := (Logs.produce _ _ _ _ _).leaf_snapOwed l
@[simp] theorem produce_leaf_snapHeld (s : State) (prod ty : Nat) (takes : Nat → Bool) (p : List Byte) (l : Leaf) : ((s.produce prod ty takes p).leaf l).snapHeld = (s.leaf l).snapHeld := (Logs.produce _ _ _ _ _).leaf_snapHeld l
@[simp] theorem produce_leaf_mram (s : State) (prod ty : Nat) (takes : Nat → Bool) (p : List Byte) (l : Leaf) : ((s.produce prod ty takes p).leaf l).mram = (s.leaf l).mram := (Logs.produce _ _ _ _ _).leaf_mram l
@[simp] theorem produce_leaf_dbReq (s : State) (prod ty : Nat) (takes : Nat → Bool) (p : List Byte) (l : Leaf) : ((s.produce prod ty takes p).leaf l).dbReq = (s.leaf l).dbReq := (Logs.produce _ _ _ _ _).leaf_dbReq l

end Sys2Proof.Machine
end

