-- ==== Sys2Proof/Laws/Host.lean ====
section
/-!
SUPPORT. What accepting a request and answering it do (R614, R615, R646).
-/
namespace Sys2Proof.Machine

@[simp] theorem sess_setSess_same (s : State) (k : Nat) (x : Sess) : (s.setSess k x).sess k = x := kget_kset_same _ _ _ _

theorem sess_setSess_other (s : State) (k j : Nat) (x : Sess) (h : j ≠ k) : (s.setSess k x).sess j = s.sess j := kget_kset_other _ _ _ _ _ h

@[simp] theorem sess_modSess_same (s : State) (k : Nat) (f : Sess → Sess) : (s.modSess k f).sess k = f (s.sess k) := sess_setSess_same _ _ _

theorem sess_modSess_other (s : State) (k j : Nat) (f : Sess → Sess) (h : j ≠ k) : (s.modSess k f).sess j = s.sess j :=
  sess_setSess_other _ _ _ _ h

/-- The count of outstanding transactions rests on each session's own count alone. -/
theorem outAll_congr (s n : State) (h : ∀ k, (n.sess k).outst.length = (s.sess k).outst.length) : n.outAll = s.outAll := by
  simp only [State.outAll, h]

theorem outst_setSess (s : State) (k : Nat) (x : Sess) (h : x.outst = (s.sess k).outst) (j : Nat) :
    ((s.setSess k x).sess j).outst = (s.sess j).outst := by
  by_cases hj : j = k
  · subst hj
    simp [h]
  · rw [sess_setSess_other _ _ _ _ hj]

theorem outst_modSess (s : State) (k : Nat) (f : Sess → Sess) (h : (f (s.sess k)).outst = (s.sess k).outst) (j : Nat) :
    ((s.modSess k f).sess j).outst = (s.sess j).outst := outst_setSess s k _ h j

/-- An accepted request runs. -/
theorem request_accepted (s : State) (q : HReq) (kind op : Nat) (rd : Bool) (h : State → HR) (ha : s.accepts q = true) :
    s.request q kind op rd h = (s.greet q kind).serve q kind op h := by
  simp only [State.accepts, Bool.and_eq_true, decide_eq_true_eq] at ha
  obtain ⟨⟨⟨⟨⟨⟨hup, hop⟩, _⟩, hfr⟩, hroom⟩, hall⟩, _⟩ := ha
  have hns : s.aon.dev ≠ .safe := by
    intro hc
    simp [State.up, hc] at hup
  have hout : ((s.setSess q.sess { s.sess q.sess with lastAuth := s.time.now }).modSess q.sess
      (fun x => { x with h := q.tag % 65536 })).outAll = s.outAll :=
    outAll_congr _ _ (fun k => by rw [outst_modSess _ _ _ (by rfl), outst_setSess _ _ _ (by rfl)])
  unfold State.request
  rw [if_neg hns, hup, hop]
  simp only [Bool.not_true, Bool.or_false, Bool.false_eq_true, if_false]
  rw [if_pos hfr, if_neg]
  · rfl
  · rw [hout]
    show ¬ ((s.sess q.sess).outst.length + 1 > s.maxOut q.sess ∨ _)
    omega

/-- A request that is answered later leaves what its rule leaves. -/
theorem serve_later (s : State) (q : HReq) (kind op : Nat) (h : State → HR) (n : State) (hh : h (s.accept q kind op) = (n, none)) :
    s.serve q kind op h = n := by
  simp only [State.serve, hh]

/-- A request that is answered at once. -/
theorem serve_now (s : State) (q : HReq) (kind op : Nat) (h : State → HR) (n : State) (st : Nat) (body : List Byte)
    (hh : h (s.accept q kind op) = (n, some (st, body))) : s.serve q kind op h = n.answer q.sess q.tag st body := by
  simp only [State.serve, hh]

/-- Greeting leaves what is outstanding alone. -/
theorem greet_outst (s : State) (q : HReq) (kind k : Nat) : ((s.greet q kind).sess k).outst = (s.sess k).outst := by
  have hz : ∀ (n : State) (z : Sleep), ({ n with sleep := z } : State).sess k = n.sess k := fun _ _ => rfl
  unfold State.greet
  simp only []
  rw [hz, outst_modSess _ _ _ (by rfl), outst_modSess _ _ _ (by rfl), outst_setSess _ _ _ (by rfl)]

/-- What is outstanding in the state taken. -/
theorem taken_outst (s : State) (q : HReq) (kind op : Nat) (ha : s.accepts q = true) :
    ((s.taken q kind op).sess q.sess).outst.find? (fun o => o.1 == q.tag) = some (q.tag, kind, op) := by
  simp only [State.accepts, Bool.and_eq_true] at ha
  have h := ha.2
  have he : ((s.taken q kind op).sess q.sess).outst = (s.sess q.sess).outst ++ [(q.tag, kind, op)] := by
    unfold State.taken State.accept
    rw [sess_modSess_same, greet_outst]
  rw [he, List.find?_append]
  have hn : (s.sess q.sess).outst.find? (fun o => o.1 == q.tag) = none := by
    rw [List.find?_eq_none]
    intro o ho
    have := List.all_eq_true.mp h o ho
    simpa using this
  simp [hn]

/-- What sending puts out: over Ward one message, over SPI one more in the queue; nothing else of the session's requests. -/
theorem send_ward (s : State) (k kind status tag : Nat) (body : List Byte) (ho : s.sessOpen k = true) (hk : k ≠ sSpi)
    (htx : (s.sess k).tx + 1 < 2 ^ 48) :
    (s.send k kind status tag body).out = Out.ward k (s.dataHeader k body.length) kind status tag body :: s.out ∧
    ((s.send k kind status tag body).sess k).outst = (s.sess k).outst ∧ (s.send k kind status tag body).links.spiQ = s.links.spiQ := by
  unfold State.send
  rw [ho]
  simp only [Bool.not_true, Bool.false_eq_true, if_false, if_neg hk]
  rw [if_neg (by omega)]
  refine ⟨rfl, ?_, rfl⟩
  show ((s.setSess k _).sess k).outst = _
  rw [sess_setSess_same]

/-- Over SPI an answer stands last in the queue. -/
theorem send_spi (s : State) (kind status tag : Nat) (body : List Byte) (ho : s.sessOpen sSpi = true) (hq : s.links.spiQ.length < 8) :
    (s.send sSpi kind status tag body).links.spiQ = s.links.spiQ ++ [msgBytes kind status tag body] ∧
    (s.send sSpi kind status tag body).sess sSpi = s.sess sSpi := by
  unfold State.send
  rw [ho]
  simp only [Bool.not_true, Bool.false_eq_true, if_false, if_true, if_pos hq]
  exact ⟨trivial, rfl⟩

/-- Sending leaves the requests and the last answer of CONTROL alone. -/
theorem send_keeps (s : State) (k kind status tag : Nat) (body : List Byte) :
    ((s.send k kind status tag body).sess k).outst = (s.sess k).outst ∧
    (s.send k kind status tag body).links.lastStatus = s.links.lastStatus ∧
    (s.send k kind status tag body).links.lastOpcode = s.links.lastOpcode ∧
    (s.send k kind status tag body).links.lastSlot = s.links.lastSlot := by
  unfold State.send
  split
  · exact ⟨rfl, rfl, rfl, rfl⟩
  split
  · exact ⟨rfl, rfl, rfl, rfl⟩
  simp only []
  split
  · exact ⟨rfl, rfl, rfl, rfl⟩
  · refine ⟨?_, rfl, rfl, rfl⟩
    show ((s.setSess k _).sess k).outst = _
    rw [sess_setSess_same]

/-- The answer to an outstanding transaction: what was outstanding is no more, and the answer has left. `s` is the state
whose counter and queue the answer's rule did not touch. -/
theorem answer_answered (s m : State) (q : HReq) (kind op st : Nat) (body : List Byte)
    (hf : (m.sess q.sess).outst.find? (fun o => o.1 == q.tag) = some (q.tag, kind, op)) (ho : m.sessOpen q.sess = true)
    (htx : (m.sess q.sess).tx = (s.sess q.sess).tx ∧ (m.sess q.sess).gen = (s.sess q.sess).gen) (hq : m.links.spiQ = s.links.spiQ) :
    Answered s (m.answer q.sess q.tag st body) q kind op st body := by
  have key : ∃ m' : State, m.answer q.sess q.tag st body = m'.send q.sess (kind + 0x80) st q.tag body ∧
      (m'.sess q.sess).outst = (m.sess q.sess).outst.filter (fun o => o.1 != q.tag) ∧ m'.sessOpen q.sess = true ∧
      ((m'.sess q.sess).tx = (m.sess q.sess).tx ∧ (m'.sess q.sess).gen = (m.sess q.sess).gen) ∧ m'.links.spiQ = m.links.spiQ ∧
      (kind = 3 → m'.links.lastStatus = st ∧ m'.links.lastOpcode = op ∧ m'.links.lastSlot = q.sess) := by
    unfold State.answer
    simp only [hf]
    refine ⟨_, rfl, ?_, ?_, ?_, ?_, ?_⟩
    · split <;> (show ((m.setSess q.sess _).sess q.sess).outst = _; rw [sess_setSess_same])
    · have hst : (m.setSess q.sess { (m.sess q.sess) with
          outst := (m.sess q.sess).outst.filter (fun o => o.1 != q.tag)
          held := if holdable kind st (kind == 5 && op == 1) then
            (({ tag := q.tag, kind := kind, status := st, result := body } : Held) :: (m.sess q.sess).held).take 32
            else (m.sess q.sess).held }).sessOpen q.sess = true := by
        unfold State.sessOpen at ho ⊢
        split
        · rename_i h
          rw [if_pos h] at ho
          exact ho
        · rename_i h
          rw [if_neg h] at ho
          rw [sess_setSess_same]
          exact ho
      split
      · exact hst
      · exact hst
    · split <;> (show ((m.setSess q.sess _).sess q.sess).tx = _ ∧ ((m.setSess q.sess _).sess q.sess).gen = _
                 rw [sess_setSess_same]
                 exact ⟨rfl, rfl⟩)
    · split <;> rfl
    · intro h
      subst h
      exact ⟨rfl, rfl, rfl⟩
  obtain ⟨m', he, hout, hopen, htx', hq', hlast⟩ := key
  rw [he]
  obtain ⟨h1, h2, h3, h4⟩ := send_keeps m' q.sess (kind + 0x80) st q.tag body
  refine ⟨?_, ?_, ?_, ?_⟩
  · rw [h1, hout]
    simp [List.all_eq_true]
  · intro hk hlt
    rw [(send_ward m' q.sess _ _ _ _ hopen hk (by rw [htx'.1, htx.1]; exact hlt)).1]
    have hd : m'.dataHeader q.sess body.length = s.dataHeader q.sess body.length := by
      unfold State.dataHeader State.sidOf
      rw [htx'.1, htx'.2, htx.1, htx.2]
    rw [hd]
    rfl
  · intro hk hlt
    rw [hk] at hopen ⊢
    rw [(send_spi m' _ _ _ _ hopen (by rw [hq', hq]; exact hlt)).1, hq', hq]
  · intro hk
    rw [h2, h3, h4]
    exact hlast hk

/-! ### Commands -/

/-- The state taken differs in the session's record and the idle count alone. -/
@[simp] theorem taken_pending (s : State) (q : HReq) (kind op : Nat) : (s.taken q kind op).pending = s.pending := by
  unfold State.taken State.accept State.greet; simp only [modSess_pending, setSess_pending]
@[simp] theorem taken_time (s : State) (q : HReq) (kind op : Nat) : (s.taken q kind op).time = s.time := by
  unfold State.taken State.accept State.greet; simp only [modSess_time, setSess_time]
@[simp] theorem taken_aon (s : State) (q : HReq) (kind op : Nat) : (s.taken q kind op).aon = s.aon := by
  unfold State.taken State.accept State.greet; simp only [modSess_aon, setSess_aon]
@[simp] theorem taken_la (s : State) (q : HReq) (kind op : Nat) : (s.taken q kind op).la = s.la := by
  unfold State.taken State.accept State.greet; simp only [modSess_la, setSess_la]
@[simp] theorem taken_lb (s : State) (q : HReq) (kind op : Nat) : (s.taken q kind op).lb = s.lb := by
  unfold State.taken State.accept State.greet; simp only [modSess_lb, setSess_lb]
@[simp] theorem taken_kn (s : State) (q : HReq) (kind op : Nat) : (s.taken q kind op).kn = s.kn := by
  unfold State.taken State.accept State.greet; simp only [modSess_kn, setSess_kn]
@[simp] theorem taken_lg (s : State) (q : HReq) (kind op : Nat) : (s.taken q kind op).lg = s.lg := by
  unfold State.taken State.accept State.greet; simp only [modSess_lg, setSess_lg]
@[simp] theorem taken_cfg (s : State) (q : HReq) (kind op : Nat) : (s.taken q kind op).cfg = s.cfg := by
  unfold State.taken State.accept State.greet; simp only [modSess_cfg, setSess_cfg]
@[simp] theorem taken_stage (s : State) (q : HReq) (kind op : Nat) : (s.taken q kind op).stage = s.stage := by
  unfold State.taken State.accept State.greet; simp only [modSess_stage, setSess_stage]
@[simp] theorem taken_ovl (s : State) (q : HReq) (kind op : Nat) : (s.taken q kind op).ovl = s.ovl := by
  unfold State.taken State.accept State.greet; simp only [modSess_ovl, setSess_ovl]
@[simp] theorem taken_ch (s : State) (q : HReq) (kind op : Nat) : (s.taken q kind op).ch = s.ch := by
  unfold State.taken State.accept State.greet; simp only [modSess_ch, setSess_ch]
@[simp] theorem taken_sw (s : State) (q : HReq) (kind op : Nat) : (s.taken q kind op).sw = s.sw := by
  unfold State.taken State.accept State.greet; simp only [modSess_sw, setSess_sw]
@[simp] theorem taken_cur (s : State) (q : HReq) (kind op : Nat) : (s.taken q kind op).cur = s.cur := by
  unfold State.taken State.accept State.greet; simp only [modSess_cur, setSess_cur]
@[simp] theorem taken_strCur (s : State) (q : HReq) (kind op : Nat) : (s.taken q kind op).strCur = s.strCur := by
  unfold State.taken State.accept State.greet; simp only [modSess_strCur, setSess_strCur]
@[simp] theorem taken_prot (s : State) (q : HReq) (kind op : Nat) : (s.taken q kind op).prot = s.prot := by
  unfold State.taken State.accept State.greet; simp only [modSess_prot, setSess_prot]
@[simp] theorem taken_th (s : State) (q : HReq) (kind op : Nat) : (s.taken q kind op).th = s.th := by
  unfold State.taken State.accept State.greet; simp only [modSess_th, setSess_th]
@[simp] theorem taken_est (s : State) (q : HReq) (kind op : Nat) : (s.taken q kind op).est = s.est := by
  unfold State.taken State.accept State.greet; simp only [modSess_est, setSess_est]
@[simp] theorem taken_lim (s : State) (q : HReq) (kind op : Nat) : (s.taken q kind op).lim = s.lim := by
  unfold State.taken State.accept State.greet; simp only [modSess_lim, setSess_lim]
@[simp] theorem taken_bal (s : State) (q : HReq) (kind op : Nat) : (s.taken q kind op).bal = s.bal := by
  unfold State.taken State.accept State.greet; simp only [modSess_bal, setSess_bal]
@[simp] theorem taken_hasp (s : State) (q : HReq) (kind op : Nat) : (s.taken q kind op).hasp = s.hasp := by
  unfold State.taken State.accept State.greet; simp only [modSess_hasp, setSess_hasp]
@[simp] theorem taken_lease (s : State) (q : HReq) (kind op : Nat) : (s.taken q kind op).lease = s.lease := by
  unfold State.taken State.accept State.greet; simp only [modSess_lease, setSess_lease]
@[simp] theorem taken_com (s : State) (q : HReq) (kind op : Nat) : (s.taken q kind op).com = s.com := by
  unfold State.taken State.accept State.greet; simp only [modSess_com, setSess_com]
@[simp] theorem taken_power (s : State) (q : HReq) (kind op : Nat) : (s.taken q kind op).power = s.power := by
  unfold State.taken State.accept State.greet; simp only [modSess_power, setSess_power]
@[simp] theorem taken_fifos (s : State) (q : HReq) (kind op : Nat) : (s.taken q kind op).fifos = s.fifos := by
  unfold State.taken State.accept State.greet; simp only [modSess_fifos, setSess_fifos]
@[simp] theorem taken_pick (s : State) (q : HReq) (kind op : Nat) : (s.taken q kind op).pick = s.pick := by
  unfold State.taken State.accept State.greet; simp only [modSess_pick, setSess_pick]
@[simp] theorem taken_nest (s : State) (q : HReq) (kind op : Nat) : (s.taken q kind op).nest = s.nest := by
  unfold State.taken State.accept State.greet; simp only [modSess_nest, setSess_nest]
@[simp] theorem taken_tap (s : State) (q : HReq) (kind op : Nat) : (s.taken q kind op).tap = s.tap := by
  unfold State.taken State.accept State.greet; simp only [modSess_tap, setSess_tap]
@[simp] theorem taken_balls (s : State) (q : HReq) (kind op : Nat) : (s.taken q kind op).balls = s.balls := by
  unfold State.taken State.accept State.greet; simp only [modSess_balls, setSess_balls]
@[simp] theorem taken_free (s : State) (q : HReq) (kind op : Nat) : (s.taken q kind op).free = s.free := by
  unfold State.taken State.accept State.greet; simp only [modSess_free, setSess_free]
@[simp] theorem taken_leaf (s : State) (q : HReq) (kind op : Nat) (l : Leaf) : (s.taken q kind op).leaf l = s.leaf l := by
  cases l
  · exact taken_la s q kind op
  · exact taken_lb s q kind op
@[simp] theorem taken_out (s : State) (q : HReq) (kind op : Nat) : (s.taken q kind op).out = s.out := by
  unfold State.taken State.accept State.greet; simp only [modSess_out, setSess_out]
theorem modSess_spiQ (s : State) (k : Nat) (f : Sess → Sess) : (s.modSess k f).links.spiQ = s.links.spiQ := rfl
theorem modSess_maint (s : State) (k : Nat) (f : Sess → Sess) : (s.modSess k f).links.maintEn = s.links.maintEn ∧
    (s.modSess k f).links.maintSince = s.links.maintSince := ⟨rfl, rfl⟩

@[simp] theorem taken_spiQ (s : State) (q : HReq) (kind op : Nat) : (s.taken q kind op).links.spiQ = s.links.spiQ := by
  unfold State.taken State.accept State.greet; simp only [modSess_spiQ]; rfl

theorem taken_spiOn (s : State) (q : HReq) (kind op : Nat) : (s.taken q kind op).spiOn = s.spiOn := by
  unfold State.spiOn
  rw [taken_time]
  unfold State.taken State.accept State.greet
  simp only [(modSess_maint _ _ _).1, (modSess_maint _ _ _).2]
  rfl

theorem greet_sess (s : State) (q : HReq) (kind : Nat) : ((s.greet q kind).sess q.sess).tx = (s.sess q.sess).tx ∧
    ((s.greet q kind).sess q.sess).st = (s.sess q.sess).st ∧ ((s.greet q kind).sess q.sess).gen = (s.sess q.sess).gen := by
  have hz : ∀ (n : State) (z : Sleep), ({ n with sleep := z } : State).sess q.sess = n.sess q.sess := fun _ _ => rfl
  unfold State.greet
  simp only []
  rw [hz, sess_modSess_same, sess_modSess_same, sess_setSess_same]
  exact ⟨rfl, rfl, rfl⟩

theorem taken_tx (s : State) (q : HReq) (kind op : Nat) : ((s.taken q kind op).sess q.sess).tx = (s.sess q.sess).tx ∧
    ((s.taken q kind op).sess q.sess).gen = (s.sess q.sess).gen := by
  unfold State.taken State.accept
  rw [sess_modSess_same]
  exact ⟨(greet_sess s q kind).1, (greet_sess s q kind).2.2⟩

theorem taken_open (s : State) (q : HReq) (kind op : Nat) (h : s.sessOpen q.sess = true) : (s.taken q kind op).sessOpen q.sess = true := by
  unfold State.sessOpen at h ⊢
  split
  · rename_i hk
    rw [if_pos hk] at h
    rw [taken_spiOn]
    exact h
  · rename_i hk
    rw [if_neg hk] at h
    have : ((s.taken q kind op).sess q.sess).st = (s.sess q.sess).st := by
      unfold State.taken State.accept
      rw [sess_modSess_same]
      exact (greet_sess s q kind).2.1
    rw [this]
    exact h

theorem accepts_open {s : State} {q : HReq} (h : s.accepts q = true) : s.sessOpen q.sess = true := by
  simp only [State.accepts, Bool.and_eq_true] at h
  exact h.1.1.1.1.1.2

/-- A command that passes every gate and is answered at once. -/
theorem cmd_now {s : State} {q : HReq} {op : Nat} {ok : State → Bool} {lenOk : Nat → Bool} {h : State → HR} {n : State} {st : Nat} {body : List Byte}
    (ho : s.opens q op = true) (hok : ok (s.taken q 3 op) = true) (hl : lenOk q.args.length = true)
    (hh : h (s.taken q 3 op) = (n, some (st, body))) : s.cmd q op ok lenOk h = n.answer q.sess q.tag st body := by
  simp only [State.opens, Bool.and_eq_true, Bool.or_eq_true, Bool.not_eq_true'] at ho
  unfold State.cmd
  rw [request_accepted _ _ _ _ _ _ ho.1]
  refine serve_now _ _ _ _ _ _ _ _ ?_
  show (if !ok (s.taken q 3 op) then _ else if (s.taken q 3 op).aon.unkeyed && !unkeyedOp op then _ else _) = _
  rw [hok, taken_aon, hl]
  rcases ho.2 with hu | hu <;> (simp [hu]; exact hh)

/-- A command that passes every gate and is answered later. -/
theorem cmd_later {s : State} {q : HReq} {op : Nat} {ok : State → Bool} {lenOk : Nat → Bool} {h : State → HR} {n : State}
    (ho : s.opens q op = true) (hok : ok (s.taken q 3 op) = true) (hl : lenOk q.args.length = true)
    (hh : h (s.taken q 3 op) = (n, none)) : s.cmd q op ok lenOk h = n := by
  simp only [State.opens, Bool.and_eq_true, Bool.or_eq_true, Bool.not_eq_true'] at ho
  unfold State.cmd
  rw [request_accepted _ _ _ _ _ _ ho.1]
  refine serve_later _ _ _ _ _ _ ?_
  show (if !ok (s.taken q 3 op) then _ else if (s.taken q 3 op).aon.unkeyed && !unkeyedOp op then _ else _) = _
  rw [hok, taken_aon, hl]
  rcases ho.2 with hu | hu <;> (simp [hu]; exact hh)

/-- The answer to an accepted request whose rule left its session, and what SPI queues, as taken. -/
theorem taken_answered {s m : State} {q : HReq} {kind op : Nat} (st : Nat) (body : List Byte) (ha : s.accepts q = true)
    (hl : m.links = (s.taken q kind op).links) (ht : m.time.now = s.time.now) :
    Answered s (m.answer q.sess q.tag st body) q kind op st body := by
  have hs : m.sess q.sess = (s.taken q kind op).sess q.sess := by simp only [State.sess, hl]
  refine answer_answered s m q kind op st body ?_ ?_ ?_ ?_
  · rw [hs]
    exact taken_outst s q kind op ha
  · have h := taken_open s q kind op (accepts_open ha)
    unfold State.sessOpen State.spiOn at h ⊢
    rw [hs, hl, ht]
    exact h
  · rw [hs]
    exact taken_tx s q kind op
  · rw [hl]
    rfl

/-! Answering leaves every part but the links and what was put out alone. -/

@[simp] theorem send_pending (s : State) (k kind status tag : Nat) (body : List Byte) : (s.send k kind status tag body).pending = s.pending := by
  unfold State.send; simp only []; (repeat' split) <;> rfl
@[simp] theorem send_time (s : State) (k kind status tag : Nat) (body : List Byte) : (s.send k kind status tag body).time = s.time := by
  unfold State.send; simp only []; (repeat' split) <;> rfl
@[simp] theorem send_aon (s : State) (k kind status tag : Nat) (body : List Byte) : (s.send k kind status tag body).aon = s.aon := by
  unfold State.send; simp only []; (repeat' split) <;> rfl
@[simp] theorem send_la (s : State) (k kind status tag : Nat) (body : List Byte) : (s.send k kind status tag body).la = s.la := by
  unfold State.send; simp only []; (repeat' split) <;> rfl
@[simp] theorem send_lb (s : State) (k kind status tag : Nat) (body : List Byte) : (s.send k kind status tag body).lb = s.lb := by
  unfold State.send; simp only []; (repeat' split) <;> rfl
@[simp] theorem send_kn (s : State) (k kind status tag : Nat) (body : List Byte) : (s.send k kind status tag body).kn = s.kn := by
  unfold State.send; simp only []; (repeat' split) <;> rfl
@[simp] theorem send_lg (s : State) (k kind status tag : Nat) (body : List Byte) : (s.send k kind status tag body).lg = s.lg := by
  unfold State.send; simp only []; (repeat' split) <;> rfl
@[simp] theorem send_cfg (s : State) (k kind status tag : Nat) (body : List Byte) : (s.send k kind status tag body).cfg = s.cfg := by
  unfold State.send; simp only []; (repeat' split) <;> rfl
@[simp] theorem send_stage (s : State) (k kind status tag : Nat) (body : List Byte) : (s.send k kind status tag body).stage = s.stage := by
  unfold State.send; simp only []; (repeat' split) <;> rfl
@[simp] theorem send_ovl (s : State) (k kind status tag : Nat) (body : List Byte) : (s.send k kind status tag body).ovl = s.ovl := by
  unfold State.send; simp only []; (repeat' split) <;> rfl
@[simp] theorem send_ch (s : State) (k kind status tag : Nat) (body : List Byte) : (s.send k kind status tag body).ch = s.ch := by
  unfold State.send; simp only []; (repeat' split) <;> rfl
@[simp] theorem send_sw (s : State) (k kind status tag : Nat) (body : List Byte) : (s.send k kind status tag body).sw = s.sw := by
  unfold State.send; simp only []; (repeat' split) <;> rfl
@[simp] theorem send_cur (s : State) (k kind status tag : Nat) (body : List Byte) : (s.send k kind status tag body).cur = s.cur := by
  unfold State.send; simp only []; (repeat' split) <;> rfl
@[simp] theorem send_strCur (s : State) (k kind status tag : Nat) (body : List Byte) : (s.send k kind status tag body).strCur = s.strCur := by
  unfold State.send; simp only []; (repeat' split) <;> rfl
@[simp] theorem send_prot (s : State) (k kind status tag : Nat) (body : List Byte) : (s.send k kind status tag body).prot = s.prot := by
  unfold State.send; simp only []; (repeat' split) <;> rfl
@[simp] theorem send_th (s : State) (k kind status tag : Nat) (body : List Byte) : (s.send k kind status tag body).th = s.th := by
  unfold State.send; simp only []; (repeat' split) <;> rfl
@[simp] theorem send_est (s : State) (k kind status tag : Nat) (body : List Byte) : (s.send k kind status tag body).est = s.est := by
  unfold State.send; simp only []; (repeat' split) <;> rfl
@[simp] theorem send_lim (s : State) (k kind status tag : Nat) (body : List Byte) : (s.send k kind status tag body).lim = s.lim := by
  unfold State.send; simp only []; (repeat' split) <;> rfl
@[simp] theorem send_bal (s : State) (k kind status tag : Nat) (body : List Byte) : (s.send k kind status tag body).bal = s.bal := by
  unfold State.send; simp only []; (repeat' split) <;> rfl
@[simp] theorem send_hasp (s : State) (k kind status tag : Nat) (body : List Byte) : (s.send k kind status tag body).hasp = s.hasp := by
  unfold State.send; simp only []; (repeat' split) <;> rfl
@[simp] theorem send_lease (s : State) (k kind status tag : Nat) (body : List Byte) : (s.send k kind status tag body).lease = s.lease := by
  unfold State.send; simp only []; (repeat' split) <;> rfl
@[simp] theorem send_com (s : State) (k kind status tag : Nat) (body : List Byte) : (s.send k kind status tag body).com = s.com := by
  unfold State.send; simp only []; (repeat' split) <;> rfl
@[simp] theorem send_power (s : State) (k kind status tag : Nat) (body : List Byte) : (s.send k kind status tag body).power = s.power := by
  unfold State.send; simp only []; (repeat' split) <;> rfl
@[simp] theorem send_fifos (s : State) (k kind status tag : Nat) (body : List Byte) : (s.send k kind status tag body).fifos = s.fifos := by
  unfold State.send; simp only []; (repeat' split) <;> rfl
@[simp] theorem send_sleep (s : State) (k kind status tag : Nat) (body : List Byte) : (s.send k kind status tag body).sleep = s.sleep := by
  unfold State.send; simp only []; (repeat' split) <;> rfl
@[simp] theorem send_tap (s : State) (k kind status tag : Nat) (body : List Byte) : (s.send k kind status tag body).tap = s.tap := by
  unfold State.send; simp only []; (repeat' split) <;> rfl
@[simp] theorem send_balls (s : State) (k kind status tag : Nat) (body : List Byte) : (s.send k kind status tag body).balls = s.balls := by
  unfold State.send; simp only []; (repeat' split) <;> rfl
@[simp] theorem send_pick (s : State) (k kind status tag : Nat) (body : List Byte) : (s.send k kind status tag body).pick = s.pick := by
  unfold State.send; simp only []; (repeat' split) <;> rfl
@[simp] theorem send_nest (s : State) (k kind status tag : Nat) (body : List Byte) : (s.send k kind status tag body).nest = s.nest := by
  unfold State.send; simp only []; (repeat' split) <;> rfl
@[simp] theorem send_free (s : State) (k kind status tag : Nat) (body : List Byte) : (s.send k kind status tag body).free = s.free := by
  unfold State.send; simp only []; (repeat' split) <;> rfl
@[simp] theorem answer_pending (s : State) (k tag status : Nat) (body : List Byte) : (s.answer k tag status body).pending = s.pending := by
  unfold State.answer; simp only []; split
  · rfl
  · rw [send_pending]; split <;> rfl
@[simp] theorem answer_time (s : State) (k tag status : Nat) (body : List Byte) : (s.answer k tag status body).time = s.time := by
  unfold State.answer; simp only []; split
  · rfl
  · rw [send_time]; split <;> rfl
@[simp] theorem answer_aon (s : State) (k tag status : Nat) (body : List Byte) : (s.answer k tag status body).aon = s.aon := by
  unfold State.answer; simp only []; split
  · rfl
  · rw [send_aon]; split <;> rfl
@[simp] theorem answer_la (s : State) (k tag status : Nat) (body : List Byte) : (s.answer k tag status body).la = s.la := by
  unfold State.answer; simp only []; split
  · rfl
  · rw [send_la]; split <;> rfl
@[simp] theorem answer_lb (s : State) (k tag status : Nat) (body : List Byte) : (s.answer k tag status body).lb = s.lb := by
  unfold State.answer; simp only []; split
  · rfl
  · rw [send_lb]; split <;> rfl
@[simp] theorem answer_kn (s : State) (k tag status : Nat) (body : List Byte) : (s.answer k tag status body).kn = s.kn := by
  unfold State.answer; simp only []; split
  · rfl
  · rw [send_kn]; split <;> rfl
@[simp] theorem answer_lg (s : State) (k tag status : Nat) (body : List Byte) : (s.answer k tag status body).lg = s.lg := by
  unfold State.answer; simp only []; split
  · rfl
  · rw [send_lg]; split <;> rfl
@[simp] theorem answer_cfg (s : State) (k tag status : Nat) (body : List Byte) : (s.answer k tag status body).cfg = s.cfg := by
  unfold State.answer; simp only []; split
  · rfl
  · rw [send_cfg]; split <;> rfl
@[simp] theorem answer_stage (s : State) (k tag status : Nat) (body : List Byte) : (s.answer k tag status body).stage = s.stage := by
  unfold State.answer; simp only []; split
  · rfl
  · rw [send_stage]; split <;> rfl
@[simp] theorem answer_ovl (s : State) (k tag status : Nat) (body : List Byte) : (s.answer k tag status body).ovl = s.ovl := by
  unfold State.answer; simp only []; split
  · rfl
  · rw [send_ovl]; split <;> rfl
@[simp] theorem answer_ch (s : State) (k tag status : Nat) (body : List Byte) : (s.answer k tag status body).ch = s.ch := by
  unfold State.answer; simp only []; split
  · rfl
  · rw [send_ch]; split <;> rfl
@[simp] theorem answer_sw (s : State) (k tag status : Nat) (body : List Byte) : (s.answer k tag status body).sw = s.sw := by
  unfold State.answer; simp only []; split
  · rfl
  · rw [send_sw]; split <;> rfl
@[simp] theorem answer_cur (s : State) (k tag status : Nat) (body : List Byte) : (s.answer k tag status body).cur = s.cur := by
  unfold State.answer; simp only []; split
  · rfl
  · rw [send_cur]; split <;> rfl
@[simp] theorem answer_strCur (s : State) (k tag status : Nat) (body : List Byte) : (s.answer k tag status body).strCur = s.strCur := by
  unfold State.answer; simp only []; split
  · rfl
  · rw [send_strCur]; split <;> rfl
@[simp] theorem answer_prot (s : State) (k tag status : Nat) (body : List Byte) : (s.answer k tag status body).prot = s.prot := by
  unfold State.answer; simp only []; split
  · rfl
  · rw [send_prot]; split <;> rfl
@[simp] theorem answer_th (s : State) (k tag status : Nat) (body : List Byte) : (s.answer k tag status body).th = s.th := by
  unfold State.answer; simp only []; split
  · rfl
  · rw [send_th]; split <;> rfl
@[simp] theorem answer_est (s : State) (k tag status : Nat) (body : List Byte) : (s.answer k tag status body).est = s.est := by
  unfold State.answer; simp only []; split
  · rfl
  · rw [send_est]; split <;> rfl
@[simp] theorem answer_lim (s : State) (k tag status : Nat) (body : List Byte) : (s.answer k tag status body).lim = s.lim := by
  unfold State.answer; simp only []; split
  · rfl
  · rw [send_lim]; split <;> rfl
@[simp] theorem answer_bal (s : State) (k tag status : Nat) (body : List Byte) : (s.answer k tag status body).bal = s.bal := by
  unfold State.answer; simp only []; split
  · rfl
  · rw [send_bal]; split <;> rfl
@[simp] theorem answer_hasp (s : State) (k tag status : Nat) (body : List Byte) : (s.answer k tag status body).hasp = s.hasp := by
  unfold State.answer; simp only []; split
  · rfl
  · rw [send_hasp]; split <;> rfl
@[simp] theorem answer_lease (s : State) (k tag status : Nat) (body : List Byte) : (s.answer k tag status body).lease = s.lease := by
  unfold State.answer; simp only []; split
  · rfl
  · rw [send_lease]; split <;> rfl
@[simp] theorem answer_com (s : State) (k tag status : Nat) (body : List Byte) : (s.answer k tag status body).com = s.com := by
  unfold State.answer; simp only []; split
  · rfl
  · rw [send_com]; split <;> rfl
@[simp] theorem answer_power (s : State) (k tag status : Nat) (body : List Byte) : (s.answer k tag status body).power = s.power := by
  unfold State.answer; simp only []; split
  · rfl
  · rw [send_power]; split <;> rfl
@[simp] theorem answer_fifos (s : State) (k tag status : Nat) (body : List Byte) : (s.answer k tag status body).fifos = s.fifos := by
  unfold State.answer; simp only []; split
  · rfl
  · rw [send_fifos]; split <;> rfl
@[simp] theorem answer_sleep (s : State) (k tag status : Nat) (body : List Byte) : (s.answer k tag status body).sleep = s.sleep := by
  unfold State.answer; simp only []; split
  · rfl
  · rw [send_sleep]; split <;> rfl
@[simp] theorem answer_tap (s : State) (k tag status : Nat) (body : List Byte) : (s.answer k tag status body).tap = s.tap := by
  unfold State.answer; simp only []; split
  · rfl
  · rw [send_tap]; split <;> rfl
@[simp] theorem answer_balls (s : State) (k tag status : Nat) (body : List Byte) : (s.answer k tag status body).balls = s.balls := by
  unfold State.answer; simp only []; split
  · rfl
  · rw [send_balls]; split <;> rfl
@[simp] theorem answer_pick (s : State) (k tag status : Nat) (body : List Byte) : (s.answer k tag status body).pick = s.pick := by
  unfold State.answer; simp only []; split
  · rfl
  · rw [send_pick]; split <;> rfl
@[simp] theorem answer_nest (s : State) (k tag status : Nat) (body : List Byte) : (s.answer k tag status body).nest = s.nest := by
  unfold State.answer; simp only []; split
  · rfl
  · rw [send_nest]; split <;> rfl
@[simp] theorem answer_free (s : State) (k tag status : Nat) (body : List Byte) : (s.answer k tag status body).free = s.free := by
  unfold State.answer; simp only []; split
  · rfl
  · rw [send_free]; split <;> rfl

/-! The clock, the pins and the answer of the settled state. -/

theorem settle_answered {s a b : State} {q : HReq} {kind op st : Nat} {body : List Byte} (h : Answered s b q kind op st body) :
    Answered s (settle a b) q kind op st body := h

end Sys2Proof.Machine
end

