-- ==== Sys2Proof/Laws/Fence.lean ====
section
/-!
SUPPORT. What a fence does (R546, R547): whatever else follows it, the leaf is FENCED with its first cause, and the other
leaf, the device's state and the image in force are touched by the failover and by SAFE alone.
-/
namespace Sys2Proof.Machine

/-- A leaf's record but for its staging store, its slots, its log queue and a snapshot in progress. -/
def LeafRec.core (x : LeafRec) : LeafRec :=
  { x with stage := [], slot0 := {}, slot1 := {}, snapGo := false, snapIdx := 0, snapOwed := false, snapHeld := false
           log := { x.log with queue := [] } }

theorem LeafRec.core_st {x y : LeafRec} (h : x.core = y.core) : x.st = y.st := by have := congrArg LeafRec.st h; exact this
theorem LeafRec.core_cause {x y : LeafRec} (h : x.core = y.core) : x.cause = y.cause := by have := congrArg LeafRec.cause h; exact this
theorem LeafRec.core_supplied {x y : LeafRec} (h : x.core = y.core) : x.supplied = y.supplied := by have := congrArg LeafRec.supplied h; exact this
theorem LeafRec.core_rq {x y : LeafRec} (h : x.core = y.core) : x.rq = y.rq := by have := congrArg LeafRec.rq h; exact this
theorem LeafRec.core_pllOk {x y : LeafRec} (h : x.core = y.core) : x.pllOk = y.pllOk := by have := congrArg LeafRec.pllOk h; exact this

/-- The device's state and its test mode. -/
def Aon.mode (x : Aon) : Dev × Bool := (x.dev, x.testEn)
theorem Aon.mode_dev {x y : Aon} (h : x.mode = y.mode) : x.dev = y.dev := congrArg Prod.fst h
theorem Aon.mode_testEn {x y : Aon} (h : x.mode = y.mode) : x.testEn = y.testEn := congrArg Prod.snd h

/-- The two states agree on the leaves but for stores, slots and queues, on the ACTIVE leaf, on the device's state and on
the image. -/
structure Calm (s n : State) : Prop where
  leaf : ∀ l, (n.leaf l).core = (s.leaf l).core
  active : n.kn.active = s.kn.active
  dev : n.aon.mode = s.aon.mode
  cfg : n.cfg = s.cfg

theorem Calm.refl (s : State) : Calm s s := ⟨fun _ => rfl, rfl, rfl, rfl⟩

theorem Calm.trans {s t u : State} (h : Calm s t) (k : Calm t u) : Calm s u :=
  ⟨fun l => (k.leaf l).trans (h.leaf l), k.active.trans h.active, k.dev.trans h.dev, k.cfg.trans h.cfg⟩

theorem Calm.ite {s t u : State} (c : Prop) [Decidable c] (h : Calm s t) (k : Calm s u) : Calm s (if c then t else u) := by
  split
  · exact h
  · exact k

/-- One more operation that keeps them, where a condition holds. -/
theorem Calm.step {s t : State} {f : State → State} {c : Prop} [Decidable c] (h : Calm s t) (hf : ∀ t, Calm t (f t)) :
    Calm s (if c then f t else t) := by
  split
  · exact h.trans (hf t)
  · exact h

/-- Two states with the same leaves, Knuckle, AON and image. -/
theorem Calm.of_eq {s n : State} (ha : n.la = s.la) (hb : n.lb = s.lb) (hk : n.kn.active = s.kn.active) (hd : n.aon.mode = s.aon.mode)
    (hc : n.cfg = s.cfg) : Calm s n := by
  refine ⟨?_, hk, hd, hc⟩
  intro l
  cases l <;> simp [State.leaf, ha, hb]

theorem Calm.then_eq {s t n : State} (h : Calm s t) (ha : n.la = t.la) (hb : n.lb = t.lb) (hk : n.kn.active = t.kn.active)
    (hd : n.aon.mode = t.aon.mode) (hc : n.cfg = t.cfg) : Calm s n := h.trans (Calm.of_eq ha hb hk hd hc)

theorem Calm.of_logs {s n : State} (h : Logs s n) : Calm s n := by
  obtain ⟨g, fs, qa, qb, rfl⟩ := h
  refine ⟨fun l => ?_, rfl, rfl, rfl⟩
  cases l <;> rfl

theorem Calm.fold {α : Type} (f : State → α → State) (h : ∀ s x, Calm s (f s x)) : ∀ (l : List α) (s : State), Calm s (l.foldl f s) := by
  intro l
  induction l with
  | nil => exact fun s => Calm.refl s
  | cons x r ih => exact fun s => (h s x).trans (ih _)

theorem Calm.setSess (s : State) (k : Nat) (x : Sess) : Calm s (s.setSess k x) := Calm.of_eq rfl rfl rfl rfl rfl

theorem Calm.send (s : State) (k kind status tag : Nat) (body : List Byte) : Calm s (s.send k kind status tag body) := by
  unfold State.send
  refine Calm.ite _ (Calm.refl s) (Calm.ite _ (Calm.of_eq rfl rfl rfl rfl rfl) ?_)
  simp only []
  exact Calm.ite _ (Calm.refl s) (Calm.of_eq rfl rfl rfl rfl rfl)

theorem Calm.answer (s : State) (k tag status : Nat) (body : List Byte) : Calm s (s.answer k tag status body) := by
  unfold State.answer
  simp only []
  split
  · exact Calm.refl s
  · refine Calm.trans ?_ (Calm.send _ _ _ _ _ _)
    exact Calm.ite _ (Calm.of_eq rfl rfl rfl rfl rfl) (Calm.of_eq rfl rfl rfl rfl rfl)

theorem Calm.answerOpt (s : State) (w : Option (Nat × Nat)) (status : Nat) (body : List Byte) : Calm s (s.answerOpt w status body) := by
  unfold State.answerOpt
  split
  · exact Calm.refl s
  · exact Calm.answer _ _ _ _ _

theorem Calm.modLeaf (s : State) (l : Leaf) (f : LeafRec → LeafRec) (h : ∀ x, (f x).core = x.core) : Calm s (s.modLeaf l f) := by
  refine ⟨?_, by cases l <;> rfl, by cases l <;> rfl, by cases l <;> rfl⟩
  intro k
  cases l <;> cases k <;> first | rfl | exact h _

theorem Calm.withdraw (s : State) (k : Nat) : Calm s (s.withdraw k) := by
  unfold State.withdraw
  refine Calm.fold _ (fun s l => Calm.ite _ (Calm.modLeaf _ _ _ ?_) (Calm.refl _)) _ s
  intro x
  unfold LeafRec.modSlot
  split <;> rfl

theorem Calm.stageIdle (s : State) : Calm s s.stageIdle := by
  refine ⟨fun l => ?_, rfl, rfl, rfl⟩
  cases l <;> rfl

theorem Calm.stageSet (s : State) (x : Stage) : Calm s { s with stage := x } := Calm.of_eq rfl rfl rfl rfl rfl

theorem Calm.stageAbandon (s : State) (k : Nat) : Calm s (s.stageAbandon k) := by
  unfold State.stageAbandon
  refine Calm.ite _ ?_ (Calm.refl s)
  simp only []
  refine Calm.trans ?_ (Calm.of_logs (Logs.evA _ _ _ _))
  refine Calm.trans ?_ (Calm.stageSet _ _)
  refine Calm.trans (Calm.trans ?_ (Calm.answerOpt _ _ _ _)) (Calm.stageIdle _)
  exact Calm.ite _ (Calm.withdraw _ _) (Calm.refl _)

theorem Calm.applyAbandon (s : State) (k : Nat) : Calm s (s.applyAbandon k) := by
  unfold State.applyAbandon
  refine Calm.ite _ ?_ (Calm.refl s)
  simp only []
  refine Calm.trans ?_ (Calm.of_logs (Logs.evA _ _ _ _))
  exact Calm.of_eq rfl rfl rfl rfl rfl

theorem Calm.release (s : State) (l : List Out) : Calm s (s.release l) := by
  unfold State.release State.each
  refine Calm.fold _ (fun s o => ?_) l s
  simp only []
  have he : Calm s (s.emit o) := Calm.of_eq rfl rfl rfl rfl rfl
  split
  · exact he.trans (Calm.of_logs (Logs.withPick _ _ _ (fun t => Logs.traceFrame t _ _ _ _ _)))
  · exact he

theorem Calm.pickDisarm (s : State) (cause : Nat) : Calm s (s.pickDisarm cause) := by
  unfold State.pickDisarm
  refine Calm.ite _ (Calm.refl s) ?_
  simp only []
  refine Calm.trans ?_ (Calm.of_logs (Logs.evA _ _ _ _))
  exact (Calm.release s (s.pick.held.filterMap (·.tx))).then_eq rfl rfl rfl rfl rfl

theorem Calm.setFifo (s : State) (n : Nat) (x : Fifo) : Calm s (s.setFifo n x) := Calm.of_logs (Logs.setFifo s n x)

theorem Calm.unsubscribe (s : State) (k : Nat) : Calm s (s.unsubscribe k) := by
  unfold State.unsubscribe
  exact Calm.fold _ (fun s n => Calm.setFifo _ _ _) _ s

theorem Calm.closeSession (s : State) (k cause : Nat) : Calm s (s.closeSession k cause) := by
  unfold State.closeSession
  simp only []
  refine Calm.ite _ (Calm.refl s) ?_
  refine Calm.step (f := fun t => t.freeMarks k) ?_ (fun t => Calm.of_eq rfl rfl rfl rfl rfl)
  refine Calm.step (f := State.armEnd) ?_ (fun t => Calm.of_eq rfl rfl rfl rfl rfl)
  refine Calm.step (f := fun t => t.pickDisarm 6) ?_ (fun t => Calm.pickDisarm t 6)
  refine Calm.step (f := fun t => t.stageAbandon 0) ?_ (fun t => Calm.stageAbandon t 0)
  refine Calm.trans ?_ (Calm.of_logs (Logs.evA _ _ _ _))
  exact (Calm.setSess _ _ _).trans (Calm.unsubscribe _ _)

theorem Calm.closeAll (s : State) (cause : Nat) : Calm s (s.closeAll cause) := by
  unfold State.closeAll
  exact Calm.fold _ (fun s k => Calm.closeSession s k cause) _ s

theorem Calm.knuckleCancel (s : State) : Calm s s.knuckleCancel := by
  unfold State.knuckleCancel
  simp only []
  exact ((Calm.answerOpt _ _ _ _).trans (Calm.answerOpt _ _ _ _)).trans (Calm.of_eq rfl rfl rfl rfl rfl)

theorem Calm.fenceRings (s : State) (l : Leaf) : Calm s (s.fenceRings l) := by
  unfold State.fenceRings
  refine Calm.fold _ (fun s r => ?_) _ s
  refine Calm.trans (t := s.fenceNodes l r) ?_ (Calm.of_eq rfl rfl rfl rfl rfl)
  unfold State.fenceNodes
  split
  · exact Calm.of_eq rfl rfl rfl rfl rfl
  · exact Calm.refl s

theorem Calm.nextBlocks (s : State) : Calm s s.nextBlocks := by
  unfold State.nextBlocks State.modSess
  exact Calm.fold _ (fun s k => Calm.setSess _ _ _) _ s

theorem Calm.fifosOver (s : State) : Calm s s.fifosOver := by
  unfold State.fifosOver
  refine Calm.fold _ (fun s e => ?_) _ s
  refine Calm.trans (Calm.setFifo s e.1 (e.2.handOver (Config.freeNat s.free % 3))) ?_
  exact Calm.of_eq rfl rfl rfl rfl rfl

theorem Calm.snapCut (s : State) (l : Leaf) : Calm s (s.snapCut l) := by
  refine ⟨fun k => ?_, by cases l <;> rfl, by cases l <;> rfl, by cases l <;> rfl⟩
  cases l <;> cases k <;> rfl

/-! ### The leaf that is fenced -/

/-- The two states agree on one leaf but for its store, slots and queue. -/
def CalmAt (l : Leaf) (s n : State) : Prop := (n.leaf l).core = (s.leaf l).core

theorem CalmAt.of_calm {s n : State} (h : Calm s n) (l : Leaf) : CalmAt l s n := h.leaf l
theorem CalmAt.refl (l : Leaf) (s : State) : CalmAt l s s := rfl
theorem CalmAt.trans {l : Leaf} {s t u : State} (h : CalmAt l s t) (k : CalmAt l t u) : CalmAt l s u := Eq.trans k h
theorem CalmAt.ite {l : Leaf} {s t u : State} (c : Prop) [Decidable c] (h : CalmAt l s t) (k : CalmAt l s u) : CalmAt l s (if c then t else u) := by
  split
  · exact h
  · exact k

/-- A change of the other leaf leaves this one alone. -/
theorem CalmAt.setOther (s : State) (l : Leaf) (x : LeafRec) : CalmAt l s (s.setLeaf l.other x) := by
  cases l <;> rfl

theorem CalmAt.same (l : Leaf) {s n : State} (ha : n.la = s.la) (hb : n.lb = s.lb) : CalmAt l s n := by
  cases l <;> simp [CalmAt, State.leaf, ha, hb]

theorem CalmAt.then_same {l : Leaf} {s t n : State} (h : CalmAt l s t) (ha : n.la = t.la) (hb : n.lb = t.lb) : CalmAt l s n :=
  h.trans (CalmAt.same l ha hb)

theorem CalmAt.survivor (s : State) (l : Leaf) : CalmAt l s (s.survivor l) := by
  unfold State.survivor
  simp only []
  refine CalmAt.ite _ ?_ (CalmAt.ite _ (CalmAt.setOther s l _) (CalmAt.refl l s))
  exact (CalmAt.setOther s l { s.leaf l.other with st := .running, rq := true }).then_same rfl rfl

theorem CalmAt.canFollow (l : Leaf) (s : State) : CalmAt l s s.canFollow := CalmAt.same l rfl rfl

theorem CalmAt.failover (s : State) (l : Leaf) : CalmAt l s (s.failover l) := by
  unfold State.failover
  simp only []
  refine CalmAt.ite _ ?_ (CalmAt.survivor s l)
  refine (CalmAt.survivor s l).trans ?_
  refine CalmAt.trans ?_ (CalmAt.of_calm (Calm.of_logs (Logs.evA _ _ _ _)) l)
  refine CalmAt.trans ?_ (CalmAt.canFollow l _)
  refine CalmAt.trans ?_ (CalmAt.of_calm ((Calm.nextBlocks _).trans (Calm.fifosOver _)) l)
  exact CalmAt.same l rfl rfl

theorem CalmAt.enterSafe (s : State) (l : Leaf) : CalmAt l s s.enterSafe := by
  unfold State.enterSafe
  refine CalmAt.ite _ (CalmAt.refl l s) ?_
  simp only []
  exact (CalmAt.of_calm ((Calm.closeAll s Cc.safe).trans (Calm.pickDisarm _ 8)) l).then_same rfl rfl

/-- The record of a leaf that the AON fences (R546, R547). -/
def LeafRec.fenced (x : LeafRec) (cause time : Nat) : LeafRec :=
  { x with st := .fenced, cause := if x.cause = 0 then cause else x.cause, fenceTime := time, rejoin := 0
           rq := false, dbReq := false, mramQ := [], log := { x.log with queue := [] } }

/-- A leaf whose FENCE line is not set is FENCED, without a request, and keeps its first cause. -/
theorem fence_leaf (s : State) (l : Leaf) (cause : Nat) (h : s.fenceLine l = false) :
    ((s.fence l cause).leaf l).core = ((s.leaf l).fenced cause s.devTime).core := by
  have hf : s.fencedL l = false := by
    unfold State.fenceLine at h
    unfold State.fencedL
    revert h
    cases h : (s.leaf l).st <;> simp [h]
  obtain ⟨m, hm⟩ : ∃ m : State, m = s.modLeaf l (fun x => { x with
      st := .fenced, cause := if x.cause = 0 then cause else x.cause, fenceTime := s.devTime, rejoin := 0
      rq := false, dbReq := false, mramQ := [], log := { x.log with queue := [] } }) := ⟨_, rfl⟩
  obtain ⟨a1, h1⟩ : ∃ a : State, a = (m.snapCut l).evAon Ev.leafFenced l.num [p1 ((m.snapCut l).leaf l).cause, p4 (m.snapCut l).sw.num] := ⟨_, rfl⟩
  obtain ⟨a2, h2⟩ : ∃ a : State, a = if s.kn.active == some l then (a1.fenceRings l).failover l else a1.fenceRings l := ⟨_, rfl⟩
  obtain ⟨a3, h3⟩ : ∃ a : State, a = a2.knuckleCancel.stageAbandon 4 := ⟨_, rfl⟩
  obtain ⟨a4, h4⟩ : ∃ a : State, a = if a3.cfg.dual then a3.applyAbandon (Config.caseCode Ev.imageApplyAbandoned 1) else a3 := ⟨_, rfl⟩
  obtain ⟨a5, h5⟩ : ∃ a : State, a = a4.pickDisarm 5 := ⟨_, rfl⟩
  have he : s.fence l cause = if !a5.running l.other then
      (if (a5.leaf l.other).st = .rejoining ∨ (a5.leaf l.other).st = .resyncing then
        a5.setLeaf l.other { a5.leaf l.other with st := .fenced, rejoin := 0 } else a5).enterSafe else a5.canFollow := by
    unfold State.fence
    rw [hf, h]
    subst h5 h4 h3 h2 h1 hm
    rfl
  have c1 : CalmAt l m a1 := h1 ▸ CalmAt.of_calm ((Calm.snapCut m l).trans (Calm.of_logs (Logs.evAon _ _ _ _))) l
  have c2 : CalmAt l a1 a2 := h2 ▸ CalmAt.ite _ ((CalmAt.of_calm (Calm.fenceRings _ l) l).trans (CalmAt.failover _ l)) (CalmAt.of_calm (Calm.fenceRings _ l) l)
  have c3 : CalmAt l a2 a3 := h3 ▸ CalmAt.of_calm ((Calm.knuckleCancel _).trans (Calm.stageAbandon _ _)) l
  have c4 : CalmAt l a3 a4 := h4 ▸ CalmAt.of_calm (Calm.ite _ (Calm.applyAbandon _ _) (Calm.refl _)) l
  have c5 : CalmAt l a4 a5 := h5 ▸ CalmAt.of_calm (Calm.pickDisarm _ _) l
  have c6 : CalmAt l a5 (s.fence l cause) := by
    rw [he]
    refine CalmAt.ite _ ?_ (CalmAt.canFollow l _)
    exact (CalmAt.ite _ (CalmAt.setOther _ l _) (CalmAt.refl l _)).trans (CalmAt.enterSafe _ l)
  have c : CalmAt l m (s.fence l cause) := c1.trans (c2.trans (c3.trans (c4.trans (c5.trans c6))))
  refine Eq.trans c ?_
  rw [hm]
  cases l <;> rfl

/-! ### The other leaf, and the device's state -/

/-- While the other leaf runs, the failover leaves it as it is, and the device's state. -/
theorem failover_other (s : State) (l : Leaf) (h : s.running l.other = true) :
    CalmAt l.other s (s.failover l) ∧ (s.failover l).aon.mode = s.aon.mode := by
  have hst : (s.leaf l.other).st = .running := by
    simp only [State.running, Bool.and_eq_true, beq_iff_eq] at h
    exact h.1.2
  have hs : s.survivor l = s := by
    unfold State.survivor
    simp [hst]
  unfold State.failover
  rw [hs]
  simp only []
  rw [if_pos h]
  obtain ⟨m, hm⟩ : ∃ m : State, m = ({ s.draw.draw with
      kn := { s.draw.draw.kn with active := some l.other, failovers := satAdd 16 s.draw.draw.kn.failovers 1
                                  lastFailover := s.devTime - min 50000 (Config.freeNat s.free), lastInterrupt := min 400 (Config.freeNat (s.free + 1))
                                  roleDiffers := s.draw.draw.cfg.roleActive != l.other }
      power := { s.draw.draw.power with kaPath := l.other.num } } : State) := ⟨_, rfl⟩
  have hc : Calm m.nextBlocks (m.nextBlocks.fifosOver.canFollow.evA Ev.failover l.other.num [p2 (min 400 (Config.freeNat (s.free + 1)))]) := by
    refine Calm.trans (t := m.nextBlocks.fifosOver.canFollow) ?_ (Calm.of_logs (Logs.evA _ _ _ _))
    exact (Calm.fifosOver _).then_eq rfl rfl rfl rfl rfl
  have hn := Calm.nextBlocks m
  have hall := hn.trans hc
  refine ⟨?_, ?_⟩
  · have h1 : CalmAt l.other s m := CalmAt.same _ (by rw [hm]; rfl) (by rw [hm]; rfl)
    have := h1.trans (CalmAt.of_calm hall l.other)
    rw [hm] at this
    exact this
  · have := hall.dev
    rw [hm] at this
    exact this

/-- A fence while the other leaf runs leaves the device in its state, and the other leaf running. -/
theorem fence_running (s : State) (l : Leaf) (cause : Nat) (hr : s.running l.other = true) :
    (s.fence l cause).aon.dev = s.aon.dev ∧ CalmAt l.other s (s.fence l cause) := by
  unfold State.fence
  split
  · exact ⟨rfl, CalmAt.refl _ _⟩
  split
  · unfold State.rejoinFail
    simp only []
    refine ⟨?_, ?_⟩
    · rw [(Logs.evAon _ _ _ _).aon]
      cases l <;> rfl
    · refine CalmAt.trans (t := s) (CalmAt.refl _ _) ?_
      refine Eq.trans ((Calm.of_logs (Logs.evAon _ _ _ _)).leaf _) ?_
      cases l <;> rfl
  · obtain ⟨m, hm⟩ : ∃ m : State, m = s.modLeaf l (fun x => { x with
        st := .fenced, cause := if x.cause = 0 then cause else x.cause, fenceTime := s.devTime, rejoin := 0
        rq := false, dbReq := false, mramQ := [], log := { x.log with queue := [] } }) := ⟨_, rfl⟩
    obtain ⟨a1, h1⟩ : ∃ a : State, a = (m.snapCut l).evAon Ev.leafFenced l.num [p1 ((m.snapCut l).leaf l).cause, p4 (m.snapCut l).sw.num] := ⟨_, rfl⟩
    obtain ⟨a2, h2⟩ : ∃ a : State, a = if s.kn.active == some l then (a1.fenceRings l).failover l else a1.fenceRings l := ⟨_, rfl⟩
    obtain ⟨a3, h3⟩ : ∃ a : State, a = a2.knuckleCancel.stageAbandon 4 := ⟨_, rfl⟩
    obtain ⟨a4, h4⟩ : ∃ a : State, a = if a3.cfg.dual then a3.applyAbandon (Config.caseCode Ev.imageApplyAbandoned 1) else a3 := ⟨_, rfl⟩
    obtain ⟨a5, h5⟩ : ∃ a : State, a = a4.pickDisarm 5 := ⟨_, rfl⟩
    have c0 : CalmAt l.other s m ∧ m.aon.mode = s.aon.mode := by rw [hm]; cases l <;> exact ⟨rfl, rfl⟩
    have c1 : Calm m (a1.fenceRings l) := (h1 ▸ (Calm.snapCut m l).trans (Calm.of_logs (Logs.evAon _ _ _ _)) : Calm m a1).trans (Calm.fenceRings _ l)
    have keep : ∀ {t n : State}, CalmAt l.other t n → t.running l.other = true →
        n.aon.mode = t.aon.mode → n.running l.other = true := by
      intro t n hc ht hm
      unfold State.running at ht ⊢
      rw [LeafRec.core_supplied hc, LeafRec.core_st hc, Aon.mode_testEn hm]
      exact ht
    have r1 : (a1.fenceRings l).running l.other = true := keep (c0.1.trans (CalmAt.of_calm c1 _)) hr (c1.dev.trans c0.2)
    have c2 : CalmAt l.other (a1.fenceRings l) a2 ∧ a2.aon.mode = (a1.fenceRings l).aon.mode := by
      rw [h2]
      split
      · exact failover_other _ l r1
      · exact ⟨CalmAt.refl _ _, rfl⟩
    have c3 : Calm a2 a5 := by
      have k3 : Calm a2 a3 := h3 ▸ (Calm.knuckleCancel _).trans (Calm.stageAbandon _ _)
      have k4 : Calm a3 a4 := h4 ▸ Calm.ite _ (Calm.applyAbandon _ _) (Calm.refl _)
      have k5 : Calm a4 a5 := h5 ▸ Calm.pickDisarm _ _
      exact k3.trans (k4.trans k5)
    have call : CalmAt l.other s a5 := c0.1.trans ((CalmAt.of_calm c1 _).trans (c2.1.trans (CalmAt.of_calm c3 _)))
    have dall : a5.aon.mode = s.aon.mode := c3.dev.trans (c2.2.trans (c1.dev.trans c0.2))
    have r5 : a5.running l.other = true := keep call hr dall
    suffices h : a5.canFollow.aon.dev = s.aon.dev ∧ CalmAt l.other s a5.canFollow by
      have he : (if !a5.running l.other then
          (if (a5.leaf l.other).st = .rejoining ∨ (a5.leaf l.other).st = .resyncing then
            a5.setLeaf l.other { a5.leaf l.other with st := .fenced, rejoin := 0 } else a5).enterSafe else a5.canFollow) = a5.canFollow := by
        rw [r5]
        rfl
      rw [← he] at h
      subst h5 h4 h3 h2 h1 hm
      exact h
    exact ⟨Aon.mode_dev (show a5.canFollow.aon.mode = s.aon.mode from dall), call.trans (CalmAt.canFollow _ _)⟩

end Sys2Proof.Machine
end

