-- ==== Sys2Proof/Laws/Ends.lean ====
section
/-!
SUPPORT. What the ends of episodes, a failover, SAFE and a fence leave alone: all but the leaves, the Knuckle, the recorder,
the rings, staging, the links, Pick, what was put out, and a few fields of the AON domain.
-/
namespace Sys2Proof.Machine

/-- Both states agree on every part that no fence reaches. -/
structure Ends (s n : State) : Prop where
  pending : n.pending = s.pending
  time : n.time = s.time
  cfg : n.cfg = s.cfg
  ovl : n.ovl = s.ovl
  cur : n.cur = s.cur
  strCur : n.strCur = s.strCur
  th : n.th = s.th
  est : n.est = s.est
  lim : n.lim = s.lim
  bal : n.bal = s.bal
  hasp : n.hasp = s.hasp
  lease : n.lease = s.lease
  com : n.com = s.com
  nest : n.nest = s.nest
  tap : n.tap = s.tap
  sleep : { n.sleep with st := 0, wakePend := 0 } = { s.sleep with st := 0, wakePend := 0 }
  keys : n.stage.keys = s.stage.keys
  floor : n.stage.floor = s.stage.floor
  sw : { n.sw with phase := .idle } = { s.sw with phase := .idle }
  prot : { n.prot with confirm := none } = { s.prot with confirm := none }
  aon : { n.aon with dev := .off, hold := false, holdCause := 0, clearState := 0, armSlot := 0xFF } =
    { s.aon with dev := .off, hold := false, holdCause := 0, clearState := 0, armSlot := 0xFF }

theorem Ends.refl (s : State) : Ends s s := by constructor <;> rfl

theorem Ends.trans {s t u : State} (h : Ends s t) (k : Ends t u) : Ends s u := by
  constructor
  · exact k.pending.trans h.pending
  · exact k.time.trans h.time
  · exact k.cfg.trans h.cfg
  · exact k.ovl.trans h.ovl
  · exact k.cur.trans h.cur
  · exact k.strCur.trans h.strCur
  · exact k.th.trans h.th
  · exact k.est.trans h.est
  · exact k.lim.trans h.lim
  · exact k.bal.trans h.bal
  · exact k.hasp.trans h.hasp
  · exact k.lease.trans h.lease
  · exact k.com.trans h.com
  · exact k.nest.trans h.nest
  · exact k.tap.trans h.tap
  · exact k.sleep.trans h.sleep
  · exact k.keys.trans h.keys
  · exact k.floor.trans h.floor
  · exact k.sw.trans h.sw
  · exact k.prot.trans h.prot
  · exact k.aon.trans h.aon

theorem Ends.ite {s t u : State} (c : Prop) [Decidable c] (h : Ends s t) (k : Ends s u) : Ends s (if c then t else u) := by
  split
  · exact h
  · exact k

/-- One more operation that keeps them, where a condition holds. -/
theorem Ends.step {s t : State} {f : State → State} {c : Prop} [Decidable c] (h : Ends s t) (hf : ∀ t, Ends t (f t)) :
    Ends s (if c then f t else t) := by
  split
  · exact h.trans (hf t)
  · exact h

theorem Ends.of_logs {s n : State} (h : Logs s n) : Ends s n := by
  obtain ⟨g, fs, qa, qb, rfl⟩ := h
  constructor <;> rfl

theorem Ends.fold {α : Type} (f : State → α → State) (h : ∀ s x, Ends s (f s x)) : ∀ (l : List α) (s : State), Ends s (l.foldl f s) := by
  intro l
  induction l with
  | nil => exact fun s => Ends.refl s
  | cons x r ih => exact fun s => (h s x).trans (ih _)

theorem Ends.setSess (s : State) (k : Nat) (x : Sess) : Ends s (s.setSess k x) := by constructor <;> rfl

theorem Ends.setLeaf (s : State) (l : Leaf) (x : LeafRec) : Ends s (s.setLeaf l x) := by cases l <;> (constructor <;> rfl)

theorem Ends.modLeaf (s : State) (l : Leaf) (f : LeafRec → LeafRec) : Ends s (s.modLeaf l f) := Ends.setLeaf s l _

theorem Ends.modRing (s : State) (r : Nat) (f : Ring → Ring) : Ends s (s.modRing r f) := by constructor <;> rfl

theorem Ends.setFifo (s : State) (n : Nat) (x : Fifo) : Ends s (s.setFifo n x) := Ends.of_logs (Logs.setFifo s n x)

theorem Ends.emit (s : State) (o : Out) : Ends s (s.emit o) := by constructor <;> rfl

theorem Ends.links (s : State) (x : Links) : Ends s { s with links := x } := by constructor <;> rfl
theorem Ends.kn (s : State) (x : Knuckle) : Ends s { s with kn := x } := by constructor <;> rfl
theorem Ends.stage (s : State) (x : Stage) (hk : x.keys = s.stage.keys) (hf : x.floor = s.stage.floor) : Ends s { s with stage := x } := by
  constructor <;> first | rfl | exact hk | exact hf
theorem Ends.pick (s : State) (x : Pick) : Ends s { s with pick := x } := by constructor <;> rfl
theorem Ends.nodes (s : State) (x : KMap Node) : Ends s { s with ch := { s.ch with nodes := x } } := by constructor <;> rfl
theorem Ends.canFollow (s : State) : Ends s s.canFollow := Ends.links s _
theorem Ends.freeMarks (s : State) (k : Nat) : Ends s (s.freeMarks k) := by constructor <;> rfl
theorem Ends.armEnd (s : State) : Ends s s.armEnd := by constructor <;> rfl
theorem Ends.stageIdle (s : State) : Ends s s.stageIdle := by constructor <;> rfl
theorem Ends.holdSet (s : State) (k : Nat) : Ends s (s.holdSet k) := by constructor <;> rfl

theorem Ends.send (s : State) (k kind status tag : Nat) (body : List Byte) : Ends s (s.send k kind status tag body) := by
  unfold State.send
  refine Ends.ite _ (Ends.refl s) (Ends.ite _ (Ends.links s _) ?_)
  simp only []
  exact Ends.ite _ (Ends.refl s) ((Ends.setSess s k _).trans (Ends.emit _ _))

theorem Ends.answer (s : State) (k tag status : Nat) (body : List Byte) : Ends s (s.answer k tag status body) := by
  unfold State.answer
  simp only []
  split
  · exact Ends.refl s
  · refine Ends.trans ?_ (Ends.send _ _ _ _ _ _)
    exact Ends.ite _ ((Ends.setSess s k _).trans (Ends.links _ _)) (Ends.setSess s k _)

theorem Ends.answerOpt (s : State) (w : Option (Nat × Nat)) (status : Nat) (body : List Byte) : Ends s (s.answerOpt w status body) := by
  unfold State.answerOpt
  split
  · exact Ends.refl s
  · exact Ends.answer _ _ _ _ _

theorem Ends.withdraw (s : State) (k : Nat) : Ends s (s.withdraw k) := by
  unfold State.withdraw
  exact Ends.fold _ (fun s l => Ends.ite _ (Ends.modLeaf _ _ _) (Ends.refl _)) _ s

theorem Ends.stageAbandon (s : State) (k : Nat) : Ends s (s.stageAbandon k) := by
  unfold State.stageAbandon
  refine Ends.ite _ ?_ (Ends.refl s)
  simp only []
  refine Ends.trans ?_ (Ends.of_logs (Logs.evA _ _ _ _))
  refine Ends.trans ?_ (Ends.stage _ _ rfl rfl)
  refine Ends.trans (Ends.trans ?_ (Ends.answerOpt _ _ _ _)) (Ends.stageIdle _)
  exact Ends.ite _ (Ends.withdraw _ _) (Ends.refl _)

theorem Ends.applyAbandon (s : State) (k : Nat) : Ends s (s.applyAbandon k) := by
  unfold State.applyAbandon
  refine Ends.ite _ ?_ (Ends.refl s)
  simp only []
  refine Ends.trans ?_ (Ends.of_logs (Logs.evA _ _ _ _))
  exact Ends.stage s _ rfl rfl

theorem Ends.release (s : State) (l : List Out) : Ends s (s.release l) := by
  unfold State.release State.each
  refine Ends.fold _ (fun s o => ?_) l s
  simp only []
  split
  · exact (Ends.emit s _).trans (Ends.of_logs (Logs.withPick _ _ _ (fun t => Logs.traceFrame t _ _ _ _ _)))
  · exact Ends.emit s _

theorem Ends.pickDisarm (s : State) (cause : Nat) : Ends s (s.pickDisarm cause) := by
  unfold State.pickDisarm
  refine Ends.ite _ (Ends.refl s) ?_
  simp only []
  refine Ends.trans ?_ (Ends.of_logs (Logs.evA _ _ _ _))
  exact (Ends.release s (s.pick.held.filterMap (·.tx))).trans (Ends.pick _ _)

theorem Ends.unsubscribe (s : State) (k : Nat) : Ends s (s.unsubscribe k) := by
  unfold State.unsubscribe
  exact Ends.fold _ (fun s n => Ends.setFifo _ _ _) _ s

theorem Ends.closeSession (s : State) (k cause : Nat) : Ends s (s.closeSession k cause) := by
  unfold State.closeSession
  simp only []
  refine Ends.ite _ (Ends.refl s) ?_
  refine Ends.step (f := fun t => t.freeMarks k) ?_ (fun t => Ends.freeMarks t k)
  refine Ends.step (f := State.armEnd) ?_ (fun t => Ends.armEnd t)
  refine Ends.step (f := fun t => t.pickDisarm 6) ?_ (fun t => Ends.pickDisarm t 6)
  refine Ends.step (f := fun t => t.stageAbandon 0) ?_ (fun t => Ends.stageAbandon t 0)
  refine Ends.trans ?_ (Ends.of_logs (Logs.evA _ _ _ _))
  exact (Ends.setSess _ _ _).trans (Ends.unsubscribe _ _)

theorem Ends.closeAll (s : State) (cause : Nat) : Ends s (s.closeAll cause) := by
  unfold State.closeAll
  exact Ends.fold _ (fun s k => Ends.closeSession s k cause) _ s

theorem Ends.knuckleCancel (s : State) : Ends s s.knuckleCancel := by
  unfold State.knuckleCancel
  simp only []
  exact ((Ends.answerOpt _ s.kn.handover _ _).trans (Ends.answerOpt _ s.kn.selftest _ _)).trans (Ends.kn _ _)

theorem Ends.fenceRings (s : State) (l : Leaf) : Ends s (s.fenceRings l) := by
  unfold State.fenceRings
  refine Ends.fold _ (fun s r => ?_) _ s
  refine Ends.trans (t := s.fenceNodes l r) ?_ (Ends.modRing _ _ _)
  unfold State.fenceNodes
  split
  · exact Ends.nodes s _
  · exact Ends.refl s

theorem Ends.nextBlocks (s : State) : Ends s s.nextBlocks := by
  unfold State.nextBlocks State.modSess
  exact Ends.fold _ (fun s k => Ends.setSess _ _ _) _ s

theorem Ends.fifosOver (s : State) : Ends s s.fifosOver := by
  unfold State.fifosOver
  refine Ends.fold _ (fun s e => ?_) _ s
  refine Ends.trans (Ends.setFifo s e.1 (e.2.handOver (Config.freeNat s.free % 3))) ?_
  exact by constructor <;> rfl

theorem Ends.snapCut (s : State) (l : Leaf) : Ends s (s.snapCut l) := by cases l <;> (constructor <;> rfl)

theorem Ends.enterSafe (s : State) : Ends s s.enterSafe := by
  unfold State.enterSafe
  refine Ends.ite _ (Ends.refl s) ?_
  simp only []
  have h : ∀ t : State, Ends t ({ t with aon := { t.aon with dev := .safe }, kn := { t.kn with active := none }
                                         power := { t.power with kaPath := 0xFF }, sw := { t.sw with phase := .idle }
                                         sleep := { t.sleep with st := 0, wakePend := 0 } } : State) := by
    intro t
    constructor <;> rfl
  exact (((Ends.closeAll s Cc.safe).trans (Ends.pickDisarm _ 8)).trans (h _)).trans ((Ends.holdSet _ 4).trans (Ends.canFollow _))

theorem Ends.survivor (s : State) (l : Leaf) : Ends s (s.survivor l) := by
  unfold State.survivor
  simp only []
  refine Ends.ite _ ?_ (Ends.ite _ (Ends.setLeaf _ _ _) (Ends.refl s))
  exact (Ends.setLeaf s l.other { s.leaf l.other with st := .running, rq := true }).trans (Ends.kn _ _)

theorem Ends.failover (s : State) (l : Leaf) : Ends s (s.failover l) := by
  unfold State.failover
  simp only []
  refine Ends.ite _ ?_ (Ends.survivor s l)
  refine Ends.trans ?_ (Ends.of_logs (Logs.evA _ _ _ _))
  refine Ends.trans ?_ (Ends.canFollow _)
  refine Ends.trans ?_ ((Ends.nextBlocks _).trans (Ends.fifosOver _))
  have h : ∀ (t : State) (k : Knuckle) (p : Power), Ends t ({ t.draw.draw with kn := k, power := p } : State) := by
    intro t k p
    constructor <;> rfl
  exact (Ends.survivor s l).trans (h _ _ _)

theorem Ends.rejoinFail (s : State) (l : Leaf) : Ends s (s.rejoinFail l) := by
  unfold State.rejoinFail
  simp only []
  refine Ends.trans ?_ (Ends.of_logs (Logs.evAon _ _ _ _))
  exact (Ends.setLeaf s l _).trans (Ends.kn _ _)

/-- A fence reaches no part but those named above. -/
theorem Ends.fence (s : State) (l : Leaf) (cause : Nat) : Ends s (s.fence l cause) := by
  unfold State.fence
  refine Ends.ite _ (Ends.refl s) (Ends.ite _ (Ends.rejoinFail s l) ?_)
  obtain ⟨m, hm⟩ : ∃ m : State, m = s.modLeaf l (fun x => { x with
      st := .fenced, cause := if x.cause = 0 then cause else x.cause, fenceTime := s.devTime, rejoin := 0
      rq := false, dbReq := false, mramQ := [], log := { x.log with queue := [] } }) := ⟨_, rfl⟩
  have c0 : Ends s m := hm ▸ Ends.modLeaf s l _
  obtain ⟨a1, h1⟩ : ∃ a : State, a = (m.snapCut l).evAon Ev.leafFenced l.num [p1 ((m.snapCut l).leaf l).cause, p4 (m.snapCut l).sw.num] := ⟨_, rfl⟩
  obtain ⟨a2, h2⟩ : ∃ a : State, a = if s.kn.active == some l then (a1.fenceRings l).failover l else a1.fenceRings l := ⟨_, rfl⟩
  obtain ⟨a3, h3⟩ : ∃ a : State, a = a2.knuckleCancel.stageAbandon 4 := ⟨_, rfl⟩
  obtain ⟨a4, h4⟩ : ∃ a : State, a = if a3.cfg.dual then a3.applyAbandon (Config.caseCode Ev.imageApplyAbandoned 1) else a3 := ⟨_, rfl⟩
  obtain ⟨a5, h5⟩ : ∃ a : State, a = a4.pickDisarm 5 := ⟨_, rfl⟩
  have c1 : Ends m a1 := h1 ▸ (Ends.snapCut m l).trans (Ends.of_logs (Logs.evAon _ _ _ _))
  have c2 : Ends a1 a2 := h2 ▸ Ends.ite _ ((Ends.fenceRings _ l).trans (Ends.failover _ l)) (Ends.fenceRings _ l)
  have c3 : Ends a2 a3 := h3 ▸ (Ends.knuckleCancel _).trans (Ends.stageAbandon _ _)
  have c4 : Ends a3 a4 := h4 ▸ Ends.ite _ (Ends.applyAbandon _ _) (Ends.refl _)
  have c5 : Ends a4 a5 := h5 ▸ Ends.pickDisarm _ _
  have c := c0.trans (c1.trans (c2.trans (c3.trans (c4.trans c5))))
  suffices h : Ends a5 (if !a5.running l.other then
      (if (a5.leaf l.other).st = .rejoining ∨ (a5.leaf l.other).st = .resyncing then
        a5.setLeaf l.other { a5.leaf l.other with st := .fenced, rejoin := 0 } else a5).enterSafe else a5.canFollow) by
    have := c.trans h
    subst h5 h4 h3 h2 h1 hm
    exact this
  refine Ends.ite _ ?_ (Ends.canFollow _)
  exact (Ends.ite _ (Ends.setLeaf _ _ _) (Ends.refl _)).trans (Ends.enterSafe _)

end Sys2Proof.Machine
end

