-- ==== Sys2Proof/Laws/Frame.lean ====
section
/-!
SUPPORT. The laws of frames: they compose, settling keeps them, and what logging, a fence and an answer leave alone.
-/
namespace Sys2Proof.Machine

theorem Part.same_refl (s : State) (p : Part) : p.same s s := by
  cases p <;> first | rfl | exact ⟨rfl, rfl, rfl⟩

theorem Part.same_trans {s t u : State} (p : Part) (h : p.same s t) (k : p.same t u) : p.same s u := by
  cases p <;> first
    | exact Eq.trans k h
    | exact ⟨Eq.trans k.1 h.1, Eq.trans k.2.1 h.2.1, Eq.trans k.2.2 h.2.2⟩

theorem Frame.refl (ps : List Part) (s : State) : Frame ps s s := fun p _ => Part.same_refl s p

theorem Frame.trans {ps : List Part} {s t u : State} (h : Frame ps s t) (k : Frame ps t u) : Frame ps s u :=
  fun p hp => Part.same_trans p (h p hp) (k p hp)

theorem Frame.mono {ps qs : List Part} {s n : State} (h : Frame ps s n) (hs : ∀ p, p ∈ ps → p ∈ qs) : Frame qs s n :=
  fun p hp => h p (fun hin => hp (hs p hin))

theorem Frame.ite {ps : List Part} {s t u : State} (c : Prop) [Decidable c] (h : Frame ps s t) (k : Frame ps s u) :
    Frame ps s (if c then t else u) := by
  split
  · exact h
  · exact k

/-- Logging reaches the log and the FIFOs alone. -/
theorem Logs.frame {s n : State} (h : Logs s n) : Frame logParts s n := by
  obtain ⟨g, fs, qa, qb, rfl⟩ := h
  intro p hp
  cases p <;> first
    | rfl
    | (exfalso; apply hp; decide)

/-- A fence reaches `fenceParts` alone. -/
theorem Ends.frame {s n : State} (h : Ends s n) : Frame fenceParts s n := by
  intro p hp
  cases p <;> first
    | (exfalso; apply hp; decide)
    | exact h.cfg
    | exact h.ovl
    | exact h.cur
    | exact h.strCur
    | exact h.th
    | exact h.est
    | exact h.lim
    | exact h.bal
    | exact h.hasp
    | exact h.lease
    | exact h.com
    | exact h.nest
    | exact h.tap
    | exact congrArg (fun x : TimeU => { x with now := 0 }) h.time

/-- Answering reaches the links and what was put out alone. -/
theorem answer_frame (s : State) (k tag status : Nat) (body : List Byte) : Frame [.links, .out] s (s.answer k tag status body) := by
  intro p hp
  cases p <;> first
    | (exfalso; apply hp; decide)
    | simp [Part.same]

/-- Taking a request reaches its session and the idle count alone. -/
theorem taken_frame (s : State) (q : HReq) (kind op : Nat) : Frame [.links, .sleep] s (s.taken q kind op) := by
  intro p hp
  cases p <;> first
    | (exfalso; apply hp; decide)
    | simp [Part.same]

theorem zipWith_fuseKeep_self (l : List KeySlot) : List.zipWith fuseKeep l l = l := by
  induction l with
  | nil => rfl
  | cons k r ih =>
    simp only [List.zipWith_cons_cons, ih]
    have : fuseKeep k k = k := by
      obtain ⟨h, p, v⟩ := k
      simp [fuseKeep]
    rw [this]

/-- What a command leaves alone of the state at its instant stays as it was before the command. -/
theorem Frame.settle {ps : List Part} {s m : State} {t : Nat} (h : Frame ps (s.setNow t) m) : Frame ps s (settle s m) := by
  intro p hp
  have hp' := h p hp
  cases p <;> first
    | exact hp'
    | exact Eq.trans (b := { m.time with now := 0 }) rfl hp'
    | skip
  · have he : m.aon.thermal = s.aon.thermal := by
      have := congrArg Aon.thermal hp'
      exact this
    have hx : ({ (Machine.settle s m).aon with ready := false, faultN := false } : Aon) = { m.aon with ready := false, faultN := false } := by
      show ({ m.aon with thermal := s.aon.thermal || m.aon.thermal, ready := false, faultN := false } : Aon) = _
      rw [he, Bool.or_self, ← he]
    exact hx.trans hp'
  · have hk : m.stage = s.stage := hp'
    show ({ m.stage with keys := List.zipWith fuseKeep s.stage.keys m.stage.keys } : Stage) = s.stage
    rw [hk, zipWith_fuseKeep_self]

end Sys2Proof.Machine
end

