-- ==== Sys2Proof/WellFormed.lean ====
section
/-!
DEFINITION. Which commands the world outside can hand over at all: indices within the part, fields within their widths,
messages within their sizes.
-/
namespace Sys2Proof

/-- A host's request names a session record (R622), a 16-bit tag and a body that fits a Ward packet (R612). -/
def HReq.wf (q : HReq) : Bool := decide (q.sess ≤ 129) && decide (q.tag < 65536) && decide (q.args.length ≤ 1432)

/-- The header fields of a message keep their widths (R612). -/
def Msg.wf (m : Msg) : Bool := decide (m.kind < 256) && decide (m.tag < 65536) && decide (m.len < 65536)

/-- The fields of an ENUM_RSP keep their widths (R167). -/
def EnumRsp.wf (f : EnumRsp) : Bool :=
  decide (f.src ≤ 64) && decide (f.cls < 256) && decide (f.cells < 256) && decide (f.ntcs < 256) && decide (f.version < 256) &&
  decide (f.uid < 2 ^ 64) && decide (f.caps < 2 ^ 32) && decide (f.boot < 2 ^ 32) && decide (f.balIMax < 65536) && decide (f.vFull < 65536)

/-- A SAMPLE_RSP comes from a position and carries 64 bytes (R169, R170). -/
def SampleRsp.wf (f : SampleRsp) : Bool := decide (f.pos ≤ 64) && decide (f.seq < 256) && decide (f.payload.length = 64)

/-- An RSP frame's fields keep their widths (R168). -/
def RspFrame.wf (f : RspFrame) : Bool :=
  decide (f.pos ≤ 64) && decide (f.seq < 256) && decide (f.kindAnswered < 256) && decide (f.reg < 65536)

/-- An ALARM frame's fields keep their widths (R174). -/
def AlarmFrame.wf (f : AlarmFrame) : Bool := decide (f.src ≤ 64) && decide (f.seq < 256)

/-- An IEEE 1588 message comes in at a port (R596). -/
def PtpMsg.wf (m : PtpMsg) : Bool := decide (m.port < 2) && decide (m.kind < 4)

/-- A CAN frame comes from one controller or from both (2), on one of four identifiers, with at most 64 bytes (R505). -/
def CanFrame.wf (f : CanFrame) : Bool := decide (f.ctl ≤ 2) && decide (f.ident < 4) && decide (f.data.length ≤ 64)

/-- A Ward packet's counter has 8 bytes (R603). -/
def WardPkt.wf (p : WardPkt) : Bool := decide (p.port < 2) && decide (p.sid < 65536) && decide (p.counter < 2 ^ 64) && p.msgs.all Msg.wf

/-- A parent's frame comes in at an uplink port with the fields of its header and at most 512 bytes of payload (R155, R156,
R560). -/
def UpReq.wf (r : UpReq) : Bool :=
  decide (r.port < 2) && decide (r.dest < 65536) && decide (r.src < 65536) && decide (r.kind < 256) && decide (r.seq < 256) &&
    decide (r.payload.length ≤ 512)

/-- The chunks are 1 to 22 (R539). -/
def ChunkFault.wf (f : ChunkFault) : Bool := decide (1 ≤ f.chunk ∧ f.chunk ≤ 22)

/-- A command is well formed. -/
def Instr.wf : Instr → Bool
  | .suppliesValid _ _ _ _ _ => true
  | .pllLockTimeout _ _ => true
  | .x32Fallback _ => true
  | .mramReadyTimeout _ _ => true
  | .sramMarchComplete _ _ _ => true
  | .slotsJudged _ => true
  | .imageAgreed _ => true
  | .startApplyComplete _ => true
  | .runEntry _ => true
  | .por _ => true
  | .leafSupplyLoss _ _ _ => true
  | .leafSupplyReturn _ _ => true
  | .watchdogExpiry _ _ => true
  | .clockFault _ _ _ => true
  | .sramUncorrectable _ _ _ => true
  | .restartFull _ q => q.wf
  | .restartRolling _ q => q.wf
  | .rollingRestartAdvance _ => true
  | .timeSet _ q => q.wf
  | .ptpSyncMessage _ m => m.wf
  | .ptpMasterLost _ => true
  | .ppsInEdge _ => true
  | .keyProgram _ q => q.wf
  | .keyRevoke _ q => q.wf
  | .stageOpen _ q => q.wf
  | .stageChunk _ q => q.wf
  | .stageClose _ q => q.wf
  | .stageAbort _ q => q.wf
  | .apply _ q => q.wf
  | .revert _ q => q.wf
  | .stagingTimeout _ => true
  | .verifyComplete _ _ => true
  | .slotWriteComplete _ _ => true
  | .applyTimeout _ => true
  | .imageSlotRepair _ _ slot => decide (slot < 2)
  | .sweepLaunch _ => true
  | .rerequestInstant _ ring _ => decide (ring < 16)
  | .collectionDeadline _ => true
  | .inputSeal _ _ => true
  | .inputReseal _ _ => true
  | .commitPoint _ => true
  | .resultCompare _ a b => a.all ChunkFault.wf && b.all ChunkFault.wf
  | .resultRecompare _ chunk _ _ => decide (1 ≤ chunk ∧ chunk ≤ 22)
  | .katComplete _ _ _ => true
  | .resyncComplete _ => true
  | .farSyncMissing _ ring _ => decide (ring < 16)
  | .syncReceived _ ring _ sweepLow hop _ => decide (ring < 16) && decide (sweepLow < 256) && decide (hop < 256)
  | .leasePublish _ => true
  | .interimLease _ => true
  | .enumRspReceived _ ring _ f => decide (ring < 16) && f.wf
  | .enumReturned _ ring _ hop => decide (ring < 16) && decide (hop < 256)
  | .enumWindowClose _ ring _ => decide (ring < 16)
  | .sampleRspReceived _ ring _ f => decide (ring < 16) && f.wf
  | .rspReceived _ ring _ f => decide (ring < 16) && f.wf
  | .nackReceived _ ring _ pos seq reason _ => decide (ring < 16) && decide (1 ≤ pos ∧ pos ≤ 64) && decide (seq < 256) && decide (reason < 256)
  | .alarmReceived _ ring _ f => decide (ring < 16) && f.wf
  | .groupSummaryReceived _ ring _ f => decide (ring < 16) && f.wf
  | .badFrameReceived _ ring _ _ => decide (ring < 16)
  | .broadcastReturned _ ring _ => decide (ring < 16)
  | .portLos _ ring _ => decide (ring < 16)
  | .portLinkUp _ ring _ => decide (ring < 16)
  | .answerTimeout _ ring _ pos => decide (ring < 16) && decide (1 ≤ pos ∧ pos ≤ 64)
  | .busyRetryDelay _ ring _ pos => decide (ring < 16) && decide (1 ≤ pos ∧ pos ≤ 64)
  | .enumProbe _ ring _ => decide (ring < 16)
  | .calRoundStart _ ring => decide (ring < 16)
  | .calSyncLaunch _ ring => decide (ring < 16)
  | .compTrip _ _ input _ => decide (input < 16)
  | .logicDieShutdown _ _ => true
  | .powerDieBankShutdown _ bank _ => decide (bank < 4)
  | .mramWriteRefuse _ _ _ => true
  | .mramWriteAllow _ _ => true
  | .rqLapse _ _ => true
  | .tripClear _ q => q.wf
  | .deadboltClearArm _ q => q.wf
  | .deadboltClearConfirm _ q => q.wf
  | .stringClose _ q => q.wf
  | .stringOpen _ q => q.wf
  | .stringUnlock _ q => q.wf
  | .weldRetest _ str => decide (str < 64)
  | .leaseAck _ q => q.wf
  | .canAckFrame _ f => f.wf
  | .canTimeFrame _ => true
  | .canBusOff _ ctl _ => decide (ctl < 2)
  | .swSet _ q => q.wf
  | .swReenable _ q => q.wf
  | .swRestartReset _ q => q.wf
  | .swOcLatch _ ch _ => decide (ch < 24)
  | .swShortLatch _ ch _ => decide (ch < 24)
  | .swOpenLoad _ ch _ _ => decide (ch < 24)
  | .swFreewheelFault _ ch _ => decide (ch < 24)
  | .swThermalWarn _ ch _ => decide (ch < 24)
  | .swThermalLatch _ ch _ => decide (ch < 24)
  | .swBankUv _ bank _ => decide (bank < 4)
  | .swBankUnpowered _ bank => decide (bank < 4)
  | .bankPowerUp _ bank => decide (bank < 4)
  | .swBankOv _ bank _ => decide (bank < 4)
  | .bankOvEnd _ bank => decide (bank < 4)
  | .inPinChange _ pin _ => decide (pin < 24)
  | .keepaliveLoss _ => true
  | .blankingEnd _ ch => decide (ch < 24)
  | .restartDecay _ ch => decide (ch < 24)
  | .heartbeatLoss _ _ => true
  | .knuckleLinkLoss _ => true
  | .knuckleTransferReceived _ _ _ _ _ => true
  | .leafRejoin _ q => q.wf
  | .leafFence _ q => q.wf
  | .handover _ q => q.wf
  | .leafSelftest _ q => q.wf
  | .rejoinStepComplete _ _ _ => true
  | .uplinkEnum _ _ seq hop p => decide (seq < 256) && decide (hop < 256) && decide (p.endNo < 2) && decide (p.count ≤ 64)
  | .stringCmd _ r => r.wf
  | .parentPeriod _ r => r.wf
  | .uplinkPass _ _ seq payload => decide (seq < 256) && decide (payload.length ≤ 512)
  | .uplinkSampleLastRead _ r => r.wf
  | .nodeRegisterWrite _ r => r.wf
  | .parentSync _ _ code hop check => decide (code < 256) && hop.all (fun h => decide (h < 256)) && decide (check < 256)
  | .uplinkWindowEnd _ => true
  | .holdoverTimeout _ => true
  | .uplinkMasterLoss _ => true
  | .passRepeat _ ring _ pos => decide (ring < 16) && decide (1 ≤ pos ∧ pos ≤ 64)
  | .passDeadline _ ring _ pos => decide (ring < 16) && decide (1 ≤ pos ∧ pos ≤ 64)
  | .nestPass _ q => q.wf
  | .childLost _ ring pos => decide (ring < 16) && decide (1 ≤ pos ∧ pos ≤ 64)
  | .wardHello _ port _ _ _ nonce => decide (port < 2) && decide (nonce.length = 16)
  | .wardFinish _ port _ sid _ _ => decide (port < 2) && decide (sid < 65536)
  | .wardData _ p => p.wf
  | .handshakeTimeout _ slot => decide (slot < 130)
  | .sessionLockoutEnd _ slot => decide (slot < 130)
  | .sessionIdleTimeout _ slot => decide (slot < 130)
  | .read _ q => q.wf
  | .overlayValueWrite _ q => q.wf
  | .stickyClear _ q => q.wf
  | .hostNote _ q => q.wf
  | .writeOther _ q => q.wf
  | .batch _ q => q.wf
  | .subscribeStart _ q => q.wf
  | .subscribeStop _ q => q.wf
  | .close _ q => q.wf
  | .keepalive _ q => q.wf
  | .streamSend _ stream => decide (stream < 16)
  | .arpRequest _ port _ _ _ => decide (port < 2)
  | .ndpMessage _ port _ _ _ => decide (port < 2)
  | .icmpEcho _ port _ _ _ => decide (port < 2)
  | .prpSupervision _ => true
  | .prpLanFault _ lan => decide (lan < 2)
  | .phyPoll _ port reg1 reg10 => decide (port < 2) && decide (reg1 < 65536) && decide (reg10 < 65536)
  | .hostLinkChange _ port _ _ => decide (port < 2)
  | .spiRequest _ _ _ _ m => m.wf
  | .spiAnswer _ _ => true
  | .spiStatus _ => true
  | .maintEnChange _ _ => true
  | .chainReenum _ q => q.wf
  | .nodeRead _ q => q.wf
  | .nodeWrite _ q => q.wf
  | .cellMinmaxClear _ q => q.wf
  | .balNodeResume _ q => q.wf
  | .markAlloc _ q => q.wf
  | .markFree _ q => q.wf
  | .markRead _ q => q.wf
  | .streamFlush _ q => q.wf
  | .streamDataRead _ q => q.wf
  | .lossItemWrite _ stream => decide (stream < 16)
  | .eventRecordWritten _ _ _ _ => true
  | .tokenRefill _ code => decide (code < 65536)
  | .snapshotComplete _ _ _ => true
  | .sleepEnter _ q => q.wf
  | .sleepRateLow _ => true
  | .sleepHeartbeat _ => true
  | .sleepCurrentBlock _ _ => true
  | .sleepSensorConversion _ _ => true
  | .wakeNAssert _ => true
  | .wakeTimer _ => true
  | .pickArm _ q => q.wf
  | .pickDisarm _ q => q.wf
  | .pickExpiry _ => true
  | .pickHeldRelease _ _ => true
  | .ppsOutSecond _ _ => true
  | .xaJudgedGood _ => true
  | .mramUnitWriteComplete _ _ _ => true
  | .readWindowHoldEnd _ => true
  | .duplicateAddressDetectionEnd _ port _ => decide (port < 2)
  | .vddModeChange _ _ _ => true

end Sys2Proof
end

