-- ==== Sys2Proof/Tests/Slice0.lean ====
section
/-!
SUPPORT. The model's own tests: for each statement of Obligations.lean that has hypotheses, a small state and operands that
meet them together (`witness_<statement>`), and the ill-formed requests that WellFormed refuses.
-/
namespace Sys2Proof.Machine

set_option Elab.async false

theorem test_wf_session : (HReq.wf { sess := 130, tag := 0, args := [] }) = false := by decide

/-! ### Ill-formed commands -/

/-- A well-formed request. -/
def tReq0 : HReq := ⟨128, 1, []⟩
theorem test_wf_requests : [HReq.wf { tReq0 with sess := 130 }, HReq.wf { tReq0 with tag := 65536 },
    HReq.wf { tReq0 with args := List.replicate 1433 0 }, HReq.wf tReq0] = [false, false, false, true] := by decide +kernel
theorem test_wf_frames : [Msg.wf ⟨256, 1, 0, []⟩, Msg.wf ⟨1, 65536, 0, []⟩, Msg.wf ⟨1, 1, 65536, []⟩,
    EnumRsp.wf ⟨65, 0, 1, 0, 1, 5, 0, 0, 0, 0⟩, EnumRsp.wf ⟨1, 256, 1, 0, 1, 5, 0, 0, 0, 0⟩, EnumRsp.wf ⟨1, 0, 256, 0, 1, 5, 0, 0, 0, 0⟩,
    EnumRsp.wf ⟨1, 0, 1, 256, 1, 5, 0, 0, 0, 0⟩, EnumRsp.wf ⟨1, 0, 1, 0, 256, 5, 0, 0, 0, 0⟩, EnumRsp.wf ⟨1, 0, 1, 0, 1, 2 ^ 64, 0, 0, 0, 0⟩,
    EnumRsp.wf ⟨1, 0, 1, 0, 1, 5, 2 ^ 32, 0, 0, 0⟩, EnumRsp.wf ⟨1, 0, 1, 0, 1, 5, 0, 2 ^ 32, 0, 0⟩, EnumRsp.wf ⟨1, 0, 1, 0, 1, 5, 0, 0, 65536, 0⟩,
    EnumRsp.wf ⟨1, 0, 1, 0, 1, 5, 0, 0, 0, 65536⟩, SampleRsp.wf ⟨65, 0, false, List.replicate 64 0, []⟩,
    SampleRsp.wf ⟨1, 256, false, List.replicate 64 0, []⟩, SampleRsp.wf ⟨1, 0, false, [], []⟩].any id = false := by decide +kernel
theorem test_wf_frames_more : [RspFrame.wf ⟨65, 0, 4, 0, []⟩, RspFrame.wf ⟨1, 256, 4, 0, []⟩, RspFrame.wf ⟨1, 0, 256, 0, []⟩,
    RspFrame.wf ⟨1, 0, 4, 65536, []⟩, AlarmFrame.wf ⟨65, 0, 1, 0, 0, 0⟩, AlarmFrame.wf ⟨1, 256, 1, 0, 0, 0⟩, PtpMsg.wf ⟨2, 0, 0, 5, 1, 0, 0, false⟩,
    PtpMsg.wf ⟨0, 4, 0, 5, 1, 0, 0, false⟩, CanFrame.wf ⟨3, 1, []⟩, CanFrame.wf ⟨0, 4, []⟩, CanFrame.wf ⟨0, 1, List.replicate 65 0⟩,
    WardPkt.wf ⟨2, 0, 1, 0, true, []⟩, WardPkt.wf ⟨0, 0, 65536, 0, true, []⟩, WardPkt.wf ⟨0, 0, 1, 2 ^ 64, true, []⟩,
    WardPkt.wf ⟨0, 0, 1, 0, true, [⟨256, 1, 0, []⟩]⟩, UpReq.wf ⟨2, 1, 0, 3, 0, []⟩, UpReq.wf ⟨0, 65536, 0, 3, 0, []⟩,
    UpReq.wf ⟨0, 1, 65536, 3, 0, []⟩, UpReq.wf ⟨0, 1, 0, 256, 0, []⟩, UpReq.wf ⟨0, 1, 0, 3, 256, []⟩,
    UpReq.wf ⟨0, 1, 0, 3, 0, List.replicate 513 0⟩, ChunkFault.wf ⟨0, []⟩, ChunkFault.wf ⟨23, []⟩].any id = false := by decide +kernel
theorem test_wf_commands : ([.portLos 0 16 .a, .swOcLatch 0 24 0, .inPinChange 0 24 true, .swBankUv 0 4 0, .compTrip 0 .a 16 ⟨true, []⟩, .resultRecompare 0 23 none none, .weldRetest 0 64,
    .streamSend 0 16, .prpLanFault 0 2, .canBusOff 0 2 true, .phyPoll 0 2 0 0, .phyPoll 0 0 65536 0, .phyPoll 0 0 0 65536, .nackReceived 0 0 .a 0 0 0 0,
    .nackReceived 0 0 .a 65 0 0 0, .nackReceived 0 0 .a 1 256 0 0, .nackReceived 0 0 .a 1 0 256 0, .uplinkEnum 0 .a 256 0 ⟨0, 1⟩,
    .uplinkEnum 0 .a 0 256 ⟨0, 1⟩, .uplinkEnum 0 .a 0 0 ⟨2, 1⟩,
    .uplinkEnum 0 .a 0 0 ⟨0, 65⟩, .parentSync 0 .a 256 (some 0) 0, .parentSync 0 .a 0 (some 256) 0, .parentSync 0 .a 0 none 256,
    .badFrameReceived 0 16 .a ⟨0, none⟩, .imageSlotRepair 0 .a 2, .handshakeTimeout 0 130, .wardHello 0 0 0 5 1 [],
    .wardFinish 0 0 0 65536 true [], .tokenRefill 0 65536, .read 0 { tReq0 with sess := 130 }] : List Instr).any Instr.wf = false := by decide +kernel
theorem test_wf_good : ([.portLos 0 15 .a, .swOcLatch 0 23 0, .nackReceived 0 0 .a 64 255 255 0, .uplinkEnum 0 .a 255 255 ⟨1, 64⟩, .parentSync 0 .a 255 (some 255) 255, .read 0 tReq0,
    .sweepLaunch 0, .wardHello 0 1 0 5 1 (List.replicate 16 0)] : List Instr).all Instr.wf = true := by decide +kernel

/-! ### Small images and states -/

/-- Bytes of numbers. -/
def tB (l : List Nat) : List Byte := l.map byteOf

/-- A payload: the bytes given, then unset ones up to a length. -/
def tFill (l : List Nat) (n : Nat) : List Byte := tB l ++ List.replicate (n - l.length) 0xFF#8

/-- A section. -/
def tSec (ty inst : Nat) (p : List Byte) : Section := { ty := ty, inst := inst, flags := 0, at_ := 0, payload := p }

/-- An image of a few sections: two leaves, ring 0 with a cell node, a string node and a group node, two cells, string 0 by
channels 1 to 3, a PCS and a maintenance session, Pick, sleep, leases, streams 0 (events) and 3 (frames). -/
def tCfg : Cfg := { img := { seq := 7, sections := [
  tSec Ty.device 0 (List.replicate 64 0#8 ++ tFill [0] 64),
  tSec Ty.chain 0 (tFill [0, 3] 8),
  tSec Ty.nodeList 0 (
    tB [0, 2, 0, 0, 0, 0, 0, 0, 0, 0, 0, 0, 0, 0, 0, 0, 0, 0, 255, 255, 96, 0, 0, 0, 0, 0, 1, 255, 0, 0, 0, 0] ++
    tB [1, 0, 0, 0, 0, 0, 0, 0, 0, 0, 0, 0, 0, 0, 0, 0, 0, 0, 255, 255, 96, 0, 0, 0, 0, 0, 255, 255, 0, 0, 0, 0] ++
    tB [2, 0, 0, 0, 0, 0, 0, 0, 0, 0, 0, 0, 0, 0, 0, 0, 0, 0, 255, 255, 96, 0, 0, 0, 0, 0, 255, 255, 0, 0, 0, 0]),
  tSec Ty.cellMap 0 (tB [2, 0, 0, 0, 0, 1, 0, 0, 0, 1, 255, 255, 0, 1, 1, 0, 0, 1, 255, 255]),
  tSec Ty.string 0 (tB [0, 0, 0, 0, 1, 2, 3, 0, 1, 0, 2, 0] ++ tFill [100, 0, 0, 0, 100, 0, 0, 0] 20),
  tSec Ty.lease 0 (tB [250, 0, 136, 19, 200, 0, 244, 1, 80, 195, 0, 0, 208, 7, 3, 18] ++ tFill [0, 0, 1, 0, 0, 0, 1, 0, 0, 0, 1, 0, 0, 0, 1, 0] 32),
  tSec Ty.switch 0 (tFill [0, 1, 9, 1, 0, 160, 3, 10] 12),
  tSec Ty.switch 4 (tFill [0, 3, 9, 1, 5, 160, 3, 10] 12),
  tSec Ty.switch 7 (tFill [3, 2, 9, 1, 5, 160, 3, 10] 12),
  tSec Ty.current 0 (tFill [1, 20, 0, 3, 232, 3, 0, 0, 0, 0, 0, 0, 244, 1, 208, 7, 32, 78, 0, 0, 100, 0, 255, 255, 0, 1, 0, 0, 0, 1, 0, 0] 32),
  tSec Ty.session 1 (tB [1, 1, 8, 0, 161, 0, 0, 0, 5, 0, 0, 0, 0, 0, 0, 0, 255, 255] ++ List.replicate 46 0#8),
  tSec Ty.session 3 (tB [3, 1, 8, 0, 127, 15, 0, 0, 9, 0, 0, 0, 0, 0, 0, 0, 255, 255] ++ List.replicate 46 0#8),
  tSec Ty.stream 0 (tFill [2, 0] 136),
  tSec Ty.stream 3 (tFill [3, 0] 136),
  tSec Ty.overlay 0 (tB [1, 0, 0, 0] ++ tB [10, 0, 0, 0, 0, 0, 0, 0, 50, 0, 0, 0, 208, 7, 0, 0]),
  tSec Ty.pick 0 (tB [255, 255, 3, 0, 63, 0, 88, 2]),
  tSec Ty.network 0 (tB [0, 2, 168, 194, 0, 0, 0, 0, 1, 1, 0, 10] ++ List.replicate 76 0#8),
  tSec Ty.sleep 0 (tB [0, 0, 0, 0, 80, 195, 0, 0, 16, 14, 0, 0, 15, 0, 0, 0])] } }

/-- The same with ring 15 as the uplink, and ROLE SUB. -/
def tSub : Cfg := { tCfg with img := { tCfg.img with sections := tCfg.img.sections ++
  [tSec Ty.chain 15 (tFill [1, 0] 8), tSec Ty.nesting 0 (tFill [1, 1] 16)] } }

/-- A leaf that runs. -/
def tLeaf : LeafRec := { supplied := true, pllOk := true, mramOk := true, sramOk := true, rq := true }

/-- A device in RUN 1,000 s after its start, MAINT_EN high and both Ward sessions open. -/
def tRun : State := {
  time := { now := 1000000000000 }, la := tLeaf, lb := tLeaf, kn := { active := some .a }, cfg := tCfg
  aon := { vaon := true, dev := .run, ready := true, faultN := false, faultHold := false, hold := false, holdCause := 0, lastStep := 7 }
  links := { maintEn := true, can0 := 2, can1 := 1, sess := [(1, { st := 3 }), (3, { st := 3 })] }
  stage := { activeSlot := 0 }
  sw := { started := true, phase := .committed, everValidated := true, validated := true, ts := 990000000000, next := 1000000000000 }
  ch := { rings := [(0, { st := .whole, spA := 2, spB := 3, nxA := 2, nxB := 3, losA := false, losB := false, delivered := true })]
          nodes := [(0, { known := true, cfg := 3, uid := 11 }), (1, { known := true, cfg := 3, uid := 12 }), (2, { known := true, cfg := 3, uid := 13 })] } }

/-- The same while it starts. -/
def tStart : State := { tRun with aon := { tRun.aon with dev := .start, lastStep := 1 }, links := { maintEn := true } }

/-- A request of the SPI session. -/
def tQ (l : List Nat) : HReq := ⟨128, 1, tB l⟩
/-- A request of the maintenance session. -/
def tM (l : List Nat) : HReq := ⟨3, 1, tB l⟩
/-- A request of the PCS session. -/
def tP (l : List Nat) : HReq := ⟨1, 1, tB l⟩

/-- A start whose slots have been judged, with an image in slot 1 of both leaves. -/
def tStartImg : State := { tStart with aon := { tStart.aon with lastStep := 4 }, la := { tLeaf with valid1 := some tCfg.img }, lb := { tLeaf with valid1 := some tCfg.img } }
/-- The same, the image in Leaf B alone. -/
def tStartImgB : State := { tStart with aon := { tStart.aon with lastStep := 4 }, lb := { tLeaf with valid1 := some tCfg.img } }
/-- Leaf B in its rejoin. -/
def tRej (k : Nat) : State := { tRun with lb := { tLeaf with st := .rejoining, rejoin := k, cause := 4, rq := false } }

/-! ### The hypotheses of the statements can be met -/

theorem witness_readyFollowsState : ∃ n, exec (.x32Fallback 0) tRun = .next n ∧ n.aon.dev = .run := ⟨_, rfl, by decide +kernel⟩
theorem witness_fusesOneWay :
    ({ tRun with stage := { keys := [{ hash := [1], programmed := true, revoked := true }] } } : State).stage.keys[0]? =
      some { hash := [1], programmed := true, revoked := true } := by decide
theorem witness_thermalLatchHolds : ({ tRun with aon := { tRun.aon with thermal := true } } : State).aon.thermal = true := by decide
theorem witness_stepKeepsBalls : ({ tRun with pending := [.x32Fallback 0] } : State).ballsFollow = true := by
  decide +kernel
theorem witness_emptyQueueIdles : State.reset.pending = [] := by decide
theorem witness_suppliesValidBeginsStart : (State.reset.setNow 5).aon.dev = .off ∧ (true || false) = true := by decide +kernel
theorem witness_startFaultsFence : ({ tStart with time := { now := 2000000 } }.setNow 0).starting = true ∧
    ({ tStart with time := { now := 2000000 } }.setNow 0).running .b = true ∧
    (({ tStart with time := { now := 2000000 } } : State).setNow 0).time.t0 + 1000000 ≤
      (({ tStart with time := { now := 2000000 } } : State).setNow 0).time.now := by decide +kernel
theorem witness_startImageChosen : (tStart.setNow 0).starting = true ∧ (tStart.setNow 0).aon.lastStep = 1 ∧
    (tStartImg.setNow 0).starting = true ∧ (tStartImg.setNow 0).aon.lastStep = 4 ∧ tStartImg.la.sramOk = true ∧ tStartImg.lb.sramOk = true ∧
    (tStartImg.setNow 0).chooseImage = (some (1, tCfg.img), none) ∧
    ({ tStart with aon := { tStart.aon with lastStep := 4 } }.setNow 0).chooseImage = (none, none) := by decide +kernel
theorem witness_startImageChosen_disagree : (tStartImgB.setNow 0).starting = true ∧ (tStartImgB.setNow 0).aon.lastStep = 4 ∧
    (tStartImgB.setNow 0).chooseImage = (some (1, tCfg.img), some .a) := by decide +kernel
theorem witness_runEntryEntersRun : ({ tStart with aon := { tStart.aon with lastStep := 6 } }.setNow 0).starting = true ∧
    ({ tStart with aon := { tStart.aon with lastStep := 5, unkeyed := true } }.setNow 0).starting = true := by decide +kernel
theorem witness_porClearsAll : tRun.aon.dev ≠ .off := by decide
theorem witness_clockReferences : tRun.aon.vaon = true ∧ tRun.aon.x32Fallback = false ∧ tRun.la.supplied = true := by decide
theorem witness_leafFaultsFence : ∀ l, (tRun.setNow 0).fenceable l = true ∧ (tRun.setNow 0).fenceLine l = false := by
  intro l; cases l <;> decide +kernel
theorem witness_knuckleLinkLossFences : (tRun.setNow 0).fenceable tRun.act.other = true ∧ (tRun.setNow 0).fenceable tRun.act = true ∧
    (tRun.setNow 0).fenceLine tRun.act.other = false ∧ (tRun.setNow 0).running tRun.act = true := by decide +kernel
/-- Leaf B is fenced and Leaf A runs. -/
def tLone : State := { tRun with lb := { tLeaf with st := .fenced, cause := 4, rq := false } }
theorem witness_failoverOrSafe : tRun.kn.active = some .a ∧ (tRun.setNow 0).running Leaf.a.other = true ∧
    (tLone.setNow 0).fenceable .a = true ∧ (tLone.setNow 0).fenceLine .a = false ∧ (tLone.leaf Leaf.a.other).st = .fenced := by decide +kernel
theorem witness_rejoinSteps : (tRej 2).lb.supplied = true ∧ (tRej 2).lb.rejoin = 2 ∧
    ({ tRej 6 with time := { now := 1000000000001 }, sw := { tRun.sw with phase := .sealed } } : State).lb.rejoin = 6 ∧
    ((tRej 6).setNow 0).atBoundary = true := by decide +kernel
theorem witness_rejoinSteps_supply : ∃ s : State, s.lb.supplied = false ∧ s.aon.dev ≠ .off ∧ s.aon.vaon = true ∧ s.lb.st = .fenced ∧
    s.lb.cause ≠ Fc.role ∧ s.aon.dev ≠ .safe ∧ s.aon.testEn = false :=
  ⟨{ tRun with lb := { tLeaf with st := .fenced, cause := 4, supplied := false } }, by decide +kernel⟩
theorem witness_leafCommands : (tLone.setNow 0).lets (tQ [1, 0, 0, 0]) 0x0E01 Perm.restart = true ∧
    (tLone.leaf (leafArg (arg (tQ [1, 0, 0, 0]) 0 1))).st = .fenced ∧ (tLone.leaf (leafArg (arg (tQ [1, 0, 0, 0]) 0 1))).cause ≠ Fc.role ∧
    (tRun.setNow 0).lets (tM [1, 0, 0, 0]) 0x0E02 Perm.restart = true ∧ tRun.role 3 = 3 ∧ (tRun.setNow 0).running (leafArg 1).other = true ∧
    (tRun.setNow 0).midway = false ∧ (tRun.setNow 0).fenceLine (leafArg 1) = false ∧
    (tRun.setNow 0).lets (tM []) 0x0E03 Perm.restart = true ∧ (tRun.setNow 0).bothRun = true ∧ tRun.kn.handoverAsked = false ∧
    (tRun.setNow 0).lets (tQ []) 0x0E04 Perm.read = true ∧ tRun.kn.arb = 0 ∧ tRun.kn.selftestWait = false := by decide +kernel
theorem witness_restartCommands : (tRun.setNow 0).lets (tM [0, 0, 0, 0]) 0x0001 Perm.restart = true ∧ (tM [0, 0, 0, 0]).args.length = 4 ∧
    (∀ i, i < 64 → (tRun.hs i).st = 0) ∧ (tRun.setNow 0).lets (tM [1, 0, 0, 0]) 0x0001 Perm.restart = true ∧
    arg (tM [1, 0, 0, 0]) 0 1 = 1 ∧ (tRun.setNow 0).bothRun = true ∧ (tRun.setNow 0).midway = false ∧ tRun.kn.rolling = 0 := by decide +kernel
theorem witness_rollingAdvance : ({ tRun with kn := { tRun.kn with rolling := 3 } }.setNow 0).bothRun = true ∧ tRun.kn.arb = 0 ∧
    tRun.aon.unkeyed = false ∧ tRun.cfg.dual = true ∧ ({ tRun with kn := { active := some .b, rolling := 3 } } : State).act ≠ tRun.cfg.roleActive ∧
    tRun.act = tRun.cfg.roleActive := by decide +kernel
theorem witness_powerCycleClearsLatches : State.reset.aon.dev = .off ∧ 10000000 ≤ 10000000 := by decide
/-- Two keys, a blank slot and a revoked one. -/
def tKeys : State := { tRun with stage := { keys := [{ hash := [1], programmed := true }, { hash := [2], programmed := true },
  {}, { hash := [3], programmed := true, revoked := true }] } }
theorem witness_keyCommands : tKeys.role 3 = 3 ∧ (tKeys.setNow 0).opens (tM (List.replicate 32 7)) 0x0107 = true ∧ (tKeys.setNow 0).allOpen = true ∧
    tKeys.stage.keys.findIdx? KeySlot.blank = some 2 ∧ (tKeys.setNow 0).opens (tM [0, 0, 0, 0]) 0x0108 = true ∧
    tKeys.runningKey ≠ some [1] ∧ (tKeys.stage.keys.eraseIdx 0).any KeySlot.live = true ∧ (tKeys.setNow 0).opens (tM [2, 0, 0, 0]) 0x0108 = true := by
  decide +kernel
theorem witness_keyCommands_denied : ({ tKeys with hasp := { strs := [(0, { st := 3 })] } } : State).aon.unkeyed = false ∧
    (({ tKeys with hasp := { strs := [(0, { st := 3 })] } } : State).setNow 0).allOpen = false ∧ tRun.stage.keys.findIdx? KeySlot.blank = none ∨
    (tKeys.stage.keys[2]?).map KeySlot.blank = some true := by decide +kernel
theorem witness_keyCommands_bounds : (tKeys.setNow 0).opens (tM [9, 0, 0, 0]) 0x0108 = true ∧ tKeys.stage.keys[9]? = none ∧
    (tKeys.stage.keys[3]?).map KeySlot.blank = some false := by decide +kernel
/-- A store that receives an image of 1,000 bytes for session 3. -/
def tRecv : State := { tRun with stage := { tRun.stage with st := 1, sess := 3, len := 1000, lastChunk := 5 } }
theorem witness_stageOpenAndClose : (tRun.setNow 0).lets (tM [24, 1, 0, 0]) 0x0101 Perm.image = true ∧ tRun.stage.st = 0 ∧
    (tRun.setNow 0).leavesReady = true ∧ 280 ≤ arg (tM [24, 1, 0, 0]) 0 4 ∧ arg (tM [24, 1, 0, 0]) 0 4 % 8 = 0 ∧
    (tRecv.setNow 0).lets (tM [1, 0, 0, 0]) 0x0103 Perm.image = true ∧ (tRecv.setNow 0).leavesReady = true ∧
    tRecv.stage.received < tRecv.stage.len ∧ ({ tRecv with stage := { tRecv.stage with received := 1000 } } : State).stage.len ≤ 1000 ∧
    tRecv.stage.lastChunk + 60000000000 ≤ (tRecv.setNow 0).time.now := by decide +kernel
theorem witness_stageChunkStores : (tRecv.setNow 0).lets (tM ([0, 0, 0, 0] ++ List.replicate 512 9)) 0x0102 Perm.image = true ∧
    (tM ([0, 0, 0, 0] ++ List.replicate 512 9)).args.length ≤ 516 ∧ arg (tM ([0, 0, 0, 0] ++ List.replicate 512 9)) 0 4 % 512 = 0 ∧
    ((tM ([0, 0, 0, 0] ++ List.replicate 512 9)).args.drop 4).length = min 512 (tRecv.stage.len - 0) ∧ 0 ∉ tRecv.stage.chunks ∧
    (tRecv.setNow 0).stages .a = true := by decide +kernel
theorem witness_stageChunkStores_last : (tRecv.setNow 0).lets (tM ([0, 2, 0, 0] ++ List.replicate 488 9)) 0x0102 Perm.image = true ∧
    arg (tM ([0, 2, 0, 0] ++ List.replicate 488 9)) 0 4 + ((tM ([0, 2, 0, 0] ++ List.replicate 488 9)).args.drop 4).length ≤ tRecv.stage.len ∧
    ((tM ([0, 2, 0, 0] ++ List.replicate 488 9)).args.drop 4).length = min 512 (tRecv.stage.len - 512) := by decide +kernel
/-- A staged image. -/
def tStaged : State := { tRun with stage := { tRun.stage with st := 4, image := some {}, mode := 1 } }
theorem witness_stageAbortWithdraws : (tRecv.setNow 0).lets (tM []) 0x0104 Perm.image = true ∧ tRecv.stage.closeReq = none ∧
    (tStaged.setNow 0).lets (tM []) 0x0104 Perm.image = true ∧ tStaged.stage.st = 4 ∧ (tStaged.setNow 0).running .b = true := by decide +kernel
/-- Whether a judged image is refused. -/
def isErr {ε α : Type} : Except ε α → Bool
  | .error _ => true
  | .ok _ => false
theorem witness_verifyAndWrite : ({ tRecv with stage := { tRecv.stage with st := 2 } } : State).stage.st = 2 ∧
    isErr (({ tRecv with stage := { tRecv.stage with st := 2 } }.setNow 0).verifyStaged []) = true ∧
    ({ tStaged with stage := { tStaged.stage with st := 3 } } : State).stage.torn = false ∧ tRun.la.writeOk = true ∧ tRun.lb.writeOk = true := by
  decide +kernel
theorem witness_applyAndRevert : tStaged.aon.unkeyed = false ∧ (tStaged.setNow 0).lets (tM []) 0x0105 Perm.image = true ∧
    tStaged.stage.image ≠ none ∧ (tStaged.setNow 0).leavesReady = true ∧ (tRun.setNow 0).lets (tM []) 0x0106 Perm.image = true ∧
    tRun.stage.activeSlot < 2 ∧ ({ tStaged with stage := { tStaged.stage with st := 5 } } : State).stage.applyFrom + 10000000000 ≤
      (tStaged.setNow 0).time.now := by decide +kernel
theorem witness_slotRepairCopies : ∃ s : State, s.aon.dev = .run ∧ (s.setNow 0).running Leaf.b.other = true ∧ s.lb.supplied = true ∧
    s.lb.writeOk = true ∧ (s.leaf Leaf.b.other).validSlot 1 = true ∧ s.lb.validSlot 1 = false :=
  ⟨{ tRun with la := { tLeaf with slot1 := { st := 2 }, valid1 := some {} } }, by decide +kernel⟩

theorem witness_timeSetAndPps : (tRun.setNow 0).lets (tM [100, 0, 0, 0, 0, 0, 0, 0]) 0x0002 Perm.time = true ∧
    (tRun.cfg.ptpOn && tRun.following) = false ∧ 0 ≤ ((tRun.setNow 0).time.now : Int) + tRun.time.base ∧ tRun.time.locked = false ∧
    (tRun.setNow 0).up = true ∧ tRun.cfg.ptpOn = false ∧ tRun.time.source ≠ 2 ∧ (tRun.setNow 0).devTime % 1000000000 = 0 := by decide +kernel
/-- PPS_OUT stands high 100 ms after its edge, device time locked. -/
def tPps : State := { tRun with time := { tRun.time with locked := true, ppsOut := true, ppsLast := 999900000000 } }
theorem witness_timeSetAndPps_fall : tPps.time.locked = true ∧ tPps.time.ppsOut = true ∧ tPps.time.ppsLast + 100000000 ≤ (tPps.setNow 0).time.now ∧
    (tPps.setNow 0).lets (tM [100, 0, 0, 0, 0, 0, 0, 0]) 0x0002 Perm.time = true := by decide +kernel
theorem witness_timeSetAndPps_bounds : (tRun.setNow 0).lets (tM [0, 0, 0, 0, 0, 0, 0, 1]) 0x0002 Perm.time = true ∧
    2 ^ 64 ≤ arg (tM [0, 0, 0, 0, 0, 0, 0, 1]) 0 8 * 1000000000 + 999999999 := by decide +kernel
/-- PTP on port 0, a master followed since 10 s without a Sync. -/
def tPtp : State := { tRun with
  cfg := { tCfg with img := { tCfg.img with sections := tSec Ty.network 0 (tFill [0, 3] 88) :: tCfg.img.sections } }
  time := { tRun.time with master := some (0, 5, 9), ptpGood := 15, lastSync := 0 } }
/-- A completed measurement of the master that is followed. -/
def tSync : PtpMsg := { port := 0, kind := 2, domain := 0, clockId := 5, rank := 9, offset := 1000, time := 7, complete := true }
theorem witness_ptpDisciplines : (tPtp.setNow 0).up = true ∧ tPtp.cfg.ptpOn = true ∧ (tPtp.setNow 0).running .a = true ∧
    tSync.domain = tPtp.cfg.n Ty.network 0 4 ∧ tPtp.time.master = some (tSync.port, tSync.clockId, 9) ∧ tSync.offset.natAbs ≤ 1000 ∧
    15 ≤ tPtp.time.ptpGood ∧ tPtp.time.locked = false ∧ 0 ≤ ((tPtp.setNow 0).time.now : Int) + tPtp.time.base ∧ tPtp.following = true ∧
    tPtp.time.lastSync + 10000000000 ≤ (tPtp.setNow 0).time.now := by decide +kernel
/-- A sweep in a phase. -/
def tPhase (p : Phase) : State := { tRun with sw := { tRun.sw with phase := p, ts := 0, endA := true, endB := true, fresh := true } }
theorem witness_sweepPhases : (tRun.setNow 0).sweeping = true ∧ tRun.aon.unkeyed = false ∧ tRun.sleep.st = 0 ∧ tRun.sw.phase = .committed ∧
    tRun.sw.started = true ∧ tRun.sw.next ≤ (tRun.setNow 0).time.now ∧
    ((tPhase .collecting).setNow 0).deadline ≤ ((tPhase .collecting).setNow 0).time.now ∧
    ((tPhase .exchanging).setNow 0).deadline ≤ ((tPhase .exchanging).setNow 0).time.now ∧
    ((tPhase .exchanging).setNow 0).overlayIn.banksSeal.setsAgree (((tPhase .exchanging).setNow 0).auxMask {}) = true ∧
    (tPhase .reseal).sw.phase = .reseal := by decide +kernel
/-- The leaves have collected different sets, and the exchange has ended by time. -/
def tUneven : State := { tPhase .exchanging with sw := { (tPhase .exchanging).sw with items := [{ ring := 0, pos := 1, e := .a, payload := List.replicate 64 0#8, inA := true, inB := false }] } }
theorem witness_sweepPhases_uneven : (tUneven.setNow 0).overlayIn.banksSeal.bothRun = true ∧ (tUneven.setNow 0).overlayIn.banksSeal.setsAgree ((tUneven.setNow 0).auxMask {}) = false ∧
    (tUneven.setNow 0).deadline + 100000 ≤ (tUneven.setNow 0).time.now := by decide +kernel
theorem witness_commitShowsAllAtOnce : (tPhase .sealed).sw.phase = .sealed ∧
    (tPhase .sealed).sw.ts + commitNs (tPhase .sealed).sw.period ≤ ((tPhase .sealed).setNow 0).time.now := by decide +kernel
/-- The results of the last commit point differ. -/
def tDiffer : State := { tPhase .committed with kn := { tRun.kn with differ := true, decDiffer := true } }
theorem witness_resultComparison : ((tPhase .committed).setNow 0).bothRun = true ∧ (tPhase .committed).sw.fresh = true ∧
    (tPhase .committed).sw.commitNow + 20000 ≤ ((tPhase .committed).setNow 0).time.now ∧ (tPhase .committed).kn.decDiffer = false ∧
    (tDiffer.setNow 0).bothRun = true ∧ tDiffer.kn.differ = true ∧ tDiffer.sw.commitNow + 100000 ≤ (tDiffer.setNow 0).time.now := by decide +kernel
/-- Known-answer tests of an arbitration, the last divergence at an instant. -/
def tArb (k : Nat) (d : Option Nat) : State := { tRun with kn := { tRun.kn with arb := k, lastDiv := d } }
theorem witness_arbitration : ((tArb 1 none).setNow 0).bothRun = true ∧ (tArb 1 none).kn.arb = 1 ∧ (tArb 1 none).kn.lastDiv = none ∧
    ((tArb 1 (some 1000000000000)).setNow 0).time.now < 1000000000000 + 3600000000000 ∧ (tArb 2 none).kn.arb = 2 := by decide +kernel
/-- Leaf B is copied anew. -/
def tSame : State := { tRun with lb := { tLeaf with st := .resyncing } }
theorem witness_resyncRuns : (tSame.leaf tSame.act.other).st = .resyncing ∧ (tSame.leaf tSame.act.other).rejoin = 0 ∧ tSame.kn.active ≠ none := by
  decide +kernel
/-- Ring 0 is LOST: both ends probe. -/
def tLost : State := { tRun with ch := { tRun.ch with rings := [(0, { st := .lost, bFirst := 4, probedA := true, probedB := true })] } }
theorem witness_portsAndBadFrames : (tRun.setNow 0).portOn .a = true ∧ tRun.cfg.ringOn 0 = true ∧ tRun.pick.armed = false ∧
    (tRun.ring 0).losA = false ∧ tRun.sleep.st = 0 ∧ (tRun.ring 0).st = .whole ∧ (tRun.ring 0).brk = 0 ∧ (tLost.setNow 0).sweeping = true ∧
    (tLost.ring 0).st.probes = true ∧ (tLost.ring 0).probedB = true ∧ (tLost.ring 0).enumB + 1000000000 ≤ (tLost.setNow 0).time.now := by
  decide +kernel
/-- Ring 0 was broken by a fence, and the surviving end's side is whole. -/
def tSide : State := { tRun with ch := { tRun.ch with rings := [(0, { st := .broken 1, sideOk := true, losA := false, losB := false })] } }
theorem witness_portsAndBadFrames_side : (tSide.ring 0).sideOk = true ∧ (tSide.ring 0).brk = 0 ∧ (tSide.ring 0).st ≠ .whole := by decide +kernel
/-- Ring 0 calibrates, a number of SYNCs after the start round began. -/
def tCal (n : Nat) : State := { tRun with ch := { tRun.ch with rings := [(0, { st := .whole, cal := 2, calN := n, losA := false, losB := false })] } }
theorem witness_syncsAndCalibration : ((tCal 0).ring 0).cal = 2 ∧ ((tCal 0).ring 0).calN = 0 ∧ ((tCal 7).ring 0).calN < 8 ∧
    ((tCal 8).ring 0).calLast + 250000 ≤ ((tCal 8).setNow 0).time.now ∧ (tRun.ring 0).cal = 0 ∧ (tRun.ring 0).countBad = false ∧
    tRun.sw.phase = .committed ∧ (tRun.ring 0).calLast + 60000000000 ≤ (tRun.setNow 0).time.now ∧ ((tCal 1).setNow 0).portOn .b = true ∧
    (0xF8 : Nat) = 0xF7 + ((tCal 1).ring 0).calN := by decide +kernel
/-- A round of ring 0 waits for its last answers. -/
def tCalEnd : State := { tRun with ch := { tRun.ch with rings := [(0, { st := .whole, cal := 9 })] } }
theorem witness_syncsAndCalibration_end : (tCalEnd.ring 0).cal = 9 ∧ (tCalEnd.setNow 0).calOpen 0 = false ∧ tRun.ch.low = false := by decide +kernel
/-- The SYNC of sweep 0 went out 1 ms ago. -/
def tAfter : State := { tRun with sw := { tRun.sw with ts := 999999000000 } }
/-- It goes out now. -/
def tAtSync : State := { tRun with sw := { tRun.sw with ts := 1000000000000 } }
theorem witness_syncsAndCalibration_sweep : tAtSync.sw.started = true ∧ (tAtSync.setNow 0).up = true ∧ (0 : Nat) = tAtSync.sw.num % 256 ∧
    (tAtSync.setNow 0).time.now ≤ tAtSync.sw.ts + (tAtSync.ring 0).tNs + 5000 ∧ (tAfter.setNow 0).bothRun = true ∧
    (tAfter.ring 0).syncB = false ∧ tAfter.sw.ts + (tAfter.ring 0).tNs + 5000 ≤ (tAfter.setNow 0).time.now := by decide +kernel
/-- Leaf A has the answer window of an ENUM open since 1 ms. -/
def tEnum : State := { tRun with ch := { tRun.ch with rings := [(0, { st := .whole, openA := true, enumA := 999999000000 })] } }
theorem witness_enumerationRuns : (tRun.setNow 0).lets (tM [0xFF, 0, 0, 0]) 0x0201 Perm.restart = true ∧ arg (tM [0xFF, 0, 0, 0]) 0 1 = 0xFF ∧
    (tRun.setNow 0).lets (tM [0, 0, 0, 0]) 0x0201 Perm.restart = true ∧ tRun.cfg.ringOn 0 = true ∧ (tRun.setNow 0).portOn .a = true ∧
    (tLone.setNow 0).portOn .b = false ∧ (tEnum.setNow 0).enumOpen 0 .a = true ∧ (tRun.setNow 0).enumOpen 0 .a = false ∧
    3 ≤ tRun.cfg.nodeCount 0 ∧ (tEnum.ring 0).enumA + (tEnum.setNow 0).enumNs ≤ (tEnum.setNow 0).time.now := by decide +kernel
/-- A sample of a node, for the sweep whose number ends in `low`; its place is that of a SAMPLE_RSP and of a group summary. -/
def tSample (pos low : Nat) : SampleRsp :=
  ⟨pos, 1, false, List.replicate 56 0#8 ++ [byteOf low] ++ List.replicate 5 0#8 ++ [byteOf low, 0#8], []⟩
/-- A sweep collects since 100 µs. -/
def tCollect : State := { tRun with sw := { tRun.sw with phase := .collecting, ts := 999999900000 } }
theorem witness_samplesCollected : (tCollect.setNow 0).portOn .a = true ∧ (tCollect.setNow 0).collecting = true ∧
    (tCollect.setNow 0).usable 0 3 = true ∧ sampleLow (tSample 3 0).payload = tCollect.sw.num % 256 ∧
    summaryLow (tSample 3 0).payload = tCollect.sw.num % 256 ∧ sampleLow (tSample 3 255).payload = (tCollect.sw.num + 255) % 256 ∧
    (tSample 3 0).pos ≤ tCollect.cfg.nodeCount 0 ∧ (tRun.setNow 0).collecting = false := by decide +kernel
/-- A sweep whose re-request instants have come. -/
def tRereq : State := { tRun with sw := { tRun.sw with phase := .collecting, ts := 999999000000 } }
theorem witness_samplesCollected_rereq : (tRereq.ring 0).rrA = false ∧ (tRereq.setNow 0).rereqAt 0 .a ≤ (tRereq.setNow 0).time.now ∧
    (tRereq.setNow 0).rereqFits 0 .a = true := by decide +kernel
/-- Node 1 of ring 0 has sent an alarm just now; node 2 is quarantined. -/
def tAlarm : State := { tRun with ch := { tRun.ch with
  alarms := [(999999999999, (0, 1, 5, 1))]
  nodes := [(0, { known := true, cfg := 3, uid := 11 }), (1, { known := true, cfg := 3, uid := 12, quar := 3 })] } }
theorem witness_samplesCollected_alarm : (tAlarm.setNow 0).portOn .a = true ∧ tAlarm.sleep.st = 0 ∧ tAlarm.pick.armed = false ∧
    (tAlarm.ch.alarms.filter (fun a => decide ((tAlarm.setNow 0).time.now < a.1 + 10000000))).any (fun a => a.2 == (0, 1, 5, 1)) = true ∧
    tAlarm.ch.alarms.any (fun a => a.2 == (0, 1, 6, 1)) = false ∧ (tAlarm.node 0 1).quar = 0 ∧ (tAlarm.node 0 2).quar ≠ 0 ∧
    (tAlarm.node 0 1).boot = 0 ∧ (0 ∈ tAlarm.cfg.nodeCells 0 1) ∧ 16 &&& 15 = 0 := by decide +kernel
/-- Leaf A has sent a request of session 3 to node 1. -/
def tAsked (h : Req) : State := { tRun with
  ch := { tRun.ch with ports := [(0, { q := [h] })] }
  links := { tRun.links with sess := [(1, { st := 3 }), (3, { st := 3, outst := [(1, 3, 0x0202)] })] } }
/-- That request: a NODE_READ. -/
def tReq : Req := { kind := 4, reg := 0x10, purpose := .hostR 3 1 4, seq := 1, sent := true }
theorem witness_answersReceived : ((tAsked tReq).setNow 0).head 0 .a 1 = some tReq ∧ ((tAsked tReq).setNow 0).portOn .a = true ∧
    (tAsked tReq).cfg.ringOn 0 = true ∧ (tAsked tReq).pick.armed = false ∧ (1 : Nat) ≤ (tAsked tReq).cfg.nodeCount 0 ∧
    ((tAsked tReq).sess 3).outst.find? (fun o => o.1 == 1) = some (1, 3, 0x0202) ∧ tReq.seq ≠ 2 := by decide +kernel
theorem witness_retriesAndFailures : ((tAsked tReq).setNow 0).head 0 .a 1 = some tReq ∧ tReq.due ≤ ((tAsked tReq).setNow 0).time.now ∧
    tReq.busy = false ∧ tReq.muted = false ∧ ((tAsked { tReq with muted := true }).setNow 0).head 0 .a 1 = some { tReq with muted := true } ∧
    ((tAsked { tReq with retries := 255 }).setNow 0).mayRetry 0 { tReq with retries := 255 } = false := by decide +kernel
theorem witness_retriesAndFailures_retry : ((tAsked tReq).setNow 0).mayRetry 0 tReq = true ∧
    ((tAsked tReq).setNow 0).retryEnd 0 .a 1 tReq = .a := by decide +kernel
theorem witness_retriesAndFailures_pass : ∃ h : Req, ((tAsked h).setNow 0).head 0 .a 1 = some h ∧ h.kind = 0xC ∧ h.muted = false ∧
    h.first + 2500000 * leAt h.payload 0 1 ≤ ((tAsked h).setNow 0).time.now :=
  ⟨{ tReq with kind := 0xC, purpose := .pass 3 1, payload := tB [1, 0, 1] }, by decide +kernel⟩

/-- A PASS of one hop to node 1 of ring 0: READ of 4 bytes at 0x10. -/
def tHop : List Nat := [1, 0, 1, 0, 0, 0, 0, 4, 1, 4, 0, 0x10, 0, 4, 0]
theorem witness_hostReachesNodes : (tRun.setNow 0).lets (tM [0, 3, 16, 0, 32, 0, 0, 0]) 0x0202 Perm.read = true ∧ tRun.cfg.ringOn 0 = true ∧
    arg (tM [0, 3, 16, 0, 32, 0, 0, 0]) 1 1 = 3 ∧ tRun.cfg.nodeCount 0 = 3 ∧ arg (tM [0, 3, 16, 0, 32, 0, 0, 0]) 4 2 = 32 ∧
    (tRun.setNow 0).portOn ((tRun.setNow 0).reqEnd 0 3) = true := by decide +kernel
theorem witness_hostReachesNodes_write : ∀ q ∈ [tM [0, 0, 3, 0, 0, 0xFA, 1, 0, 7], tM [0, 0, 0xFF, 0xFF, 0, 0xFA, 1, 0, 7], tM [0, 0, 80, 0, 0, 0xFA, 1, 0, 7]],
    (tRun.setNow 0).opens q 0x0203 = true ∧ (tRun.setNow 0).role q.sess = 3 ∧ q.args.length = 8 + arg q 6 2 ∧ arg q 6 2 = 1 ∧
    1 ≤ arg q 2 2 ∧ arg q 4 2 + arg q 6 2 ≤ 0xFB00 := by decide +kernel
theorem witness_hostReachesNodes_reserved : arg (tM [0, 0, 80, 0, 0, 0xFA, 1, 0, 7]) 2 2 < 0xFF00 ∧
    tRun.cfg.nodeCount 0 < arg (tM [0, 0, 80, 0, 0, 0xFA, 1, 0, 7]) 2 2 ∧ 0xFF00 ≤ arg (tM [0, 0, 0, 0xFF, 0, 0xFA, 1, 0, 7]) 2 2 ∧
    (tRun.cfg.positions 0).any (fun p => (0xFF00 : Nat) == 0xFFFF || tRun.cfg.nodeFld 0 p 0x1A == 0xFF00) = false := by decide +kernel
theorem witness_hostReachesNodes_strings : (∀ i ∈ tRun.cfg.ringStrings 0, (tRun.hs i).st = 0) ∧ (tRun.node 0 3).quar = 0 ∧
    (tRun.cfg.positions 0).any (fun p => (80 : Nat) == 0xFFFF || tRun.cfg.nodeFld 0 p 0x1A == 80) = false ∧
    (tRun.cfg.positions 0).any (fun p => (0xFFFF : Nat) == 0xFFFF || tRun.cfg.nodeFld 0 p 0x1A == 0xFFFF) = true := by decide +kernel
theorem witness_hostReachesNodes_pass : (tRun.setNow 0).opens (tM ([0, 1, 0, 0] ++ tHop)) 0x0F01 = true ∧
    (passParts ((tM ([0, 1, 0, 0] ++ tHop)).args.drop 4)).map (fun x => x.kind) = some 4 ∧ (tRun.setNow 0).may 3 Perm.read = true ∧
    15 ≤ (tM ([0, 1, 0, 0] ++ tHop)).args.length ∧ (tRun.node 0 1).quar = 0 := by decide +kernel
/-- Channel 0 latched and its time elapsed; channel 4 latched off for freewheeling once; bank 0 powered. -/
def tSw : State := { tRun with power := { banks := [(0, { powered := true, live := true }), (1, { ov := true })], chans :=
  [(0, { latch := 1, grant := true, restarts := 1 }), (4, { on := true, blank := true })] } }
theorem witness_switchChannels : (tRun.setNow 0).lets (tM [0, 1, 0, 0]) 0x0D01 Perm.strings = true ∧ tRun.cfg.chanString 0 = none ∧
    tRun.cfg.sw 0 1 = 1 ∧ (tRun.aon.thermal && tRun.cfg.sw 0 0 == 3 && arg (tM [0, 1, 0, 0]) 1 1 == 1) = false ∧
    (tRun.setNow 0).lets (tM [1, 1, 0, 0]) 0x0D01 Perm.strings = true ∧ (tRun.cfg.chanString 1).isSome = true ∧
    (tSw.setNow 0).lets (tM [0, 0, 0, 0]) 0x0D02 Perm.clear = true ∧ (tSw.chan 0).latch ≠ 0 ∧ bit (tSw.chan 0).latch 3 = false ∧
    (tSw.setNow 0).stringBusy 0 = false ∧ (tSw.chan 0).latchNow + 100000000 * tSw.cfg.sw 0 7 ≤ (tSw.setNow 0).time.now ∧
    (tSw.chan 0).grant = true ∧ (tSw.setNow 0).lets (tM [0, 0, 0, 0]) 0x0D03 Perm.clear = true ∧ (tSw.setNow 0).role 3 = 3 := by decide +kernel
theorem witness_switchChannels_path : ({ tRun with power := { kaPath := 0 } } : State).pathTaken = true ∧ tRun.pathTaken = false := by decide +kernel
theorem witness_switchChannels_events : tSw.aon.vaon = true ∧ (tSw.chan 4).on = true ∧ (tSw.chan 5).on = false ∧ tSw.sleep.st = 0 ∧
    bit (tSw.chan 4).latch 3 = false ∧
    (({ tSw with time := { now := 100000 } } : State).setNow 0).time.now ≤ (({ tSw with time := { now := 100000 } } : State).chan 5).offNow + 100000 := by
  decide +kernel
theorem witness_switchBanks : (tSw.bank 0).powered = true ∧ (tSw.bank 0).ov = false ∧ tSw.aon.vaon = true ∧ (tSw.bank 1).powered = false ∧
    (tSw.bank 1).ov = true ∧ (tSw.chan 4).blank = true ∧ (tSw.chan 4).blankEnd ≤ (tSw.setNow 0).time.now ∧ (tSw.chan 4).latch = 0 ∧
    ({ tSw with power := { chans := [(4, { restarts := 1 })] } } : State).power.chans = [(4, { restarts := 1 })] ∧
    (tSw.chan 4).decayFrom + 600000000000 ≤ (tSw.setNow 0).time.now := by decide +kernel
/-- The Deadbolt thrown, the clear armed by session 3. -/
def tThrown : State := { tRun with aon := { tRun.aon with dbLatch := true, clearState := 1, armSlot := 3, armNow := 1000000000000 } }
theorem witness_deadboltAndTrips : (tRun.setNow 0).running .b = true ∧ tRun.cfg.compOn 0 true = true ∧ tRun.aon.dev ≠ .off ∧
    tRun.aon.dbLatch = false ∧ (tRun.setNow 0).lets (tM [0xFF, 0, 0, 0]) 0x0A01 Perm.clear = true ∧
    (tThrown.setNow 0).lets (tM [0, 0, 0, 0]) 0x0A02 Perm.clear = true ∧ tThrown.aon.thermal = false ∧ tThrown.sleep.st ≠ 1 ∧
    (tThrown.setNow 0).lets (tM [1, 0, 0, 0]) 0x0A02 Perm.clear = true ∧ tThrown.aon.clearState = 1 ∧ tThrown.aon.armSlot = 3 ∧
    (tThrown.setNow 0).time.now ≤ tThrown.aon.armNow + 5000000000 ∧ tRun.aon.clearState = 0 := by decide +kernel
theorem witness_deadboltAndTrips_fenced : (tLone.setNow 0).alive .b = false ∧ (tRun.setNow 0).alive .b = true ∧ tRun.cfg.compOn 0 true = true ∧
    tRun.cfg.compAbove 0 true (compMean (List.replicate 256 false)) = true := by
  decide +kernel
/-- String 0 in a state of its sequence, every row of R464 clear of it. -/
def tStr (st : Nat) : State := { tRun with hasp := { strs := [(0, { st := st, usable := true })] } }
theorem witness_contactorCommands : (tRun.setNow 0).lets (tM [0, 0, 0, 0]) 0x0B01 Perm.strings = true ∧
    (tRun.setNow 0).closeRow 5 false false = some St.denied ∧ (tRun.setNow 0).lets (tM [0xFF, 1, 0, 0]) 0x0B02 Perm.strings = true ∧
    ((tStr 6).setNow 0).lets (tM [0, 0, 0, 0]) 0x0B03 Perm.strings = true ∧ ((tStr 6).setNow 0).may 3 Perm.clear = true ∧
    ((tStr 6).hs 0).st = 6 ∧ ((tStr 6).hs 0).unlock = none ∧ ((tStr 5).hs 0).st = 5 ∧ ((tStr 5).hs 0).testing = false ∧
    ((tStr 5).hs 0).cmdNow + 1000000000 ≤ ((tStr 5).setNow 0).time.now := by decide +kernel
theorem witness_contactorCommands_safe : ({ tRun with kn := { tRun.kn with active := none } } : State).kn.active = none := by decide
theorem witness_contactorCommands_close : ∃ s : State, (s.setNow 0).lets (tM [0, 0, 0, 0]) 0x0B01 Perm.strings = true ∧
    (s.setNow 0).closeRow 0 false false = none ∧ (s.setNow 0).lets (tM [0xFF, 0, 0, 0]) 0x0B01 Perm.strings = true ∧ (0 ∈ s.cfg.strings) := 
  ⟨tStr 0, by decide +kernel⟩
/-- A lease is due, the last one long ago. -/
def tLease : State := { tRun with sw := { tRun.sw with everValidated := true }, lease := { due := true, st := 1 } }
theorem witness_leasesAndCan : tLease.lease.due = true ∧ tLease.sw.commitNow + 50000 ≤ (tLease.setNow 0).time.now ∧
    (tLease.setNow 0).sweeping = true ∧ (tLease.setNow 0).leasing = true ∧ tLease.lease.st ≠ 0 ∧
    tLease.lease.lastPub + 500000 * tLease.cfg.lease 0 ≤ (tLease.setNow 0).time.now ∧ (tP (List.replicate 24 0)).args.length = 24 ∧
    (tRun.setNow 0).lets (tP (List.replicate 24 0)) 0x0C01 Perm.lease = true := by decide +kernel
theorem witness_leasesAndCan_can : canHears tRun.links.can0 = true ∧ bit (tRun.cfg.lease 0x0E) 0 = true ∧ tRun.pick.armed = false ∧
    tRun.canTx = some 0 ∧ tRun.pick.held = [] ∧ tRun.lease.canTime = 0 ∧ tRun.links.can0 ≠ 0 ∧ tRun.links.can0 ≠ 4 ∧ tRun.links.can1 ≠ 0 ∧
    tRun.links.can1 ≠ 4 := by decide
theorem witness_thermalAndMemory :
    2 ≤ ((upto 8).filter (fun i => decide (([1350, 0, 1350] : List Int).getD i 0 ≥ 1350))).length ∧ tRun.aon.dev ≠ .off ∧ tRun.aon.thermal = false ∧
    (tRun.setNow 0).fencedL .b = false ∧ tRun.lb.supplied = true ∧ tRun.lb.writeOk = true ∧ (tRun.setNow 0).fenceable .a = true ∧
    (tRun.setNow 0).fenceable .b = true := by decide +kernel

/-- Two units wait in Leaf A's MRAM queue; Leaf B writes a snapshot. -/
def tUnits : State := { tRun with la := { tLeaf with mramQ := [.learn 0 {}, .opens 0 {}] }, lb := { tLeaf with snapGo := true, snapIdx := 7 } }
theorem witness_thermalAndMemory_units : tUnits.la.mramQ = .learn 0 {} :: [.opens 0 {}] ∧ tUnits.lb.mramQ = [] ∧ tUnits.lb.snapGo = true ∧
    tUnits.lb.snapIdx < 4096 ∧ (tUnits.setNow 0).fencedL .a = false ∧ (tUnits.setNow 0).fencedL .b = false ∧ tUnits.aon.thermal = false ∧
    (-400 : Int) ≤ 0 := by decide +kernel
/-- A group node at position 2, in its place under a parent that was heard last at 990 s, both links up. -/
def tGroup : State := { tRun with cfg := tSub, nest := { position := 2, serveWritten := true, lock := 1, parentPeriod := 2, lastParent := 990000000000
                                                         lastSync := 990000000000, window := some (999999000000, 5), lastLow := some 5
                                                         portA := { up := true }, portB := { up := true } } }
/-- A request of the parent, new to the port. -/
def tUp (dest kind : Nat) (p : List Byte) : UpReq := ⟨0, dest, 0, kind, 9, p⟩
theorem witness_groupNodeAnswers : (tGroup.setNow 0).upRx .a = true ∧ (tGroup.setNow 0).upThrough = true ∧ tGroup.nest.position ≠ 0 ∧
    (tGroup.setNow 0).sweeping = true ∧ tGroup.sleep.st = 0 ∧ (tGroup.upPort .a).busy ≠ some 9 ∧ (tGroup.upPort .a).held = none ∧
    (∀ x, (tGroup.upPort x).fwd = [] ∧ (tGroup.upPort x).own = [] ∧ (tGroup.upPort x).txEnd ≤ (tGroup.setNow 0).time.now) ∧
    ((tGroup.setNow 0).upRead 5 0xFF04 4).isSome = true ∧ (tGroup.setNow 0).upToGroup 7 = false ∧
    (tUp 2 3 (cfgWrP 0xFB04 [byteOf 63, byteOf 3])).payload.length = 6 := by
  refine ⟨by decide +kernel, by decide +kernel, by decide +kernel, by decide +kernel, by decide +kernel, by decide +kernel, by decide +kernel, ?_,
    by decide +kernel, by decide +kernel, by decide +kernel⟩
  intro x; cases x <;> decide +kernel
theorem witness_groupNodeAnswers_line : (({ tGroup with nest := { tGroup.nest with portA := { up := true, txEnd := 1000000001000 } } } : State).setNow 0).time.now <
    (({ tGroup with nest := { tGroup.nest with portA := { up := true, txEnd := 1000000001000 } } } : State).upPort .a).txEnd := by decide +kernel
theorem witness_groupNodeAnswers_pass : (passParts (tB tHop)).map (fun x => (tGroup.setNow 0).passWhy x) = some 0 := by decide +kernel
theorem witness_groupNodeAnswers_again :
    (({ tGroup with nest := { tGroup.nest with portA := { up := true, held := some (9, 5, [3, 0, 0, 0]) } } } : State).upPort (upEnd 0)).held =
      some (9, 5, [3, 0, 0, 0]) := by decide +kernel
theorem witness_groupNodeFollows : (tGroup.setNow 0).upRx .b = true ∧ (crc8 [6, 0] = crc8 [6, 0] ∧ 0 < 0xFF) ∧ (crc8 [6, 0] + 1 ≠ crc8 [6, 0]) ∧
    crc8 [1] = crc8 [1] ∧ tGroup.nest.low = false ∧ ({ tGroup with nest := { tGroup.nest with low := true } } : State).nest.low = true ∧ tGroup.nest.lastLow ≠ some 6 ∧ tGroup.nest.window = some (999999000000, 5) ∧
    999999000000 + 50000 ≤ (tGroup.setNow 0).time.now ∧ (tGroup.setNow 0).upOn (upEnd tGroup.nest.servePort) = true ∧
    tGroup.nest.lastSync + 4 * periodNs tGroup.nest.parentPeriod ≤ (tGroup.setNow 0).time.now ∧ tGroup.nest.uplinkLost = false ∧
    tGroup.nest.lastParent + 2900000000 ≤ (tGroup.setNow 0).time.now ∧ tGroup.cfg.groups.findIdx? (· == (0, 3)) = some 0 := by decide +kernel
theorem witness_groupNodeFollows_child : ∃ s : State, s.cfg.groups.findIdx? (· == (0, 3)) = some 0 ∧ secTicks 2 ≤ (s.kid 0).age ∧ (s.kid 0).st ≠ 4 :=
  ⟨{ tGroup with nest := { tGroup.nest with kids := [(0, { st := 1, age := secTicks 2 })] } }, by decide +kernel⟩
theorem witness_groupNodeFollows_heartbeat : (tUp 0xFFFF 0xA (List.replicate 8 0)).dest = 0xFFFF ∧ tGroup.nest.position ≠ 0xFFFF ∧
    (tUp 0xFFFF 0xA (List.replicate 8 0)).payload.length = 8 := by decide
/-- Session 1 in its handshake, after a number of wrong FINISHes. -/
def tHand (f : Nat) : State := { tRun with links := { tRun.links with sess := [(1, { st := 2, hs := some ([1#8], [2#8]), hsTime := 999000000000, fails := f })] } }
theorem witness_wardSessions : (tRun.setNow 0).ethOn 0 = true ∧ (tRun.setNow 0).peerSess 5 = some 1 ∧ (tRun.sess 1).lockedAt = none ∧
    (tRun.sess 1).helloTime = none ∧ tRun.sleep.st = 0 ∧ tRun.pick.armed = false ∧ ((tHand 4).setNow 0).sidSess 1 = 1 ∧
    ((tHand 4).sess 1).hs = some ([1#8], [2#8]) ∧ 1 = ((tHand 4).setNow 0).sidOf 1 ∧ ((tHand 4).sess 1).st ≠ 3 ∧
    ((tHand 4).setNow 0).time.now < ((tHand 4).sess 1).hsTime + 2000000000 ∧ (4 : Nat) ≤ ((tHand 4).sess 1).fails ∧
    ((tHand 3).sess 1).fails < 4 := by decide +kernel
theorem witness_wardSessions_data : (tRun.sess ((tRun.setNow 0).sidSess 1)).st = 3 ∧ 1 = (tRun.setNow 0).sidOf ((tRun.setNow 0).sidSess 1) ∧
    (tRun.sess 1).fresh 1 = true ∧ (tRun.sess 1).fresh 0 = true ∧ (tRun.sess 1).fresh 281474976710655 = true := by decide +kernel
/-- Session 1 locked and session 3 silent. -/
def tOld : State := { tRun with links := { tRun.links with sess := [(1, { st := 4, lockedAt := some 5, window := [0] }), (3, { st := 3, window := [0], hs := some ([], []) })] } }
theorem witness_wardSessions_ends : (tOld.sess 1).lockedAt = some 5 ∧ 5 + 60000000000 ≤ (tOld.setNow 0).time.now ∧ (tOld.sess 3).fresh 0 = false ∧
    (tOld.sess 3).hs.isSome = true ∧ (tOld.sess 3).hsTime + 2000000000 ≤ (tOld.setNow 0).time.now ∧ tOld.aon.dev ≠ .sleep ∧
    (tOld.sess 3).st = 3 ∧ (tOld.sess 3).lastAuth + 30000000000 ≤ (tOld.setNow 0).time.now := by decide +kernel
/-- A value of the overlay's entry 0; CAUSE_STICKY; a host note. -/
def tWrites : List HReq := [tM [8, 0x10, 1, 0, 4, 0, 0, 0, 60, 0, 0, 0], tM [0x14, 0, 0, 0, 4, 0, 0, 0, 1, 0, 0, 0],
  tM ([0x10, 0x10, 0, 0, 12, 0, 0, 0] ++ List.replicate 12 7), tM [0, 0, 0, 0, 4, 0, 0, 0, 1, 0, 0, 0]]
theorem witness_requestsAnswered : (tRun.setNow 0).accepts (tM [0, 0, 0, 0, 64, 0, 0, 0]) = true ∧ (tRun.setNow 0).may 3 Perm.read = true ∧
    inOneBlock 0 64 = true ∧ inStreamData 0 64 = false ∧ inCells 0 64 = false ∧ (tRun.setNow 0).accepts (tM []) = true ∧
    (tRun.setNow 0).accepts (tQ []) = true ∧
    tWrites.map (fun q => match (tRun.setNow 0).judgeWrite q.sess tRun.ovl.pend q.args with
      | .overlay _ _ => 1 | .sticky _ => 2 | .note _ => 3 | .refuse _ => 4) = [4, 2, 3, 4] := by decide +kernel
/-- A valid image with session 3, the defaults of SLEEP, and IDLE_TIMER open to runtime writes from 0 to 100 s. -/
def tOver : State := { tRun with cfg := { img := { seq := 7, sections := [
  tSec Ty.device 0 (List.replicate 64 0#8 ++ List.replicate 10 0xFF#8 ++ List.replicate 54 0#8),
  tSec Ty.session 3 (tB [3, 1, 8, 0, 127, 0, 0, 0, 9, 0, 0, 0, 0, 0, 0, 0, 255, 255] ++ List.replicate 46 0#8),
  tSec Ty.overlay 0 (tB [1, 0, 0, 0, 21, 0, 0, 0, 0, 0, 4, 0, 0, 0, 0, 0, 100, 0, 0, 0]),
  tSec Ty.sleep 0 (List.replicate 13 0xFF#8 ++ [0, 0, 0])] } } }
theorem witness_requestsAnswered_overlay : (tOver.setNow 0).accepts (tM [8, 0x10, 1, 0, 4, 0, 0, 0, 60, 0, 0, 0]) = true ∧
    (tOver.setNow 0).judgeWrite 3 tOver.ovl.pend (tM [8, 0x10, 1, 0, 4, 0, 0, 0, 60, 0, 0, 0]).args =
      .overlay (tOver.cfg.ovEnt 0) 60 ∧ (validate tOver.cfg).isNone = true := by decide +kernel
theorem witness_requestsAnswered_overlay_bounds :
    (tOver.setNow 0).judgeWrite 3 tOver.ovl.pend (tM [8, 0x10, 1, 0, 4, 0, 0, 0, 101, 0, 0, 0]).args = .refuse St.bounds := by decide +kernel
/-- A batch: a count, then items of kind, address and length. -/
def tBatch (k a b : Nat) : HReq := tM ([2, 0, 0, 0] ++ [k, 0, 0, 0, 8, 0, 0, 0, 0, 0, 0, 0, 4, 0, 0, 0] ++ [a, 0, 0, 0, 12, 0, 0, 0] ++
  [8, 0x10, 1, 0, 4, 0, 0, 0] ++ [b, 0, 0, 0])
theorem witness_requestsAnswered_batch : (tRun.setNow 0).accepts (tBatch 1 2 20) = true ∧ arg (tBatch 1 2 20) 0 1 = 2 ∧
    (batchItems 2 ((tBatch 1 2 20).args.drop 4)).map (fun l => (l.all (fun i => i.1 == 1), l.all (fun i => i.1 == 2))) = some (false, false) ∧
    (batchItems 2 ((tBatch 1 1 20).args.drop 4)).map (fun l => l.all (fun i => i.1 == 1)) = some true ∧
    (batchItems 2 ((tBatch 2 2 20).args.drop 4)).map (fun l => (l.all (fun i => i.1 == 2), l.all (fun i => i.1 == 1),
      ((tRun.setNow 0).batchJudge 3 l).all (fun w => w.status == St.ok))) = some (true, false, false) := by decide +kernel
theorem witness_requestsAnswered_batchOk :
    (batchItems 1 ([2, 0, 0, 0, 12, 0, 0, 0, 8, 0x10, 1, 0, 4, 0, 0, 0, 60, 0, 0, 0] : List Byte)).map (fun l => (l.all (fun i => i.1 == 2),
      ((tOver.setNow 0).batchJudge 3 l).all (fun w => w.status == St.ok))) = some (true, true) := by decide +kernel
/-- UNKEYED. -/
def tBare : State := { tRun with aon := { tRun.aon with unkeyed := true } }
/-- SAFE. -/
def tSafe : State := { tRun with aon := { tRun.aon with dev := .safe } }
theorem witness_requestsAnswered_unkeyed : (tBare.setNow 0).accepts (tQ [0, 0, 0, 0]) = true ∧
    (opRow 0x0A01 0 (tQ [0, 0, 0, 0]) tBare).isSome = true ∧ tBare.aon.unkeyed = true ∧ unkeyedOp 0x0A01 = false := by
  refine ⟨by decide +kernel, rfl, rfl, by decide +kernel⟩
theorem witness_requestsAnswered_safe : tSafe.aon.dev = .safe ∧ (tSafe.setNow 0).spiOn = true ∧ safeReadable 0 64 = true ∧
    (tSafe.sess sSpi).outst.all (fun o => o.1 != 1) = true := by decide +kernel
/-- Stream 3 holds two words of one whole item and owes a loss item; session 3 receives it. -/
def tStream : State := { tRun with fifos := [(3, { words := [(5, 7), (6, 15)], recv := [3], lossPend := 2 })] }
theorem witness_streamsDelivered : (tRun.setNow 0).accepts (tM [3, 0, 0, 0]) = true ∧ (tRun.setNow 0).may 3 Perm.subscribe = true ∧
    (tRun.setNow 0).streamOk 3 3 = true ∧ tRun.cfg.wardFits 3 = true ∧ (tRun.fifo 3).recv.length < 8 ∧
    (tRun.setNow 0).lets (tM [3, 0, 0, 0]) 0x1101 Perm.subscribe = true ∧ (tStream.fifo 3).lossPend ≠ 0 ∧ (tStream.fifo 3).words.length < 2048 ∧
    (tStream.setNow 0).sweeping = true ∧ (tStream.fifo 3).recv ≠ [] ∧ (takeItems 176 [] [] (tStream.fifo 3).words).1 ≠ [] ∧
    (tStream.fifo 3).oldest + 10000000 ≤ (tStream.setNow 0).time.now ∧ (tStream.sess 3).st = 3 ∧ (tStream.sess 3).tx + 1 < 2 ^ 48 := by decide +kernel
theorem witness_streamsDelivered_spi : (tStream.setNow 0).accepts (tQ [0, 0x13, 0x2D, 0, 32, 0, 0, 0]) = true ∧
    arg (tQ [0, 0x13, 0x2D, 0, 32, 0, 0, 0]) 0 4 = 0x2D1300 ∧ inStreamData 0x2D1300 32 = true ∧ 0x2D1300 % 256 + 32 ≤ 256 := by decide +kernel
/-- Port 0 with one address in use and one being probed. -/
def tPort : State := { tRun with links := { tRun.links with eth0 := { up := true, addrs := [v4 0x0A000001, 7], detecting := [v4 0x0A000002] } } }
theorem witness_hostPorts : (tPort.setNow 0).netOn 0 = true ∧ (tPort.eth 0).addrs.contains (v4 0x0A000001) = true ∧
    (tPort.eth 0).detecting.contains (v4 0x0A000002) = true ∧ v4 0x0A000002 / 65536 ≠ 0xFFFFA9FE ∧ (tPort.eth 0).addrs.contains 7 = true ∧
    ((tPort.eth 0).echo.filter (fun x => decide ((tPort.setNow 0).time.now < x + 1000000000))).length < 20 ∧ (tPort.eth 0).polled = none ∧
    (tPort.setNow 0).running .a = true ∧ (tPort.setNow 0).spiOn = true ∧ tPort.sleep.st = 0 ∧ tPort.links.maintEn = true ∧
    tStart.links.maintEn = true ∧ State.reset.links.maintEn = false ∧ (tPort.setNow 0).accepts ⟨sSpi, 1, []⟩ = true := by decide +kernel

/-- PRP. -/
def tPrp : State := { tPort with cfg := { tCfg with img := { tCfg.img with sections := tSec Ty.network 0 (tFill [0] 88) :: tCfg.img.sections } } }
theorem witness_hostPorts_link : (tPort.eth 0).up = true ∧ (tPort.eth 1).up = false ∧ (tPort.setNow 0).running .b = true ∧
    (tPrp.setNow 0).sweeping = true ∧ tPrp.cfg.prp = true ∧ tPrp.links.supLast = none := by decide +kernel
/-- A record waits in Leaf A's queue; a snapshot is owed and begun; mark 3 belongs to session 3. -/
def tLog : State := { tRun with
  la := { tLeaf with log := { queue := [{ code := 0x0101, seq := 900 }] }, snapA := { st := 1 }, snapB := { st := 1 }, snapOwed := true, snapGo := true }
  lg := { tRun.lg with marks := [(3, { alloc := true, owner := 3 })] } }
theorem witness_recordsAndMarks : tLog.la.log.queue = [{ code := 0x0101, seq := 900 }] ∧ tLog.la.supplied = true ∧
    (tLog.setNow 0).fencedL .a = false ∧ tLog.la.log.failed = false ∧ tLog.la.writeOk = true ∧ tLog.snapOwed .a = true ∧ tLog.la.snapGo = true ∧ tLog.aon.thermal = false ∧
    (tLog.setNow 0).running .a = true ∧ (tLog.setNow 0).lets (tM [1, 0, 0, 0, 0, 0, 0, 0]) 0x0010 Perm.mark = true ∧
    (upto 16).find? (fun m => !(tLog.mark m).alloc) = some 0 ∧ (tLog.setNow 0).lets (tM [3, 1, 127, 0]) 0x0011 Perm.mark = true ∧
    (tLog.mark 3).owner = 3 ∧ (tLog.setNow 0).lets (tM [3, 1, 127, 0]) 0x0012 Perm.mark = true ∧ tLog.lg.winHeld = false := by decide +kernel
theorem witness_recordsAndMarks_more : (tRun.setNow 0).lets (tM [0, 0, 0, 0x40]) 0x0501 Perm.overlay = true ∧ arg (tM [0, 0, 0, 0x40]) 2 2 = 16384 ∧
    (tRun.setNow 0).lets (tM [0, 1, 0, 0]) 0x0801 Perm.overlay = true ∧ (tRun.nb 0 1).st ≠ 4 ∧
    refillNs (tRun.cfg.evClass 0x0101).2 ≠ 0 ∧ tRun.sw.started = true ∧ (tRun.sw.firstSample < (tRun.setNow 0).time.now) ∧
    ((tRun.setNow 0).time.now - tRun.sw.firstSample) / 10 % (refillNs (tRun.cfg.evClass 0x0101).2 / 10) = 0 ∧
    (kget {} tRun.lg.buckets 0x0101).refill < (tRun.setNow 0).time.now := by decide +kernel
/-- The read window held since 1 s; node 1 of ring 0 suspended. -/
def tWin : State := { tRun with lg := { tRun.lg with winHeld := true, winTime := 999000000000 }, bal := { tRun.bal with nodes := [(0, { st := 4 })] } }
theorem witness_recordsAndMarks_window : tWin.lg.winHeld = true ∧ tWin.lg.winTime + 1000000000 ≤ (tWin.setNow 0).time.now ∧ (tWin.nb 0 1).st = 4 := by
  decide +kernel
/-- SLEEP, every deadline of it come. -/
def tAsleep : State := { tRun with aon := { tRun.aon with dev := .sleep }, sleep := { st := 2 } }
theorem witness_sleepAndWake : (tRun.setNow 0).accepts (tM []) = true ∧ (tRun.setNow 0).may 3 Perm.restart = true ∧
    (tRun.setNow 0).sleepBlock = none ∧ (tStaged.setNow 0).accepts (tM []) = true ∧
    (({ tRun with hasp := { strs := [(0, { st := 1 })] } } : State).setNow 0).sleepBlock = some (3, St.busy) ∧
    (tRun.setNow 0).inRun = true ∧ tAsleep.sleep.hbNext ≤ (tAsleep.setNow 0).time.now ∧ tAsleep.sleep.convNext ≤ (tAsleep.setNow 0).time.now ∧
    tAsleep.sleep.blkFrom + 100000000 ≤ (tAsleep.setNow 0).time.now ∧ bit (tAsleep.cfg.n Ty.sleep 0 0x0C) 0 = true ∧
    bit (tAsleep.cfg.n Ty.sleep 0 0x0C) 2 = true ∧ tAsleep.cfg.n Ty.sleep 0 8 ≠ 0 ∧ tAsleep.thermalWake { die := [1150] } = true ∧
    tAsleep.thermalWake {} = false := by decide +kernel
theorem witness_sleepAndWake_timer : tAsleep.sleep.entryNow + 1000000000 * tAsleep.cfg.n Ty.sleep 0 8 ≤ (tAsleep.setNow 4000000000000).time.now := by
  decide +kernel
/-- The same with a wake current of 0. -/
def tLight : State := { tAsleep with cfg := { tCfg with img := { tCfg.img with sections := tSec Ty.sleep 0 (tFill [0, 0, 0, 0, 0, 0, 0, 0] 16) :: tCfg.img.sections } } }
theorem witness_sleepAndWake_block : ∃ v, tLight.blockValue 0 [8388607] = some v ∧ tLight.cfg.n Ty.sleep 0 4 < v.natAbs :=
  ⟨_, rfl, by decide +kernel⟩
/-- One rule: drop every frame at end A of ring 0. -/
def tRule : List Nat := [0, 2, 0, 0, 255, 255, 0, 0, 1, 0, 0, 0, 0, 0, 0, 0, 0, 0, 0, 0, 0, 0, 0, 0, 0, 0, 0, 0, 0, 0, 0, 0]
/-- It is armed since 100 s, a frame is held. -/
def tArmed : State := { tRun with pick := { armed := true, owner := 3, count := 1, tArm := 100, armNow := 900000000000,
                                            rules := armRules (tB ([100, 0, 1, 0] ++ tRule)),
                                            held := [{ tx := some (.net 0 4 0) }, { rx := some (.broadcastReturned 5 0 .a) }] } }
theorem witness_pickAltersTraffic : (tRun.setNow 0).accepts (tM ([100, 0, 1, 0] ++ tRule)) = true ∧ (tRun.setNow 0).may 3 Perm.pick = true ∧
    (tM ([100, 0, 1, 0] ++ tRule)).args.length = 36 ∧ tRun.pick.armed = false ∧ (tRun.setNow 0).inRun = true ∧ tRun.kn.arb = 0 ∧
    (tRun.setNow 0).pickDenied (armRules (tM ([100, 0, 1, 0] ++ tRule)).args) = 0 ∧
    (armRules (tM ([100, 0, 1, 0] ++ tRule)).args).all (fun r => r.inRange && !(tRun.setNow 0).silentLive r && r.fld 2 1 != 2) = true ∧
    100 ≤ tRun.cfg.n Ty.pick 0 6 ∧ (tArmed.setNow 0).lets (tM []) 0x1302 Perm.pick = true := by decide +kernel
theorem witness_pickAltersTraffic_armed : tArmed.pick.armNow + 1000000000 * tArmed.pick.tArm ≤ (tArmed.setNow 0).time.now ∧
    ((tArmed.setNow 0).pickJudge { target := 0, e := 0, dir := 1, kindBit := 0x0A, kind := 0x0A, pos := 0, seq := 0 }).2 = .drop ∧
    tArmed.pick.held[0]? = some { tx := some (.net 0 4 0) } ∧ tArmed.pick.held[1]? = some { rx := some (.broadcastReturned 5 0 .a) } ∧
    tArmed.cfg.ringOn 0 = true ∧ (tArmed.setNow 0).portOn .a = true := by decide +kernel

end Sys2Proof.Machine
end

namespace Sys2Proof.Machine

/-! ### What every command answers (00_scope.md, R4) -/

/-- SUPPLIES_VALID answers through `atPower`: it can clear the thermal latch (R58, R417). -/
theorem exec_suppliesValid_eq_atPower (t : Nat) (ra rb : Bool) (te : Option (List TckEdge)) (ab : Option Nat) (s : State) :
    ∃ f, exec (.suppliesValid t ra rb te ab) s = atPower t f s := by
  change ∃ f, execSuppliesValid t ra rb te ab s = atPower t f s
  exact ⟨_, rfl⟩

/-- POR answers through `atPower`: it can clear the thermal latch (R58, R417). -/
theorem exec_por_eq_atPower (t : Nat) (s : State) : ∃ f, exec (.por t) s = atPower t f s := by
  change ∃ f, execPor t s = atPower t f s
  exact ⟨_, rfl⟩

/-- Every command answers the settled state of its effect, but for the two of supply, which answer through `atPower`. -/
theorem exec_cases (c : Instr) (s : State) :
    (∃ n, exec c s = .next (settle s n)) ∨
    (((∃ t ra rb te ab, c = .suppliesValid t ra rb te ab) ∨ ∃ t, c = .por t) ∧ ∃ t f, exec c s = atPower t f s) := by
  cases c with
  | suppliesValid t ra rb te ab => exact .inr ⟨.inl ⟨t, ra, rb, te, ab, rfl⟩, t, exec_suppliesValid_eq_atPower t ra rb te ab s⟩
  | por t => exact .inr ⟨.inr ⟨t, rfl⟩, t, exec_por_eq_atPower t s⟩
  | _ => exact .inl ⟨_, rfl⟩

/-- The answer of the commands of supply keeps the queue and takes the later CLK_TB count, as every settled state does: setting
the thermal latch again and the balls after it touch neither. -/
theorem atPower_keeps_queue_and_clock (t : Nat) (f : State → State) (s : State) :
    ∃ n, atPower t f s = .next n ∧ n.pending = s.pending ∧ n.time.now = max s.time.now (f (s.setNow t)).time.now :=
  ⟨_, rfl, settle_pending s (f (s.setNow t)), settle_now s (f (s.setNow t))⟩

/-- Settles O3: whatever the effect of a command, settling it gives back the queue and takes the later of the two CLK_TB
counts. -/
theorem everyCommandCompletes : Obligations.EveryCommandCompletes := by
  unfold Obligations.EveryCommandCompletes
  intro c s
  obtain ⟨n, hn⟩ | ⟨-, t, f, hf⟩ := exec_cases c s
  · refine ⟨settle s n, hn, settle_pending s n, ?_⟩
    rw [settle_now]
    exact le_max_left _ _
  · obtain ⟨n, hn, hq, hnow⟩ := atPower_keeps_queue_and_clock t f s
    exact ⟨n, hf.trans hn, hq, hnow ▸ le_max_left _ _⟩

end Sys2Proof.Machine

namespace Sys2Proof.Machine

/-! ### The balls after every command (R40, R750) -/

/-- Setting the balls makes READY and FAULT_N follow the state. -/
theorem pins_ballsFollow (s : State) : s.pins.ballsFollow = true := by
  have htrip : s.pins.tripActive = s.tripActive := rfl
  simp only [State.ballsFollow, htrip]
  simp [State.pins]

/-- Every command leaves READY and FAULT_N following the state: each ends as the balls are set. -/
theorem exec_ballsFollow {c : Instr} {s n : State} (h : exec c s = .next n) : n.ballsFollow = true := by
  obtain ⟨m, hm⟩ | ⟨-, t, f, hf⟩ := exec_cases c s
  · obtain rfl : settle s m = n := Host.Outcome.next.inj (hm.symm.trans h)
    exact pins_ballsFollow _
  · obtain rfl := Host.Outcome.next.inj (hf.symm.trans h)
    exact pins_ballsFollow _

/-- Settles O10: an empty queue leaves the state; otherwise the command at the front ends as the balls are set, keeps the rest of
the queue and does not run CLK_TB back. -/
theorem stepKeepsBalls : Obligations.StepKeepsBalls := by
  unfold Obligations.StepKeepsBalls
  intro s n hballs hstep
  unfold step at hstep
  split at hstep
  · obtain rfl := Host.Outcome.next.inj hstep
    exact ⟨hballs, .inl rfl, le_refl _⟩
  next c rest hpending =>
    obtain ⟨m, hm, hqueue, hclock⟩ := everyCommandCompletes c { s with pending := rest }
    obtain rfl := Host.Outcome.next.inj (hm.symm.trans hstep)
    exact ⟨exec_ballsFollow hm, .inr ⟨c, by rw [hqueue, hpending]⟩, hclock⟩

/-- Settles O5: FAULT_N follows the state after every command, whose other conjunct READY is not needed here. -/
theorem faultNFollowsState : Obligations.FaultNFollowsState := by
  unfold Obligations.FaultNFollowsState
  intro c s n h
  have hballs := exec_ballsFollow h
  simp only [State.ballsFollow, Bool.and_eq_true, beq_iff_eq] at hballs
  simp [hballs.2]

/-- Settles O7: settling a command sets a thermal latch again that was set before it; only the two commands of supply answer
otherwise. -/
theorem thermalLatchHolds : Obligations.ThermalLatchHolds := by
  unfold Obligations.ThermalLatchHolds
  intro c s n hsupplies hpor h hthermal
  obtain ⟨m, hm⟩ | ⟨⟨t, ra, rb, te, ab, hc⟩ | ⟨t, hc⟩, -⟩ := exec_cases c s
  · obtain rfl := Host.Outcome.next.inj (hm.symm.trans h)
    rw [settle_thermal, hthermal, Bool.true_or]
  · exact absurd hc (hsupplies t ra rb te ab)
  · exact absurd hc (hpor t)

/-- Settles O8: the fields of the reset state as the model writes them. -/
theorem resetState : Obligations.ResetState := by
  unfold Obligations.ResetState
  refine ⟨?_, ?_, ?_, ?_, ?_, ?_, ?_, ?_, ?_, ?_, ?_, ?_, ?_, ?_, ?_, ?_⟩ <;> rfl

/-- Settles O9: at reset no ball is driven, no trip is active and both staging stores are empty. -/
theorem invariantAtReset : Obligations.InvariantAtReset := by
  unfold Obligations.InvariantAtReset
  exact ⟨by decide, by decide⟩

end Sys2Proof.Machine

namespace Sys2Proof.Machine

/-! ### Frames of one update -/

/-- A command at an instant answers the settled state of its effect. -/
theorem at'_eq {t : Nat} {f : State → State} {s m : State} (h : f (s.setNow t) = m) : at' t f s = .next (settle s m) := by
  rw [at', h]

/-- What only logs stays within any parts that hold the log and the FIFOs. -/
theorem Logs.frame_of_mem {ps : List Part} {s n : State} (h : Logs s n) (hlog : .log ∈ ps) (hfifos : .fifos ∈ ps) : Frame ps s n :=
  h.frame.mono (by simp [hlog, hfifos])

theorem Frame.aon (s : State) (x : Aon) : Frame [.aon] s { s with aon := x } := by
  rintro ⟨⟩ hp <;> simp [Part.same] at hp ⊢

theorem Frame.time (s : State) (x : TimeU) : Frame [.time] s { s with time := x } := by
  rintro ⟨⟩ hp <;> simp [Part.same] at hp ⊢

theorem Frame.draw (s : State) : Frame [.free] s s.draw := by
  rintro ⟨⟩ hp <;> simp [Part.same] at hp ⊢

/-- A leaf's record changes but for its queue of event records. -/
theorem Frame.setLeaf (s : State) (l : Leaf) (x : LeafRec) (hq : x.log.queue = (s.leaf l).log.queue) :
    Frame [.leafA, .leafB] s (s.setLeaf l x) := by
  cases l <;> rintro ⟨⟩ hp <;> simp_all [Part.same, State.setLeaf]

end Sys2Proof.Machine

namespace Sys2Proof.Machine

/-! ### Device time (R4, R38) -/

/-- The CLK_TB count with its offset has neither run below zero nor past the 64 bits of device time. -/
def State.timeInRange (s : State) : Prop := 0 ≤ (s.time.now : Int) + s.time.base ∧ (s.time.now : Int) + s.time.base < 2 ^ 64

theorem devTime_of_inRange {s : State} (h : s.timeInRange) : (s.devTime : Int) = s.time.now + s.time.base := by
  obtain ⟨h0, h64⟩ := h
  unfold State.devTime
  omega

theorem devTime_congr {s n : State} (hnow : n.time.now = s.time.now) (hbase : n.time.base = s.time.base) : n.devTime = s.devTime := by
  simp only [State.devTime, hnow, hbase]

theorem le_setNow_now (s : State) (t : Nat) : s.time.now ≤ (s.setNow t).time.now := le_max_left _ _

/-- Settling a state that has not fallen behind leaves its device time. -/
theorem settle_devTime {o n : State} (h : o.time.now ≤ n.time.now) : (settle o n).devTime = n.devTime :=
  devTime_congr (by rw [settle_now, max_eq_right h]) (settle_time_base o n)

@[simp] theorem taken_devTime (s : State) (q : HReq) (kind op : Nat) : (s.taken q kind op).devTime = s.devTime :=
  devTime_congr (by rw [taken_time]) (by rw [taken_time])

@[simp] theorem answer_devTime (s : State) (k tag status : Nat) (body : List Byte) : (s.answer k tag status body).devTime = s.devTime :=
  devTime_congr (by rw [answer_time]) (by rw [answer_time])

/-! The step and the slew (R38) -/

/-- A step moves the offset by its amount and records it; of the time unit nothing else changes. -/
theorem timeStep_time (s : State) (d : Int) : ∃ x, (s.timeStep d).time = { s.time with base := s.time.base + d, lastStep := d, stepTime := x } := by
  unfold State.timeStep
  exact ⟨_, evA_time _ _ _ _⟩

@[simp] theorem timeStep_links (s : State) (d : Int) : (s.timeStep d).links = s.links := evA_links _ _ _ _

/-- A step within the range moves device time by its amount. -/
theorem timeStep_devTime {s : State} {d : Int} (h : s.timeInRange) (h0 : 0 ≤ s.devTime + d) (h64 : s.devTime + d < 2 ^ 64) :
    ((s.timeStep d).devTime : Int) = s.devTime + d := by
  obtain ⟨x, hx⟩ := timeStep_time s d
  have hdev := devTime_of_inRange h
  have hstep : (s.timeStep d).time.now + (s.timeStep d).time.base = s.time.now + s.time.base + d := by
    rw [hx]
    exact (add_assoc _ _ _).symm
  rw [devTime_of_inRange (by constructor <;> omega), hstep, hdev]

theorem timeStep_frame (s : State) (d : Int) : Frame [.time, .estim, .log, .fifos] s (s.timeStep d) := by
  unfold State.timeStep
  refine Frame.trans ?_ ((Logs.evA _ _ _ _).frame_of_mem (by decide) (by decide))
  rintro ⟨⟩ hp <;> simp [Part.same] at hp ⊢

/-- A slew moves the offset towards the reference by no more than the difference. -/
theorem timeSlew_time (s : State) (d : Int) : ∃ e, (s.timeSlew d).time = { s.time with base := s.time.base + e } ∧
    (0 ≤ e ∧ e ≤ d ∨ d ≤ e ∧ e ≤ 0) := by
  refine ⟨_, rfl, ?_⟩
  split <;> omega

@[simp] theorem timeSlew_links (s : State) (d : Int) : (s.timeSlew d).links = s.links := rfl

/-- A slew towards a reference within the range moves device time by no more than the difference. -/
theorem timeSlew_devTime {s : State} {d : Int} (h : s.timeInRange) (h0 : 0 ≤ s.devTime + d) (h64 : s.devTime + d < 2 ^ 64) :
    (((s.timeSlew d).devTime : Int) - s.devTime).natAbs ≤ d.natAbs := by
  obtain ⟨e, he, hbound⟩ := timeSlew_time s d
  have hdev := devTime_of_inRange h
  have hslew : (s.timeSlew d).time.now + (s.timeSlew d).time.base = s.time.now + s.time.base + e := by
    rw [he]
    exact (add_assoc _ _ _).symm
  have hlow := h.1
  have hhigh := h.2
  rw [devTime_of_inRange (by constructor <;> omega), hslew]
  omega

theorem timeSlew_frame (s : State) (d : Int) : Frame [.time, .free] s (s.timeSlew d) := by
  unfold State.timeSlew
  rintro ⟨⟩ hp <;> simp [Part.same] at hp ⊢

/-! ### Commands of a host -/

@[simp] theorem taken_following (s : State) (q : HReq) (kind op : Nat) : (s.taken q kind op).following = s.following := by
  simp only [State.following, taken_time]

@[simp] theorem taken_may (s : State) (q : HReq) (kind op k p : Nat) : (s.taken q kind op).may k p = s.may k p := by
  simp only [State.may, State.perms, taken_cfg]

theorem lets_accepts {s : State} {q : HReq} {op p : Nat} (h : s.lets q op p = true) : s.accepts q = true := by
  simp only [State.lets, State.opens, Bool.and_eq_true] at h
  exact h.1.1

/-- A command that its permission and the UNKEYED list let through is answered by its own rule. -/
theorem cmd_let {s : State} {q : HReq} {op p : Nat} {lenOk : Nat → Bool} {h : State → HR} {n : State} {st : Nat} {body : List Byte}
    (hlets : s.lets q op p = true) (hl : lenOk q.args.length = true) (hh : h (s.taken q 3 op) = (n, some (st, body))) :
    s.cmd q op (fun s => s.may q.sess p) lenOk h = n.answer q.sess q.tag st body := by
  simp only [State.lets, Bool.and_eq_true] at hlets
  exact cmd_now hlets.1 ((taken_may ..).trans hlets.2) hl hh

/-! ### TIME_SET and PPS (R598) -/

/-- From a device time to the one with other seconds and the same fraction. -/
def secondsAway (sec now : Nat) : Int := ((sec * 1000000000 + now % 1000000000 : Nat) : Int) - now

/-- The time is set, by a host. -/
def State.hostTime (s : State) : State := { s with time := { s.time with locked := true, source := 3 } }

theorem hostTime_frame (s : State) : Frame [.time] s s.hostTime := Frame.time s _

/-- TIME_SET sets the seconds by a step where nothing has set the time yet; later it slews device time towards them. -/
theorem timeSet_eq {s : State} {sec : Nat} (hm : (s.cfg.ptpOn && s.following) = false) (hb : sec * 1000000000 + 999999999 < 2 ^ 64) :
    s.timeSet sec = (if s.time.locked then s.hostTime.timeSlew (secondsAway sec s.devTime)
      else s.hostTime.timeStep (secondsAway sec s.devTime)).ansOk [] := by
  unfold State.timeSet
  rw [if_neg (by simp [hm]), if_neg (by omega)]
  cases s.time.locked <;> rfl

theorem timeSet_bounds {s : State} {sec : Nat} (hm : (s.cfg.ptpOn && s.following) = false) (hb : 2 ^ 64 ≤ sec * 1000000000 + 999999999) :
    s.timeSet sec = s.ans St.bounds := by
  unfold State.timeSet
  rw [if_neg (by simp [hm]), if_pos (by omega)]

/-- What an effective TIME_SET leaves: the time locked to the host, the links and CLK_TB as they were, and device time with the
seconds set by a step, or moved towards them. -/
theorem timeSet_sets {s : State} {sec : Nat} (hm : (s.cfg.ptpOn && s.following) = false) (hb : sec * 1000000000 + 999999999 < 2 ^ 64)
    (hr : s.timeInRange) :
    ∃ m, s.timeSet sec = (m, some (St.ok, [])) ∧ m.links = s.links ∧ m.time.now = s.time.now ∧ m.time.locked = true ∧ m.time.source = 3 ∧
      Frame [.time, .estim, .log, .fifos, .free] s m ∧
      (s.time.locked = false → m.devTime / 1000000000 = sec ∧ m.devTime % 1000000000 = s.devTime % 1000000000 ∧
        m.time.lastStep = (m.devTime : Int) - s.devTime) ∧
      (s.time.locked = true → ((m.devTime : Int) - s.devTime).natAbs ≤ (secondsAway sec s.devTime).natAbs) := by
  have hr' : s.hostTime.timeInRange := hr
  have hd : s.hostTime.devTime = s.devTime := rfl
  have h0 : 0 ≤ (s.hostTime.devTime : Int) + secondsAway sec s.devTime := by rw [hd, secondsAway]; omega
  have h64 : (s.hostTime.devTime : Int) + secondsAway sec s.devTime < 2 ^ 64 := by rw [hd, secondsAway]; omega
  refine ⟨_, timeSet_eq hm hb, ?_⟩
  cases s.time.locked <;> simp only [Bool.false_eq_true, if_false, if_true]
  case false =>
    obtain ⟨x, hx⟩ := timeStep_time s.hostTime (secondsAway sec s.devTime)
    have hnew := timeStep_devTime hr' h0 h64
    refine ⟨timeStep_links _ _, by rw [hx]; rfl, by rw [hx]; rfl, by rw [hx]; rfl,
      ((hostTime_frame s).mono (by decide)).trans ((timeStep_frame _ _).mono (by decide)), fun _ => ?_, nofun⟩
    rw [hx]
    simp only [secondsAway, hd] at hnew ⊢
    omega
  case true =>
    obtain ⟨e, he, -⟩ := timeSlew_time s.hostTime (secondsAway sec s.devTime)
    exact ⟨timeSlew_links _ _, by rw [he]; rfl, by rw [he]; rfl, by rw [he]; rfl,
      ((hostTime_frame s).mono (by decide)).trans ((timeSlew_frame _ _).mono (by decide)), nofun,
      fun _ => timeSlew_devTime hr' h0 h64⟩

end Sys2Proof.Machine

namespace Sys2Proof.Machine

/-- What taking and answering a request add to a frame. -/
theorem answered_frame {ps : List Part} {s m : State} {q : HReq} {kind op st : Nat} {body : List Byte} (h : Frame ps (s.taken q kind op) m) :
    Frame (hostParts ++ ps) s (m.answer q.sess q.tag st body) := by
  have htaken := (taken_frame s q kind op).mono (qs := hostParts ++ ps) (fun p hp => List.mem_append_left _ (by revert p; decide))
  have hanswer := (answer_frame m q.sess q.tag st body).mono (qs := hostParts ++ ps) (fun p hp => List.mem_append_left _ (by revert p; decide))
  exact htaken.trans ((h.mono (fun p hp => List.mem_append_right _ hp)).trans hanswer)

/-- TIME_SET that is let through is answered by its rule. -/
theorem exec_timeSet_let {t : Nat} {q : HReq} {s m : State} {st : Nat} (hlets : (s.setNow t).lets q 0x0002 Perm.time = true)
    (hlen : q.args.length = 8) (hm : ((s.setNow t).taken q 3 0x0002).timeSet (arg q 0 8) = (m, some (st, []))) :
    exec (.timeSet t q) s = .next (settle s (m.answer q.sess q.tag st [])) := by
  change execTimeSet t q s = _
  unfold execTimeSet
  refine at'_eq ?_
  exact cmd_let hlets (by simp [hlen]) hm

/-- The nearest whole second lies half a second away at most, and a move by it reaches it. -/
theorem toSecond_bounds (x : Nat) : (toSecond x).natAbs ≤ 500000000 ∧ 0 ≤ (x : Int) + toSecond x ∧ ((x : Int) + toSecond x) % 1000000000 = 0 := by
  unfold toSecond
  dsimp only
  split <;> omega

/-- The rate and the phase of CLK_TB come from PPS_IN. -/
def State.ppsTime (s : State) : State := { s with time := { s.time with source := 2 } }

/-- The edge of PPS_IN where it disciplines the device: the first edge of a time that nothing has set steps device time to the whole
second, any other slews it there. -/
theorem exec_ppsInEdge_eq {t : Nat} {s : State} (hup : (s.setNow t).up = true) (hptp : s.cfg.ptpOn = false) :
    exec (.ppsInEdge t) s = .next (settle s
      (if !s.time.locked && s.time.source != 2 then (s.setNow t).ppsTime.timeStep (toSecond (s.setNow t).devTime)
      else if toSecond (s.setNow t).devTime = 0 then (s.setNow t).ppsTime
      else (s.setNow t).ppsTime.timeSlew (toSecond (s.setNow t).devTime))) := by
  change execPpsInEdge t s = _
  unfold execPpsInEdge
  refine at'_eq ?_
  exact if_neg (by simp [hup, hptp])

/-- What an edge of PPS_IN leaves of device time. -/
theorem ppsInEdge_effect {t : Nat} {s : State} (hup : (s.setNow t).up = true) (hptp : s.cfg.ptpOn = false)
    (h0 : 0 ≤ ((s.setNow t).time.now : Int) + s.time.base) (h64 : ((s.setNow t).time.now : Int) + s.time.base + 500000000 < 2 ^ 64) :
    ∃ n, exec (.ppsInEdge t) s = .next n ∧ n.time.source = 2 ∧ n.time.locked = s.time.locked ∧
      (s.time.locked = false → s.time.source ≠ 2 → n.devTime % 1000000000 = 0) ∧
      ((n.devTime : Int) - (s.setNow t).devTime).natAbs ≤ 500000000 ∧ Frame [.time, .estim, .log, .fifos, .free] s n := by
  refine ⟨_, exec_ppsInEdge_eq hup hptp, ?_⟩
  obtain ⟨u, hu⟩ : ∃ u : State, u = (s.setNow t).ppsTime := ⟨_, rfl⟩
  have hnow : s.time.now ≤ u.time.now := hu ▸ le_setNow_now s t
  have hlocked : u.time.locked = s.time.locked := by rw [hu]; rfl
  have hsource : u.time.source = 2 := by rw [hu]; rfl
  have hframe : Frame [.time, .estim, .log, .fifos, .free] (s.setNow t) u := hu ▸ (Frame.time _ _).mono (by decide)
  have hdev : u.devTime = (s.setNow t).devTime := by rw [hu]; rfl
  have hr : u.timeInRange := by rw [hu]; exact ⟨h0, lt_of_le_of_lt (le_add_of_nonneg_right (by decide)) h64⟩
  have hmax : (u.devTime : Int) + 500000000 < 2 ^ 64 := by rw [devTime_of_inRange hr, hu]; exact h64
  obtain ⟨habs, hnn, hwhole⟩ := toSecond_bounds u.devTime
  have hlt : (u.devTime : Int) + toSecond u.devTime < 2 ^ 64 := by omega
  rw [← hu, ← hdev]
  split
  case isTrue =>
    obtain ⟨x, hx⟩ := timeStep_time u (toSecond u.devTime)
    have hstep := timeStep_devTime hr hnn hlt
    have hsettled : (settle s (u.timeStep (toSecond u.devTime))).devTime = (u.timeStep (toSecond u.devTime)).devTime :=
      settle_devTime (by rw [hx]; exact hnow)
    refine ⟨by rw [settle_time_source, hx]; exact hsource, by rw [settle_time_locked, hx]; exact hlocked, fun _ _ => ?_, ?_,
      (hframe.trans ((timeStep_frame _ _).mono (by decide))).settle⟩ <;> omega
  case isFalse hfirst =>
    have hnot : s.time.locked = false → s.time.source ≠ 2 → False := fun hl hs => hfirst (by simp [hl, hs])
    split
    case isTrue =>
      exact ⟨hsource, hlocked, fun hl hs => (hnot hl hs).elim, by rw [settle_devTime hnow]; omega, hframe.settle⟩
    case isFalse =>
      obtain ⟨e, he, -⟩ := timeSlew_time u (toSecond u.devTime)
      have hslew := timeSlew_devTime hr hnn hlt
      have hsettled : (settle s (u.timeSlew (toSecond u.devTime))).devTime = (u.timeSlew (toSecond u.devTime)).devTime :=
        settle_devTime (by rw [he]; exact hnow)
      exact ⟨by rw [settle_time_source, he]; exact hsource, by rw [settle_time_locked, he]; exact hlocked, fun hl hs => (hnot hl hs).elim,
        by omega, (hframe.trans ((timeSlew_frame _ _).mono (by decide))).settle⟩

/-- PPS_OUT at an instant of a supplied device: it rises at a whole second and falls 100 ms later, and nothing else changes. -/
theorem exec_ppsOutSecond_eq {t : Nat} {s : State} (rise : Bool) (hdev : s.aon.dev ≠ .off) (hsup : (s.la.supplied || s.lb.supplied) = true) :
    exec (.ppsOutSecond t rise) s = .next (settle s
      (if rise then
        (if (s.setNow t).devTime % 1000000000 = 0 then
          ({ s.setNow t with time := { (s.setNow t).time with
            ppsOut := true, ppsLast := (s.setNow t).time.now, ppsEdges := s.time.ppsEdges + 1 } } : State) else s.setNow t)
      else if s.time.ppsOut ∧ s.time.ppsLast + 100000000 ≤ (s.setNow t).time.now then
        ({ s.setNow t with time := { (s.setNow t).time with ppsOut := false } } : State) else s.setNow t)) := by
  change execPpsOutSecond t rise s = _
  unfold execPpsOutSecond
  refine at'_eq ?_
  exact if_neg (by simp only [setNow_aon, setNow_la, setNow_lb, hdev, hsup]; decide)

/-- Settles O32: TIME_SET by its rule (the step, the slew, BOUNDS), the edge of PPS_IN by the step or the slew to the whole second,
PPS_OUT by its two edges. -/
theorem timeSetAndPps : Obligations.TimeSetAndPps := by
  unfold Obligations.TimeSetAndPps
  intro t q s
  refine ⟨fun hlets hlen hmaster h0 hsec h64 => ?_, fun hlets hlen hmaster hsec => ?_, fun hup hptp h0 h64 => ppsInEdge_effect hup hptp h0 h64,
    fun hdev hsup => ⟨fun hwhole => ?_, fun hout hfall => ?_⟩⟩
  · obtain ⟨m, hm, hlinks, hnow, hlocked, hsource, hframe, hfirst, hlater⟩ :=
      timeSet_sets (s := (s.setNow t).taken q 3 0x0002) (sec := arg q 0 8) (by rw [taken_cfg, taken_following]; exact hmaster) hsec
        (by rw [State.timeInRange, taken_time]; exact ⟨h0, h64⟩)
    rw [taken_time] at hnow hfirst hlater
    rw [taken_devTime] at hfirst hlater
    have hdev : (settle s (m.answer q.sess q.tag St.ok [])).devTime = m.devTime := by
      rw [settle_devTime (by rw [answer_time, hnow]; exact le_setNow_now s t), answer_devTime]
    refine ⟨_, exec_timeSet_let hlets hlen hm, by simpa using hlocked, by simpa using hsource,
      settle_answered (taken_answered _ _ (lets_accepts hlets) hlinks hnow), fun hl => ?_, fun hl => ?_, (answered_frame hframe).settle⟩
    · rw [hdev, settle_time_lastStep, answer_time]
      exact hfirst hl
    · rw [hdev]
      exact hlater hl
  · have hrule := timeSet_bounds (s := (s.setNow t).taken q 3 0x0002) (by rw [taken_cfg, taken_following]; exact hmaster) hsec
    exact ⟨_, exec_timeSet_let hlets hlen hrule, settle_answered (taken_answered _ _ (lets_accepts hlets) rfl (by rw [taken_time])),
      (answered_frame (Frame.refl [] _)).settle⟩
  · refine ⟨_, exec_ppsOutSecond_eq true hdev hsup, ?_⟩
    rw [if_pos rfl, if_pos hwhole]
    exact ⟨rfl, rfl, rfl, settle_devTime (le_setNow_now s t), (Frame.time _ _).settle⟩
  · refine ⟨_, exec_ppsOutSecond_eq false hdev hsup, ?_⟩
    rw [if_neg Bool.false_ne_true, if_pos ⟨hout, hfall⟩]
    exact ⟨rfl, rfl, settle_devTime (le_setNow_now s t), (Frame.time _ _).settle⟩

end Sys2Proof.Machine

namespace Sys2Proof.Machine

/-! ### IEEE 1588 (R596, R597) -/

/-- The leaf of a port. -/
def ptpLeaf (m : PtpMsg) : Leaf := if m.port = 0 then .a else .b

/-- A message that the device heeds: it is up, the port's leaf is alive, IEEE 1588 is enabled, the domain is the configured one. -/
def State.heeds (s : State) (m : PtpMsg) : Prop :=
  s.up = true ∧ m.port ≤ 1 ∧ s.alive (ptpLeaf m) = true ∧ s.cfg.ptpOn = true ∧ m.domain = s.cfg.n Ty.network 0 4

theorem alive_of_running {s : State} {l : Leaf} (h : s.running l = true) : s.alive l = true := by
  simp only [State.running, Bool.and_eq_true, beq_iff_eq] at h
  obtain ⟨⟨hsup, hst⟩, htest⟩ := h
  simp only [State.alive, State.fenceLine, hsup, hst, htest]
  rfl

/-- The master heard on a port is judged anew. -/
def State.hears (s : State) (m : PtpMsg) : State :=
  { s with time := if m.port = 0 then { s.time with heard0 := betterMaster s.time.heard0 m.clockId m.rank }
                   else { s.time with heard1 := betterMaster s.time.heard1 m.clockId m.rank } }

/-- A Sync of the followed master restarts its timeout. -/
def State.synced (s : State) : State := { s with time := { s.time with lastSync := s.time.now, lostLogged := false } }

/-- A heeded message: an Announce is judged, the followed master's Sync restarts its timeout, its complete measurement counts. -/
theorem exec_ptpSyncMessage_heeded {t : Nat} {m : PtpMsg} {s : State} (h : (s.setNow t).heeds m) :
    exec (.ptpSyncMessage t m) s = .next (settle s
      (if m.kind = 0 then ((s.setNow t).hears m).follow
      else match s.time.master with
        | some (p, id, _) =>
          if p ≠ m.port ∨ id ≠ m.clockId then s.setNow t
          else
            if m.complete then (if m.kind = 1 then (s.setNow t).synced else s.setNow t).ptpMeasure m.offset m.time
            else if m.kind = 1 then (s.setNow t).synced else s.setNow t
        | none => s.setNow t)) := by
  obtain ⟨hup, hport, halive, hptp, hdom⟩ := h
  change execPtpSyncMessage t m s = _
  unfold execPtpSyncMessage
  refine at'_eq ?_
  refine Eq.trans (if_neg ?_) ?_
  · rw [ptpLeaf] at halive
    rw [setNow_cfg] at hptp hdom
    simp [hup, hport, halive, hptp, hdom]
  · rfl

/-- A heeded message of the master followed. -/
theorem exec_ptpSyncMessage_followed {t : Nat} {m : PtpMsg} {s : State} {r : Nat} (h : (s.setNow t).heeds m) (hkind : m.kind ≠ 0)
    (hmaster : s.time.master = some (m.port, m.clockId, r)) :
    exec (.ptpSyncMessage t m) s = .next (settle s
      (if m.complete then (if m.kind = 1 then (s.setNow t).synced else s.setNow t).ptpMeasure m.offset m.time
        else if m.kind = 1 then (s.setNow t).synced else s.setNow t)) := by
  rw [exec_ptpSyncMessage_heeded h, if_neg hkind, hmaster]
  dsimp only
  rw [if_neg (by simp)]

/-- Choosing the master to follow leaves what the ports have heard and the offset of device time. -/
theorem follow_time (s : State) : s.follow.time.heard0 = s.time.heard0 ∧ s.follow.time.heard1 = s.time.heard1 ∧ s.follow.time.base = s.time.base := by
  unfold State.follow
  split
  · exact ⟨rfl, rfl, rfl⟩
  · dsimp only
    repeat' split
    all_goals simp

theorem follow_frame (s : State) : Frame [.time, .log, .fifos] s s.follow := by
  have hset : ∀ x, Frame [.time, .log, .fifos] s { s with time := x } := fun x => (Frame.time s x).mono (by decide)
  unfold State.follow
  split
  · exact Frame.refl _ s
  · refine Frame.ite _ (hset _) (Frame.ite _ (Frame.trans ?_ ((Logs.evA _ _ _ _).frame_of_mem (by decide) (by decide))) (hset _))
    exact hset _

theorem hears_frame (s : State) (m : PtpMsg) : Frame [.time] s (s.hears m) := Frame.time s _

/-- The measurement that makes 16 good in a row, before the first lock, locks device time and steps it to the reference. -/
theorem ptpMeasure_locks {s : State} {off : Int} {ref : Nat} (hoff : off.natAbs ≤ 1000) (hgood : 15 ≤ s.time.ptpGood)
    (hl : s.time.locked = false) (hr : s.timeInRange) (href : ref < 2 ^ 64) :
    (s.ptpMeasure off ref).time.locked = true ∧ (s.ptpMeasure off ref).time.source = 1 ∧ (s.ptpMeasure off ref).time.now = s.time.now ∧
      (s.ptpMeasure off ref).devTime = ref ∧ (s.ptpMeasure off ref).time.ptpOffset = off ∧
      Frame [.time, .estim, .log, .fifos] s (s.ptpMeasure off ref) := by
  obtain ⟨u, hu⟩ : ∃ u : State, u = { s with time := { s.time with
      ptpOffset := off, ptpGood := min (s.time.ptpGood + 1) 16, locked := true, source := 1 } } := ⟨_, rfl⟩
  have hmeasure : s.ptpMeasure off ref = u.timeStep ((ref : Int) - u.devTime) := by
    unfold State.ptpMeasure
    dsimp only
    rw [if_pos hoff, hl, if_neg Bool.false_ne_true, if_pos (by omega), hu]
    rfl
  have hframe : Frame [.time] s u := hu ▸ Frame.time s _
  have hur : u.timeInRange := by rw [hu]; exact hr
  have hdev := timeStep_devTime (d := (ref : Int) - u.devTime) hur (by omega) (by omega)
  obtain ⟨x, hx⟩ := timeStep_time u ((ref : Int) - u.devTime)
  rw [hmeasure]
  refine ⟨?_, ?_, ?_, by omega, ?_, (hframe.mono (by decide)).trans (timeStep_frame _ _)⟩
  all_goals rw [hx, hu]

/-- The master followed is lost: it is heard no more on its port, and its measurements count from the beginning. -/
def State.masterLost (s : State) : State :=
  { s with time := if s.time.ptpPort = 0 then { s.time with lostLogged := true, ptpGood := 0, heard0 := none }
                   else { s.time with lostLogged := true, ptpGood := 0, heard1 := none } }

theorem exec_ptpMasterLost_eq {t : Nat} {s : State} (hup : (s.setNow t).up = true) (hf : s.following = true)
    (hsilent : s.time.lastSync + 10000000000 ≤ (s.setNow t).time.now) :
    exec (.ptpMasterLost t) s = .next (settle s ((s.setNow t).masterLost.evA Ev.ptpMasterLost srcD [p1 s.time.ptpPort])) := by
  change execPtpMasterLost t s = _
  unfold execPtpMasterLost
  refine at'_eq ?_
  have hf' : (s.setNow t).following = true := hf
  have hlast : (s.setNow t).time.lastSync = s.time.lastSync := rfl
  refine Eq.trans (if_pos ?_) ?_
  · rw [hup, hf', hlast, decide_eq_true hsilent]
    rfl
  · rfl

/-- Settles O33: an Announce by what following leaves of the time, a Sync by its timeout, the sixteenth good measurement by the
step to the reference, the silence by the loss of the master. -/
theorem ptpDisciplines : Obligations.PtpDisciplines := by
  unfold Obligations.PtpDisciplines
  intro t m s hup hptp
  refine ⟨fun hport hrun hdom => ?_, fun hf hsilent => ?_⟩
  · have hheeds : (s.setNow t).heeds m := ⟨hup, hport, alive_of_running hrun, hptp, hdom⟩
    refine ⟨fun hkind => ?_, fun r hmaster hkind hpart => ?_, fun r hmaster hkind hwhole hoff hgood hl h0 h64 htime => ?_⟩
    · have hexec := exec_ptpSyncMessage_heeded hheeds
      rw [if_pos hkind] at hexec
      obtain ⟨h0, h1, hbase⟩ := follow_time ((s.setNow t).hears m)
      refine ⟨_, hexec, fun hp => ?_, fun hp => ?_, ?_, (((hears_frame _ m).mono (by decide)).trans (follow_frame _)).settle⟩
      · rw [settle_time_heard0, settle_time_heard1, h0, h1]
        simp only [State.hears, if_pos hp]
        exact ⟨rfl, rfl⟩
      · rw [settle_time_heard0, settle_time_heard1, h0, h1]
        simp only [State.hears, hp]
        exact ⟨rfl, rfl⟩
      · rw [settle_time_base, hbase]
        simp only [State.hears]
        split <;> rfl
    · have hexec := exec_ptpSyncMessage_followed hheeds (by omega) hmaster
      rw [if_neg (by simp [hpart]), if_pos hkind] at hexec
      exact ⟨_, hexec, rfl, rfl, rfl, (Frame.time _ _).settle⟩
    · have hexec := exec_ptpSyncMessage_followed hheeds (by omega) hmaster
      rw [if_pos hwhole, if_neg (by omega)] at hexec
      obtain ⟨hlock, hsource, hnow, hdev, hoffset, hframe⟩ := ptpMeasure_locks (s := s.setNow t) hoff hgood hl ⟨h0, h64⟩ htime
      exact ⟨_, hexec, hlock, hsource, by rw [settle_devTime (hnow ▸ le_setNow_now s t), hdev], hoffset, hframe.settle⟩
  · refine ⟨_, exec_ptpMasterLost_eq hup hf hsilent, ?_⟩
    have hframe : Frame [.time] (s.setNow t) (s.setNow t).masterLost := Frame.time _ _
    refine ⟨?_, ?_, ?_, ?_, ((hframe.mono (by decide)).trans ((Logs.evA _ _ _ _).frame_of_mem (by decide) (by decide))).settle⟩
    · simp only [State.following, settle_time_master, settle_time_lostLogged, evA_time, State.masterLost]
      split <;> simp
    all_goals
      simp only [settle_time_ptpGood, settle_time_base, settle_time_locked, evA_time, State.masterLost]
      split <;> rfl

end Sys2Proof.Machine

namespace Sys2Proof.Machine

/-! ### What leaves the AON domain and the image alone -/

/-- The two states have the same AON domain and the same image in force. -/
structure Steady (s n : State) : Prop where
  aon : n.aon = s.aon
  cfg : n.cfg = s.cfg

theorem Steady.refl (s : State) : Steady s s := ⟨rfl, rfl⟩

theorem Steady.trans {s t u : State} (h : Steady s t) (k : Steady t u) : Steady s u := ⟨k.aon.trans h.aon, k.cfg.trans h.cfg⟩

theorem Steady.ite {s t u : State} (c : Prop) [Decidable c] (h : Steady s t) (k : Steady s u) : Steady s (if c then t else u) := by
  split
  · exact h
  · exact k

/-- One more operation that keeps them, where a condition holds. -/
theorem Steady.step {s t : State} {f : State → State} {c : Prop} [Decidable c] (h : Steady s t) (hf : ∀ t, Steady t (f t)) :
    Steady s (if c then f t else t) := Steady.ite c (h.trans (hf t)) h

theorem Steady.of_logs {s n : State} (h : Logs s n) : Steady s n := ⟨h.aon, h.cfg⟩

theorem Steady.fold {α : Type} (f : State → α → State) (h : ∀ s x, Steady s (f s x)) : ∀ (l : List α) (s : State), Steady s (l.foldl f s)
  | [], s => Steady.refl s
  | x :: r, s => (h s x).trans (Steady.fold f h r _)

theorem Steady.setLeaf (s : State) (l : Leaf) (x : LeafRec) : Steady s (s.setLeaf l x) := ⟨setLeaf_aon _ _ _, setLeaf_cfg _ _ _⟩

theorem Steady.answer (s : State) (k tag status : Nat) (body : List Byte) : Steady s (s.answer k tag status body) :=
  ⟨answer_aon _ _ _ _ _, answer_cfg _ _ _ _ _⟩

theorem Steady.answerOpt (s : State) (w : Option (Nat × Nat)) (status : Nat) (body : List Byte) : Steady s (s.answerOpt w status body) := by
  unfold State.answerOpt
  split
  · exact Steady.refl s
  · exact Steady.answer _ _ _ _ _

theorem Steady.withdraw (s : State) (k : Nat) : Steady s (s.withdraw k) :=
  Steady.fold _ (fun _ _ => Steady.ite _ (Steady.setLeaf _ _ _) (Steady.refl _)) _ s

theorem Steady.stageAbandon (s : State) (k : Nat) : Steady s (s.stageAbandon k) := by
  unfold State.stageAbandon
  refine Steady.ite _ ?_ (Steady.refl s)
  refine Steady.trans ?_ (Steady.of_logs (Logs.evA _ _ _ _))
  refine Steady.trans (Steady.ite (s.stage.st = 3) (Steady.withdraw s s.inactiveSlot) (Steady.refl s)) ?_
  exact (Steady.answerOpt _ _ _ _).trans ⟨rfl, rfl⟩

theorem Steady.applyAbandon (s : State) (reason : Nat) : Steady s (s.applyAbandon reason) := by
  unfold State.applyAbandon
  refine Steady.ite _ ?_ (Steady.refl s)
  refine Steady.trans ?_ (Steady.of_logs (Logs.evA _ _ _ _))
  exact ⟨rfl, rfl⟩

/-- Putting out what Pick held, each output with its trace. -/
theorem Steady.release (s : State) (l : List Out) : Steady s (s.release l) := by
  refine Steady.fold _ (fun s o => ?_) l s
  have hemit : Steady s (s.emit o) := ⟨rfl, rfl⟩
  dsimp only
  split
  · exact hemit.trans (Steady.of_logs (Logs.withPick _ _ _ (fun t => Logs.traceFrame t _ _ _ _ _)))
  · exact hemit

theorem Steady.pickDisarm (s : State) (cause : Nat) : Steady s (s.pickDisarm cause) := by
  unfold State.pickDisarm
  refine Steady.ite _ (Steady.refl s) ?_
  refine Steady.trans ?_ (Steady.of_logs (Logs.evA _ _ _ _))
  exact (Steady.release s _).trans ⟨rfl, rfl⟩

theorem Steady.canFollow (s : State) : Steady s s.canFollow := ⟨rfl, rfl⟩

theorem Steady.snapCut (s : State) (l : Leaf) : Steady s (s.snapCut l) := Steady.setLeaf s l _

theorem Steady.knuckleCancel (s : State) : Steady s s.knuckleCancel := by
  unfold State.knuckleCancel
  exact ((Steady.answerOpt s _ _ _).trans (Steady.answerOpt _ _ _ _)).trans ⟨rfl, rfl⟩

theorem Steady.fenceRings (s : State) (l : Leaf) : Steady s (s.fenceRings l) := by
  unfold State.fenceRings
  refine Steady.fold _ (fun s r => ?_) _ s
  refine Steady.trans (t := s.fenceNodes l r) ?_ ⟨rfl, rfl⟩
  unfold State.fenceNodes
  split <;> exact ⟨rfl, rfl⟩

theorem Steady.nextBlocks (s : State) : Steady s s.nextBlocks := by
  unfold State.nextBlocks
  refine Steady.fold _ (fun _ _ => ?_) _ s
  exact ⟨rfl, rfl⟩

theorem Steady.fifosOver (s : State) : Steady s s.fifosOver := by
  unfold State.fifosOver
  refine Steady.fold _ (fun _ _ => ?_) _ s
  exact ⟨rfl, rfl⟩

theorem Steady.survivor (s : State) (l : Leaf) : Steady s (s.survivor l) := by
  unfold State.survivor
  refine Steady.ite _ ?_ (Steady.ite _ (Steady.setLeaf _ _ _) (Steady.refl s))
  exact (Steady.setLeaf s l.other _).trans ⟨rfl, rfl⟩

theorem Steady.failover (s : State) (l : Leaf) : Steady s (s.failover l) := by
  unfold State.failover
  refine (Steady.survivor s l).trans (Steady.ite _ ?_ (Steady.refl _))
  refine Steady.trans ?_ (Steady.of_logs (Logs.evA _ _ _ _))
  refine Steady.trans ?_ (Steady.canFollow _)
  refine Steady.trans ?_ ((Steady.nextBlocks _).trans (Steady.fifosOver _))
  exact ⟨rfl, rfl⟩

theorem Steady.rejoinFail (s : State) (l : Leaf) : Steady s (s.rejoinFail l) := by
  unfold State.rejoinFail
  refine Steady.trans ?_ (Steady.of_logs (Logs.evAon _ _ _ _))
  exact (Steady.setLeaf s l _).trans ⟨rfl, rfl⟩

/-- The AON domain and the image stay, or SAFE is entered. -/
def SteadyOrSafe (s n : State) : Prop := Steady s n ∨ n.aon.dev = .safe ∧ s.aon.dev ≠ .safe

theorem Steady.orSafe {s t n : State} (h : Steady s t) (k : SteadyOrSafe t n) : SteadyOrSafe s n :=
  k.imp h.trans (fun hsafe => ⟨hsafe.1, h.aon ▸ hsafe.2⟩)

theorem enterSafe_steadyOrSafe (s : State) : SteadyOrSafe s s.enterSafe := by
  unfold State.enterSafe
  split
  case isTrue => exact .inl (Steady.refl s)
  case isFalse h => exact .inr ⟨rfl, fun hs => h (.inl hs)⟩

/-- How a fence ends: without another leaf that runs the device enters SAFE. -/
theorem fenceEnd_steadyOrSafe (s : State) (l : Leaf) : SteadyOrSafe s
    (if !s.running l then
      (if (s.leaf l).st = .rejoining ∨ (s.leaf l).st = .resyncing then s.setLeaf l { s.leaf l with st := .fenced, rejoin := 0 } else s).enterSafe
    else s.canFollow) := by
  split
  · exact Steady.orSafe (Steady.ite _ (Steady.setLeaf s l _) (Steady.refl s)) (enterSafe_steadyOrSafe _)
  · exact .inl (Steady.canFollow s)

theorem fence_steadyOrSafe (s : State) (l : Leaf) (cause : Nat) : SteadyOrSafe s (s.fence l cause) := by
  unfold State.fence
  split
  · exact .inl (Steady.refl s)
  split
  · exact .inl (Steady.rejoinFail s l)
  refine Steady.orSafe ?_ (fenceEnd_steadyOrSafe _ l.other)
  refine Steady.trans ?_ (Steady.pickDisarm _ 5)
  refine Steady.step (f := fun t => t.applyAbandon (Config.caseCode Ev.imageApplyAbandoned 1)) ?_ (fun t => Steady.applyAbandon t _)
  refine Steady.trans ?_ (Steady.stageAbandon _ 4)
  refine Steady.trans ?_ (Steady.knuckleCancel _)
  refine Steady.step (f := fun t => t.failover l) ?_ (fun t => Steady.failover t l)
  refine Steady.trans ?_ (Steady.fenceRings _ l)
  refine Steady.trans ?_ (Steady.of_logs (Logs.evAon _ _ _ _))
  exact (Steady.setLeaf s l _).trans (Steady.snapCut _ l)

/-- A fence while the other leaf runs leaves the AON domain and the image. -/
theorem fence_steady {s : State} {l : Leaf} (cause : Nat) (hr : s.running l.other = true) : Steady s (s.fence l cause) := by
  obtain h | ⟨hsafe, hne⟩ := fence_steadyOrSafe s l cause
  · exact h
  · exact absurd ((fence_running s l cause hr).1.symm.trans hsafe) hne

end Sys2Proof.Machine

namespace Sys2Proof.Machine

/-! ### The commands of supply (R31, R53, R58) -/

/-- What the hardware settles after a command of supply: as after any command, but the thermal latch is the command's. -/
def settlePower (o n : State) : State := ({ settle o n with aon := { (settle o n).aon with thermal := n.aon.thermal } } : State).pins

theorem atPower_eq {t : Nat} {f : State → State} {s m : State} (h : f (s.setNow t) = m) : atPower t f s = .next (settlePower s m) := by
  rw [atPower, h]
  rfl

/-- Key slots that a command left come back from settling as they were. -/
theorem settlePower_keys {o n : State} (h : n.stage.keys = o.stage.keys) : (settlePower o n).stage.keys = o.stage.keys := by
  show List.zipWith fuseKeep o.stage.keys n.stage.keys = _
  rw [h, zipWith_fuseKeep_self]

/-! The leaves that a start leaves unsupplied -/

/-- A start fences the leaf that has no supply (R48). -/
def State.fenceUnsupplied (s : State) (railsA railsB : Bool) : State :=
  if !railsA then s.fence .a Fc.supply else if !railsB then s.fence .b Fc.supply else s

/-- A fence of a running leaf without a cause, while the other leaf runs: the leaf is FENCED with the cause, the other runs on. -/
theorem fence_first {s : State} {l : Leaf} {cause : Nat} (hst : (s.leaf l).st = .running) (hcause : (s.leaf l).cause = 0)
    (hr : s.running l.other = true) :
    ((s.fence l cause).leaf l).st = .fenced ∧ ((s.fence l cause).leaf l).cause = cause ∧
      ((s.fence l cause).leaf l).supplied = (s.leaf l).supplied ∧ ((s.fence l cause).leaf l.other).supplied = (s.leaf l.other).supplied := by
  have hcore := fence_leaf s l cause (by simp [State.fenceLine, hst])
  refine ⟨LeafRec.core_st hcore, ?_, (LeafRec.core_supplied hcore).trans rfl, LeafRec.core_supplied (fence_running s l cause hr).2⟩
  rw [LeafRec.core_cause hcore]
  exact if_pos hcause

/-- A start with both leaves as a start leaves them, one of them supplied: the unsupplied one is FENCED with cause SUPPLY, the AON
domain and what no fence reaches stay. -/
theorem fenceUnsupplied_spec {s : State} {ra rb : Bool} (hst : ∀ l, (s.leaf l).st = .running ∧ (s.leaf l).cause = 0)
    (htest : s.aon.testEn = false) (ha : s.la.supplied = ra) (hb : s.lb.supplied = rb) (hsup : (ra || rb) = true) :
    Steady s (s.fenceUnsupplied ra rb) ∧ Ends s (s.fenceUnsupplied ra rb) ∧
      (s.fenceUnsupplied ra rb).la.supplied = ra ∧ (s.fenceUnsupplied ra rb).lb.supplied = rb ∧
      (ra = false → (s.fenceUnsupplied ra rb).la.st = .fenced ∧ (s.fenceUnsupplied ra rb).la.cause = Fc.supply) ∧
      (rb = false → (s.fenceUnsupplied ra rb).lb.st = .fenced ∧ (s.fenceUnsupplied ra rb).lb.cause = Fc.supply) := by
  cases ra with
  | false =>
    have hrun : s.running Leaf.a.other = true := by
      simp only [Bool.false_or] at hsup
      have hst : s.lb.st = .running := (hst .b).1
      simp [State.running, Leaf.other, hb, hsup, hst, htest, leaf_b]
    obtain ⟨h1, h2, h3, h4⟩ := fence_first (cause := Fc.supply) (hst .a).1 (hst .a).2 hrun
    exact ⟨fence_steady _ hrun, Ends.fence _ _ _, h3.trans ha, h4.trans hb, fun _ => ⟨h1, h2⟩, fun h => by simp [h] at hsup⟩
  | true =>
    cases rb with
    | false =>
      have hrun : s.running Leaf.b.other = true := by
        have hst : s.la.st = .running := (hst .a).1
        simp [State.running, Leaf.other, ha, hst, htest, leaf_a]
      obtain ⟨h1, h2, h3, h4⟩ := fence_first (cause := Fc.supply) (hst .b).1 (hst .b).2 hrun
      exact ⟨fence_steady _ hrun, Ends.fence _ _ _, h4.trans ha, h3.trans hb, nofun, fun _ => ⟨h1, h2⟩⟩
    | true => exact ⟨Steady.refl s, Ends.refl s, ha, hb, nofun, nofun⟩

/-! A start (R41, R53) -/

/-- The records that SUPPLIES_VALID leaves before the leaves' own steps: fresh, with the start counted. -/
def State.poweredUp (s : State) (railsA railsB testEn : Bool) (absence : Option Nat) : State :=
  let a := s.aonAtPower testEn absence
  let s := { s with lg := { s.lg with emerg := [], emergNext := 0, emergCount := 0 } }
  (s.draw.fresh { a.1 with rails := railsOf railsA railsB, xaGood := railsA, starts := (s.mramSrc railsA railsB).starts } (!a.2) false railsA railsB
    (-(s.time.now : Int))).countStart (!a.2)

theorem exec_suppliesValid_test {t : Nat} {ra rb : Bool} {tck : List TckEdge} {ab : Option Nat} {s : State} (hoff : s.aon.dev = .off)
    (hsup : (ra || rb) = true) : exec (.suppliesValid t ra rb (some tck) ab) s =
      .next (settlePower s ((((s.setNow t).poweredUp ra rb true ab).stepDone 1).tapRun tck)) := by
  change execSuppliesValid t ra rb (some tck) ab s = _
  unfold execSuppliesValid
  refine atPower_eq ?_
  refine Eq.trans (if_neg (by simp [hoff])) (Eq.trans (if_neg (by revert hsup; cases ra <;> simp)) ?_)
  rfl

theorem exec_suppliesValid_start {t : Nat} {ra rb : Bool} {ab : Option Nat} {s : State} (hoff : s.aon.dev = .off)
    (hsup : (ra || rb) = true) : exec (.suppliesValid t ra rb none ab) s =
      .next (settlePower s (((((s.setNow t).poweredUp ra rb false ab).logStart.stagingLost s.stage.aborted).stepDone 1).fenceUnsupplied ra rb)) := by
  change execSuppliesValid t ra rb none ab s = _
  unfold execSuppliesValid
  refine atPower_eq ?_
  refine Eq.trans (if_neg (by simp [hoff])) (Eq.trans (if_neg (by revert hsup; cases ra <;> simp)) ?_)
  rfl

/-- TCK reaches the TAP, what TDO puts out and the values that the spec leaves free alone. -/
def Taps (s n : State) : Prop := ∃ k f o, n = { s with tap := k, free := f, out := o }

theorem Taps.trans {s t n : State} (h : Taps s t) (k : Taps t n) : Taps s n := by
  obtain ⟨_, _, _, rfl⟩ := h
  obtain ⟨tap, free, out, rfl⟩ := k
  exact ⟨tap, free, out, rfl⟩

theorem Taps.tapCapture (s : State) : Taps s s.tapCapture := by
  unfold State.tapCapture
  split <;> exact ⟨_, _, _, rfl⟩

theorem Taps.tapEdge (s : State) (x : TckEdge) : Taps s (s.tapEdge x).1 := by
  have htap : ∀ k, Taps s { s with tap := k } := fun _ => ⟨_, _, _, rfl⟩
  unfold State.tapEdge
  split
  · exact htap _
  · dsimp only
    split
    case h_2 => exact (htap _).trans (Taps.tapCapture _)
    all_goals exact htap _

theorem Taps.edges (l : List TckEdge) (a : State × List Bool) :
    Taps a.1 (l.foldl (fun a x => ((a.1.tapEdge x).1, a.2 ++ (a.1.tapEdge x).2.toList)) a).1 := by
  induction l generalizing a with
  | nil => exact ⟨_, _, _, rfl⟩
  | cons x r ih => exact (Taps.tapEdge a.1 x).trans (ih _)

theorem Taps.tapRun (s : State) (l : List TckEdge) : Taps s (s.tapRun l) := by
  unfold State.tapRun
  dsimp only
  split
  · exact Taps.edges l (s, [])
  · exact (Taps.edges l (s, [])).trans ⟨_, _, _, rfl⟩

/-- What SUPPLIES_VALID leaves: the records of the start with step 1 reached, and an unsupplied leaf FENCED unless TEST_EN holds both in reset. -/
structure State.Begun (s n : State) (railsA railsB : Bool) (testEn : Bool) (absence : Option Nat) : Prop where
  aon : n.aon = { (s.poweredUp railsA railsB testEn absence).aon with lastStep := 1 }
  time : n.time = (s.poweredUp railsA railsB testEn absence).time
  cfg : n.cfg = {}
  keys : n.stage.keys = s.stage.keys
  supplyA : n.la.supplied = railsA
  supplyB : n.lb.supplied = railsB
  fencedA : testEn = false → railsA = false → n.la.st = .fenced ∧ n.la.cause = Fc.supply
  fencedB : testEn = false → railsB = false → n.lb.st = .fenced ∧ n.lb.cause = Fc.supply

/-- The leaves of a start: supplied as their rails are, no cause, in the state that the start gives every leaf. -/
theorem poweredUp_leaves (s : State) (ra rb te : Bool) (ab : Option Nat) :
    (s.poweredUp ra rb te ab).la.supplied = ra ∧ (s.poweredUp ra rb te ab).lb.supplied = rb ∧
      ∀ l, ((s.poweredUp ra rb te ab).leaf l).st = .running ∧ ((s.poweredUp ra rb te ab).leaf l).cause = 0 := by
  cases ra <;> cases rb <;> exact ⟨rfl, rfl, fun l => by cases l <;> exact ⟨rfl, rfl⟩⟩

theorem exec_suppliesValid {t : Nat} {ra rb : Bool} {te : Option (List TckEdge)} {ab : Option Nat} {s : State} (hoff : s.aon.dev = .off)
    (hsup : (ra || rb) = true) :
    ∃ m, exec (.suppliesValid t ra rb te ab) s = .next (settlePower s m) ∧ (s.setNow t).Begun m ra rb te.isSome ab := by
  obtain ⟨ha, hb, hst⟩ := poweredUp_leaves (s.setNow t) ra rb te.isSome ab
  cases te with
  | some tck =>
    refine ⟨_, exec_suppliesValid_test hoff hsup, ?_⟩
    obtain ⟨k, f, o, htap⟩ := Taps.tapRun (((s.setNow t).poweredUp ra rb true ab).stepDone 1) tck
    rw [htap]
    exact ⟨rfl, rfl, rfl, rfl, ha, hb, nofun, nofun⟩
  | none =>
    refine ⟨_, exec_suppliesValid_start hoff hsup, ?_⟩
    have hlog : Logs ((s.setNow t).poweredUp ra rb false ab) (((s.setNow t).poweredUp ra rb false ab).logStart.stagingLost s.stage.aborted) := by
      refine Logs.trans (t := ((s.setNow t).poweredUp ra rb false ab).logStart) (Logs.ev _ _ _ _) ?_
      unfold State.stagingLost
      split
      · exact Logs.ev _ _ _ _
      · exact Logs.refl _
    obtain ⟨hsteady, hends, h⟩ := fenceUnsupplied_spec
      (s := (((s.setNow t).poweredUp ra rb false ab).logStart.stagingLost s.stage.aborted).stepDone 1) (ra := ra) (rb := rb)
      (fun l => ⟨(hlog.leaf_st l).trans (hst l).1, (hlog.leaf_cause l).trans (hst l).2⟩) (congrArg Aon.testEn hlog.aon)
      (hlog.la_supplied.trans ha) (hlog.lb_supplied.trans hb) hsup
    obtain ⟨hsupA, hsupB, hfencedA, hfencedB⟩ := h
    exact ⟨hsteady.aon.trans (congrArg (fun a : Aon => { a with lastStep := 1 }) hlog.aon), hends.time.trans hlog.time,
      hsteady.cfg.trans hlog.cfg, hends.keys.trans ((congrArg Stage.keys hlog.stage).trans rfl), hsupA, hsupB, fun _ => hfencedA, fun _ => hfencedB⟩

/-- Settling leaves the AON domain of a command of supply, but for READY and FAULT_N. -/
theorem settlePower_aon (o n : State) :
    (settlePower o n).aon = { n.aon with ready := (settlePower o n).aon.ready, faultN := (settlePower o n).aon.faultN } := rfl

/-- The latches of a start after an absence: from the hold cells below 8 ms, clear from 10 ms on and at a power-on (R58, R59). -/
theorem aonAtPower_restores (s : State) (te : Bool) {d : Nat} (hd : d < 8000000) :
    (s.aonAtPower te (some d)).1.thermal = s.aon.holdThermal ∧ (s.aonAtPower te (some d)).1.dbLatch = s.aon.holdDb ∧
      (s.aonAtPower te (some d)).1.resetCause = 0 := by
  simp [State.aonAtPower, hd]

theorem aonAtPower_clears (s : State) (te : Bool) {ab : Option Nat} (h : ab = none ∨ ∃ d, ab = some d ∧ 10000000 ≤ d) :
    (s.aonAtPower te ab).1.thermal = false ∧ (s.aonAtPower te ab).1.dbLatch = false ∧
      (s.aonAtPower te ab).1.holdThermal = false ∧ (s.aonAtPower te ab).1.holdDb = false := by
  obtain rfl | ⟨d, rfl, hd⟩ := h
  · exact ⟨rfl, rfl, rfl, rfl⟩
  · have hlong : ¬ d < 8000000 := by omega
    simp [State.aonAtPower, hlong, hd]

/-- Settles O11: the start's AON domain is read off its records, which the fence of an unsupplied leaf and settling keep; the latches
follow from the length of the absence. -/
theorem suppliesValidBeginsStart : Obligations.SuppliesValidBeginsStart := by
  unfold Obligations.SuppliesValidBeginsStart
  intro t ra rb te ab s hoff hsup
  obtain ⟨m, hexec, hm⟩ := exec_suppliesValid (s := s) (t := t) (te := te) (ab := ab) hoff hsup
  have haon := (settlePower_aon s m).trans (by rw [hm.aon])
  refine ⟨_, hexec, congrArg Aon.dev haon, congrArg Aon.vaon haon, congrArg Aon.testEn haon, congrArg Aon.lastStep haon,
    congrArg TimeU.t0 hm.time, congrArg Aon.starts haon, hm.supplyA, hm.supplyB, ?_, ?_, ?_, hm.cfg, settlePower_keys hm.keys, ?_, ?_⟩
  · rintro rfl
    exact hm.fencedA rfl
  · rintro rfl
    exact hm.fencedB rfl
  · intro hte
    have htest : (settlePower s m).aon.testEn = true := (congrArg Aon.testEn haon).trans hte
    simp [State.running, htest]
  · rintro d rfl hd
    obtain ⟨hth, hdb, hcause⟩ := aonAtPower_restores (s.setNow t) te.isSome hd
    exact ⟨(congrArg Aon.thermal haon).trans hth, (congrArg Aon.dbLatch haon).trans hdb, (congrArg Aon.resetCause haon).trans hcause⟩
  · intro hab
    obtain ⟨hth, hdb, -, -⟩ := aonAtPower_clears (s.setNow t) te.isSome hab
    exact ⟨(congrArg Aon.thermal haon).trans hth, (congrArg Aon.dbLatch haon).trans hdb⟩

/-- Settles O24: an absence of 10 ms or more is a power cycle, whose start leaves latches and hold cells clear. -/
theorem powerCycleClearsLatches : Obligations.PowerCycleClearsLatches := by
  unfold Obligations.PowerCycleClearsLatches
  intro t d ra rb te s hoff hsup hd
  obtain ⟨m, hexec, hm⟩ := exec_suppliesValid (s := s) (t := t) (te := te) (ab := some d) hoff hsup
  have haon := (settlePower_aon s m).trans (by rw [hm.aon])
  obtain ⟨hth, hdb, hhth, hhdb⟩ := aonAtPower_clears (s.setNow t) te.isSome (.inr ⟨d, rfl, hd⟩)
  exact ⟨_, hexec, congrArg Aon.dev haon, (congrArg Aon.dbLatch haon).trans hdb, (congrArg Aon.thermal haon).trans hth,
    (congrArg Aon.holdDb haon).trans hhdb, (congrArg Aon.holdThermal haon).trans hhth⟩

/-! POR (R53, R59) -/

/-- The records that POR leaves: fresh and without a supply, the hold cells, the count of starts and the log's sequence kept. -/
def State.porRecords (s : State) : State :=
  let m := { s with lg := { s.lg with emerg := [], emergNext := 0, emergCount := 0 } }
  let n := m.fresh { holdThermal := s.aon.holdThermal, holdThermalCause := s.aon.holdThermalCause, holdDb := s.aon.holdDb
                     holdDbCause := s.aon.holdDbCause, starts := s.aon.starts } true false false false s.time.base
  { n with lg := { n.lg with nextSeq := s.lg.nextSeq }
           la := { n.la with st := .running }, lb := { n.lb with st := .running }
           stage := { n.stage with aborted := if 1 ≤ s.stage.st ∧ s.stage.st ≤ 3 then some s.stage.received else s.stage.aborted } }

theorem exec_por {t : Nat} {s : State} (hon : s.aon.dev ≠ .off) : exec (.por t) s = .next (settlePower s (s.setNow t).porRecords) := by
  change execPor t s = _
  unfold execPor
  refine atPower_eq ?_
  exact if_neg (fun h => hon h.1)

/-- Settles O15: every field is read off the records that POR leaves; settling keeps the keys. -/
theorem porClearsAll : Obligations.PorClearsAll := by
  unfold Obligations.PorClearsAll
  intro t s hon
  exact ⟨_, exec_por hon, rfl, rfl, rfl, rfl, rfl, rfl, rfl, rfl, rfl, rfl, rfl, rfl, settlePower_keys rfl, rfl,
    fun l => by cases l <;> exact ⟨rfl, rfl, rfl, rfl⟩⟩

end Sys2Proof.Machine

namespace Sys2Proof.Machine

/-! ### Faults at the start (R36, R48) -/

theorem settle_leaf (o n : State) (l : Leaf) : (settle o n).leaf l = n.leaf l := by cases l <;> rfl

theorem setNow_leaf (s : State) (t : Nat) (l : Leaf) : (s.setNow t).leaf l = s.leaf l := by cases l <;> rfl

theorem modLeaf_leaf (s : State) (l : Leaf) (f : LeafRec → LeafRec) : (s.modLeaf l f).leaf l = f (s.leaf l) := by cases l <;> rfl

theorem modLeaf_leaf_other (s : State) (l : Leaf) (f : LeafRec → LeafRec) : (s.modLeaf l f).leaf l.other = s.leaf l.other := by cases l <;> rfl

theorem st_of_running {s : State} {l : Leaf} (h : s.running l = true) : (s.leaf l).st = .running := by
  simp only [State.running, Bool.and_eq_true, beq_iff_eq] at h
  exact h.1.2

/-- A running leaf that is fenced is FENCED without a request and keeps its first cause; nothing but `fenceParts` changes. -/
theorem fenced_spec {s : State} {l : Leaf} (cause : Nat) (hst : (s.leaf l).st = .running) :
    ((s.fence l cause).leaf l).st = .fenced ∧ ((s.fence l cause).leaf l).rq = false ∧
      ((s.fence l cause).leaf l).pllOk = (s.leaf l).pllOk ∧
      ((s.fence l cause).leaf l).cause = (if (s.leaf l).cause = 0 then cause else (s.leaf l).cause) := by
  have hcore := fence_leaf s l cause (by simp [State.fenceLine, hst])
  exact ⟨LeafRec.core_st hcore, LeafRec.core_rq hcore, (LeafRec.core_pllOk hcore).trans rfl, LeafRec.core_cause hcore⟩

theorem leafStarting_of_running {s : State} {l : Leaf} (hstart : s.starting = true) (hrun : s.running l = true) : s.leafStarting l = true := by
  simp [State.leafStarting, hstart, hrun]

theorem exec_pllLockTimeout_due {t : Nat} {l : Leaf} {s : State} (hl : (s.setNow t).leafStarting l = true)
    (ht : (s.leaf l).t0 + 400000 ≤ (s.setNow t).time.now) : exec (.pllLockTimeout t l) s =
      .next (settle s ((((s.setNow t).modLeaf l (fun x => { x with pllOk := false })).fence l Fc.start).evAon Ev.clockLoss l.num [p1 2])) := by
  change execPllLockTimeout t l s = _
  unfold execPllLockTimeout
  refine at'_eq ?_
  exact if_pos (by rw [hl, setNow_leaf, decide_eq_true ht]; rfl)

theorem exec_mramReadyTimeout_due {t : Nat} {l : Leaf} {s : State} (hl : (s.setNow t).leafStarting l = true)
    (ht : (s.leaf l).t0 + 1000000 ≤ (s.setNow t).time.now) : exec (.mramReadyTimeout t l) s =
      .next (settle s (((s.setNow t).modLeaf l (fun x => { x with mramOk := false })).fence l Fc.start)) := by
  change execMramReadyTimeout t l s = _
  unfold execMramReadyTimeout
  refine at'_eq ?_
  exact if_pos (by rw [hl, setNow_leaf, decide_eq_true ht]; rfl)

theorem exec_sramMarchComplete_starting {t : Nat} {l : Leaf} {s : State} (pass : Bool) (hl : (s.setNow t).leafStarting l = true) :
    exec (.sramMarchComplete t l pass) s = .next (settle s
      (if pass then (s.setNow t).modLeaf l (fun x => { x with sramOk := true }) else (s.setNow t).fence l Fc.start)) := by
  change execSramMarchComplete t l pass s = _
  unfold execSramMarchComplete
  refine at'_eq ?_
  exact if_pos hl

/-- Settles O12: each fault fences a running leaf, and all that comes before and after the fence stays within its frame. -/
theorem startFaultsFence : Obligations.StartFaultsFence := by
  unfold Obligations.StartFaultsFence
  intro t l s hstart hrun
  have hl := leafStarting_of_running hstart hrun
  have hst : (s.leaf l).st = .running := (congrArg LeafRec.st (setNow_leaf s t l)).symm.trans (st_of_running hrun)
  refine ⟨fun ht => ?_, fun ht => ?_, ?_, ?_⟩
  · have hm := modLeaf_leaf (s.setNow t) l (fun x => { x with pllOk := false })
    obtain ⟨hfen, hrq, hpll, hcause⟩ := fenced_spec (s := (s.setNow t).modLeaf l (fun x => { x with pllOk := false })) Fc.start
      ((congrArg LeafRec.st hm).trans (by rw [setNow_leaf]; exact hst))
    refine ⟨_, exec_pllLockTimeout_due hl ht, ?_⟩
    rw [settle_leaf, (Logs.evAon _ _ _ _).leaf_st, (Logs.evAon _ _ _ _).leaf_rq, (Logs.evAon _ _ _ _).leaf_pllOk,
      (Logs.evAon _ _ _ _).leaf_cause, hfen, hrq, hpll, hcause, hm, setNow_leaf]
    exact ⟨rfl, rfl, rfl, rfl, (((Ends.modLeaf _ _ _).trans (Ends.fence _ _ _)).trans (Ends.of_logs (Logs.evAon _ _ _ _))).frame.settle⟩
  · have hm := modLeaf_leaf (s.setNow t) l (fun x => { x with mramOk := false })
    obtain ⟨hfen, hrq, -, hcause⟩ := fenced_spec (s := (s.setNow t).modLeaf l (fun x => { x with mramOk := false })) Fc.start
      ((congrArg LeafRec.st hm).trans (by rw [setNow_leaf]; exact hst))
    refine ⟨_, exec_mramReadyTimeout_due hl ht, ?_⟩
    rw [settle_leaf, hfen, hrq, hcause, hm, setNow_leaf]
    exact ⟨rfl, rfl, rfl, ((Ends.modLeaf _ _ _).trans (Ends.fence _ _ _)).frame.settle⟩
  · obtain ⟨hfen, hrq, -, hcause⟩ := fenced_spec (s := s.setNow t) Fc.start (st_of_running hrun)
    refine ⟨_, exec_sramMarchComplete_starting false hl, ?_⟩
    rw [settle_leaf, if_neg Bool.false_ne_true, hfen, hrq, hcause, setNow_leaf]
    exact ⟨rfl, rfl, rfl, (Ends.fence _ _ _).frame.settle⟩
  · refine ⟨_, exec_sramMarchComplete_starting true hl, ?_⟩
    rw [settle_leaf, settle_leaf, if_pos rfl, modLeaf_leaf, modLeaf_leaf_other, setNow_leaf, setNow_leaf]
    exact ⟨rfl, rfl, rfl, (Frame.setLeaf (s.setNow t) l { (s.setNow t).leaf l with sramOk := true } rfl).settle⟩

/-! ### The image of the start (R45, R46) -/

/-- What a leaf's judgement of its slots records (R45). -/
def State.judged (s : State) (l : Leaf) : LeafRec :=
  { s.leaf l with valid0 := (judgeSlot s.stage.keys (s.leaf l).slot0).1, valid1 := (judgeSlot s.stage.keys (s.leaf l).slot1).1 }

theorem judgeSlots_logs (s : State) (l : Leaf) : Logs (s.setLeaf l (s.judged l)) (s.judgeSlots l) := by
  have hlog : ∀ (o : Option Reject) (k : Nat) (s : State),
      Logs s (match o with | some e => s.raiseO Ev.bittingRejected srcD l.num (rejectPs e k) | none => s) := by
    intro o k s
    cases o with
    | none => exact Logs.refl s
    | some e => exact Logs.raiseO _ _ _ _ _
  exact (hlog _ 1 _).trans (hlog _ 2 _)

/-- A running leaf judges its slots at the start. -/
def State.judgeAtStart (l : Leaf) (s : State) : State := if s.running l then s.judgeSlots l else s

theorem Logs.running {s n : State} (h : Logs s n) (l : Leaf) : n.running l = s.running l := by
  rw [State.running, State.running, h.leaf_supplied, h.leaf_st, h.aon]

theorem judgeAtStart_frame (s : State) (l : Leaf) : Frame [.leafA, .leafB, .log, .fifos] s (s.judgeAtStart l) := by
  refine Frame.ite _ ?_ (Frame.refl _ s)
  exact ((Frame.setLeaf s l (s.judged l) rfl).mono (by decide)).trans ((judgeSlots_logs s l).frame_of_mem (by decide) (by decide))

/-- After the judgement of one leaf: what it judged where it runs, the other leaf and the keys as they were. -/
theorem judgeAtStart_spec (s : State) (l : Leaf) :
    (s.running l = true → ((s.judgeAtStart l).leaf l).valid0 = (judgeSlot s.stage.keys (s.leaf l).slot0).1 ∧
      ((s.judgeAtStart l).leaf l).valid1 = (judgeSlot s.stage.keys (s.leaf l).slot1).1) ∧
    (s.judgeAtStart l).stage = s.stage ∧ (s.judgeAtStart l).running l.other = s.running l.other ∧
    ((s.judgeAtStart l).leaf l.other).valid0 = (s.leaf l.other).valid0 ∧ ((s.judgeAtStart l).leaf l.other).valid1 = (s.leaf l.other).valid1 ∧
    ((s.judgeAtStart l).leaf l.other).slot0 = (s.leaf l.other).slot0 ∧ ((s.judgeAtStart l).leaf l.other).slot1 = (s.leaf l.other).slot1 := by
  have hlogs := judgeSlots_logs s l
  unfold State.judgeAtStart
  split
  case isFalse h => exact ⟨fun hr => absurd hr h, rfl, rfl, rfl, rfl, rfl, rfl⟩
  case isTrue =>
    rw [hlogs.leaf_valid0, hlogs.leaf_valid1, hlogs.leaf_valid0, hlogs.leaf_valid1, hlogs.leaf_slot0, hlogs.leaf_slot1, hlogs.stage, hlogs.running]
    cases l <;> exact ⟨fun _ => ⟨rfl, rfl⟩, rfl, rfl, rfl, rfl, rfl, rfl⟩

theorem exec_slotsJudged_start {t : Nat} {s : State} (hstart : (s.setNow t).starting = true) (hstep : (s.setNow t).aon.lastStep = 1) :
    exec (.slotsJudged t) s = .next (settle s ((((s.setNow t).judgeAtStart .a).judgeAtStart .b).stepDone 4)) := by
  change execSlotsJudged t s = _
  unfold execSlotsJudged
  refine at'_eq ?_
  exact if_pos (by rw [hstart, hstep]; rfl)

theorem slotsJudged_reaches_4 {t : Nat} {s : State} (hstart : (s.setNow t).starting = true) (hstep : (s.setNow t).aon.lastStep = 1) :
    ∃ n, exec (.slotsJudged t) s = .next n ∧ n.aon.lastStep = 4 ∧
      (∀ l, (s.setNow t).running l = true → (n.leaf l).valid0 = (judgeSlot s.stage.keys (s.leaf l).slot0).1 ∧
        (n.leaf l).valid1 = (judgeSlot s.stage.keys (s.leaf l).slot1).1) ∧
      Frame [.aon, .leafA, .leafB, .log, .fifos] s n := by
  refine ⟨_, exec_slotsJudged_start hstart hstep, rfl, fun l hr => ?_, ?_⟩
  · obtain ⟨hja, hstage, hrunb, -, -, hslot0, hslot1⟩ := judgeAtStart_spec (s.setNow t) .a
    obtain ⟨hjb, -, -, hkeep0, hkeep1, -, -⟩ := judgeAtStart_spec ((s.setNow t).judgeAtStart .a) .b
    rw [settle_leaf]
    cases l with
    | a => exact ⟨hkeep0.trans (hja hr).1, hkeep1.trans (hja hr).2⟩
    | b =>
      obtain ⟨h0, h1⟩ := hjb (hrunb.trans hr)
      rw [hstage] at h0 h1
      exact ⟨h0.trans (congrArg (fun x => (judgeSlot _ x).1) hslot0), h1.trans (congrArg (fun x => (judgeSlot _ x).1) hslot1)⟩
  · exact Frame.settle ((((judgeAtStart_frame _ .a).trans (judgeAtStart_frame _ .b)).mono (by decide)).trans
      ((Frame.aon _ _).mono (by decide)))

/-- Only a choice between two running leaves fences one of them. -/
theorem bothRun_of_chooseImage {s : State} {o : Option (Nat × Image)} {l : Leaf} (h : s.chooseImage = (o, some l)) : s.bothRun = true := by
  cases hb : s.bothRun with
  | true => rfl
  | false =>
    have hnone : s.chooseImage.2 = none := by
      unfold State.chooseImage
      simp [hb]
    rw [h] at hnone
    exact absurd hnone nofun

/-- What the agreement on an image leaves: the image and its slot, or UNKEYED (R46, R52). -/
def State.agreed (s : State) : Option (Nat × Image) → State
  | some x => { s with stage := { s.stage with image := some x.2, target := x.1 } }
  | none => { s with aon := { s.aon with unkeyed := true } }

theorem dev_of_starting {s : State} (h : s.starting = true) : s.aon.dev = .start := by
  simp only [State.starting, Bool.and_eq_true, beq_iff_eq] at h
  exact h.1

theorem marches_passed {s : State} (h : ∀ l, s.running l = true → (s.leaf l).sramOk = true) :
    [Leaf.a, Leaf.b].all (fun l => !s.running l || (s.leaf l).sramOk) = true := by
  simp only [List.all_eq_true]
  intro l _
  cases hr : s.running l with
  | false => rfl
  | true => simp [h l hr]

theorem exec_imageAgreed_agree {t : Nat} {s : State} {o : Option (Nat × Image)} (hstart : (s.setNow t).starting = true)
    (hstep : (s.setNow t).aon.lastStep = 4) (hmarch : ∀ l, (s.setNow t).running l = true → (s.leaf l).sramOk = true)
    (hc : (s.setNow t).chooseImage = (o, none)) : exec (.imageAgreed t) s = .next (settle s (((s.setNow t).agreed o).stepDone 5)) := by
  have hdev := dev_of_starting hstart
  have hm := marches_passed (s := s.setNow t) fun l hr => (congrArg LeafRec.sramOk (setNow_leaf s t l)).trans (hmarch l hr)
  change execImageAgreed t s = _
  unfold execImageAgreed
  refine at'_eq ?_
  refine Eq.trans (if_pos (by rw [hstart, hstep, hm]; rfl)) ?_
  rw [hc]
  refine Eq.trans (if_neg (not_not_intro hdev)) ?_
  cases o <;> rfl

theorem exec_imageAgreed_disagree {t : Nat} {s : State} {x : Nat × Image} {l : Leaf} (hstart : (s.setNow t).starting = true)
    (hstep : (s.setNow t).aon.lastStep = 4) (hmarch : ∀ l, (s.setNow t).running l = true → (s.leaf l).sramOk = true)
    (hc : (s.setNow t).chooseImage = (some x, some l)) :
    exec (.imageAgreed t) s = .next (settle s ((((s.setNow t).fence l Fc.image).agreed (some x)).stepDone 5)) := by
  have hdev := dev_of_starting hstart
  have hother : (s.setNow t).running l.other = true := by
    have hb := bothRun_of_chooseImage hc
    rw [State.bothRun, Bool.and_eq_true] at hb
    cases l
    · exact hb.2
    · exact hb.1
  have hm := marches_passed (s := s.setNow t) fun l hr => (congrArg LeafRec.sramOk (setNow_leaf s t l)).trans (hmarch l hr)
  change execImageAgreed t s = _
  unfold execImageAgreed
  refine at'_eq ?_
  refine Eq.trans (if_pos (by rw [hstart, hstep, hm]; rfl)) ?_
  rw [hc]
  exact if_neg (not_not_intro ((fence_running _ l Fc.image hother).1.trans hdev))

theorem Frame.stage (s : State) (x : Stage) : Frame [.stage] s { s with stage := x } := by
  rintro ⟨⟩ hp <;> simp [Part.same] at hp ⊢

theorem Frame.agreed (s : State) (x : Nat × Image) : Frame [.aon, .stage] s ((s.agreed (some x)).stepDone 5) :=
  ((Frame.stage s _).mono (by decide)).trans ((Frame.aon _ _).mono (by decide))

/-- Both states have the same image in force and the same records of staging. -/
structure SameImage (s n : State) : Prop where
  cfg : n.cfg = s.cfg
  stage : n.stage = s.stage

theorem SameImage.refl (s : State) : SameImage s s := ⟨rfl, rfl⟩

theorem SameImage.trans {s t u : State} (h : SameImage s t) (k : SameImage t u) : SameImage s u :=
  ⟨k.cfg.trans h.cfg, k.stage.trans h.stage⟩

theorem SameImage.of_logs {s n : State} (h : Logs s n) : SameImage s n := ⟨h.cfg, h.stage⟩

theorem SameImage.each {α : Type} {f : α → State → State} (h : ∀ x s, SameImage s (f x s)) (l : List α) (s : State) : SameImage s (s.each l f) := by
  induction l generalizing s with
  | nil => exact SameImage.refl s
  | cons x r ih => exact (h x s).trans (ih (f x s))

theorem SameImage.restoreCells (s : State) : SameImage s s.restoreCells := by
  unfold State.restoreCells
  refine SameImage.trans (t := (s.estStart (fun _ => false)).learnStart (fun _ => false) false) ⟨rfl, rfl⟩ ?_
  dsimp only
  split
  · exact SameImage.of_logs (Logs.ev _ _ _ _)
  · refine SameImage.trans ?_ (SameImage.of_logs (Logs.ev _ _ _ _))
    refine SameImage.each ?_ _ _
    exact fun _ _ => ⟨rfl, rfl⟩

theorem takeRoles_cfg (s : State) : s.takeRoles.cfg = s.cfg := by
  unfold State.takeRoles
  exact (Ends.ite (_ = true) (Ends.fence s _ Fc.role) (Ends.refl s)).cfg

/-- The records of an image put in force: with an empty overlay, from its slot, under its build id. -/
def State.inForce (s : State) (g : Image) (slot : Nat) : State :=
  let s := ({ s with cfg := { img := g, ov := [] } } : State).takeRoles
  { s with stage := { s.stage with activeSlot := slot, buildId := g.buildId, hingeSweep := 0, hingeTime := s.devTime, image := none, st := 0 } }

theorem inForce_cfg (s : State) (g : Image) (slot : Nat) : (s.inForce g slot).cfg = { img := g, ov := [] } :=
  takeRoles_cfg { s with cfg := { img := g, ov := [] } }

theorem SameImage.levels (s : State) : SameImage s s.levels.comStart := by
  unfold State.comStart State.levels
  exact ⟨rfl, rfl⟩

/-- A step reached changes neither the image nor the records of staging, but for the keys that settling keeps. -/
theorem settle_stepDone_image (o n : State) (k : Nat) :
    (settle o (n.stepDone k)).cfg = n.cfg ∧ (settle o (n.stepDone k)).stage.activeSlot = n.stage.activeSlot ∧
      (settle o (n.stepDone k)).stage.buildId = n.stage.buildId := ⟨rfl, rfl, rfl⟩

/-- The sensors, ports, session slots and levels that begin with an image leave it alone. -/
theorem SameImage.begun (s : State) : SameImage s
    ((s.thermalStart.portsRenew.each (upto 128) (fun k s => if s.cfg.slotOn k then s.modSess k (fun x => { x with st := 1 }) else s)).levels.comStart) := by
  have hports : SameImage s s.thermalStart.portsRenew := ⟨rfl, rfl⟩
  have hsess : ∀ (k : Nat) (s : State), SameImage s (if s.cfg.slotOn k then s.modSess k (fun x => { x with st := 1 }) else s) := by
    intro k s
    split <;> exact ⟨rfl, rfl⟩
  exact (hports.trans (SameImage.each hsess (upto 128) _)).trans (SameImage.levels _)

/-- What follows an image put in force leaves the image and the records of staging. -/
theorem applyImage_sameImage (s : State) (g : Image) (slot : Nat) : SameImage (s.inForce g slot) (s.applyImage g slot) := by
  have hev : ∀ (x : Nat × Nat) (s : State), SameImage s (s.ev Ev.sectionIgnored srcD [p2 x.1, p2 x.2]) :=
    fun x s => SameImage.of_logs (Logs.ev _ _ _ _)
  unfold State.applyImage
  refine SameImage.trans (t := (s.inForce g slot).ev Ev.bittingApplied srcD [p4 g.seq, p1 slot, p4 0]) (SameImage.of_logs (Logs.ev _ _ _ _)) ?_
  refine SameImage.trans (SameImage.each hev (ignoredTypes g) _) ?_
  refine SameImage.trans (SameImage.restoreCells _) ?_
  exact SameImage.begun _

theorem exec_startApplyComplete_image {t : Nat} {s : State} {g : Image} (hstart : (s.setNow t).starting = true)
    (hstep : (s.setNow t).aon.lastStep = 5) (himg : s.stage.image = some g) :
    exec (.startApplyComplete t) s = .next (settle s (((s.setNow t).applyImage g s.stage.target).stepDone 6)) := by
  have himg' : (s.setNow t).stage.image = some g := himg
  change execStartApplyComplete t s = _
  unfold execStartApplyComplete
  refine at'_eq ?_
  refine Eq.trans (if_pos (by rw [hstart, hstep]; rfl)) ?_
  rw [himg']
  rfl

/-- Settles O13: the judgements leaf by leaf, the agreement by the choice of the leaves, and the image in force by what follows it
leaving image and staging. -/
theorem startImageChosen : Obligations.StartImageChosen := by
  unfold Obligations.StartImageChosen
  intro t s hstart
  refine ⟨slotsJudged_reaches_4 hstart, fun hstep hmarch => ⟨fun x hc => ?_, fun hc => ?_, fun x l hc => ?_⟩, fun hstep g himg => ?_⟩
  · exact ⟨_, exec_imageAgreed_agree hstart hstep hmarch hc, rfl, rfl, rfl, rfl, (Frame.agreed _ x).settle⟩
  · exact ⟨_, exec_imageAgreed_agree hstart hstep hmarch hc, rfl, rfl, ((Frame.aon _ _).trans (Frame.aon _ _)).settle⟩
  · have hst : ((s.setNow t).leaf l).st = .running := by
      have hb := bothRun_of_chooseImage hc
      rw [State.bothRun, Bool.and_eq_true] at hb
      cases l
      · exact st_of_running hb.1
      · exact st_of_running hb.2
    obtain ⟨hfen, -, -, hcause⟩ := fenced_spec Fc.image hst
    rw [setNow_leaf] at hcause
    refine ⟨_, exec_imageAgreed_disagree hstart hstep hmarch hc, ?_, ?_, ?_⟩
    · rw [settle_leaf]
      cases l <;> exact hfen
    · rw [settle_leaf]
      cases l <;> exact hcause
    · exact ((Ends.fence _ _ _).frame.trans ((Frame.agreed _ x).mono (by decide))).settle
  · obtain ⟨hcfg, hstage⟩ := applyImage_sameImage (s.setNow t) g s.stage.target
    refine ⟨_, exec_startApplyComplete_image hstart hstep himg, rfl, ?_⟩
    obtain ⟨hcfg', hslot, hid⟩ := settle_stepDone_image s ((s.setNow t).applyImage g s.stage.target) 6
    exact ⟨hcfg'.trans (hcfg.trans (inForce_cfg _ _ _)), hslot.trans (congrArg Stage.activeSlot hstage),
      hid.trans (congrArg Stage.buildId hstage)⟩

end Sys2Proof.Machine

namespace Sys2Proof.Machine

/-! ### The entry of RUN (R48, R50) -/

theorem Steady.each {α : Type} {f : α → State → State} (h : ∀ x s, Steady s (f x s)) (l : List α) (s : State) : Steady s (s.each l f) :=
  Steady.fold _ (fun s x => h x s) l s

theorem Steady.modRing (s : State) (r : Nat) (f : Ring → Ring) : Steady s (s.modRing r f) := ⟨rfl, rfl⟩

theorem Steady.chanFollow (s : State) (k : Nat) : Steady s (s.chanFollow k) := by
  unfold State.chanFollow
  refine Steady.ite _ (Steady.refl s) (Steady.ite _ ?_ ?_) <;> exact ⟨rfl, rfl⟩

theorem Steady.banksLive (s : State) : Steady s s.banksLive := by
  unfold State.banksLive State.chansFollow
  refine Steady.trans ?_ (Steady.each (fun k s => Steady.chanFollow s k) (upto 24) _)
  exact ⟨rfl, rfl⟩

theorem Steady.logCarried (s : State) : Steady s s.logCarried := by
  unfold State.logCarried
  exact Steady.ite _ (Steady.of_logs (Logs.evAon _ _ _ _)) (Steady.refl s)

theorem Steady.startReport (s : State) (t0 : Nat) : Steady s (s.startReport t0) := by
  unfold State.startReport
  have hdraw : ∀ m : State, Steady m m.draw := fun _ => ⟨rfl, rfl⟩
  exact (Steady.of_logs (Logs.ev _ _ _ _)).trans (hdraw _)

theorem Steady.pickJudge (s : State) (f : PickSeen) : Steady s (s.pickJudge f).1 := by
  unfold State.pickJudge
  split
  · exact Steady.refl s
  dsimp only
  split
  · exact ⟨rfl, rfl⟩
  · refine Steady.trans ?_ (Steady.of_logs (Logs.raiseN _ _ _ _ _ _ _))
    exact ⟨rfl, rfl⟩

theorem Steady.pickRelease (s : State) : Steady s s.pickRelease := by
  unfold State.pickRelease
  exact (Steady.release s _).trans ⟨rfl, rfl⟩

/-- A frame put out on a link, with its trace and what is produced of it. -/
theorem Steady.framePut (s : State) (o : Out) (picked : Bool) (r : Nat) (e : Leaf) (p q : List Byte) (c : Prop) [Decidable c] :
    Steady s ((s.emitFrame o).asPick picked
      (fun s => let s := s.traceFrame r e 0 0 p; if c then s.produce 5 6 (fun _ => true) q else s)) := by
  refine Steady.trans (t := s.emitFrame o) ⟨rfl, rfl⟩ (Steady.of_logs (Logs.asPick _ _ _ (fun t => ?_)))
  dsimp only
  refine Logs.ite _ ?_ (Logs.traceFrame _ _ _ _ _ _)
  exact (Logs.traceFrame _ _ _ _ _ _).trans (Logs.produce _ _ _ _ _)

theorem Steady.sendFrame (s : State) (r : Nat) (e : Leaf) (cls dest kind seq : Nat) (payload : List Byte) :
    Steady s (s.sendFrame r e cls dest kind seq payload) := by
  unfold State.sendFrame
  split
  · exact Steady.refl s
  dsimp only
  refine Steady.trans ?_ (Steady.pickRelease _)
  have hhold : ∀ (m : State) (h : PickHeld), Steady m (m.pickHold h) := fun _ _ => ⟨rfl, rfl⟩
  split
  case h_2 => exact Steady.pickJudge _ _
  case h_5 => exact (Steady.pickJudge _ _).trans (hhold _ _)
  case h_6 =>
    refine Steady.trans ?_ (Steady.framePut _ _ _ _ _ _ _ _)
    exact Steady.trans (Steady.pickJudge _ _) (Steady.framePut _ _ _ _ _ _ _ _)
  all_goals exact Steady.trans (Steady.pickJudge _ _) (Steady.framePut _ _ _ _ _ _ _ _)

theorem Steady.sendEnum (s : State) (r : Nat) (e : Leaf) : Steady s (s.sendEnum r e) := by
  unfold State.sendEnum
  split
  · exact Steady.refl s
  refine Steady.trans ?_ (Steady.sendFrame _ _ _ _ _ _ _ _)
  refine Steady.trans ?_ (Steady.modRing _ _ _)
  refine Steady.each (fun p s => ?_) _ s
  exact ⟨rfl, rfl⟩

theorem Steady.enumClear (s : State) (r : Nat) : Steady s (s.enumClear r) := by
  unfold State.enumClear
  refine Steady.ite _ (Steady.refl s) ?_
  refine Steady.trans ?_ (Steady.modRing _ _ _)
  refine Steady.each (fun p s => ?_) _ s
  exact ⟨rfl, rfl⟩

theorem Steady.enumerate (s : State) (r kind : Nat) : Steady s (s.enumerate r kind) := by
  unfold State.enumerate
  refine Steady.trans ((Steady.enumClear s r).trans (Steady.modRing _ r (fun x => { x with enumKind := kind }))) ?_
  exact Steady.ite _ ((Steady.modRing _ _ _).trans (Steady.sendEnum _ _ _)) (Steady.sendEnum _ _ _)

theorem Steady.beginRings (s : State) (ns : Nat) : Steady s (s.beginRings ns) := by
  unfold State.beginRings
  refine Steady.trans ?_ (Steady.each (fun r s => Steady.enumerate s r 1) _ _)
  exact ⟨rfl, rfl⟩

/-- The AON domain at the entry of RUN: HALT with the thermal latch set, and the causes of HOLD that HALT and UNKEYED add. -/
def Aon.atRun (x : Aon) : Aon :=
  let halt := x.thermal
  let x := { x with dev := if halt then .halt else .run, lastStep := 7 }
  let x := if halt then { x with hold := true, holdCause := setBit x.holdCause 3 true } else x
  if x.unkeyed then { x with hold := true, holdCause := setBit x.holdCause 2 true } else x

/-- The states of device, leaves and HOLD at the entry of RUN. -/
def State.enterRun (s : State) : State :=
  let halt := s.aon.thermal
  let s := { s with aon := { s.aon with dev := if halt then .halt else .run, lastStep := 7 } }
  let s := s.modLeaves (fun x => if x.supplied ∧ x.st = .running then { x with rq := true } else x)
  let s := if s.kn.active.isNone then { s with kn := { s.kn with active := some s.act } } else s
  let s := if halt then s.holdSet 3 else s
  if s.aon.unkeyed then s.holdSet 2 else s

/-- The events at the entry of RUN: a latch carried into HALT, and a start UNKEYED. -/
def State.entryLogged (s : State) (halt : Bool) : State :=
  let s := if halt ∧ s.aon.carried then s.logCarried else s
  if s.aon.unkeyed then s.evA Ev.unkeyedStart srcD [] else s

/-- The rings' first enumeration, which a device UNKEYED has not. -/
def State.firstRings (s : State) : State :=
  if s.aon.unkeyed then s else s.beginRings (s.time.t0 + 35000000 - s.time.now)

/-- What RUN then begins: the events, the report, the banks, the outputs and the rings. -/
def State.beginRun (s : State) (halt : Bool) : State :=
  let s := s.entryLogged halt
  (s.startReport s.time.t0).beginPower.canFollow.rqFollow.firstRings

theorem enterRun_aon (s : State) : s.enterRun.aon = s.aon.atRun ∧ s.enterRun.cfg = s.cfg := by
  unfold State.enterRun Aon.atRun
  cases hth : s.aon.thermal <;> cases huk : s.aon.unkeyed <;> cases hk : s.kn.active <;>
    simp [State.modLeaves, State.holdSet, hth, huk, hk]

/-- The links' and the banks' steps at the entry of RUN. -/
theorem Steady.runOutputs (s : State) : Steady s s.beginPower.canFollow.rqFollow := by
  have hpower : Steady s s.beginPower := by
    unfold State.beginPower
    refine Steady.trans ?_ (Steady.banksLive _)
    exact ⟨rfl, rfl⟩
  have hrq : ∀ m : State, Steady m m.rqFollow := fun _ => ⟨rfl, rfl⟩
  exact (hpower.trans (Steady.canFollow _)).trans (hrq _)

theorem Steady.entryLogged (s : State) (halt : Bool) : Steady s (s.entryLogged halt) := by
  unfold State.entryLogged
  have hcarried : Steady s (if halt ∧ s.aon.carried then s.logCarried else s) := Steady.step (Steady.refl s) (fun t => Steady.logCarried t)
  have hunkeyed : ∀ m : State, Steady m (if m.aon.unkeyed then m.evA Ev.unkeyedStart srcD [] else m) := fun m =>
    Steady.ite _ (Steady.of_logs (Logs.evA _ _ _ _)) (Steady.refl m)
  exact hcarried.trans (hunkeyed _)

theorem Steady.firstRings (s : State) : Steady s s.firstRings := Steady.ite _ (Steady.refl s) (Steady.beginRings _ _)

theorem Steady.beginRun (s : State) (halt : Bool) : Steady s (s.beginRun halt) :=
  ((Steady.entryLogged s halt).trans ((Steady.startReport _ _).trans (Steady.runOutputs _))).trans (Steady.firstRings _)

theorem exec_runEntry_due {t : Nat} {s : State} (hstart : (s.setNow t).starting = true)
    (hstep : s.aon.lastStep = 6 ∨ (s.aon.lastStep = 5 ∧ s.aon.unkeyed = true)) :
    exec (.runEntry t) s = .next (settle s ((s.setNow t).enterRun.beginRun (s.setNow t).aon.thermal)) := by
  change execRunEntry t s = _
  unfold execRunEntry
  refine at'_eq ?_
  have hdue : ((s.setNow t).aon.lastStep == 6 || ((s.setNow t).aon.lastStep == 5 && (s.setNow t).aon.unkeyed)) = true := by
    simpa using hstep
  generalize s.setNow t = m at hstart hdue
  refine Eq.trans (if_pos (by rw [hstart, hdue]; rfl)) ?_
  extract_lets halt aon s1 s2 kn s3 s4 s5 s6 s7 s8
  have hentry : s5 = m.enterRun := rfl
  have hlogged : s7 = s5.entryLogged halt := rfl
  have hrings : s8 = (s7.startReport s7.time.t0).beginPower.canFollow.rqFollow := rfl
  have hend : s8.firstRings = m.enterRun.beginRun m.aon.thermal := by
    rw [hrings, hlogged, hentry]
    rfl
  exact hend

/-- Settling sets READY and FAULT_N and keeps a thermal latch. -/
theorem settle_aon (o n : State) : (settle o n).aon = { n.aon with
    ready := n.aon.dev == .run || n.aon.dev == .sleep || n.aon.dev == .halt
    faultN := (settle o n).aon.faultN, thermal := o.aon.thermal || n.aon.thermal } := rfl

theorem bit_setBit_same (n k : Nat) : bit (setBit n k true) k = true := by
  simp [bit, setBit]

theorem bit_setBit_of_bit {n j k : Nat} (h : bit n j = true) : bit (setBit n k true) j = true := by
  simp only [bit] at h
  simp [bit, setBit, h]

/-- What the AON domain shows at the entry of RUN. -/
theorem atRun_spec (x : Aon) : x.atRun.dev = (if x.thermal then .halt else .run) ∧ x.atRun.lastStep = 7 ∧ x.atRun.thermal = x.thermal ∧
    (x.thermal = true → x.atRun.hold = true ∧ bit x.atRun.holdCause 3 = true) ∧
    (x.unkeyed = true → x.atRun.hold = true ∧ bit x.atRun.holdCause 2 = true) := by
  unfold Aon.atRun
  cases hth : x.thermal <;> cases huk : x.unkeyed <;> simp [bit_setBit_same, bit_setBit_of_bit]

/-- Settles O14: the AON domain is that of `Aon.atRun`, which all that RUN then begins leaves alone. -/
theorem runEntryEntersRun : Obligations.RunEntryEntersRun := by
  unfold Obligations.RunEntryEntersRun
  intro t s hstart hstep
  obtain ⟨haon, hcfg⟩ := enterRun_aon (s.setNow t)
  have hsteady := Steady.beginRun (s.setNow t).enterRun (s.setNow t).aon.thermal
  have hm : ((s.setNow t).enterRun.beginRun (s.setNow t).aon.thermal).aon = s.aon.atRun := hsteady.aon.trans haon
  obtain ⟨hdev, hlast, hth, hhalt, hunkeyed⟩ := atRun_spec s.aon
  refine ⟨_, exec_runEntry_due hstart hstep, ?_⟩
  rw [settle_aon, settle_cfg, hsteady.cfg, hcfg, hm]
  refine ⟨hdev, hlast, ?_, hhalt, hunkeyed, rfl, ?_⟩
  · show (s.aon.atRun.dev == .run || s.aon.atRun.dev == .sleep || s.aon.atRun.dev == .halt) = true
    rw [hdev]
    cases s.aon.thermal <;> rfl
  · show (s.aon.thermal || s.aon.atRun.thermal) = s.aon.thermal
    rw [hth, Bool.or_self]

end Sys2Proof.Machine

namespace Sys2Proof.Machine

/-! ### A slot copied across the Knuckle (R47) -/

/-- The record of a leaf after a slot of another was copied into it: descriptor, bytes and judgement. -/
def LeafRec.copied (x y : LeafRec) (k : Nat) : LeafRec :=
  if k = 0 then { x with slot0 := y.slot0, valid0 := y.valid0 } else { x with slot1 := y.slot1, valid1 := y.valid1 }

theorem slotCopy_logs (s : State) (l : Leaf) (k : Nat) :
    Logs (s.setLeaf l ((s.leaf l).copied (s.leaf l.other) k)) (s.slotCopy l k) := by
  have hset : ((s.modLeaf l (fun x => x.modSlot k (fun _ => (s.leaf l.other).slot k))).modLeaf l (fun x =>
      if k = 0 then { x with valid0 := if k = 0 then (s.leaf l.other).valid0 else (s.leaf l.other).valid1 }
      else { x with valid1 := if k = 0 then (s.leaf l.other).valid0 else (s.leaf l.other).valid1 })) =
      s.setLeaf l ((s.leaf l).copied (s.leaf l.other) k) := by
    by_cases hk : k = 0 <;> cases l <;> simp only [LeafRec.copied, LeafRec.modSlot, LeafRec.slot, hk, if_true, if_false] <;> rfl
  unfold State.slotCopy
  dsimp only
  rw [hset]
  exact Logs.evA _ _ _ _

/-- A copy leaves the records but for slots and judgements. -/
theorem copied_spec (x y : LeafRec) (k : Nat) : (x.copied y k).slot k = y.slot k ∧ ((x.copied y k).validSlot k = y.validSlot k) ∧
    (x.copied y k).log = x.log ∧ (x.copied y k).st = x.st := by
  by_cases hk : k = 0 <;> simp [LeafRec.copied, LeafRec.slot, LeafRec.validSlot, hk]

theorem Logs.slot {s n : State} (h : Logs s n) (l : Leaf) (k : Nat) : (n.leaf l).slot k = (s.leaf l).slot k := by
  rw [LeafRec.slot, LeafRec.slot, h.leaf_slot0, h.leaf_slot1]

theorem Logs.validSlot {s n : State} (h : Logs s n) (l : Leaf) (k : Nat) : (n.leaf l).validSlot k = (s.leaf l).validSlot k := by
  rw [LeafRec.validSlot, LeafRec.validSlot, h.slot, h.leaf_valid0, h.leaf_valid1]

theorem setLeaf_leaf (s : State) (l : Leaf) (x : LeafRec) : (s.setLeaf l x).leaf l = x := by cases l <;> rfl

theorem setLeaf_leaf_other (s : State) (l : Leaf) (x : LeafRec) : (s.setLeaf l x).leaf l.other = s.leaf l.other := by cases l <;> rfl

theorem Frame.slotCopy (s : State) (l : Leaf) (k : Nat) : Frame [.leafA, .leafB, .log, .fifos] s (s.slotCopy l k) :=
  ((Frame.setLeaf s l _ (congrArg LogCopy.queue (copied_spec _ _ k).2.2.1)).mono (by decide)).trans
    ((slotCopy_logs s l k).frame_of_mem (by decide) (by decide))

theorem exec_imageSlotRepair_due {t : Nat} {l : Leaf} {k : Nat} {s : State} (hrun : s.aon.dev = .run) (hk : k < 2)
    (hother : (s.setNow t).running l.other = true) (hsup : (s.leaf l).supplied = true) (hwrite : (s.leaf l).writeOk = true)
    (hfrom : (s.leaf l.other).validSlot k = true) (hto : (s.leaf l).validSlot k = false) :
    exec (.imageSlotRepair t l k) s = .next (settle s ((s.setNow t).slotCopy l k)) := by
  change execImageSlotRepair t l k s = _
  unfold execImageSlotRepair
  refine at'_eq ?_
  have hin : (s.setNow t).inRun = true := by
    rw [State.inRun, setNow_aon, hrun]
    rfl
  exact if_pos (by rw [hin, hother, setNow_leaf, setNow_leaf, hsup, hwrite, hfrom, hto, decide_eq_true hk]; rfl)

/-- Settles O31: the copy writes one leaf's record, and its event reaches the log alone. -/
theorem slotRepairCopies : Obligations.SlotRepairCopies := by
  unfold Obligations.SlotRepairCopies
  intro t l k s hrun hk hother hsup hwrite hfrom hto
  have hlogs := slotCopy_logs (s.setNow t) l k
  obtain ⟨hslot, hvalid, -, -⟩ := copied_spec (s.leaf l) (s.leaf l.other) k
  refine ⟨_, exec_imageSlotRepair_due hrun hk hother hsup hwrite hfrom hto, ?_⟩
  rw [settle_leaf, settle_leaf, hlogs.slot, hlogs.validSlot, hlogs.leaf_slot0, hlogs.leaf_slot1, setLeaf_leaf, setLeaf_leaf_other,
    setNow_leaf, setNow_leaf, hslot, hvalid]
  exact ⟨rfl, hfrom, rfl, rfl, (Frame.slotCopy _ _ _).settle⟩

end Sys2Proof.Machine

namespace Sys2Proof.Machine

/-! ### The steps of a rejoin (R49, R554) -/

/-- The command at a step of the rejoin, for a supplied leaf. -/
def State.rejoinStep (s : State) (l : Leaf) (ok : Bool) : State :=
  if (s.leaf l).rejoin = 6 then (if s.atBoundary then s.rejoined l else s)
  else if (s.leaf l).rejoin = 5 then
    if (s.leaf l).st = .resyncing then (if ok then (s.learnCopy l).modLeaf l (fun x => { x with rejoin := 6 }) else s.rejoinFail l) else s
  else if !ok then s.rejoinFail l
  else if (s.leaf l).rejoin = 3 then
    (if s.holdsRunning l then s else s.slotCopy l s.stage.activeSlot).modLeaf l (fun x => { x with rejoin := 4 })
  else if (s.leaf l).rejoin = 4 then
    s.setLeaf l { s.leaf l with rejoin := 5, st := if s.aon.unkeyed then .resyncing else (s.leaf l).st }
  else s.ownStartDone l

theorem exec_rejoinStepComplete_supplied {t : Nat} {l : Leaf} {s : State} (ok : Bool) (hsup : (s.leaf l).supplied = true)
    (hr : (s.leaf l).rejoin ≠ 0) : exec (.rejoinStepComplete t l ok) s = .next (settle s ((s.setNow t).rejoinStep l ok)) := by
  change execRejoinStepComplete t l ok s = _
  unfold execRejoinStepComplete
  refine at'_eq ?_
  refine Eq.trans (if_neg ?_) rfl
  rw [setNow_leaf, hsup]
  simpa using hr

theorem Frame.modLeaf (s : State) (l : Leaf) (f : LeafRec → LeafRec) (hq : (f (s.leaf l)).log.queue = (s.leaf l).log.queue) :
    Frame [.leafA, .leafB] s (s.modLeaf l f) := Frame.setLeaf s l _ hq

/-- The leaf after its own start, step 2: clock, MRAM and SRAM good, step 3 next. -/
def State.startedAlone (s : State) (l : Leaf) : State :=
  s.modLeaf l (fun x => { x with rejoin := 3, pllOk := true, mramOk := true, sramOk := true })

theorem startReport_logs (s : State) (t0 : Nat) : ∃ m, Logs s m ∧ s.startReport t0 = m.draw := ⟨_, Logs.ev _ _ _ _, rfl⟩

theorem draw_leaf (s : State) (l : Leaf) : s.draw.leaf l = s.leaf l := by cases l <;> rfl

theorem ownStartDone_spec (s : State) (l : Leaf) :
    ((s.ownStartDone l).leaf l).rejoin = 3 ∧ ((s.ownStartDone l).leaf l).pllOk = true ∧ ((s.ownStartDone l).leaf l).mramOk = true ∧
      ((s.ownStartDone l).leaf l).sramOk = true ∧ ((s.ownStartDone l).leaf l).valid0 = (judgeSlot s.stage.keys (s.leaf l).slot0).1 ∧
      ((s.ownStartDone l).leaf l).valid1 = (judgeSlot s.stage.keys (s.leaf l).slot1).1 ∧
      Frame [.leafA, .leafB, .log, .fifos, .free] s (s.ownStartDone l) := by
  obtain ⟨m, hreport, hm⟩ := startReport_logs ((s.startedAlone l).judgeSlots l) ((s.startedAlone l).leaf l).t0
  have hlogs := (judgeSlots_logs (s.startedAlone l) l).trans hreport
  have hdone : s.ownStartDone l = m.draw := by
    rw [← hm]
    rfl
  have hleaf : (s.startedAlone l).leaf l = { s.leaf l with rejoin := 3, pllOk := true, mramOk := true, sramOk := true } := modLeaf_leaf _ _ _
  rw [hdone, draw_leaf, hlogs.leaf_rejoin, hlogs.leaf_pllOk, hlogs.leaf_mramOk, hlogs.leaf_sramOk, hlogs.leaf_valid0, hlogs.leaf_valid1,
    setLeaf_leaf, State.judged, hleaf]
  have hstage : (s.startedAlone l).stage = s.stage := by simp [State.startedAlone]
  rw [hstage]
  refine ⟨rfl, rfl, rfl, rfl, rfl, rfl, ?_⟩
  refine Frame.trans ?_ ((Frame.draw m).mono (by decide))
  refine Frame.trans ?_ (hlogs.frame_of_mem (by decide) (by decide))
  have hset : Frame [.leafA, .leafB] s ((s.startedAlone l).setLeaf l ((s.startedAlone l).judged l)) :=
    (Frame.modLeaf s l _ rfl).trans (Frame.setLeaf (s.startedAlone l) l _ rfl)
  exact hset.mono (by decide)

theorem learnCopy_frame (s : State) (l : Leaf) : Frame [.leafA, .leafB] s (s.learnCopy l) := Frame.modLeaf s l _ rfl

theorem Frame.kn (s : State) (x : Knuckle) : Frame [.knuckle] s { s with kn := x } := by
  rintro ⟨⟩ hp <;> simp [Part.same] at hp ⊢

/-- The record of a leaf whose rejoin failed (R554). -/
def LeafRec.refenced (x : LeafRec) (time : Nat) : LeafRec :=
  { x with
      st := .fenced, rejoin := 0
      cause := if x.cause ≠ 0 then x.cause else if x.rejoin = 3 then Fc.image else if x.rejoin = 4 then Fc.kat else Fc.start
      fenceTime := if x.cause ≠ 0 then x.fenceTime else time }

/-- The state of a failed rejoin before its event: the leaf FENCED, a rolling restart ended. -/
def State.refenced (s : State) (l : Leaf) : State :=
  let s := s.setLeaf l ((s.leaf l).refenced s.devTime)
  { s with kn := { s.kn with rolling := 0 } }

theorem refenced_leaf (s : State) (l : Leaf) : (s.refenced l).leaf l = (s.leaf l).refenced s.devTime := by cases l <;> rfl

/-- A step that fails: the leaf FENCED with its old cause. -/
theorem rejoinFail_spec (s : State) (l : Leaf) :
    ((s.rejoinFail l).leaf l).st = .fenced ∧ ((s.rejoinFail l).leaf l).rejoin = 0 ∧
      ((s.leaf l).cause ≠ 0 → ((s.rejoinFail l).leaf l).cause = (s.leaf l).cause) ∧
      Frame [.leafA, .leafB, .knuckle, .log, .fifos] s (s.rejoinFail l) := by
  have hlogs : Logs (s.refenced l) (s.rejoinFail l) := Logs.evAon _ _ _ _
  rw [hlogs.leaf_st, hlogs.leaf_rejoin, hlogs.leaf_cause, refenced_leaf]
  refine ⟨rfl, rfl, fun h => if_pos h, Frame.trans ?_ (hlogs.frame_of_mem (by decide) (by decide))⟩
  have hset : Frame [.leafA, .leafB] s (s.setLeaf l ((s.leaf l).refenced s.devTime)) := Frame.setLeaf s l _ rfl
  exact (hset.mono (by decide)).trans ((Frame.kn _ _).mono (by decide))

/-- Step 6 ends: the leaf RUNS with its cause cleared. -/
def State.back (s : State) (l : Leaf) : State :=
  let s := s.modLeaf l (fun x => { x with st := .running, cause := 0, rejoin := 0, rq := true })
  { s with kn := { s.kn with linkLost := false, unsynced := false, roleDiffers := s.cfg.roleActive != s.act } }

theorem Frame.ch (s : State) (x : Chains) : Frame [.chains] s { s with ch := x } := by
  rintro ⟨⟩ hp <;> simp [Part.same] at hp ⊢

theorem Frame.links (s : State) (x : Links) : Frame [.links] s { s with links := x } := by
  rintro ⟨⟩ hp <;> simp [Part.same] at hp ⊢

/-- Nothing but the rings' records differs. -/
def RingsOnly (s n : State) : Prop := ∃ x, n = { s with ch := x }

theorem RingsOnly.trans {s t n : State} (h : RingsOnly s t) (k : RingsOnly t n) : RingsOnly s n := by
  obtain ⟨_, rfl⟩ := h
  obtain ⟨x, rfl⟩ := k
  exact ⟨x, rfl⟩

theorem RingsOnly.each {α : Type} {f : α → State → State} (h : ∀ x s, RingsOnly s (f x s)) (l : List α) (s : State) : RingsOnly s (s.each l f) := by
  induction l generalizing s with
  | nil => exact ⟨s.ch, rfl⟩
  | cons x r ih => exact (h x s).trans (ih (f x s))

theorem RingsOnly.portsBack (s : State) (l : Leaf) : RingsOnly s (s.portsBack l) := by
  refine RingsOnly.each (fun r s => ?_) _ s
  split
  · exact ⟨_, rfl⟩
  · exact ⟨s.ch, rfl⟩

/-- RQ following the levels keeps a leaf's state, and a request that it has. -/
theorem rqFollow_spec (s : State) (l : Leaf) : (s.rqFollow.leaf l).st = (s.leaf l).st ∧ (s.rqFollow.leaf l).cause = (s.leaf l).cause ∧
    (s.rqFollow.leaf l).rejoin = (s.leaf l).rejoin ∧ ((s.leaf l).rq = true → (s.rqFollow.leaf l).rq = true) := by
  cases l <;> simp only [State.rqFollow, State.modLeaves, State.leaf] <;> split <;> simp +contextual

theorem rqFollow_frame (s : State) : Frame [.leafA, .leafB] s s.rqFollow := by
  rintro ⟨⟩ hp <;> simp [Part.same, State.rqFollow, State.modLeaves] at hp ⊢
  constructor <;> split <;> rfl

theorem rejoined_spec (s : State) (l : Leaf) :
    ((s.rejoined l).leaf l).st = .running ∧ ((s.rejoined l).leaf l).cause = 0 ∧ ((s.rejoined l).leaf l).rejoin = 0 ∧
      ((s.rejoined l).leaf l).rq = true ∧ (s.rejoined l).kn.linkLost = false ∧
      Frame [.leafA, .leafB, .knuckle, .chains, .links, .log, .fifos] s (s.rejoined l) := by
  obtain ⟨x, hx⟩ := RingsOnly.portsBack (s.back l) l
  have hlogs : Logs ((s.back l).portsBack l).canFollow.rqFollow (s.rejoined l) := Logs.evA _ _ _ _
  have hleaf : (((s.back l).portsBack l).canFollow.leaf l) = { s.leaf l with st := .running, cause := 0, rejoin := 0, rq := true } := by
    rw [hx]
    cases l <;> rfl
  obtain ⟨hst, hcause, hr, hrq⟩ := rqFollow_spec ((s.back l).portsBack l).canFollow l
  rw [hleaf] at hst hcause hr hrq
  rw [hlogs.leaf_st, hlogs.leaf_cause, hlogs.leaf_rejoin, hlogs.leaf_rq, hlogs.kn, hst, hcause, hr]
  refine ⟨rfl, rfl, rfl, hrq rfl, ?_, Frame.trans ?_ (hlogs.frame_of_mem (by decide) (by decide))⟩
  · rw [hx]
    rfl
  · refine Frame.trans ?_ ((rqFollow_frame _).mono (by decide))
    refine Frame.trans ?_ ((Frame.links ((s.back l).portsBack l) _).mono (by decide))
    rw [hx]
    refine Frame.trans ?_ ((Frame.ch _ x).mono (by decide))
    have hset : Frame [.leafA, .leafB] s (s.modLeaf l (fun x => { x with st := .running, cause := 0, rejoin := 0, rq := true })) :=
      Frame.modLeaf s l _ rfl
    exact (hset.mono (by decide)).trans ((Frame.kn _ _).mono (by decide))

end Sys2Proof.Machine

namespace Sys2Proof.Machine

/-! The step that a command completes, by the step the leaf is in -/

section
variable {s : State} {l : Leaf}

theorem rejoinStep_own (h : (s.leaf l).rejoin = 2) : s.rejoinStep l true = s.ownStartDone l := by
  simp [State.rejoinStep, h]

theorem rejoinStep_image (h : (s.leaf l).rejoin = 3) : s.rejoinStep l true =
    (if s.holdsRunning l then s else s.slotCopy l s.stage.activeSlot).modLeaf l (fun x => { x with rejoin := 4 }) := by
  simp [State.rejoinStep, h]

theorem rejoinStep_test (h : (s.leaf l).rejoin = 4) : s.rejoinStep l true =
    s.setLeaf l { s.leaf l with rejoin := 5, st := if s.aon.unkeyed then .resyncing else (s.leaf l).st } := by
  simp [State.rejoinStep, h]

theorem rejoinStep_resync (h : (s.leaf l).rejoin = 5) (hst : (s.leaf l).st = .resyncing) :
    s.rejoinStep l true = (s.learnCopy l).modLeaf l (fun x => { x with rejoin := 6 }) := by
  simp [State.rejoinStep, h, hst]

theorem rejoinStep_end (h : (s.leaf l).rejoin = 6) (hb : s.atBoundary = true) (ok : Bool) : s.rejoinStep l ok = s.rejoined l := by
  simp [State.rejoinStep, h, hb]

theorem rejoinStep_fails (hlow : 2 ≤ (s.leaf l).rejoin) (hhigh : (s.leaf l).rejoin ≤ 4) : s.rejoinStep l false = s.rejoinFail l := by
  have h6 : (s.leaf l).rejoin ≠ 6 := by omega
  have h5 : (s.leaf l).rejoin ≠ 5 := by omega
  simp [State.rejoinStep, h6, h5]

end

/-- The image is in the leaf, or is copied: nothing but slots and judgements changes. -/
theorem imageHeld_spec (s : State) (l : Leaf) (k : Nat) :
    ((if s.holdsRunning l then s else s.slotCopy l k).leaf l).st = (s.leaf l).st ∧
      Frame [.leafA, .leafB, .log, .fifos] s (if s.holdsRunning l then s else s.slotCopy l k) := by
  split
  · exact ⟨rfl, Frame.refl _ s⟩
  · refine ⟨?_, Frame.slotCopy s l k⟩
    rw [(slotCopy_logs s l k).leaf_st, setLeaf_leaf]
    exact (copied_spec _ _ k).2.2.2

/-! A leaf whose supply returns -/

/-- The leaf is supplied again, its rails and its own t0 recorded. -/
def State.resupplied (s : State) (l : Leaf) : State :=
  let s := s.setLeaf l { s.leaf l with supplied := true, t0 := s.time.now }
  { s with aon := { s.aon with rails := [0, 1, 2, 3].foldl (fun r k => setBit r (railBit l k) true) s.aon.rails } }

theorem resupplied_leaf (s : State) (l : Leaf) : (s.resupplied l).leaf l = { s.leaf l with supplied := true, t0 := s.time.now } := by
  cases l <;> rfl

theorem resupplied_time (s : State) (l : Leaf) : (s.resupplied l).time = s.time := by cases l <;> rfl

theorem exec_leafSupplyReturn_due {t : Nat} {l : Leaf} {s : State} (hsup : (s.leaf l).supplied = false) (hon : s.aon.dev ≠ .off)
    (hvaon : s.aon.vaon = true) : exec (.leafSupplyReturn t l) s = .next (settle s
      (if (s.leaf l).st = .fenced ∧ (s.leaf l).cause ≠ Fc.role ∧ s.aon.dev ≠ .safe ∧ !s.aon.testEn
        then ((s.setNow t).resupplied l).rejoinBegin l 2 else (s.setNow t).resupplied l)) := by
  change execLeafSupplyReturn t l s = _
  unfold execLeafSupplyReturn
  refine at'_eq ?_
  refine Eq.trans (if_neg ?_) ?_
  · rw [setNow_leaf, hsup, setNow_aon, hvaon]
    simpa using hon
  · cases l <;> rfl

theorem resupplied_frame (s : State) (l : Leaf) : Frame [.aon, .leafA, .leafB] s (s.resupplied l) := by
  have hset : Frame [.leafA, .leafB] s (s.setLeaf l { s.leaf l with supplied := true, t0 := s.time.now }) := Frame.setLeaf s l _ rfl
  exact (hset.mono (by decide)).trans ((Frame.aon _ _).mono (by decide))

theorem rejoinBegin_spec (s : State) (l : Leaf) (cause : Nat) :
    (s.rejoinBegin l cause).leaf l = { s.leaf l with st := .rejoining, rejoin := 2, t0 := s.time.now, rq := false, dbReq := false
                                                     pllOk := false, mramOk := false, sramOk := false, valid0 := none, valid1 := none } ∧
      (s.rejoinBegin l cause).aon = { s.aon with resetCause := cause } ∧ Frame [.aon, .leafA, .leafB] s (s.rejoinBegin l cause) := by
  refine ⟨by cases l <;> rfl, by cases l <;> rfl, ?_⟩
  refine Frame.trans (t := { s with aon := { s.aon with resetCause := cause } }) ((Frame.aon _ _).mono (by decide)) ?_
  unfold State.rejoinBegin
  exact (Frame.modLeaf _ l _ (by cases l <;> rfl)).mono (by decide)

theorem leafSupplyReturn_spec {t : Nat} {l : Leaf} {s : State} (hsup : (s.leaf l).supplied = false) (hon : s.aon.dev ≠ .off)
    (hvaon : s.aon.vaon = true) :
    ∃ n, exec (.leafSupplyReturn t l) s = .next n ∧ (n.leaf l).supplied = true ∧ (n.leaf l).t0 = (s.setNow t).time.now ∧
      ((s.leaf l).st = .fenced → (s.leaf l).cause ≠ Fc.role → s.aon.dev ≠ .safe → s.aon.testEn = false →
        (n.leaf l).st = .rejoining ∧ (n.leaf l).rejoin = 2 ∧ n.aon.resetCause = 2) ∧
      ((s.leaf l).cause = Fc.role → (n.leaf l).st = (s.leaf l).st) ∧ Frame [.aon, .leafA, .leafB] s n := by
  refine ⟨_, exec_leafSupplyReturn_due hsup hon hvaon, ?_⟩
  have hleaf := resupplied_leaf (s.setNow t) l
  rw [setNow_leaf] at hleaf
  rw [settle_leaf]
  split
  case isTrue h =>
    obtain ⟨hrec, haon, hframe⟩ := rejoinBegin_spec ((s.setNow t).resupplied l) l 2
    rw [hrec, hleaf]
    refine ⟨rfl, congrArg TimeU.now (resupplied_time _ l), fun _ _ _ _ => ⟨rfl, rfl, ?_⟩, fun hc => absurd hc h.2.1, ((resupplied_frame _ l).trans hframe).settle⟩
    exact congrArg Aon.resetCause haon
  case isFalse h =>
    rw [hleaf]
    exact ⟨rfl, rfl, fun h1 h2 h3 h4 => absurd ⟨h1, h2, h3, by rw [h4]; rfl⟩ h, fun _ => rfl, (resupplied_frame _ l).settle⟩

/-- Settles O20, step by step of the rejoin, and by the record of a leaf whose supply returns. -/
theorem rejoinSteps : Obligations.RejoinSteps := by
  unfold Obligations.RejoinSteps
  intro t l s
  have hleaf := setNow_leaf s t l
  refine ⟨fun hsup => ⟨fun hr => ?_, fun hr => ?_, fun hr => ?_, fun hr hst => ?_, fun hr hb ok => ?_, fun hlow hhigh => ?_⟩, leafSupplyReturn_spec⟩
  · obtain ⟨h1, h2, h3, h4, h5, h6, hframe⟩ := ownStartDone_spec (s.setNow t) l
    rw [hleaf] at h5 h6
    refine ⟨_, exec_rejoinStepComplete_supplied true hsup (by omega), ?_⟩
    rw [rejoinStep_own (by rw [hleaf, hr]), settle_leaf]
    exact ⟨h1, h2, h3, h4, h5, h6, hframe.settle⟩
  · obtain ⟨hst, hframe⟩ := imageHeld_spec (s.setNow t) l (s.setNow t).stage.activeSlot
    rw [hleaf] at hst
    refine ⟨_, exec_rejoinStepComplete_supplied true hsup (by omega), ?_⟩
    rw [rejoinStep_image (by rw [hleaf, hr]), settle_leaf, modLeaf_leaf]
    exact ⟨rfl, hst, (hframe.trans ((Frame.modLeaf _ l (fun x => { x with rejoin := 4 }) rfl).mono (by decide))).settle⟩
  · refine ⟨_, exec_rejoinStepComplete_supplied true hsup (by omega), ?_⟩
    rw [rejoinStep_test (by rw [hleaf, hr]), settle_leaf, setLeaf_leaf]
    refine ⟨rfl, Frame.settle (Frame.setLeaf _ _ _ ?_)⟩
    rfl
  · refine ⟨_, exec_rejoinStepComplete_supplied true hsup (by omega), ?_⟩
    rw [rejoinStep_resync (by rw [hleaf, hr]) (by rw [hleaf, hst]), settle_leaf, modLeaf_leaf]
    exact ⟨rfl, ((learnCopy_frame _ l).trans (Frame.modLeaf _ l (fun x => { x with rejoin := 6 }) rfl)).settle⟩
  · obtain ⟨h1, h2, h3, h4, h5, hframe⟩ := rejoined_spec (s.setNow t) l
    refine ⟨_, exec_rejoinStepComplete_supplied ok hsup (by omega), ?_⟩
    rw [rejoinStep_end (by rw [hleaf, hr]) hb, settle_leaf, settle_kn]
    exact ⟨h1, h2, h3, h4, h5, hframe.settle⟩
  · obtain ⟨h1, h2, h3, hframe⟩ := rejoinFail_spec (s.setNow t) l
    rw [hleaf] at h3
    refine ⟨_, exec_rejoinStepComplete_supplied false hsup (by omega), ?_⟩
    rw [rejoinStep_fails (by rw [hleaf]; exact hlow) (by rw [hleaf]; exact hhigh), settle_leaf]
    exact ⟨h1, h2, h3, hframe.settle⟩

end Sys2Proof.Machine

namespace Sys2Proof.Machine

/-! ### The rolling restart (R56) -/

theorem Steady.modLeaf (s : State) (l : Leaf) (f : LeafRec → LeafRec) : Steady s (s.modLeaf l f) := Steady.setLeaf s l _

theorem Steady.logPut (s : State) (l : Leaf) (r : EventRec) : Steady s (s.logPut l r) := by
  unfold State.logPut
  refine Steady.trans ?_ (Steady.modLeaf _ l _)
  exact Steady.ite _ (Steady.of_logs (Logs.lg s _)) (Steady.refl s)

theorem Steady.logFlush (s : State) (l : Leaf) : Steady s (s.logFlush l) := by
  unfold State.logFlush
  refine Steady.trans ?_ (Steady.modLeaf _ l _)
  exact Steady.ite _ (Steady.fold _ (fun s r => Steady.logPut s l r) _ s) (Steady.refl s)

theorem Ends.logPut (s : State) (l : Leaf) (r : EventRec) : Ends s (s.logPut l r) := by
  unfold State.logPut
  refine Ends.trans ?_ (Ends.modLeaf _ l _)
  exact Ends.ite _ (Ends.of_logs (Logs.lg s _)) (Ends.refl s)

theorem Ends.logFlush (s : State) (l : Leaf) : Ends s (s.logFlush l) := by
  unfold State.logFlush
  refine Ends.trans ?_ (Ends.modLeaf _ l _)
  exact Ends.ite _ (Ends.fold _ (fun s r => Ends.logPut s l r) _ s) (Ends.refl s)

theorem Ends.logCarried (s : State) : Ends s s.logCarried := by
  unfold State.logCarried
  exact Ends.ite _ (Ends.of_logs (Logs.evAon _ _ _ _)) (Ends.refl s)

theorem Calm.logCarried (s : State) : Calm s s.logCarried := by
  unfold State.logCarried
  exact Calm.ite _ (Calm.of_logs (Logs.evAon _ _ _ _)) (Calm.refl s)

theorem Calm.canFollow (s : State) : Calm s s.canFollow := Calm.of_eq rfl rfl rfl rfl rfl

theorem LeafRec.core_rejoin {x y : LeafRec} (h : x.core = y.core) : x.rejoin = y.rejoin := by have := congrArg LeafRec.rejoin h; exact this

/-- The HOT STANDBY taken out before its restart: its Knuckle work, queues and snapshot ended, its rings left. -/
def State.standbyDown (s : State) : State :=
  (((s.knuckleCancel.logFlush s.act.other).modLeaf s.act.other (fun x => { x with mramQ := [], cause := 0 })).snapCut s.act.other).fenceRings s.act.other

/-- A restart of the HOT STANDBY: it is in step 2 of its rejoin by reset cause 5, the rest of the AON domain and what no fence reaches stay. -/
theorem restartStandby_spec (s : State) : (s.restartStandby.leaf s.act.other).st = .rejoining ∧ (s.restartStandby.leaf s.act.other).rejoin = 2 ∧
    s.restartStandby.aon = { s.aon with resetCause := 5 } ∧ Frame fenceParts s s.restartStandby := by
  have hsteady : Steady s s.standbyDown :=
    ((((Steady.knuckleCancel s).trans (Steady.logFlush _ _)).trans (Steady.modLeaf _ _ _)).trans (Steady.snapCut _ _)).trans (Steady.fenceRings _ _)
  have hends : Ends s s.standbyDown :=
    ((((Ends.knuckleCancel s).trans (Ends.logFlush _ _)).trans (Ends.modLeaf _ _ _)).trans (Ends.snapCut _ _)).trans (Ends.fenceRings _ _)
  obtain ⟨hleaf, haon, hbegin⟩ := rejoinBegin_spec s.standbyDown s.act.other 5
  have hcalm : Calm (s.standbyDown.rejoinBegin s.act.other 5) s.restartStandby :=
    ((Calm.stageAbandon _ 4).trans (Calm.canFollow _)).trans (Calm.logCarried _)
  have hafter : Steady (s.standbyDown.rejoinBegin s.act.other 5) s.restartStandby :=
    ((Steady.stageAbandon _ 4).trans (Steady.canFollow _)).trans (Steady.logCarried _)
  have hafterEnds : Ends (s.standbyDown.rejoinBegin s.act.other 5) s.restartStandby :=
    ((Ends.stageAbandon _ 4).trans (Ends.canFollow _)).trans (Ends.logCarried _)
  have hcore := hcalm.leaf s.act.other
  rw [hleaf] at hcore
  refine ⟨(LeafRec.core_st hcore).trans rfl, (LeafRec.core_rejoin hcore).trans rfl, ?_, ?_⟩
  · rw [hafter.aon, haon, hsteady.aon]
  · exact (hends.frame.trans (hbegin.mono (by decide))).trans hafterEnds.frame

/-- What the rolling restart does next, by the step it is in. -/
def State.rollNext (s : State) : State :=
  match s.kn.rolling with
  | 1 => s.rollHandover 2
  | 2 => (fun s => ({ s with kn := { s.kn with rolling := 3 } } : State)) s.restartStandby
  | 3 => if s.cfg.dual && s.act != s.cfg.roleActive then s.rollHandover 4 else { s with kn := { s.kn with rolling := 0 } }
  | 4 => { s with kn := { s.kn with rolling := 0 } }
  | _ => s

theorem exec_rollingRestartAdvance_free {t : Nat} {s : State} (hboth : (s.setNow t).bothRun = true) (hask : s.kn.handoverAsked = false)
    (harb : s.kn.arb = 0) : exec (.rollingRestartAdvance t) s = .next (settle s (s.setNow t).rollNext) := by
  change execRollingRestartAdvance t s = _
  unfold execRollingRestartAdvance
  refine at'_eq ?_
  refine Eq.trans (if_neg ?_) rfl
  rw [hboth, setNow_kn, hask, harb]
  decide

theorem rollHandover_keyed {s : State} (k : Nat) (h : s.aon.unkeyed = false) :
    s.rollHandover k = { s with kn := { s.kn with rolling := k, handoverAsked := true } } := by
  simp [State.rollHandover, h]

theorem kn_leaf (s : State) (x : Knuckle) (l : Leaf) : ({ s with kn := x } : State).leaf l = s.leaf l := by cases l <;> rfl

/-- ACTIVE does not depend on the clock. -/
theorem setNow_act (s : State) (t : Nat) : (s.setNow t).act = s.act := rfl

/-- Settles O23, by the step that the rolling restart is in. -/
theorem rollingAdvance : Obligations.RollingAdvance := by
  unfold Obligations.RollingAdvance
  intro t s hboth hask harb hkeyed
  have hexec := exec_rollingRestartAdvance_free hboth hask harb
  have hkn : ∀ x, Frame [.knuckle] s (settle s { s.setNow t with kn := x }) := fun x => (Frame.kn (s.setNow t) x).settle
  refine ⟨fun hr => ⟨_, hexec, ?_⟩, fun hr => ⟨_, hexec, ?_⟩, fun hr hdual hact => ⟨_, hexec, ?_⟩, fun hr hrole => ⟨_, hexec, ?_⟩,
    fun hr => ⟨_, hexec, ?_⟩⟩
  · have hnext : (s.setNow t).rollNext = (s.setNow t).rollHandover 2 := by
      simp [State.rollNext, hr]
    rw [hnext, rollHandover_keyed (s := s.setNow t) 2 hkeyed]
    exact ⟨rfl, rfl, hkn _⟩
  · have hnext : (s.setNow t).rollNext = { (s.setNow t).restartStandby with kn := { (s.setNow t).restartStandby.kn with rolling := 3 } } := by
      simp [State.rollNext, hr]
    obtain ⟨hst, hrejoin, -, hframe⟩ := restartStandby_spec (s.setNow t)
    rw [setNow_act] at hst hrejoin
    rw [hnext, settle_leaf, kn_leaf]
    exact ⟨rfl, hst, hrejoin, (hframe.trans ((Frame.kn _ _).mono (by decide))).settle⟩
  · have hnext : (s.setNow t).rollNext = (s.setNow t).rollHandover 4 := by
      simp [State.rollNext, hr, hdual, setNow_act, hact]
    rw [hnext, rollHandover_keyed (s := s.setNow t) 4 hkeyed]
    exact ⟨rfl, rfl, hkn _⟩
  · have hnext : (s.setNow t).rollNext = { s.setNow t with kn := { (s.setNow t).kn with rolling := 0 } } := by
      obtain hdual | hact := hrole
      · simp [State.rollNext, hr, hdual]
      · simp [State.rollNext, hr, setNow_act, hact]
    rw [hnext]
    exact ⟨rfl, hkn _⟩
  · have hnext : (s.setNow t).rollNext = { s.setNow t with kn := { (s.setNow t).kn with rolling := 0 } } := by
      simp [State.rollNext, hr]
    rw [hnext]
    exact ⟨rfl, hkn _⟩

end Sys2Proof.Machine

namespace Sys2Proof.Machine

/-! ### RESTART (R55, R60) -/

/-- Both states agree on what a start takes of the leaves: supply and MRAM. -/
def SameMram (s n : State) : Prop := ∀ l, (n.leaf l).supplied = (s.leaf l).supplied ∧ (n.leaf l).mram = (s.leaf l).mram

theorem SameMram.refl (s : State) : SameMram s s := fun _ => ⟨rfl, rfl⟩

theorem SameMram.trans {s t u : State} (h : SameMram s t) (k : SameMram t u) : SameMram s u :=
  fun l => ⟨(k l).1.trans (h l).1, (k l).2.trans (h l).2⟩

theorem SameMram.ite {s t u : State} (c : Prop) [Decidable c] (h : SameMram s t) (k : SameMram s u) : SameMram s (if c then t else u) := by
  split
  · exact h
  · exact k

theorem SameMram.fold {α : Type} (f : State → α → State) (h : ∀ s x, SameMram s (f s x)) : ∀ (l : List α) (s : State), SameMram s (l.foldl f s)
  | [], s => SameMram.refl s
  | x :: r, s => (h s x).trans (SameMram.fold f h r _)

theorem SameMram.of_calm {s n : State} (h : Calm s n) : SameMram s n :=
  fun l => ⟨LeafRec.core_supplied (h.leaf l), by have := congrArg LeafRec.mram (h.leaf l); exact this⟩

theorem SameMram.modLeaf (s : State) (l : Leaf) (f : LeafRec → LeafRec)
    (hf : (f (s.leaf l)).supplied = (s.leaf l).supplied ∧ (f (s.leaf l)).mram = (s.leaf l).mram) : SameMram s (s.modLeaf l f) := by
  intro k
  cases l <;> cases k
  · exact hf
  · exact ⟨rfl, rfl⟩
  · exact ⟨rfl, rfl⟩
  · exact hf

theorem SameMram.logPut (s : State) (l : Leaf) (r : EventRec) : SameMram s (s.logPut l r) := by
  unfold State.logPut
  refine SameMram.trans ?_ (SameMram.modLeaf _ l _ ⟨rfl, rfl⟩)
  exact SameMram.ite _ (SameMram.of_calm (Calm.of_logs (Logs.lg s _))) (SameMram.refl s)

theorem SameMram.logFlush (s : State) (l : Leaf) : SameMram s (s.logFlush l) := by
  unfold State.logFlush
  refine SameMram.trans ?_ (SameMram.modLeaf _ l _ ⟨rfl, rfl⟩)
  exact SameMram.ite _ (SameMram.fold _ (fun s r => SameMram.logPut s l r) _ s) (SameMram.refl s)

theorem SameMram.mramSrc {s n : State} (h : SameMram s n) (supA supB : Bool) : n.mramSrc supA supB = s.mramSrc supA supB := by
  have ha : n.la.mram = s.la.mram := (h .a).2
  have hb : n.lb.mram = s.lb.mram := (h .b).2
  rw [State.mramSrc, State.mramSrc, ha, hb]

/-- What RESTART of MODE FULL ends before the new start: Pick, staging, sessions, and the events in the queues. -/
def State.restartEnds (s : State) : State :=
  let s := s.pickDisarm 9
  let s := if 1 ≤ s.stage.st ∧ s.stage.st ≤ 3 then
      s.stageIdle.evA Ev.stagingAborted srcD [p1 (Config.caseCode Ev.stagingAborted 3), p4 s.stage.received] else s
  let s := s.closeAll Cc.restart
  s.each [Leaf.a, Leaf.b] (fun l s => if s.running l then s.logFlush l else s)

theorem restartEnds_spec (s : State) : Ends s s.restartEnds ∧ SameMram s s.restartEnds := by
  unfold State.restartEnds
  dsimp only
  constructor
  · refine Ends.trans ?_ (Ends.fold _ (fun s l => Ends.ite _ (Ends.logFlush s l) (Ends.refl s)) _ _)
    refine Ends.trans (Ends.pickDisarm s 9) ?_
    refine Ends.trans ?_ (Ends.closeAll _ _)
    exact Ends.ite _ ((Ends.stageIdle _).trans (Ends.of_logs (Logs.evA _ _ _ _))) (Ends.refl _)
  · refine SameMram.trans ?_ (SameMram.fold _ (fun s l => SameMram.ite _ (SameMram.logFlush s l) (SameMram.refl s)) _ _)
    refine SameMram.of_calm (Calm.trans (Calm.pickDisarm s 9) ?_)
    refine Calm.trans ?_ (Calm.closeAll _ _)
    exact Calm.ite _ ((Calm.stageIdle _).trans (Calm.of_logs (Logs.evA _ _ _ _))) (Calm.refl _)

/-- The AON domain with which a RESTART of MODE FULL starts (R55). -/
def Aon.restarted (x : Aon) (starts : Nat) : Aon :=
  { x with
      dev := .start, unkeyed := false, faultHold := true, resetCause := 4, lastStep := 0, hold := true, holdCause := 3, clearState := 0
      clearResult := 0, armSlot := 0xFF, armTime := 0, armNow := 0, bankActing := 0, carried := x.thermal, starts := starts }

/-- The records of the new start, the start counted. -/
def State.restarted (s : State) : State :=
  (s.fresh (s.aon.restarted (s.mramSrc s.la.supplied s.lb.supplied).starts) true true s.la.supplied s.lb.supplied s.time.base).countStart true

theorem doRestart_eq (s : State) : s.doRestart =
    (s.restartEnds.restarted.logStart.stepDone 1).fenceUnsupplied
      (s.restartEnds.restarted.logStart.stepDone 1).la.supplied (s.restartEnds.restarted.logStart.stepDone 1).lb.supplied := by
  unfold State.doRestart
  extract_lets s1 s2 s3 s4 a1 a2 sup starts s5 s6
  have hends : s4 = s.restartEnds := rfl
  rw [← hends]
  clear_value s4
  rfl

/-- The leaves of a start that is counted: supplied as given, no cause, in the state that a start gives every leaf. -/
theorem counted_leaves (s : State) (x : Aon) (latched kept supA supB : Bool) (base : Int) :
    ((s.fresh x latched kept supA supB base).countStart latched).la.supplied = supA ∧
      ((s.fresh x latched kept supA supB base).countStart latched).lb.supplied = supB ∧
      ∀ l, (((s.fresh x latched kept supA supB base).countStart latched).leaf l).st = .running ∧
        (((s.fresh x latched kept supA supB base).countStart latched).leaf l).cause = 0 := by
  cases supA <;> cases supB <;> exact ⟨rfl, rfl, fun l => by cases l <;> exact ⟨rfl, rfl⟩⟩

/-- The end of a start, with one leaf supplied at least: step 1 reached, an unsupplied leaf fenced, the image and the keys as they were. -/
theorem startEnd_spec (r : State) (hst : ∀ l, (r.leaf l).st = .running ∧ (r.leaf l).cause = 0)
    (hsup : (r.la.supplied || r.lb.supplied) = true) (htest : r.aon.testEn = false) :
    let m := r.logStart.stepDone 1
    let n := m.fenceUnsupplied m.la.supplied m.lb.supplied
    n.aon = { r.aon with lastStep := 1 } ∧ n.cfg = r.cfg ∧ n.stage.keys = r.stage.keys := by
  have hlog : Logs r r.logStart := Logs.ev _ _ _ _
  have hsup' : ((r.logStart.stepDone 1).la.supplied || (r.logStart.stepDone 1).lb.supplied) = true := by
    show (r.logStart.la.supplied || r.logStart.lb.supplied) = true
    rw [hlog.la_supplied, hlog.lb_supplied, hsup]
  obtain ⟨hsteady, hfence, -⟩ := fenceUnsupplied_spec (s := r.logStart.stepDone 1)
    (fun l => ⟨(hlog.leaf_st l).trans (hst l).1, (hlog.leaf_cause l).trans (hst l).2⟩) ((congrArg Aon.testEn hlog.aon).trans htest) rfl rfl hsup'
  exact ⟨hsteady.aon.trans (congrArg (fun a : Aon => { a with lastStep := 1 }) hlog.aon), hsteady.cfg.trans hlog.cfg,
    hfence.keys.trans (congrArg Stage.keys hlog.stage)⟩

theorem restarted_spec (s : State) : s.restarted.aon = { s.aon.restarted (s.mramSrc s.la.supplied s.lb.supplied).starts with
      starts := satAdd 32 (s.mramSrc s.la.supplied s.lb.supplied).starts 1 } ∧ s.restarted.cfg = {} ∧ s.restarted.stage.keys = s.stage.keys ∧
    s.restarted.la.supplied = s.la.supplied ∧ s.restarted.lb.supplied = s.lb.supplied ∧
    ∀ l, (s.restarted.leaf l).st = .running ∧ (s.restarted.leaf l).cause = 0 :=
  ⟨rfl, rfl, rfl, counted_leaves _ _ _ _ _ _ _⟩

/-- The ends of episodes keep the test mode and both latches. -/
theorem Ends.latches {s n : State} (h : Ends s n) :
    n.aon.testEn = s.aon.testEn ∧ n.aon.dbLatch = s.aon.dbLatch ∧ n.aon.thermal = s.aon.thermal := by
  have htest := congrArg Aon.testEn h.aon
  have hdb := congrArg Aon.dbLatch h.aon
  have hth := congrArg Aon.thermal h.aon
  exact ⟨htest, hdb, hth⟩

/-- What RESTART of MODE FULL leaves of the AON domain, the image and the keys. -/
theorem doRestart_spec (s : State) (hsup : (s.la.supplied || s.lb.supplied) = true) (htest : s.aon.testEn = false) :
    s.doRestart.aon.dev = .start ∧ s.doRestart.aon.resetCause = 4 ∧
      s.doRestart.aon.starts = satAdd 32 (s.mramSrc s.la.supplied s.lb.supplied).starts 1 ∧ s.doRestart.aon.lastStep = 1 ∧
      s.doRestart.aon.hold = true ∧ s.doRestart.aon.unkeyed = false ∧ s.doRestart.cfg = {} ∧ s.doRestart.stage.keys = s.stage.keys ∧
      s.doRestart.aon.dbLatch = s.aon.dbLatch ∧ s.doRestart.aon.thermal = s.aon.thermal := by
  obtain ⟨hends, hmram⟩ := restartEnds_spec s
  have hla : s.restartEnds.la.supplied = s.la.supplied := (hmram .a).1
  have hlb : s.restartEnds.lb.supplied = s.lb.supplied := (hmram .b).1
  have hkept := hends.latches
  have hsrc := hmram.mramSrc s.la.supplied s.lb.supplied
  have hkeysEnd := hends.keys
  rw [doRestart_eq]
  generalize s.restartEnds = c at hla hlb hkept hsrc hkeysEnd
  obtain ⟨haon, hcfg, hkeys, ha, hb, hst⟩ := restarted_spec c
  rw [hla, hlb, hsrc] at haon
  obtain ⟨htest', hdb, hth⟩ := hkept
  obtain ⟨hnaon, hncfg, hnkeys⟩ := startEnd_spec c.restarted hst (by rw [ha, hb, hla, hlb, hsup])
    ((congrArg Aon.testEn haon).trans (htest'.trans htest))
  rw [hnaon, hncfg, hnkeys, haon, hcfg, hkeys, hkeysEnd]
  exact ⟨rfl, rfl, rfl, rfl, rfl, rfl, rfl, rfl, hdb, hth⟩

/-! The commands -/

theorem restart_full {s : State} {q : HReq} (hmode : arg q 0 1 = 0) (hopen : ∀ i, i < 64 → (s.hs i).st = 0) :
    s.restart q = ((s.answer q.sess q.tag St.ok []).doRestart, none) := by
  have hall : (upto 64).all (fun i => (s.hs i).st == 0) = true := by
    simpa using hopen
  unfold State.restart
  rw [hmode]
  exact if_pos hall

theorem restart_rolling {s : State} {q : HReq} (hmode : arg q 0 1 = 1) (hboth : s.bothRun = true) (hmid : s.midway = false)
    (hroll : s.kn.rolling = 0) (hask : s.kn.handoverAsked = false) : s.restart q =
      ({ (s.pickDisarm 9).restartStandby with kn := { (s.pickDisarm 9).restartStandby.kn with rolling := 1 } }, some (St.ok, [])) := by
  unfold State.restart
  rw [hmode]
  simp [State.restartRolling, hboth, hmid, hroll, hask, State.ansOk]

theorem taken_hs (s : State) (q : HReq) (kind op i : Nat) : (s.taken q kind op).hs i = s.hs i := by
  rw [State.hs, taken_hasp]
  rfl

theorem Calm.running {s n : State} (h : Calm s n) (l : Leaf) : n.running l = s.running l := by
  rw [State.running, State.running, LeafRec.core_supplied (h.leaf l), LeafRec.core_st (h.leaf l), Aon.mode_testEn h.dev]

theorem Calm.act {s n : State} (h : Calm s n) : n.act = s.act := by
  rw [State.act, State.act, h.active, h.running]

theorem Calm.taken (s : State) (q : HReq) (kind op : Nat) : Calm s (s.taken q kind op) := by
  refine Calm.of_eq ?_ ?_ ?_ ?_ ?_ <;> simp

theorem taken_midway (s : State) (q : HReq) (kind op : Nat) : (s.taken q kind op).midway = s.midway := by
  simp only [State.midway, taken_hs, taken_cfg, taken_stage]

end Sys2Proof.Machine

namespace Sys2Proof.Machine

/-- RESTART of either mode runs one rule (R55, R56). -/
theorem exec_restart {t : Nat} {q : HReq} {c : Instr} (hc : c = .restartFull t q ∨ c = .restartRolling t q) (s : State) :
    exec c s = .next (settle s ((s.setNow t).cmd q 0x0001 (fun s => s.may q.sess Perm.restart) (· == 4) (fun s => s.restart q))) := by
  obtain rfl | rfl := hc
  · change execRestartFull t q s = _
    unfold execRestartFull
    exact at'_eq rfl
  · change execRestartRolling t q s = _
    unfold execRestartRolling
    exact at'_eq rfl

/-- A RESTART of MODE FULL that is accepted with every string OPEN answers and then restarts. -/
theorem exec_restart_full {t : Nat} {q : HReq} {c : Instr} {s : State} (hc : c = .restartFull t q ∨ c = .restartRolling t q)
    (hlets : (s.setNow t).lets q 0x0001 Perm.restart = true) (hlen : q.args.length = 4) (hmode : arg q 0 1 = 0)
    (hopen : ∀ i, i < 64 → (s.hs i).st = 0) :
    exec c s = .next (settle s ((((s.setNow t).taken q 3 0x0001).answer q.sess q.tag St.ok []).doRestart)) := by
  rw [exec_restart hc]
  simp only [State.lets, Bool.and_eq_true] at hlets
  refine congrArg (fun m => Host.Outcome.next (settle s m)) ?_
  refine cmd_later hlets.1 ((taken_may ..).trans hlets.2) (by simp [hlen]) (restart_full hmode fun i hi => ?_)
  rw [taken_hs]
  exact hopen i hi

/-- A RESTART of MODE ROLLING that is accepted between two running leaves restarts the HOT STANDBY. -/
theorem exec_restart_rolling {t : Nat} {q : HReq} {c : Instr} {s : State} (hc : c = .restartFull t q ∨ c = .restartRolling t q)
    (hlets : (s.setNow t).lets q 0x0001 Perm.restart = true) (hlen : q.args.length = 4) (hmode : arg q 0 1 = 1)
    (hboth : (s.setNow t).bothRun = true) (hmid : (s.setNow t).midway = false) (hroll : s.kn.rolling = 0) (hask : s.kn.handoverAsked = false) :
    ∃ m, m = (((s.setNow t).taken q 3 0x0001).pickDisarm 9).restartStandby ∧
      exec c s = .next (settle s (({ m with kn := { m.kn with rolling := 1 } } : State).answer q.sess q.tag St.ok [])) := by
  refine ⟨_, rfl, ?_⟩
  rw [exec_restart hc]
  refine congrArg (fun m => Host.Outcome.next (settle s m)) (cmd_let hlets (by simp [hlen]) (restart_rolling hmode ?_ ?_ ?_ ?_))
  · have hrun := (Calm.taken (s.setNow t) q 3 0x0001).running
    rw [State.bothRun, hrun, hrun]
    exact hboth
  · rw [taken_midway]
    exact hmid
  · rw [taken_kn]
    exact hroll
  · rw [taken_kn]
    exact hask

/-- Settles O22: MODE FULL by what the ends of episodes keep and the counted start sets, MODE ROLLING by the restart of the HOT
STANDBY. -/
theorem restartCommands : Obligations.RestartCommands := by
  unfold Obligations.RestartCommands
  intro t q s hlets hlen
  refine ⟨fun hmode hopen hsup htest c hc => ?_, fun hmode hboth hmid hroll hask c hc => ?_⟩
  · obtain ⟨m, hm⟩ : ∃ m, m = ((s.setNow t).taken q 3 0x0001).answer q.sess q.tag St.ok [] := ⟨_, rfl⟩
    have hexec := exec_restart_full hc hlets hlen hmode hopen
    rw [← hm] at hexec
    have hla : m.la = s.la := by simp [hm]
    have hlb : m.lb = s.lb := by simp [hm]
    have haon : m.aon = s.aon := by simp [hm]
    have hstage : m.stage = s.stage := by simp [hm]
    have hsrc : m.mramSrc s.la.supplied s.lb.supplied = s.mramSrc s.la.supplied s.lb.supplied := by
      rw [State.mramSrc, State.mramSrc, hla, hlb]
    obtain ⟨hdev, hcause, hstarts, hstep, hhold, hkeyed, hcfg, hkeys, hdb, hth⟩ :=
      doRestart_spec m (by rw [hla, hlb]; simpa using hsup) (by rw [haon]; exact htest)
    rw [hla, hlb, hsrc] at hstarts
    rw [haon] at hdb hth
    rw [hstage] at hkeys
    refine ⟨_, hexec, ?_⟩
    rw [settle_aon, settle_cfg, settle_keys, hkeys]
    refine ⟨hdev, hcause, hstarts, hstep, hhold, hkeyed, hcfg, zipWith_fuseKeep_self _, hdb, ?_⟩
    show (s.aon.thermal || m.doRestart.aon.thermal) = s.aon.thermal
    rw [hth, Bool.or_self]
  · obtain ⟨m, hm, hexec⟩ := exec_restart_rolling hc hlets hlen hmode hboth hmid hroll hask
    obtain ⟨hst, hrejoin, haon, hframe⟩ := restartStandby_spec (((s.setNow t).taken q 3 0x0001).pickDisarm 9)
    have hact : (((s.setNow t).taken q 3 0x0001).pickDisarm 9).act = s.act :=
      ((Calm.taken _ _ _ _).trans (Calm.pickDisarm _ 9)).act.trans (setNow_act s t)
    have hkept : (((s.setNow t).taken q 3 0x0001).pickDisarm 9).aon = s.aon := by
      rw [(Steady.pickDisarm _ 9).aon, taken_aon, setNow_aon]
    rw [hact, ← hm] at hst hrejoin
    rw [hkept, ← hm] at haon
    have hcause : m.aon.resetCause = 5 := by rw [haon]
    have hdev : m.aon.dev = s.aon.dev := by rw [haon]
    have hparts : Frame fenceParts ((s.setNow t).taken q 3 0x0001) { m with kn := { m.kn with rolling := 1 } } :=
      ((Ends.pickDisarm _ 9).frame.trans (hm ▸ hframe)).trans ((Frame.kn m _).mono (by decide))
    have hleaf : ∀ l, (({ m with kn := { m.kn with rolling := 1 } } : State).answer q.sess q.tag St.ok []).leaf l = m.leaf l := by
      intro l
      cases l <;> simp [State.leaf]
    refine ⟨_, hexec, ?_⟩
    rw [settle_leaf, hleaf, settle_kn, answer_kn, settle_aon, answer_aon]
    refine ⟨rfl, hst, hrejoin, hcause, hdev, ?_⟩
    exact ((answered_frame hparts).mono (by decide)).settle

end Sys2Proof.Machine

namespace Sys2Proof.Machine

/-! ### A host's command, from its rule to its answer (R614, R646) -/

/-- A frame that holds the links leaves them. -/
theorem Frame.links_eq {ps : List Part} {s n : State} (h : Frame ps s n) (hp : .links ∉ ps) : n.links = s.links := h .links hp

theorem lets_opens {s : State} {q : HReq} {op p : Nat} (h : s.lets q op p = true) : s.opens q op = true := by
  simp only [State.lets, Bool.and_eq_true] at h
  exact h.1

theorem opens_accepts {s : State} {q : HReq} {op : Nat} (h : s.opens q op = true) : s.accepts q = true := by
  simp only [State.opens, Bool.and_eq_true] at h
  exact h.1

theorem taken_may_of_lets {s : State} {q : HReq} {op p : Nat} (h : s.lets q op p = true) : (s.taken q 3 op).may q.sess p = true := by
  simp only [State.lets, Bool.and_eq_true] at h
  exact (taken_may ..).trans h.2

theorem taken_now (s : State) (q : HReq) (kind op : Nat) : (s.taken q kind op).time.now = s.time.now := by
  rw [taken_time]

@[simp] theorem taken_role (s : State) (q : HReq) (kind op k : Nat) : (s.taken q kind op).role k = s.role k := by
  simp only [State.role, taken_cfg]

section Command

variable {t op : Nat} {q : HReq} {s m : State} {c : Instr} {ok : State → Bool} {lenOk : Nat → Bool} {h : State → HR} {ps : List Part}

/-- A command that passes every gate, and whose rule answers at once and leaves the links: its answer leaves, and the parts that the
rule reaches change, and with them those of a request. -/
theorem command_answered {st : Nat} {body : List Byte} (hexec : exec c s = at' t (fun s => s.cmd q op ok lenOk h) s)
    (hopens : (s.setNow t).opens q op = true) (hok : ok ((s.setNow t).taken q 3 op) = true) (hlen : lenOk q.args.length = true)
    (hrule : h ((s.setNow t).taken q 3 op) = (m, some (st, body))) (hframe : Frame ps ((s.setNow t).taken q 3 op) m)
    (hlinks : .links ∉ ps) (hnow : m.time.now = (s.setNow t).time.now) :
    exec c s = .next (settle s (m.answer q.sess q.tag st body)) ∧
      Answered (s.setNow t) (settle s (m.answer q.sess q.tag st body)) q 3 op st body ∧
      Frame (hostParts ++ ps) s (settle s (m.answer q.sess q.tag st body)) :=
  ⟨hexec.trans (at'_eq (cmd_now hopens hok hlen hrule)),
    settle_answered (taken_answered st body (opens_accepts hopens) (hframe.links_eq hlinks) hnow), (answered_frame hframe).settle⟩

/-- A command that passes every gate, and whose rule refuses it: nothing changes but for the request and its answer. -/
theorem command_refused {st : Nat} {body : List Byte} (hexec : exec c s = at' t (fun s => s.cmd q op ok lenOk h) s)
    (hopens : (s.setNow t).opens q op = true) (hok : ok ((s.setNow t).taken q 3 op) = true) (hlen : lenOk q.args.length = true)
    (hrule : h ((s.setNow t).taken q 3 op) = ((s.setNow t).taken q 3 op, some (st, body))) :
    ∃ n, exec c s = .next n ∧ Answered (s.setNow t) n q 3 op st body ∧ Frame hostParts s n :=
  ⟨_, command_answered hexec hopens hok hlen hrule (Frame.refl [] _) (by decide) (taken_now _ _ _ _)⟩

/-- A command that passes every gate, and whose rule answers later and leaves the links: the request waits. -/
theorem command_waits (hexec : exec c s = at' t (fun s => s.cmd q op ok lenOk h) s)
    (hopens : (s.setNow t).opens q op = true) (hok : ok ((s.setNow t).taken q 3 op) = true) (hlen : lenOk q.args.length = true)
    (hrule : h ((s.setNow t).taken q 3 op) = (m, none)) (hframe : Frame ps ((s.setNow t).taken q 3 op) m) (hlinks : .links ∉ ps) :
    exec c s = .next (settle s m) ∧ Waits (settle s m) q 3 op ∧ Frame (hostParts ++ ps) s (settle s m) := by
  refine ⟨hexec.trans (at'_eq (cmd_later hopens hok hlen hrule)), ?_, Frame.settle (t := t) ?_⟩
  · have hsess : (settle s m).sess q.sess = ((s.setNow t).taken q 3 op).sess q.sess := by
      rw [State.sess, settle_links, hframe.links_eq hlinks, State.sess]
    rw [Waits, hsess]
    exact List.mem_of_find?_eq_some (taken_outst _ q 3 op (opens_accepts hopens))
  · exact ((taken_frame _ q 3 op).mono (fun p hp => List.mem_append_left _ (by revert p; decide))).trans
      (hframe.mono (fun p hp => List.mem_append_right _ hp))

end Command

end Sys2Proof.Machine

namespace Sys2Proof.Machine

/-! ### Signer keys (R70 to R72) -/

/-- The state with one key slot replaced. -/
def State.setKey (s : State) (k : Nat) (x : KeySlot) : State := { s with stage := { s.stage with keys := s.stage.keys.set k x } }

theorem setKey_keys (s : State) (k : Nat) (x : KeySlot) : (s.setKey k x).stage.keys = s.stage.keys.set k x := rfl

theorem fuseKeep_programmed {old : KeySlot} (h : old.blank = true) (hash : List Byte) :
    fuseKeep old { hash := hash, programmed := true } = { hash := hash, programmed := true } := by
  simp only [KeySlot.blank, Bool.and_eq_true, Bool.not_eq_true'] at h
  simp [fuseKeep, h.1, h.2]

theorem fuseKeep_revoked (k : KeySlot) : fuseKeep k { k with revoked := true } = { k with revoked := true } := by
  simp [fuseKeep]

/-- The one-way fuses let a slot be replaced by a value that keeps what is blown. -/
theorem zipWith_fuseKeep_set {keys : List KeySlot} {k : Nat} {old x : KeySlot} (hk : keys[k]? = some old) (hx : fuseKeep old x = x) :
    List.zipWith fuseKeep keys (keys.set k x) = keys.set k x := by
  induction keys generalizing k with
  | nil => rfl
  | cons y r ih =>
    cases k with
    | zero =>
      obtain rfl : y = old := by simpa using hk
      rw [List.set_cons_zero, List.zipWith_cons_cons, hx, zipWith_fuseKeep_self]
    | succ k =>
      have hself : fuseKeep y y = y := by simpa using zipWith_fuseKeep_self [y]
      rw [List.set_cons_succ, List.zipWith_cons_cons, hself, ih (by simpa using hk)]

/-- What a key command that replaces one slot leaves of the keys. -/
theorem settle_setKey {s u : State} {k : Nat} {old x : KeySlot} (hu : u.stage = s.stage) (hk : s.stage.keys[k]? = some old)
    (hx : fuseKeep old x = x) (code src : Nat) (l : List Param) (i tag st : Nat) (body : List Byte) :
    let n := settle s (((u.setKey k x).evA code src l).answer i tag st body)
    n.stage.keys[k]? = some x ∧ ∀ j, j ≠ k → n.stage.keys[j]? = s.stage.keys[j]? := by
  obtain ⟨hlt, -⟩ := List.getElem?_eq_some_iff.mp hk
  dsimp only
  rw [settle_keys, answer_stage, evA_stage, setKey_keys, hu, zipWith_fuseKeep_set hk hx]
  exact ⟨List.getElem?_set_self hlt, fun j hj => List.getElem?_set_ne hj.symm⟩

/-- The lowest blank slot is one of the slots, and blank. -/
theorem blank_of_findIdx {keys : List KeySlot} {k : Nat} (h : keys.findIdx? KeySlot.blank = some k) :
    ∃ old, keys[k]? = some old ∧ old.blank = true := by
  obtain ⟨hlt, hblank, -⟩ := List.findIdx?_eq_some_iff_getElem.mp h
  exact ⟨keys[k], List.getElem?_eq_getElem hlt, hblank⟩

/-- KEY_PROGRAM with a blank slot, and no string against it. -/
theorem keyProgram_fills {s : State} {k : Nat} (hash : List Byte) (hfree : s.aon.unkeyed = true ∨ s.allOpen = true)
    (hk : s.stage.keys.findIdx? KeySlot.blank = some k) : s.keyProgram hash =
      ((s.setKey k { hash := hash, programmed := true }).evA Ev.keyProgrammed srcD [p1 k, p4 (leAt hash 0 4), p4 (leAt hash 4 4)]).ansOk
        [byteOf k] := by
  unfold State.keyProgram
  rw [if_neg (by simpa using fun hu => hfree.resolve_left (by simp [hu])), hk]
  rfl

theorem keyProgram_denied {s : State} (hash : List Byte)
    (h : (s.aon.unkeyed = false ∧ s.allOpen = false) ∨ s.stage.keys.findIdx? KeySlot.blank = none) :
    s.keyProgram hash = s.ans St.denied := by
  unfold State.keyProgram
  split
  · rfl
  next hfree =>
    obtain ⟨hu, ho⟩ | hnone := h
    · exact absurd (by rw [hu, ho]; rfl) hfree
    · rw [hnone]

/-- KEY_REVOKE of a slot that stands for none of R72's refusals. -/
theorem keyRevoke_revokes {s : State} {i : Nat} {k : KeySlot} (hk : s.stage.keys[i]? = some k) (hblank : k.blank = false)
    (hrunning : s.runningKey ≠ some k.hash) (hlive : (s.stage.keys.eraseIdx i).any KeySlot.live = true) :
    s.keyRevoke i = ((s.setKey i { k with revoked := true }).evA Ev.keyRevoked srcD [p1 i]).ansOk [] := by
  unfold State.keyRevoke
  rw [hk]
  exact if_neg (by simp [hblank, hrunning, hlive])

theorem keyRevoke_denied {s : State} {i : Nat} {k : KeySlot} (hk : s.stage.keys[i]? = some k)
    (h : k.blank = true ∨ s.runningKey = some k.hash ∨ (s.stage.keys.eraseIdx i).any KeySlot.live = false) :
    s.keyRevoke i = s.ans St.denied := by
  unfold State.keyRevoke
  rw [hk]
  refine if_pos ?_
  obtain h | h | h := h <;> simp [h]

theorem keyRevoke_bounds {s : State} {i : Nat} (hk : s.stage.keys[i]? = none) : s.keyRevoke i = s.ans St.bounds := by
  unfold State.keyRevoke
  rw [hk]

theorem setKey_evA_frame (s : State) (k : Nat) (x : KeySlot) (code src : Nat) (l : List Param) :
    Frame [.stage, .log, .fifos] s ((s.setKey k x).evA code src l) :=
  ((Frame.stage s _).mono (by decide)).trans ((Logs.evA _ _ _ _).frame_of_mem (by decide) (by decide))

theorem setKey_evA_now (s : State) (k : Nat) (x : KeySlot) (code src : Nat) (l : List Param) :
    ((s.setKey k x).evA code src l).time.now = s.time.now := by
  rw [evA_time]
  rfl

@[simp] theorem taken_allOpen (s : State) (q : HReq) (kind op : Nat) : (s.taken q kind op).allOpen = s.allOpen := by
  simp only [State.allOpen, State.liveStrs, taken_hs]

@[simp] theorem taken_runningKey (s : State) (q : HReq) (kind op : Nat) : (s.taken q kind op).runningKey = s.runningKey := by
  simp only [State.runningKey, taken_stage, taken_cfg]

/-- A MAINT session is one still when its request is taken. -/
theorem taken_maint {s : State} {q : HReq} (h : s.role q.sess = 3) (t op : Nat) : (((s.setNow t).taken q 3 op).role q.sess == 3) = true := by
  rw [taken_role]
  exact beq_iff_eq.mpr h

theorem keyProgram_effect {t : Nat} {q : HReq} {s : State} {k : Nat} (hrole : s.role q.sess = 3)
    (hopens : (s.setNow t).opens q 0x0107 = true) (hlen : q.args.length = 32) (hfree : s.aon.unkeyed = true ∨ (s.setNow t).allOpen = true)
    (hk : s.stage.keys.findIdx? KeySlot.blank = some k) : ∃ n, exec (.keyProgram t q) s = .next n ∧
      n.stage.keys[k]? = some { hash := q.args, programmed := true, revoked := false } ∧
      (∀ j, j ≠ k → n.stage.keys[j]? = s.stage.keys[j]?) ∧ AnsweredOk (s.setNow t) n q 0x0107 [byteOf k] ∧
      Frame (hostParts ++ [.stage, .log, .fifos]) s n := by
  have hstage := taken_stage (s.setNow t) q 3 0x0107
  obtain ⟨hexec, hans, hframe⟩ := command_answered (c := .keyProgram t q) rfl hopens (taken_maint hrole t _) (by simp [hlen])
    (keyProgram_fills q.args (by rw [taken_aon, taken_allOpen]; exact hfree) (by rw [hstage]; exact hk))
    (setKey_evA_frame _ _ _ _ _ _) (by decide) ((setKey_evA_now _ _ _ _ _ _).trans (taken_now _ _ _ _))
  obtain ⟨old, hold, hblank⟩ := blank_of_findIdx hk
  obtain ⟨hnew, hothers⟩ := settle_setKey hstage hold (fuseKeep_programmed hblank q.args) _ _ _ _ _ _ _
  exact ⟨_, hexec, hnew, hothers, hans, hframe⟩

theorem keyRevoke_effect {t : Nat} {q : HReq} {s : State} {k : KeySlot} (hrole : s.role q.sess = 3)
    (hopens : (s.setNow t).opens q 0x0108 = true) (hlen : q.args.length = 4) (hk : s.stage.keys[arg q 0 1]? = some k)
    (hblank : k.blank = false) (hrunning : s.runningKey ≠ some k.hash)
    (hlive : (s.stage.keys.eraseIdx (arg q 0 1)).any KeySlot.live = true) : ∃ n, exec (.keyRevoke t q) s = .next n ∧
      n.stage.keys[arg q 0 1]? = some { k with revoked := true } ∧
      (∀ j, j ≠ arg q 0 1 → n.stage.keys[j]? = s.stage.keys[j]?) ∧ AnsweredOk (s.setNow t) n q 0x0108 [] ∧
      Frame (hostParts ++ [.stage, .log, .fifos]) s n := by
  have hstage := taken_stage (s.setNow t) q 3 0x0108
  obtain ⟨hexec, hans, hframe⟩ := command_answered (c := .keyRevoke t q) rfl hopens (taken_maint hrole t _) (by simp [hlen])
    (keyRevoke_revokes (by rw [hstage]; exact hk) hblank (by rw [taken_runningKey]; exact hrunning) (by rw [hstage]; exact hlive))
    (setKey_evA_frame _ _ _ _ _ _) (by decide) ((setKey_evA_now _ _ _ _ _ _).trans (taken_now _ _ _ _))
  obtain ⟨hnew, hothers⟩ := settle_setKey hstage hk (fuseKeep_revoked k) _ _ _ _ _ _ _
  exact ⟨_, hexec, hnew, hothers, hans, hframe⟩

/-- Settles O25: each command by its rule, whose write the one-way fuses let pass. -/
theorem keyCommands : Obligations.KeyCommands := by
  unfold Obligations.KeyCommands
  intro t q s hrole
  refine ⟨fun hopens hlen => ⟨fun _ => keyProgram_effect hrole hopens hlen, fun hno => ?_⟩,
    fun hopens hlen => ⟨fun _ => keyRevoke_effect hrole hopens hlen, fun k hk hno => ?_, fun hk => ?_⟩⟩
  · exact command_refused (c := .keyProgram t q) rfl hopens (taken_maint hrole t _) (by simp [hlen])
      (keyProgram_denied _ (by rw [taken_aon, taken_allOpen, taken_stage]; exact hno))
  · exact command_refused (c := .keyRevoke t q) rfl hopens (taken_maint hrole t _) (by simp [hlen])
      (keyRevoke_denied (by rw [taken_stage]; exact hk) (by rw [taken_runningKey, taken_stage]; exact hno))
  · exact command_refused (c := .keyRevoke t q) rfl hopens (taken_maint hrole t _) (by simp [hlen])
      (keyRevoke_bounds (by rw [taken_stage]; exact hk))

end Sys2Proof.Machine

namespace Sys2Proof.Machine

/-! ### The leaves that take part in staging (R79, R88) -/

@[simp] theorem taken_stages (s : State) (q : HReq) (kind op : Nat) (l : Leaf) : (s.taken q kind op).stages l = s.stages l := by
  simp only [State.stages, taken_leaf]

@[simp] theorem taken_leavesReady (s : State) (q : HReq) (kind op : Nat) : (s.taken q kind op).leavesReady = s.leavesReady := by
  simp only [State.leavesReady, taken_stages, taken_aon, taken_cfg]

@[simp] theorem taken_stagers (s : State) (q : HReq) (kind op : Nat) : (s.taken q kind op).stagers = s.stagers :=
  congrArg (fun p => [Leaf.a, Leaf.b].filter p) (funext fun l => taken_stages s q kind op l)

@[simp] theorem taken_inactiveSlot (s : State) (q : HReq) (kind op : Nat) : (s.taken q kind op).inactiveSlot = s.inactiveSlot := by
  simp only [State.inactiveSlot, taken_stage]

/-- An operation over the leaves that take part runs in Leaf A, then in Leaf B. -/
theorem each_stagers (s : State) (f : Leaf → State → State) : s.each s.stagers f =
    (if s.stages .b then f .b (if s.stages .a then f .a s else s) else if s.stages .a then f .a s else s) := by
  unfold State.each State.stagers
  cases ha : s.stages .a <;> cases hb : s.stages .b <;> simp [ha, hb]

theorem Frame.each {α : Type} {ps : List Part} {f : α → State → State} (h : ∀ x s, Frame ps s (f x s)) (l : List α) (s : State) :
    Frame ps s (s.each l f) := by
  induction l generalizing s with
  | nil => exact Frame.refl ps s
  | cons x r ih => exact (h x s).trans (ih (f x s))

/-! ### The stores given back (R81) -/

theorem stageIdle_frame (s : State) : Frame [.stage, .leafA, .leafB] s s.stageIdle := by
  rintro ⟨⟩ hp <;> simp [Part.same, State.stageIdle] at hp ⊢

theorem stageIdle_slot (s : State) (l : Leaf) (k : Nat) : (s.stageIdle.leaf l).slot k = (s.leaf l).slot k := by
  cases l <;> rfl

@[simp] theorem answer_leaf (s : State) (k tag status : Nat) (body : List Byte) (l : Leaf) : (s.answer k tag status body).leaf l = s.leaf l := by
  cases l
  · exact answer_la s k tag status body
  · exact answer_lb s k tag status body

theorem answerOpt_frame (s : State) (w : Option (Nat × Nat)) (status : Nat) (body : List Byte) :
    Frame [.links, .out] s (s.answerOpt w status body) := by
  cases w with
  | none => exact Frame.refl _ s
  | some w => exact answer_frame s w.1 w.2 status body

/-- LAST_REASON is noted. -/
def State.reasoned (s : State) (reason : Nat) : State := { s with stage := { s.stage with reason := reason } }

theorem reasoned_frame (s : State) (reason : Nat) : Frame [.stage] s (s.reasoned reason) := Frame.stage s _

/-- Staging abandoned in RECEIVING: an answer that waits leaves, then the stores are given back with the reason of R81. -/
theorem stageAbandon_receiving {s : State} (k : Nat) (h : s.stage.st = 1) :
    ∃ r, Logs ((s.answerOpt s.stage.closeReq St.denied [0]).stageIdle.reasoned r) (s.stageAbandon k) := by
  refine ⟨Config.caseCode Ev.stagingAborted k % 256, ?_⟩
  unfold State.stageAbandon
  rw [if_pos (.inl h), if_neg (by omega)]
  exact Logs.evA _ _ _ _

/-- What abandoning in RECEIVING leaves: IDLE with both stores empty. -/
theorem stageAbandon_receiving_spec {s : State} (k : Nat) (h : s.stage.st = 1) :
    (s.stageAbandon k).stage.st = 0 ∧ (s.stageAbandon k).stage.received = 0 ∧ (s.stageAbandon k).la.stage = [] ∧
      (s.stageAbandon k).lb.stage = [] ∧ Frame [.stage, .leafA, .leafB, .links, .out, .log, .fifos] s (s.stageAbandon k) ∧
      (s.stage.closeReq = none → Frame [.stage, .leafA, .leafB, .log, .fifos] s (s.stageAbandon k)) := by
  obtain ⟨r, hlogs⟩ := stageAbandon_receiving k h
  have hidle : Frame [.stage, .leafA, .leafB] (s.answerOpt s.stage.closeReq St.denied [0]) _ :=
    (stageIdle_frame _).trans ((reasoned_frame _ r).mono (by decide))
  have hframe := (hidle.mono (by decide)).trans (hlogs.frame_of_mem (ps := [.stage, .leafA, .leafB, .log, .fifos]) (by decide) (by decide))
  rw [hlogs.stage, hlogs.la_stage, hlogs.lb_stage]
  refine ⟨rfl, rfl, rfl, rfl, ((answerOpt_frame _ _ _ _).mono (by decide)).trans (hframe.mono (by decide)), fun hnone => ?_⟩
  rw [hnone] at hframe
  exact hframe

end Sys2Proof.Machine

namespace Sys2Proof.Machine

/-! ### STAGE_OPEN, STAGE_CLOSE and the timeout (R79, R81, R82, R88) -/

/-- RECEIVING begins for a session, with empty stores. -/
def State.receiving (s : State) (k len : Nat) : State :=
  { s.stageIdle with stage := { s.stageIdle.stage with st := 1, sess := k, len := len, lastChunk := s.time.now } }

/-- VERIFYING begins, the answer to STAGE_CLOSE waiting. -/
def State.verifying (s : State) (q : HReq) (mode : Nat) : State :=
  { s with stage := { s.stage with st := 2, mode := mode, closeReq := some (q.sess, q.tag) } }

theorem stageOpen_receives {s : State} (k : Nat) {len : Nat} (hidle : s.stage.st = 0) (hready : s.leavesReady = true) (hmin : 280 ≤ len)
    (hmax : len ≤ 1048576) (hstep : len % 8 = 0) : s.stageOpen k len = (s.receiving k len).ansOk [] := by
  unfold State.stageOpen
  rw [if_neg (by simp [hidle, hready]), if_neg (by omega)]
  rfl

theorem receiving_frame (s : State) (k len : Nat) : Frame [.stage, .leafA, .leafB] s (s.receiving k len) :=
  (stageIdle_frame s).trans ((Frame.stage _ _).mono (by decide))

theorem receiving_now (s : State) (k len : Nat) : (s.receiving k len).time.now = s.time.now := rfl

section Close

variable {s : State} {q : HReq} {mode : Nat} (hst : s.stage.st = 1) (hsess : s.stage.sess = q.sess) (hready : s.leavesReady = true)
  (hmode : mode ≤ 1)

include hst hsess hready hmode

theorem stageClose_verifies (hall : s.stage.len ≤ s.stage.received) : s.stageClose q mode = (s.verifying q mode).later := by
  unfold State.stageClose
  rw [if_neg (by simp [hst, hsess]), if_neg (by simp [hready]), if_neg (by omega), if_neg (by omega)]
  rfl

theorem stageClose_missing (hmissing : s.stage.received < s.stage.len) : s.stageClose q mode = s.ansWhy 0x14 := by
  unfold State.stageClose
  rw [if_neg (by simp [hst, hsess]), if_neg (by simp [hready]), if_neg (by omega), if_pos hmissing]

end Close

theorem exec_stagingTimeout_due {t : Nat} {s : State} (hst : s.stage.st = 1)
    (hsilent : s.stage.lastChunk + 60000000000 ≤ (s.setNow t).time.now) :
    exec (.stagingTimeout t) s = .next (settle s ((s.setNow t).stageAbandon 1)) := by
  change execStagingTimeout t s = _
  unfold execStagingTimeout
  exact at'_eq (if_pos ⟨hst, hsilent⟩)

theorem stageOpen_effect {t : Nat} {q : HReq} {s : State} (hlets : (s.setNow t).lets q 0x0101 Perm.image = true) (hlen : q.args.length = 4)
    (hidle : s.stage.st = 0) (hready : (s.setNow t).leavesReady = true) (hmin : 280 ≤ arg q 0 4) (hmax : arg q 0 4 ≤ 1048576)
    (hstep : arg q 0 4 % 8 = 0) : ∃ n, exec (.stageOpen t q) s = .next n ∧
      n.stage.st = 1 ∧ n.stage.sess = q.sess ∧ n.stage.len = arg q 0 4 ∧ n.stage.received = 0 ∧ n.stage.chunks = [] ∧
      n.stage.lastChunk = (s.setNow t).time.now ∧ n.la.stage = [] ∧ n.lb.stage = [] ∧ AnsweredOk (s.setNow t) n q 0x0101 [] ∧
      Frame (hostParts ++ [.stage, .leafA, .leafB]) s n := by
  obtain ⟨hexec, hans, hframe⟩ := command_answered (c := .stageOpen t q) rfl (lets_opens hlets) (taken_may_of_lets hlets) (by simp [hlen])
    (stageOpen_receives q.sess (by rw [taken_stage]; exact hidle) (by rw [taken_leavesReady]; exact hready) hmin hmax hstep)
    (receiving_frame _ _ _) (by decide) ((receiving_now _ _ _).trans (taken_now _ _ _ _))
  refine ⟨_, hexec, ?_⟩
  simp only [settle_stage_st, settle_stage_sess, settle_stage_len, settle_stage_received, settle_stage_chunks, settle_stage_lastChunk, settle_la,
    settle_lb, answer_stage, answer_la, answer_lb]
  exact ⟨rfl, rfl, rfl, rfl, rfl, taken_now _ _ _ _, rfl, rfl, hans, hframe⟩

theorem stageClose_effect {t : Nat} {q : HReq} {s : State} (hlets : (s.setNow t).lets q 0x0103 Perm.image = true) (hlen : q.args.length = 4)
    (hst : s.stage.st = 1) (hsess : s.stage.sess = q.sess) (hready : (s.setNow t).leavesReady = true) (hmode : arg q 0 1 ≤ 1) :
    (s.stage.len ≤ s.stage.received → ∃ n, exec (.stageClose t q) s = .next n ∧ n.stage.st = 2 ∧ n.stage.mode = arg q 0 1 ∧
      n.stage.closeReq = some (q.sess, q.tag) ∧ Waits n q 3 0x0103 ∧ Frame (hostParts ++ [.stage]) s n) ∧
    (s.stage.received < s.stage.len → ∃ n, exec (.stageClose t q) s = .next n ∧
      Answered (s.setNow t) n q 3 0x0103 St.denied [0x14] ∧ n.stage.st = 1 ∧ Frame hostParts s n) := by
  have hstage := taken_stage (s.setNow t) q 3 0x0103
  rw [setNow_stage] at hstage
  rw [← hstage] at hst hsess
  rw [← taken_leavesReady _ q 3 0x0103] at hready
  constructor
  · intro hall
    rw [← hstage] at hall
    obtain ⟨hexec, hwaits, hframe⟩ := command_waits (c := .stageClose t q) rfl (lets_opens hlets) (taken_may_of_lets hlets)
      (by simp [hlen]) (stageClose_verifies hst hsess hready hmode hall) (Frame.stage _ _) (by decide)
    exact ⟨_, hexec, rfl, rfl, rfl, hwaits, hframe⟩
  · intro hmissing
    rw [← hstage] at hmissing
    obtain ⟨n, hexec, hans, hframe⟩ := command_refused (c := .stageClose t q) rfl (lets_opens hlets) (taken_may_of_lets hlets)
      (by simp [hlen]) (stageClose_missing hst hsess hready hmode hmissing)
    have hkept : n.stage = s.stage := hframe .stage (by decide)
    exact ⟨n, hexec, hans, by rw [hkept, ← hstage]; exact hst, hframe⟩

/-- Settles O26: STAGE_OPEN and STAGE_CLOSE by their rules, the timeout by what abandoning in RECEIVING leaves. -/
theorem stageOpenAndClose : Obligations.StageOpenAndClose := by
  unfold Obligations.StageOpenAndClose
  intro t q s
  refine ⟨stageOpen_effect, stageClose_effect, fun hst hsilent => ?_⟩
  obtain ⟨hidle, hreceived, ha, hb, hframe, -⟩ := stageAbandon_receiving_spec (s := s.setNow t) 1 hst
  exact ⟨_, exec_stagingTimeout_due hst hsilent, hidle, hreceived, ha, hb, hframe.settle⟩

end Sys2Proof.Machine

namespace Sys2Proof.Machine

/-! ### STAGE_CHUNK (R79, R80) -/

theorem stagePut_leaf (s : State) (off : Nat) (d : List Byte) (l : Leaf) : (s.stagePut off d).leaf l =
    if s.stages l then { s.leaf l with stage := mputs (s.leaf l).stage off d } else s.leaf l := by
  unfold State.stagePut
  rw [each_stagers]
  cases l <;> cases s.stages .a <;> cases s.stages .b <;> rfl

theorem stagePut_frame (s : State) (off : Nat) (d : List Byte) : Frame [.leafA, .leafB] s (s.stagePut off d) :=
  Frame.each (fun l s => Frame.modLeaf s l _ rfl) _ s

theorem stagePut_ends (s : State) (off : Nat) (d : List Byte) : Ends s (s.stagePut off d) :=
  Ends.fold _ (fun s l => Ends.modLeaf s l _) _ s

/-- A chunk is counted, and its instant taken. -/
def Stage.chunkCounted (g : Stage) (now off : Nat) (d : List Byte) : Stage :=
  { g with lastChunk := now, chunks := off :: g.chunks, received := g.received + d.length
           stagedSeq := if off = 0 then leAt d 0x0C 4 else g.stagedSeq }

/-- A chunk is stored, and counted. -/
def State.chunkStored (s : State) (off : Nat) (d : List Byte) : State :=
  { s.stagePut off d with stage := s.stage.chunkCounted s.time.now off d }

/-- Storing looks at the leaves alone, and leaves the records of staging. -/
theorem stagePut_stage (s : State) (g h : Stage) (off : Nat) (d : List Byte) :
    ({ ({ s with stage := g } : State).stagePut off d with stage := h } : State) = { s.stagePut off d with stage := h } := by
  have hstages : ∀ l, ({ s with stage := g } : State).stages l = s.stages l := fun l => by cases l <;> rfl
  unfold State.stagePut
  rw [each_stagers, each_stagers, hstages, hstages]
  cases s.stages .a <;> cases s.stages .b <;> rfl

/-- A chunk not received before, of the length due at its offset. -/
theorem stageChunk_stores {s : State} {k off : Nat} {d : List Byte} (hst : s.stage.st = 1) (hsess : s.stage.sess = k) (haligned : off % 512 = 0)
    (hend : off + d.length ≤ s.stage.len) (hlen : d.length = min 512 (s.stage.len - off)) (hnew : off ∉ s.stage.chunks) :
    s.stageChunk k off d = (s.chunkStored off d).ansOk [] := by
  unfold State.stageChunk
  dsimp only
  rw [if_neg (by simp [hst, hsess]), if_neg (by omega), if_neg (by simpa using hlen), if_neg (by simpa using hnew), stagePut_stage]
  rfl

theorem chunkStored_stage (s : State) (off : Nat) (d : List Byte) :
    (s.chunkStored off d).stage = s.stage.chunkCounted s.time.now off d := rfl

theorem chunkStored_frame (s : State) (off : Nat) (d : List Byte) : Frame [.stage, .leafA, .leafB] s (s.chunkStored off d) :=
  ((stagePut_frame s off d).mono (by decide)).trans ((Frame.stage _ _).mono (by decide))

theorem chunkStored_now (s : State) (off : Nat) (d : List Byte) : (s.chunkStored off d).time.now = s.time.now :=
  congrArg TimeU.now (stagePut_ends s off d).time

theorem chunkStored_leaf (s : State) (off : Nat) (d : List Byte) (l : Leaf) : (s.chunkStored off d).leaf l = (s.stagePut off d).leaf l := by
  cases l <;> rfl

/-- What storing a chunk leaves of each store: its bytes in those of the leaves that take part, every other byte and the canonical
form in both. -/
theorem stagePut_store (s : State) (off : Nat) (d : List Byte) (l : Leaf) :
    (s.stages l = true →
      (∀ k, k < d.length → mget ((s.stagePut off d).leaf l).stage (off + k) = d[k]?) ∧
      (memWf (s.leaf l).stage = true → memWf ((s.stagePut off d).leaf l).stage = true)) ∧
    (∀ a, a < off ∨ off + d.length ≤ a → mget ((s.stagePut off d).leaf l).stage a = mget (s.leaf l).stage a) ∧
    (∀ a, s.stages l = false → mget ((s.stagePut off d).leaf l).stage a = mget (s.leaf l).stage a) := by
  rw [stagePut_leaf]
  split
  next hon =>
    exact ⟨fun _ => ⟨fun k hk => mget_mputs_same off d _ k hk, memWf_mputs off d _⟩, fun a ha => mget_mputs_other off d _ a ha,
      fun a hoff => by rw [hon] at hoff; cases hoff⟩
  next hoff => exact ⟨fun hon => absurd hon hoff, fun a _ => rfl, fun a _ => rfl⟩

/-- Settles O27: the chunk by its rule, the bytes by what storing leaves of each store. -/
theorem stageChunkStores : Obligations.StageChunkStores := by
  unfold Obligations.StageChunkStores
  intro t q s hlets hmin hmax hst hsess haligned hend hlen hnew
  have hstage : ((s.setNow t).taken q 3 0x0102).stage = s.stage := taken_stage _ _ _ _
  have hrule : ((s.setNow t).taken q 3 0x0102).stageChunk q.sess (arg q 0 4) (q.args.drop 4) = _ :=
    stageChunk_stores (by rw [hstage]; exact hst) (by rw [hstage]; exact hsess) haligned (by rw [hstage]; exact hend)
      (by rw [hstage]; exact hlen) (by rw [hstage]; exact hnew)
  obtain ⟨hexec, hans, hframe⟩ := command_answered (c := .stageChunk t q) rfl (lets_opens hlets)
    (taken_may_of_lets hlets) (by simp [hmin, hmax]) hrule (chunkStored_frame _ _ _) (by decide)
    ((chunkStored_now _ _ _).trans (taken_now _ _ _ _))
  have hstore := stagePut_store ((s.setNow t).taken q 3 0x0102) (arg q 0 4) (q.args.drop 4)
  simp only [taken_stages, taken_leaf, setNow_leaf] at hstore
  refine ⟨_, hexec, hans, ?_⟩
  simp only [settle_leaf, answer_leaf, chunkStored_leaf, settle_stage_received, settle_stage_chunks, answer_stage, chunkStored_stage, hstage]
  exact ⟨rfl, rfl, fun l => (hstore l).1, fun l => (hstore l).2.1, fun l => (hstore l).2.2, hframe⟩

end Sys2Proof.Machine

namespace Sys2Proof.Machine

/-! ### STAGE_ABORT (R81, R85, R87) -/

theorem modSlot_log (x : LeafRec) (k : Nat) (f : Slot → Slot) : (x.modSlot k f).log = x.log := by
  unfold LeafRec.modSlot
  split <;> rfl

theorem modSlot_slot (x : LeafRec) (k : Nat) (f : Slot → Slot) : (x.modSlot k f).slot k = f (x.slot k) := by
  by_cases hk : k = 0 <;> simp [LeafRec.modSlot, LeafRec.slot, hk]

theorem withdraw_frame (s : State) (k : Nat) : Frame [.leafA, .leafB] s (s.withdraw k) :=
  Frame.each (f := fun l s => if s.running l then s.modLeaf l (fun x => x.modSlot k (fun d => { d with st := 3 })) else s)
    (fun l s => Frame.ite _ (Frame.modLeaf s l _ (congrArg LogCopy.queue (modSlot_log _ _ _))) (Frame.refl _ s)) _ s

/-- Withdrawing marks the slot in the leaves that run. -/
theorem withdraw_slot {s : State} {l : Leaf} (k : Nat) (h : s.running l = true) : (((s.withdraw k).leaf l).slot k).st = 3 := by
  have hb : ∀ f, (s.modLeaf .a f).running .b = s.running .b := fun _ => rfl
  have hmark : (((s.leaf l).modSlot k (fun d => { d with st := 3 })).slot k).st = 3 := by rw [modSlot_slot]
  unfold State.withdraw
  cases l with
  | a =>
    simp only [List.foldl, h, if_true, hb]
    cases s.running .b <;> exact hmark
  | b =>
    cases ha : s.running .a <;> simp only [List.foldl, ha, hb, h, if_true, Bool.false_eq_true, if_false] <;> exact hmark

/-- The STAGED image is withdrawn, and the stores given back. -/
def State.unstaged (s : State) : State := (s.withdraw s.inactiveSlot).stageIdle

theorem unstaged_frame (s : State) : Frame [.stage, .leafA, .leafB] s s.unstaged :=
  ((withdraw_frame s _).mono (by decide)).trans (stageIdle_frame _)

theorem stageAbort_abandons {s : State} {k : Nat} (hst : s.stage.st = 1) (hsess : s.stage.sess = k) :
    s.stageAbort k = (s.stageAbandon 2).ansOk [] := by
  unfold State.stageAbort
  dsimp only
  rw [if_pos (.inl hst), if_pos hsess]

theorem stageAbort_withdraws {s : State} (k : Nat) (hst : s.stage.st = 4) : ∃ m, Logs s.unstaged m ∧ s.stageAbort k = m.ansOk [] := by
  unfold State.stageAbort
  dsimp only
  rw [if_neg (by omega), if_pos hst]
  exact ⟨_, Logs.evA _ _ _ _, rfl⟩

section Abort

variable {t : Nat} {q : HReq} {s : State} (hlets : (s.setNow t).lets q 0x0104 Perm.image = true) (hlen : q.args.length = 0)

include hlets hlen

theorem stageAbort_receiving_effect (hst : s.stage.st = 1) (hsess : s.stage.sess = q.sess) (hnone : s.stage.closeReq = none) :
    ∃ n, exec (.stageAbort t q) s = .next n ∧ n.stage.st = 0 ∧ n.la.stage = [] ∧ n.lb.stage = [] ∧ AnsweredOk (s.setNow t) n q 0x0104 [] ∧
      Frame (hostParts ++ [.stage, .leafA, .leafB, .log, .fifos]) s n := by
  have hstage : ((s.setNow t).taken q 3 0x0104).stage = s.stage := taken_stage _ _ _ _
  rw [← hstage] at hst hsess hnone
  obtain ⟨hidle, -, ha, hb, -, hframe⟩ := stageAbandon_receiving_spec 2 hst
  obtain ⟨hexec, hans, hparts⟩ := command_answered (c := .stageAbort t q) rfl (lets_opens hlets) (taken_may_of_lets hlets) (by simp [hlen])
    (stageAbort_abandons hst hsess) (hframe hnone) (by decide) ((congrArg TimeU.now (Ends.stageAbandon _ 2).time).trans (taken_now _ _ _ _))
  refine ⟨_, hexec, ?_⟩
  simp only [settle_stage_st, settle_la, settle_lb, answer_stage, answer_la, answer_lb]
  exact ⟨hidle, ha, hb, hans, hparts⟩

theorem stageAbort_staged_effect (hst : s.stage.st = 4) :
    ∃ n, exec (.stageAbort t q) s = .next n ∧ n.stage.st = 0 ∧ n.stage.image = none ∧
      (∀ l, (s.setNow t).running l = true → ((n.leaf l).slot s.inactiveSlot).st = 3) ∧ AnsweredOk (s.setNow t) n q 0x0104 [] ∧
      Frame (hostParts ++ [.stage, .leafA, .leafB, .log, .fifos]) s n := by
  have hstage : ((s.setNow t).taken q 3 0x0104).stage = s.stage := taken_stage _ _ _ _
  rw [← hstage] at hst
  obtain ⟨m, hlogs, hrule⟩ := stageAbort_withdraws q.sess hst
  have hends : Ends ((s.setNow t).taken q 3 0x0104) m :=
    ((Ends.withdraw _ _).trans (Ends.stageIdle _)).trans (Ends.of_logs hlogs)
  obtain ⟨hexec, hans, hparts⟩ := command_answered (c := .stageAbort t q) rfl (lets_opens hlets) (taken_may_of_lets hlets)
    (by simp [hlen]) hrule
    (((unstaged_frame _).mono (by decide)).trans (hlogs.frame_of_mem (by decide) (by decide)) : Frame [.stage, .leafA, .leafB, .log, .fifos] _ _)
    (by decide) ((congrArg TimeU.now hends.time).trans (taken_now _ _ _ _))
  refine ⟨_, hexec, ?_⟩
  simp only [settle_stage_st, settle_stage_image, settle_leaf, answer_stage, answer_leaf, hlogs.stage, hlogs.slot]
  refine ⟨rfl, rfl, fun l hl => ?_, hans, hparts⟩
  rw [State.unstaged, stageIdle_slot, taken_inactiveSlot]
  exact withdraw_slot _ (((Calm.taken _ _ _ _).running l).trans hl)

end Abort

/-- Settles O28: in RECEIVING by what abandoning leaves, in STAGED by the mark that each running leaf writes. -/
theorem stageAbortWithdraws : Obligations.StageAbortWithdraws := by
  unfold Obligations.StageAbortWithdraws
  intro t q s hlets hlen
  exact ⟨stageAbort_receiving_effect hlets hlen, stageAbort_staged_effect hlets hlen⟩

end Sys2Proof.Machine

namespace Sys2Proof.Machine

/-! ### VERIFY_COMPLETE (R82, R83, R84) -/

theorem exec_verifyComplete_verified {t : Nat} {s : State} {bad : List Leaf} {g : Image} (hst : s.stage.st = 2)
    (hg : (s.setNow t).verifyStaged bad = .ok g) : exec (.verifyComplete t bad) s = .next (settle s ((s.setNow t).writeBegin g)) := by
  change execVerifyComplete t bad s = _
  unfold execVerifyComplete
  refine at'_eq ((if_pos hst).trans ?_)
  rw [hg]

theorem exec_verifyComplete_refused {t : Nat} {s : State} {bad : List Leaf} {e : Reject} (hst : s.stage.st = 2)
    (he : (s.setNow t).verifyStaged bad = .error e) : exec (.verifyComplete t bad) s = .next (settle s ((s.setNow t).stageRefuse e)) := by
  change execVerifyComplete t bad s = _
  unfold execVerifyComplete
  refine at'_eq ((if_pos hst).trans ?_)
  rw [he]

theorem SameImage.modLeaf (s : State) (l : Leaf) (f : LeafRec → LeafRec) : SameImage s (s.modLeaf l f) :=
  ⟨modLeaf_cfg s l f, modLeaf_stage s l f⟩

theorem SameImage.refuseUnits (s : State) (l : Leaf) (n : Nat) : SameImage s (s.refuseUnits l n) := by
  unfold State.refuseUnits
  dsimp only
  split <;> exact ⟨rfl, rfl⟩

/-- While UNKEYED no slot runs, and the one to be written is drawn. -/
def State.targetChosen (s : State) : State :=
  if s.stage.activeSlot < 2 then s else ({ s with stage := { s.stage with target := b2n (Config.freeBool s.free) } } : State).draw

/-- WRITING with the image. -/
def State.writing (s : State) (g : Image) : State :=
  { s with stage := { s.stage with st := 3, image := some g, stagedSeq := g.seq, closeReq := none, torn := false, verTime := s.devTime } }

/-- The descriptors that the leaves then write touch neither the image in force nor the records of staging. -/
theorem writeBegin_sameImage (s : State) (g : Image) :
    SameImage (((s.answerOpt s.stage.closeReq St.ok [0]).targetChosen).writing g) (s.writeBegin g) := by
  unfold State.writeBegin
  refine SameImage.each (fun l n => ?_) _ _
  exact (SameImage.modLeaf n l _).trans (SameImage.refuseUnits _ l 1)

/-- WRITING begins with the image, under the configuration in force. -/
theorem writeBegin_spec (s : State) (g : Image) :
    (s.writeBegin g).stage.st = 3 ∧ (s.writeBegin g).stage.image = some g ∧ (s.writeBegin g).stage.stagedSeq = g.seq ∧
      (s.writeBegin g).stage.closeReq = none ∧ (s.writeBegin g).cfg = s.cfg := by
  have hsame := writeBegin_sameImage s g
  have htarget : Steady (s.answerOpt s.stage.closeReq St.ok [0]) (s.answerOpt s.stage.closeReq St.ok [0]).targetChosen :=
    Steady.ite _ (Steady.refl _) ⟨rfl, rfl⟩
  rw [hsame.stage, hsame.cfg]
  exact ⟨rfl, rfl, rfl, rfl, htarget.cfg.trans (Steady.answerOpt s _ _ _).cfg⟩

theorem answerOpt_leaf (s : State) (w : Option (Nat × Nat)) (status : Nat) (body : List Byte) (l : Leaf) :
    (s.answerOpt w status body).leaf l = s.leaf l := by
  cases w with
  | none => rfl
  | some w => exact answer_leaf s w.1 w.2 status body l

/-- What a refused image leaves: IDLE with the reason, and both slots of each leaf. -/
theorem stageRefuse_spec (s : State) (e : Reject) :
    (s.stageRefuse e).stage.st = 0 ∧ (s.stageRefuse e).stage.reason = e.reason ∧ (s.stageRefuse e).stage.image = none ∧
      (s.stageRefuse e).la.slot0 = s.la.slot0 ∧ (s.stageRefuse e).la.slot1 = s.la.slot1 ∧ (s.stageRefuse e).lb.slot0 = s.lb.slot0 ∧
      (s.stageRefuse e).lb.slot1 = s.lb.slot1 ∧ Frame [.stage, .leafA, .leafB, .links, .out, .log, .fifos] s (s.stageRefuse e) := by
  obtain ⟨u, hu⟩ : ∃ u, u = s.answerOpt s.stage.closeReq St.denied [byteOf e.reason] := ⟨_, rfl⟩
  have hlogs : Logs (u.stageIdle.reasoned e.reason) (s.stageRefuse e) := by
    rw [hu]
    exact Logs.evA _ _ _ _
  have hla : u.la = s.la := by rw [hu]; exact answerOpt_leaf s _ _ _ .a
  have hlb : u.lb = s.lb := by rw [hu]; exact answerOpt_leaf s _ _ _ .b
  rw [hlogs.stage, hlogs.la_slot0, hlogs.la_slot1, hlogs.lb_slot0, hlogs.lb_slot1, ← hla, ← hlb]
  refine ⟨rfl, rfl, rfl, rfl, rfl, rfl, rfl, Frame.trans ?_ (hlogs.frame_of_mem (by decide) (by decide))⟩
  have hanswer := answerOpt_frame s s.stage.closeReq St.denied [byteOf e.reason]
  rw [← hu] at hanswer
  exact ((hanswer.mono (by decide)).trans ((stageIdle_frame u).mono (by decide))).trans ((reasoned_frame _ _).mono (by decide))

/-! ### SLOT_WRITE_COMPLETE (R75, R77, R84 to R86) -/

/-- A leaf's record once the staged bytes stand WRITTEN in its slot. -/
def LeafRec.written (x : LeafRec) (g : Stage) (k : Nat) : LeafRec :=
  let b := mbytes x.stage 0 g.len
  let x := x.modSlot k (fun d => { d with st := 2, len := g.len, seq := g.stagedSeq, sha := sha256 b, bytes := b })
  let x := { x with mram := { x.mram with floor := max g.floor g.stagedSeq } }
  if k = 0 then { x with valid0 := g.image } else { x with valid1 := g.image }

theorem written_spec (x : LeafRec) (g : Stage) (k : Nat) : ((x.written g k).slot k).st = 2 ∧
    ((x.written g k).slot k).bytes = mbytes x.stage 0 g.len ∧ (x.written g k).log = x.log := by
  by_cases hk : k = 0 <;> simp [LeafRec.written, LeafRec.modSlot, LeafRec.slot, hk]

theorem slotWritten_eq (s : State) (l : Leaf) : s.slotWritten l =
    { s.setLeaf l ((s.leaf l).written s.stage s.inactiveSlot) with stage := { s.stage with floor := max s.stage.floor s.stage.stagedSeq } } := by
  cases l <;> rfl

theorem slotWritten_leaf (s : State) (l : Leaf) : (s.slotWritten l).leaf l = (s.leaf l).written s.stage s.inactiveSlot := by
  cases l <;> rfl

theorem slotWritten_leaf_other (s : State) (l : Leaf) : (s.slotWritten l).leaf l.other = s.leaf l.other := by
  cases l <;> rfl

theorem slotWritten_stage (s : State) (l : Leaf) : (s.slotWritten l).stage = { s.stage with floor := max s.stage.floor s.stage.stagedSeq } := by
  cases l <;> rfl

theorem slotWritten_frame (s : State) (l : Leaf) : Frame [.stage, .leafA, .leafB] s (s.slotWritten l) := by
  rw [slotWritten_eq]
  refine Frame.trans ?_ ((Frame.stage _ _).mono (by decide))
  exact (Frame.setLeaf s l _ (congrArg LogCopy.queue (written_spec _ _ _).2.2)).mono (by decide)

/-- The slot written in every leaf that takes part. -/
def State.slotsWritten (s : State) : State := s.each s.stagers (fun l s => s.slotWritten l)

theorem slotsWritten_frame (s : State) : Frame [.stage, .leafA, .leafB] s s.slotsWritten :=
  Frame.each (fun l s => slotWritten_frame s l) _ s

/-- The records of staging keep all but the floor, which follows the image where a leaf wrote it. -/
theorem slotsWritten_stage (s : State) : s.slotsWritten.stage =
    { s.stage with floor := if s.stages .a || s.stages .b then max s.stage.floor s.stage.stagedSeq else s.stage.floor } := by
  rw [State.slotsWritten, each_stagers]
  cases s.stages .a <;> cases s.stages .b <;> simp [slotWritten_stage]

/-- The slot of a leaf that takes part holds its staged bytes. -/
theorem slotsWritten_slot {s : State} {l : Leaf} (h : s.stages l = true) :
    ((s.slotsWritten.leaf l).slot s.inactiveSlot).st = 2 ∧
      ((s.slotsWritten.leaf l).slot s.inactiveSlot).bytes = mbytes (s.leaf l).stage 0 s.stage.len := by
  have hwritten : s.slotsWritten.leaf l = (s.leaf l).written s.stage s.inactiveSlot ∨
      s.slotsWritten.leaf l = (s.leaf l).written (s.slotWritten l.other).stage s.inactiveSlot := by
    rw [State.slotsWritten, each_stagers]
    cases l with
    | a =>
      rw [h]
      cases s.stages .b
      · exact .inl (slotWritten_leaf s .a)
      · exact .inl ((slotWritten_leaf_other _ .b).trans (slotWritten_leaf s .a))
    | b =>
      rw [h]
      cases s.stages .a
      · exact .inl (slotWritten_leaf s .b)
      · exact .inr (slotWritten_leaf _ .b)
  obtain hw | hw := hwritten <;> rw [hw]
  · exact ⟨(written_spec _ _ _).1, (written_spec _ _ _).2.1⟩
  · refine ⟨(written_spec _ _ _).1, ?_⟩
    rw [(written_spec _ _ _).2.1, slotWritten_stage]

/-- The slot written, STAGED. -/
def State.staged (s : State) : State := { s.slotsWritten with stage := { s.slotsWritten.stage with st := 4 } }

theorem staged_leaf (s : State) (l : Leaf) : s.staged.leaf l = s.slotsWritten.leaf l := by cases l <;> rfl

theorem staged_frame (s : State) : Frame [.stage, .leafA, .leafB] s s.staged :=
  (slotsWritten_frame s).trans ((Frame.stage _ _).mono (by decide))

theorem staged_stage (s : State) : s.staged.stage = { s.stage with
    st := 4, floor := if s.stages .a || s.stages .b then max s.stage.floor s.stage.stagedSeq else s.stage.floor } :=
  congrArg (fun g : Stage => { g with st := 4 }) (slotsWritten_stage s)

/-- A slot write in mode STAGE_ONLY that no leaf refuses ends in STAGED. -/
theorem exec_slotWriteComplete_staged {t : Nat} {s : State} (hst : s.stage.st = 3) (htorn : s.stage.torn = false) (hmode : s.stage.mode = 1)
    (hwrite : ∀ l, (s.setNow t).stages l = true → (s.leaf l).writeOk = true) : exec (.slotWriteComplete t none) s =
      .next (settle s ((s.setNow t).staged.evA Ev.imageStaged srcD [p4 (s.setNow t).staged.stage.stagedSeq])) := by
  have hallowed : ¬ (s.setNow t).stagers.any (fun l => !((s.setNow t).leaf l).writeOk) = true := by
    simp only [List.any_eq_true, not_exists, not_and]
    intro l hl
    rw [setNow_leaf, hwrite l (List.mem_filter.mp hl).2]
    exact Bool.false_ne_true
  have hstays : ¬ ((s.setNow t).staged.evA Ev.imageStaged srcD [p4 (s.setNow t).staged.stage.stagedSeq]).stage.mode = 0 := by
    rw [evA_stage, staged_stage, setNow_stage, hmode]
    decide
  change execSlotWriteComplete t none s = _
  unfold execSlotWriteComplete
  refine at'_eq ((if_neg ?_).trans ((if_neg hallowed).trans (if_neg hstays)))
  rw [setNow_stage, hst, htorn]
  decide

theorem slotWriteComplete_effect {t : Nat} {s : State} (hst : s.stage.st = 3) (htorn : s.stage.torn = false) (hmode : s.stage.mode = 1)
    (hwrite : ∀ l, (s.setNow t).stages l = true → (s.leaf l).writeOk = true) :
    ∃ n, exec (.slotWriteComplete t none) s = .next n ∧ n.stage.st = 4 ∧
      (∀ l, (s.setNow t).stages l = true → ((n.leaf l).slot s.inactiveSlot).st = 2 ∧ s.stage.stagedSeq ≤ n.stage.floor ∧
        ((n.leaf l).slot s.inactiveSlot).bytes = mbytes (s.leaf l).stage 0 s.stage.len) ∧
      s.stage.floor ≤ n.stage.floor ∧ Frame [.stage, .leafA, .leafB, .log, .fifos] s n := by
  obtain ⟨m, hlogs, hexec⟩ : ∃ m, Logs (s.setNow t).staged m ∧ exec (.slotWriteComplete t none) s = .next (settle s m) :=
    ⟨_, Logs.evA _ _ _ _, exec_slotWriteComplete_staged hst htorn hmode hwrite⟩
  refine ⟨_, hexec, ?_⟩
  simp only [settle_stage_st, settle_stage_floor, settle_leaf, hlogs.stage, hlogs.slot, staged_leaf, staged_stage]
  refine ⟨trivial, fun l hl => ?_, ?_, (((staged_frame _).mono (by decide)).trans (hlogs.frame_of_mem (by decide) (by decide))).settle⟩
  · obtain ⟨hslot, hbytes⟩ := slotsWritten_slot hl
    rw [setNow_leaf] at hbytes
    refine ⟨hslot, ?_, hbytes⟩
    rw [if_pos (by cases l <;> simp [hl])]
    exact le_max_right _ _
  · split
    · exact le_max_left _ _
    · exact le_refl _

/-- Settles O29: verification by its outcome, the slot write leaf by leaf. -/
theorem verifyAndWrite : Obligations.VerifyAndWrite := by
  unfold Obligations.VerifyAndWrite
  intro t s
  refine ⟨fun hst bad => ⟨fun g hg => ?_, fun e he => ?_⟩, slotWriteComplete_effect⟩
  · obtain ⟨hwriting, himage, hseq, hclose, hcfg⟩ := writeBegin_spec (s.setNow t) g
    exact ⟨_, exec_verifyComplete_verified hst hg, hwriting, himage, hseq, hclose, hcfg⟩
  · obtain ⟨hidle, hreason, himage, ha0, ha1, hb0, hb1, hframe⟩ := stageRefuse_spec (s.setNow t) e
    exact ⟨_, exec_verifyComplete_refused hst he, hidle, hreason, himage, ha0, ha1, hb0, hb1, hframe.settle⟩

end Sys2Proof.Machine

namespace Sys2Proof.Machine

/-! ### APPLY, REVERT and APPLY_TIMEOUT (R86, R88, R91, R99) -/

/-- APPLYING of a keyed device: the hinge point is awaited from now on. -/
def State.applying (s : State) : State :=
  { s with stage := { s.stage with st := 5, applyFrom := s.time.now, applyReason := Config.caseCode Ev.imageApplyAbandoned 2 } }

theorem applyBegin_keyed {s : State} (hkeyed : s.aon.unkeyed = false) (himage : s.stage.image ≠ none) : s.applyBegin = s.applying := by
  obtain ⟨g, hg⟩ := Option.ne_none_iff_exists'.mp himage
  unfold State.applyBegin
  rw [hg]
  dsimp only
  rw [if_neg (by rw [hkeyed]; exact Bool.false_ne_true)]
  rfl

theorem applyCmd_applies {s : State} (hkeyed : s.aon.unkeyed = false) (hst : s.stage.st = 4) (himage : s.stage.image ≠ none)
    (hready : s.leavesReady = true) : s.applyCmd = s.applying.ansOk [] := by
  unfold State.applyCmd
  rw [if_neg (by simp [hst]), if_neg (by simp [hready]), applyBegin_keyed hkeyed himage]

theorem applying_stage (s : State) : s.applying.stage =
    { s.stage with st := 5, applyFrom := s.time.now, applyReason := Config.caseCode Ev.imageApplyAbandoned 2 } := rfl

theorem applying_frame (s : State) : Frame [.stage] s s.applying := Frame.stage s _

theorem applying_now (s : State) : s.applying.time.now = s.time.now := rfl

theorem apply_effect {t : Nat} {q : HReq} {s : State} (hkeyed : s.aon.unkeyed = false)
    (hlets : (s.setNow t).lets q 0x0105 Perm.image = true) (hlen : q.args.length = 0) (hst : s.stage.st = 4) (himage : s.stage.image ≠ none)
    (hready : (s.setNow t).leavesReady = true) : ∃ n, exec (.apply t q) s = .next n ∧ n.stage.st = 5 ∧ n.stage.image = s.stage.image ∧
      n.stage.applyFrom = (s.setNow t).time.now ∧ AnsweredOk (s.setNow t) n q 0x0105 [] ∧ Frame (hostParts ++ [.stage]) s n := by
  have hstage : ((s.setNow t).taken q 3 0x0105).stage = s.stage := taken_stage _ _ _ _
  obtain ⟨hexec, hans, hframe⟩ := command_answered (c := .apply t q) rfl (lets_opens hlets) (taken_may_of_lets hlets) (by simp [hlen])
    (applyCmd_applies (by rw [taken_aon]; exact hkeyed) (by rw [hstage]; exact hst) (by rw [hstage]; exact himage)
      (by rw [taken_leavesReady]; exact hready))
    (applying_frame _) (by decide) ((applying_now _).trans (taken_now _ _ _ _))
  refine ⟨_, hexec, ?_⟩
  simp only [settle_stage_st, settle_stage_image, settle_stage_applyFrom, answer_stage, applying_stage, hstage]
  exact ⟨trivial, trivial, taken_now _ _ _ _, hans, hframe⟩

/-! The fallback image -/

/-- Judging the fallback slot can log a failing check, and note its reason. -/
theorem judgeFallback_logs (s : State) : ∃ r, Logs (s.reasoned r) s.judgeFallback.1 := by
  unfold State.judgeFallback
  extract_lets k out g u
  have hu : ∃ r, Logs (s.reasoned r) u := by
    dsimp only [u]
    split
    next e _ => exact ⟨e.reason, Logs.evA _ _ _ _⟩
    next => exact ⟨s.stage.reason, Logs.refl s⟩
  clear_value u out
  split <;> exact hu

/-- The judgement rests on the leaves and on the records of staging. -/
theorem taken_judgeFallback (s : State) (q : HReq) (kind op : Nat) : (s.taken q kind op).judgeFallback.2 = s.judgeFallback.2 := by
  unfold State.judgeFallback
  simp only [taken_stagers, taken_inactiveSlot, taken_leaf, taken_stage]
  split <;> rfl

/-- The fallback image is the one to apply. -/
def State.fallback (s : State) (g : Image) : State :=
  { s.judgeFallback.1 with stage := { s.judgeFallback.1.stage with image := some g, stagedSeq := g.seq, revert := true } }

theorem fallback_frame (s : State) (g : Image) : Frame [.stage, .log, .fifos] s (s.fallback g) := by
  obtain ⟨r, hlogs⟩ := judgeFallback_logs s
  refine Frame.trans ?_ ((Frame.stage _ _).mono (by decide))
  exact ((reasoned_frame s r).mono (by decide)).trans (hlogs.frame_of_mem (by decide) (by decide))

theorem fallback_now (s : State) (g : Image) : (s.fallback g).time.now = s.time.now := by
  obtain ⟨r, hlogs⟩ := judgeFallback_logs s
  exact congrArg TimeU.now hlogs.time

theorem fallback_aon (s : State) (g : Image) : (s.fallback g).aon = s.aon := by
  obtain ⟨r, hlogs⟩ := judgeFallback_logs s
  exact hlogs.aon

theorem revertCmd_applies {s : State} {g : Image} (hkeyed : s.aon.unkeyed = false) (hst : s.stage.st = 0) (hslot : s.stage.activeSlot < 2)
    (hready : s.leavesReady = true) (hg : s.judgeFallback.2 = some g) : s.revertCmd = (s.fallback g).applying.ansOk [] := by
  have happly : (s.fallback g).applyBegin = (s.fallback g).applying :=
    applyBegin_keyed (by rw [fallback_aon]; exact hkeyed) (by simp [State.fallback])
  have hpair : s.judgeFallback = (s.judgeFallback.1, some g) := Prod.ext rfl hg
  unfold State.revertCmd
  rw [if_neg (by simp [hst, hready, hslot]), hpair, ← happly]
  rfl

theorem revert_effect {t : Nat} {q : HReq} {s : State} (hkeyed : s.aon.unkeyed = false)
    (hlets : (s.setNow t).lets q 0x0106 Perm.image = true) (hlen : q.args.length = 0) (hst : s.stage.st = 0) (hslot : s.stage.activeSlot < 2)
    (hready : (s.setNow t).leavesReady = true) (g : Image) (hg : (s.setNow t).judgeFallback.2 = some g) :
    ∃ n, exec (.revert t q) s = .next n ∧ n.stage.st = 5 ∧ n.stage.image = some g ∧ n.stage.revert = true ∧
      AnsweredOk (s.setNow t) n q 0x0106 [] ∧ Frame (hostParts ++ [.stage, .log, .fifos]) s n := by
  have hstage : ((s.setNow t).taken q 3 0x0106).stage = s.stage := taken_stage _ _ _ _
  obtain ⟨hexec, hans, hframe⟩ := command_answered (c := .revert t q) rfl (lets_opens hlets) (taken_may_of_lets hlets) (by simp [hlen])
    (revertCmd_applies (by rw [taken_aon]; exact hkeyed) (by rw [hstage]; exact hst) (by rw [hstage]; exact hslot)
      (by rw [taken_leavesReady]; exact hready) ((taken_judgeFallback _ _ _ _).trans hg))
    ((fallback_frame _ _).trans ((applying_frame _).mono (by decide))) (by decide)
    ((applying_now _).trans ((fallback_now _ _).trans (taken_now _ _ _ _)))
  refine ⟨_, hexec, ?_⟩
  simp only [settle_stage_st, settle_stage_image, settle_stage_revert, answer_stage]
  exact ⟨rfl, rfl, rfl, hans, hframe⟩

/-! The timeout -/

/-- STAGED again, with the reason of the abandonment. -/
def State.stagedAgain (s : State) (reason : Nat) : State := { s with stage := { s.stage with st := 4, reason := reason } }

theorem applyAbandon_logs {s : State} (reason : Nat) (hst : s.stage.st = 5) : Logs (s.stagedAgain reason) (s.applyAbandon reason) := by
  unfold State.applyAbandon
  rw [if_pos hst]
  exact Logs.evA _ _ _ _

theorem exec_applyTimeout_due {t : Nat} {s : State} (hst : s.stage.st = 5)
    (hdue : s.stage.applyFrom + 10000000000 ≤ (s.setNow t).time.now) :
    exec (.applyTimeout t) s = .next (settle s ((s.setNow t).applyAbandon s.stage.applyReason)) := by
  change execApplyTimeout t s = _
  unfold execApplyTimeout
  exact at'_eq (if_pos ⟨hst, hdue⟩)

/-- Settles O30: APPLY and REVERT by their rules for a keyed device, the timeout by what abandoning leaves. -/
theorem applyAndRevert : Obligations.ApplyAndRevert := by
  unfold Obligations.ApplyAndRevert
  intro t q s hkeyed
  refine ⟨apply_effect hkeyed, revert_effect hkeyed, fun hst hdue => ?_⟩
  have hlogs := applyAbandon_logs (s := s.setNow t) s.stage.applyReason hst
  refine ⟨_, exec_applyTimeout_due hst hdue, ?_⟩
  simp only [settle_stage_st, settle_stage_revert, settle_stage_image, settle_stage_reason, hlogs.stage]
  exact ⟨rfl, rfl, rfl, rfl, (((Frame.stage _ _).mono (by decide)).trans (hlogs.frame_of_mem (by decide) (by decide))).settle⟩

end Sys2Proof.Machine

namespace Sys2Proof.Machine

/-! ### What a frame changes that leaves a master port (R27, R709) -/

/-- Pick, what was put out, and what logging reaches: nothing else differs. -/
def Sends (s n : State) : Prop := ∃ p o, Logs { s with pick := p, out := o } n

theorem Sends.of_logs {s n : State} (h : Logs s n) : Sends s n := ⟨s.pick, s.out, h⟩

theorem Sends.refl (s : State) : Sends s s := Sends.of_logs (Logs.refl s)

theorem Sends.trans {s t n : State} (h : Sends s t) (k : Sends t n) : Sends s n := by
  obtain ⟨_, _, _, _, _, _, rfl⟩ := h
  obtain ⟨p, o, g, fs, qa, qb, rfl⟩ := k
  exact ⟨p, o, g, fs, qa, qb, rfl⟩

theorem Sends.pick (s : State) (p : Pick) : Sends s { s with pick := p } := ⟨p, s.out, Logs.refl _⟩

theorem Sends.out (s : State) (o : List Out) : Sends s { s with out := o } := ⟨s.pick, o, Logs.refl _⟩

theorem Sends.each {α : Type} {f : α → State → State} (h : ∀ x s, Sends s (f x s)) (l : List α) (s : State) : Sends s (s.each l f) := by
  induction l generalizing s with
  | nil => exact Sends.refl s
  | cons x r ih => exact (h x s).trans (ih (f x s))

theorem Sends.ch {s n : State} (h : Sends s n) : n.ch = s.ch := by obtain ⟨_, _, h⟩ := h; exact h.ch
theorem Sends.time {s n : State} (h : Sends s n) : n.time = s.time := by obtain ⟨_, _, h⟩ := h; exact h.time
theorem Sends.nest {s n : State} (h : Sends s n) : n.nest = s.nest := by obtain ⟨_, _, h⟩ := h; exact h.nest

theorem Sends.portOn {s n : State} (h : Sends s n) (e : Leaf) : n.portOn e = s.portOn e := by
  obtain ⟨_, _, _, _, _, _, rfl⟩ := h
  cases e <;> rfl

/-- What a frame that leaves reaches. -/
theorem Sends.frame {s n : State} (h : Sends s n) : Frame [.log, .fifos, .pick, .out] s n := by
  obtain ⟨p, o, hlogs⟩ := h
  refine Frame.trans ?_ (hlogs.frame_of_mem (by decide) (by decide))
  rintro ⟨⟩ hp <;> simp [Part.same] at hp ⊢

theorem Sends.release (s : State) (l : List Out) : Sends s (s.release l) := by
  refine Sends.each (fun o s => ?_) l s
  dsimp only
  split
  · exact (Sends.out s _).trans (Sends.of_logs (Logs.withPick _ _ _ (fun t => Logs.traceFrame t _ _ _ _ _)))
  · exact Sends.out s _

theorem Sends.pickJudge (s : State) (f : PickSeen) : Sends s (s.pickJudge f).1 := by
  unfold State.pickJudge
  split
  · exact Sends.refl s
  dsimp only
  split
  · exact Sends.pick s _
  · exact ((Sends.pick s _).trans (Sends.pick _ _)).trans (Sends.of_logs (Logs.raiseN _ _ _ _ _ _ _))

theorem Sends.pickRelease (s : State) : Sends s s.pickRelease := (Sends.release s _).trans (Sends.pick _ _)

/-- A frame put out on a link, with its trace and what is produced of it. -/
theorem Sends.framePut (s : State) (o : Out) (picked : Bool) (r : Nat) (e : Leaf) (p q : List Byte) (c : Prop) [Decidable c] :
    Sends s ((s.emitFrame o).asPick picked
      (fun s => let s := s.traceFrame r e 0 0 p; if c then s.produce 5 6 (fun _ => true) q else s)) := by
  refine (Sends.out s _).trans (Sends.of_logs (Logs.asPick _ _ _ (fun t => ?_)))
  exact Logs.ite c ((Logs.traceFrame _ _ _ _ _ _).trans (Logs.produce _ _ _ _ _)) (Logs.traceFrame _ _ _ _ _ _)

theorem Sends.sendFrame (s : State) (r : Nat) (e : Leaf) (cls dest kind seq : Nat) (payload : List Byte) :
    Sends s (s.sendFrame r e cls dest kind seq payload) := by
  unfold State.sendFrame
  split
  · exact Sends.refl s
  dsimp only
  refine Sends.trans ?_ (Sends.pickRelease _)
  split
  case h_2 => exact Sends.pickJudge _ _
  case h_5 => exact (Sends.pickJudge _ _).trans (Sends.pick _ _)
  case h_6 => exact ((Sends.pickJudge _ _).trans (Sends.framePut _ _ _ _ _ _ _ _)).trans (Sends.framePut _ _ _ _ _ _ _ _)
  all_goals exact (Sends.pickJudge _ _).trans (Sends.framePut _ _ _ _ _ _ _ _)

/-! ### The tables of the rings (R639, R640) -/

@[simp] theorem ring_setRing_same (s : State) (r : Nat) (x : Ring) : (s.setRing r x).ring r = x := kget_kset_same _ _ _ _


@[simp] theorem ring_modRing_same (s : State) (r : Nat) (f : Ring → Ring) : (s.modRing r f).ring r = f (s.ring r) := kget_kset_same _ _ _ _

theorem ring_modRing_other (s : State) {r q : Nat} (f : Ring → Ring) (h : q ≠ r) : (s.modRing r f).ring q = s.ring q :=
  kget_kset_other _ _ _ _ _ h

@[simp] theorem port_setPort_same (s : State) (r : Nat) (e : Leaf) (p : Nat) (x : PortPos) : (s.setPort r e p x).port r e p = x :=
  kget_kset_same _ _ _ _

theorem ring_of_ch {s n : State} (h : n.ch = s.ch) (r : Nat) : n.ring r = s.ring r := congrArg (fun c : Chains => kget ({} : Ring) c.rings r) h

theorem port_of_ch {s n : State} (h : n.ch = s.ch) (r : Nat) (e : Leaf) (p : Nat) : n.port r e p = s.port r e p :=
  congrArg (fun c : Chains => kget ({} : PortPos) c.ports (portKey r e p)) h

theorem setRing_portOn (s : State) (r : Nat) (x : Ring) (e : Leaf) : (s.setRing r x).portOn e = s.portOn e := by cases e <;> rfl

theorem setRing_frame (s : State) (r : Nat) (x : Ring) : Frame [.chains] s (s.setRing r x) := Frame.ch s _

theorem modRing_frame (s : State) (r : Nat) (f : Ring → Ring) : Frame [.chains] s (s.modRing r f) := Frame.ch s _

/-- Nothing but node records and the ports' views of positions differs. -/
def PositionsOnly (s n : State) : Prop := ∃ x y, n = { s with ch := { s.ch with nodes := x, ports := y } }

theorem PositionsOnly.refl (s : State) : PositionsOnly s s := ⟨s.ch.nodes, s.ch.ports, rfl⟩

theorem PositionsOnly.trans {s t n : State} (h : PositionsOnly s t) (k : PositionsOnly t n) : PositionsOnly s n := by
  obtain ⟨_, _, rfl⟩ := h
  obtain ⟨x, y, rfl⟩ := k
  exact ⟨x, y, rfl⟩

theorem PositionsOnly.each {α : Type} {f : α → State → State} (h : ∀ x s, PositionsOnly s (f x s)) (l : List α) (s : State) :
    PositionsOnly s (s.each l f) := by
  induction l generalizing s with
  | nil => exact PositionsOnly.refl s
  | cons x r ih => exact (h x s).trans (ih (f x s))

theorem PositionsOnly.modNode (s : State) (r p : Nat) (f : Node → Node) : PositionsOnly s (s.modNode r p f) := ⟨_, _, rfl⟩

theorem PositionsOnly.setPort (s : State) (r : Nat) (e : Leaf) (p : Nat) (x : PortPos) : PositionsOnly s (s.setPort r e p x) := ⟨_, _, rfl⟩

theorem PositionsOnly.ring {s n : State} (h : PositionsOnly s n) (r : Nat) : n.ring r = s.ring r := by obtain ⟨_, _, rfl⟩ := h; rfl
theorem PositionsOnly.time {s n : State} (h : PositionsOnly s n) : n.time = s.time := by obtain ⟨_, _, rfl⟩ := h; rfl
theorem PositionsOnly.portOn {s n : State} (h : PositionsOnly s n) (e : Leaf) : n.portOn e = s.portOn e := by
  obtain ⟨_, _, rfl⟩ := h
  cases e <;> rfl

theorem PositionsOnly.frame {s n : State} (h : PositionsOnly s n) : Frame [.chains] s n := by
  obtain ⟨x, y, rfl⟩ := h
  exact Frame.ch s _

end Sys2Proof.Machine

namespace Sys2Proof.Machine

/-! ### ENUM at one ring (R179, R180, R203) -/

/-- A ring's record without what an enumeration notes of itself. -/
def Ring.sansEnum (x : Ring) : Ring :=
  { x with
      enumA := 0, enumB := 0, openA := false, openB := false, hopRetA := none, hopRetB := none, probedA := false, probedB := false
      srcBad := false, cntDone := false, enumKind := 0, bPend := false, brkEnum := false }

/-- One ring enumerates: of its record nothing but the enumeration's own notes changes, other rings stay, and so does the clock. -/
structure Enumerates (r : Nat) (s n : State) : Prop where
  ring : (n.ring r).sansEnum = (s.ring r).sansEnum
  others : ∀ q, q ≠ r → n.ring q = s.ring q
  now : n.time.now = s.time.now
  portOn : ∀ e, n.portOn e = s.portOn e
  frame : Frame ringParts s n

theorem Enumerates.refl (r : Nat) (s : State) : Enumerates r s s := ⟨rfl, fun _ _ => rfl, rfl, fun _ => rfl, Frame.refl _ s⟩

theorem Enumerates.trans {r : Nat} {s t n : State} (h : Enumerates r s t) (k : Enumerates r t n) : Enumerates r s n :=
  ⟨k.ring.trans h.ring, fun q hq => (k.others q hq).trans (h.others q hq), k.now.trans h.now, fun e => (k.portOn e).trans (h.portOn e),
    h.frame.trans k.frame⟩

theorem Enumerates.of_positions {r : Nat} {s n : State} (h : PositionsOnly s n) : Enumerates r s n :=
  ⟨by rw [h.ring], fun q _ => h.ring q, by rw [h.time], h.portOn, h.frame.mono (by decide)⟩

theorem Enumerates.of_sends {r : Nat} {s n : State} (h : Sends s n) : Enumerates r s n :=
  ⟨by rw [ring_of_ch h.ch], fun q _ => ring_of_ch h.ch q, by rw [h.time], h.portOn, h.frame.mono (by decide)⟩

theorem Enumerates.modRing {r : Nat} (s : State) (f : Ring → Ring) (h : ∀ x : Ring, (f x).sansEnum = x.sansEnum) :
    Enumerates r s (s.modRing r f) :=
  ⟨by rw [ring_modRing_same, h], fun _ hq => ring_modRing_other s f hq, rfl, setRing_portOn s r _, (modRing_frame s r f).mono (by decide)⟩

theorem Enumerates.enumClear (s : State) (r : Nat) : Enumerates r s (s.enumClear r) := by
  unfold State.enumClear
  dsimp only
  split
  · exact Enumerates.refl r s
  · refine Enumerates.trans (Enumerates.of_positions ?_) (Enumerates.modRing _ _ fun _ => rfl)
    exact PositionsOnly.each (fun p s => PositionsOnly.modNode s r p _) _ s

/-- What an end's record notes when its ENUM leaves. -/
def Ring.enumSent (x : Ring) (e : Leaf) (now : Nat) : Ring :=
  match e with
  | .a => { x with enumA := now, openA := true, hopRetB := none, probedA := true }
  | .b => { x with enumB := now, openB := true, hopRetA := none, probedB := true }

theorem enumSent_sansEnum (x : Ring) (e : Leaf) (now : Nat) : (x.enumSent e now).sansEnum = x.sansEnum := by cases e <;> rfl

/-- ENUM leaves an end that works: the positions' views restart, the end's answer window opens, the frame goes. -/
theorem sendEnum_sends {s : State} {e : Leaf} (r : Nat) (h : s.portOn e = true) :
    ∃ m, PositionsOnly s m ∧ Sends (m.modRing r (fun x => x.enumSent e s.time.now)) (s.sendEnum r e) := by
  unfold State.sendEnum
  rw [if_neg (by simp [h])]
  dsimp only
  have hpos : PositionsOnly s (s.each (s.cfg.positions r) (fun p s =>
      (s.setPort r e p { s.port r e p with seqCtr := 1 }).modNode r p
        (fun n => match e with | .a => { n with ansA := none } | .b => { n with ansB := none }))) :=
    PositionsOnly.each (fun p s => (PositionsOnly.setPort s r e p _).trans (PositionsOnly.modNode _ r p _)) _ s
  refine ⟨_, hpos, ?_⟩
  rw [← hpos.time]
  cases e <;> exact Sends.sendFrame _ _ _ _ _ _ _ _

/-- What the ring's record shows after its ENUM has left an end. -/
theorem sendEnum_ring {s : State} {e : Leaf} (r : Nat) (h : s.portOn e = true) :
    (s.sendEnum r e).ring r = (s.ring r).enumSent e s.time.now := by
  obtain ⟨m, hpos, hsends⟩ := sendEnum_sends r h
  rw [ring_of_ch hsends.ch, ring_modRing_same, hpos.ring]

theorem Enumerates.sendEnum (s : State) (r : Nat) (e : Leaf) : Enumerates r s (s.sendEnum r e) := by
  cases h : s.portOn e with
  | false =>
    unfold State.sendEnum
    rw [if_pos (by simp [h])]
    exact Enumerates.refl r s
  | true =>
    obtain ⟨m, hpos, hsends⟩ := sendEnum_sends r h
    exact (Enumerates.of_positions hpos).trans ((Enumerates.modRing m _ fun x => enumSent_sansEnum x e _).trans (Enumerates.of_sends hsends))

theorem Enumerates.breakEnum (s : State) (r : Nat) : Enumerates r s (s.breakEnum r) := by
  unfold State.breakEnum
  refine Enumerates.trans ?_ (Enumerates.sendEnum _ r .b)
  refine Enumerates.trans ?_ (Enumerates.sendEnum _ r .a)
  exact (Enumerates.enumClear s r).trans (Enumerates.modRing _ _ fun _ => rfl)

end Sys2Proof.Machine

namespace Sys2Proof.Machine

/-! ### The uplink ports (R27, R160 to R162) -/

@[simp] theorem upPort_setUpPort_same (s : State) (e : Leaf) (x : UpPort) : (s.setUpPort e x).upPort e = x := by cases e <;> rfl

@[simp] theorem upPort_setUpPort_other (s : State) (e : Leaf) (x : UpPort) : (s.setUpPort e x).upPort e.other = s.upPort e.other := by
  cases e <;> rfl

theorem upPort_of_nest {s n : State} (h : n.nest = s.nest) (e : Leaf) : n.upPort e = s.upPort e := by
  cases e
  · exact congrArg Nest.portA h
  · exact congrArg Nest.portB h

theorem setUpPort_nest (s : State) (e : Leaf) (x : UpPort) :
    (s.setUpPort e x).nest = if e = .a then { s.nest with portA := x } else { s.nest with portB := x } := by cases e <;> rfl

theorem setUpPort_frame (s : State) (e : Leaf) (x : UpPort) : Frame [.nest] s (s.setUpPort e x) := by
  cases e <;> rintro ⟨⟩ hp <;> simp [Part.same] at hp ⊢

theorem setUpPort_ring (s : State) (e : Leaf) (x : UpPort) (r : Nat) : (s.setUpPort e x).ring r = s.ring r := by cases e <;> rfl

theorem Frame.nest (s : State) (x : Nest) : Frame [.nest] s { s with nest := x } := by
  rintro ⟨⟩ hp <;> simp [Part.same] at hp ⊢

theorem emits_eq (s : State) (l : List Out) : s.emits l = { s with out := l.reverse ++ s.out } := by
  induction l generalizing s with
  | nil => rfl
  | cons o r ih =>
    refine (ih (s.emit o)).trans ?_
    simp [State.emit]

/-- A port's record without its transmitter. -/
def UpPort.still (x : UpPort) : UpPort := { x with txEnd := 0, fwd := [], own := [] }

/-- Nothing but the transmitters of the uplink ports differs, and what they have put out. -/
def Transmits (s n : State) : Prop := ∃ a b o, n = { s with nest := { s.nest with portA := a, portB := b }, out := o ++ s.out } ∧
  a.still = s.nest.portA.still ∧ b.still = s.nest.portB.still

theorem Transmits.refl (s : State) : Transmits s s := ⟨s.nest.portA, s.nest.portB, [], rfl, rfl, rfl⟩

theorem Transmits.trans {s t n : State} (h : Transmits s t) (k : Transmits t n) : Transmits s n := by
  obtain ⟨a, b, o, rfl, ha, hb⟩ := h
  obtain ⟨a', b', o', rfl, ha', hb'⟩ := k
  exact ⟨a', b', o' ++ o, by simp, ha'.trans ha, hb'.trans hb⟩

theorem Transmits.setUpPort {s : State} {e : Leaf} {x : UpPort} (h : x.still = (s.upPort e).still) : Transmits s (s.setUpPort e x) := by
  cases e
  · exact ⟨x, s.nest.portB, [], rfl, h, rfl⟩
  · exact ⟨s.nest.portA, x, [], rfl, rfl, h⟩

theorem Transmits.emits (s : State) (l : List Out) : Transmits s (s.emits l) := by
  rw [emits_eq]
  exact ⟨s.nest.portA, s.nest.portB, l.reverse, rfl, rfl, rfl⟩

theorem Transmits.emit (s : State) (o : Out) : Transmits s (s.emit o) := Transmits.emits s [o]

section
variable {s n : State} (h : Transmits s n)
include h

theorem Transmits.still (e : Leaf) : (n.upPort e).still = (s.upPort e).still := by
  obtain ⟨_, _, _, rfl, ha, hb⟩ := h
  cases e
  · exact ha
  · exact hb

theorem Transmits.held (e : Leaf) : (n.upPort e).held = (s.upPort e).held := by have := congrArg UpPort.held (h.still e); exact this
theorem Transmits.busy (e : Leaf) : (n.upPort e).busy = (s.upPort e).busy := by have := congrArg UpPort.busy (h.still e); exact this
theorem Transmits.up (e : Leaf) : (n.upPort e).up = (s.upPort e).up := by have := congrArg UpPort.up (h.still e); exact this
theorem Transmits.los (e : Leaf) : (n.upPort e).los = (s.upPort e).los := by have := congrArg UpPort.los (h.still e); exact this

/-- Of the nesting record the ports alone differ. -/
theorem Transmits.nest : ∃ a b, n.nest = { s.nest with portA := a, portB := b } := by
  obtain ⟨a, b, _, rfl, -⟩ := h
  exact ⟨a, b, rfl⟩

theorem Transmits.time : n.time = s.time := by obtain ⟨_, _, _, rfl, -⟩ := h; rfl
theorem Transmits.ch : n.ch = s.ch := by obtain ⟨_, _, _, rfl, -⟩ := h; rfl
theorem Transmits.aon : n.aon = s.aon := by obtain ⟨_, _, _, rfl, -⟩ := h; rfl
theorem Transmits.sleep : n.sleep = s.sleep := by obtain ⟨_, _, _, rfl, -⟩ := h; rfl
theorem Transmits.position : n.nest.position = s.nest.position := by obtain ⟨_, _, _, rfl, -⟩ := h; rfl

/-- What was put out stays. -/
theorem Transmits.mem_out {o : Out} (ho : o ∈ s.out) : o ∈ n.out := by
  obtain ⟨_, _, l, rfl, -⟩ := h
  exact List.mem_append_right l ho

theorem Transmits.upOn (e : Leaf) : n.upOn e = s.upOn e := by
  obtain ⟨_, _, _, rfl, -⟩ := h
  cases e <;> rfl

theorem Transmits.upRx (e : Leaf) : n.upRx e = s.upRx e := by rw [State.upRx, State.upRx, h.upOn, h.up]

theorem Transmits.upThrough : n.upThrough = s.upThrough := by rw [State.upThrough, State.upThrough, h.upRx, h.upRx]

theorem Transmits.upSrc : n.upSrc = s.upSrc := by rw [State.upSrc, State.upSrc, h.position]

theorem Transmits.frame : Frame [.nest, .out] s n := by
  obtain ⟨_, _, _, rfl, -⟩ := h
  rintro ⟨⟩ hp <;> simp [Part.same] at hp ⊢

end

/-- A transmitter keeps the rest of its port's record, by what waits at it. -/
theorem drain_still (low : Bool) (now k : Nat) (x : UpPort) : (x.drain low now k).2.still = x.still := by
  induction k generalizing x with
  | zero => rfl
  | succ k ih =>
    unfold UpPort.drain
    split
    · rfl
    · split
      · exact ih _
      · exact ih _
      · rfl

theorem Transmits.upDrain (s : State) (e : Leaf) : Transmits s (s.upDrain e) := by
  unfold State.upDrain
  dsimp only
  split
  · exact Transmits.refl s
  split
  · exact Transmits.setUpPort rfl
  · exact (Transmits.setUpPort (drain_still _ _ _ _)).trans (Transmits.emits _ _)

theorem Transmits.upDrains (s : State) : Transmits s s.upDrains := (Transmits.upDrain s .a).trans (Transmits.upDrain _ .b)

theorem Transmits.upPut (s : State) (e : Leaf) (line : List Byte) (eof own : Bool) : Transmits s (s.upPut e line eof own) := by
  unfold State.upPut
  refine (Transmits.upDrain s e).trans ?_
  dsimp only
  split
  · refine Transmits.trans ?_ (Transmits.emit _ _)
    exact Transmits.setUpPort rfl
  split
  · exact Transmits.setUpPort rfl
  · exact Transmits.setUpPort rfl

theorem Transmits.upForward (s : State) (e : Leaf) (line : List Byte) (eof : Bool) : Transmits s (s.upForward e line eof) := by
  unfold State.upForward
  split
  · exact Transmits.upPut _ _ _ _ _
  · exact Transmits.refl s

theorem Transmits.upSend (s : State) (e : Leaf) (seq kind : Nat) (p : List Byte) : Transmits s (s.upSend e seq kind p) :=
  Transmits.upPut _ _ _ _ _

/-! A port looked at, or put on, leaves the other one -/

theorem upDrain_other (s : State) (e : Leaf) : (s.upDrain e).upPort e.other = s.upPort e.other := by
  unfold State.upDrain
  dsimp only
  split
  · rfl
  split
  · exact upPort_setUpPort_other _ _ _
  · rw [emits_eq]
    exact upPort_setUpPort_other _ _ _

theorem upPut_other (s : State) (e : Leaf) (line : List Byte) (eof own : Bool) : (s.upPut e line eof own).upPort e.other = s.upPort e.other := by
  unfold State.upPut
  dsimp only
  split
  · exact (upPort_setUpPort_other _ _ _).trans (upDrain_other s e)
  split
  · exact (upPort_setUpPort_other _ _ _).trans (upDrain_other s e)
  · exact (upPort_setUpPort_other _ _ _).trans (upDrain_other s e)

theorem upForward_same (s : State) (e : Leaf) (line : List Byte) (eof : Bool) : (s.upForward e line eof).upPort e = s.upPort e := by
  unfold State.upForward
  split
  · cases e
    · exact upPut_other s .b line eof false
    · exact upPut_other s .a line eof false
  · rfl

/-! Nothing waits -/

/-- Nothing waits at a port's transmitter. -/
def UpPort.empty (x : UpPort) : Prop := x.fwd = [] ∧ x.own = []

theorem upDrain_empty {s : State} {e : Leaf} (h : (s.upPort e).empty) : s.upDrain e = s := by
  obtain ⟨hf, ho⟩ := h
  unfold State.upDrain
  exact if_pos (by simp [hf, ho])

theorem upDrains_empty {s : State} (h : ∀ e, (s.upPort e).empty) : s.upDrains = s := by
  rw [State.upDrains, upDrain_empty (h .a), upDrain_empty (h .b)]

/-- A frame leaves at once where the line is free. -/
theorem upPut_free {s : State} {e : Leaf} {line : List Byte} {eof own : Bool} (h : (s.upPort e).empty)
    (hfree : (s.upPort e).txEnd ≤ s.time.now) : s.upPut e line eof own =
      (s.setUpPort e { s.upPort e with txEnd := s.time.now + lineNs s.nest.low line.length }).emit (.up e line eof) := by
  unfold State.upPut
  rw [upDrain_empty h]
  obtain ⟨hf, ho⟩ := h
  exact if_pos (by simp [hf, ho, hfree])

theorem upPut_free_out {s : State} {e : Leaf} {line : List Byte} {eof own : Bool} (h : (s.upPort e).empty)
    (hfree : (s.upPort e).txEnd ≤ s.time.now) : (s.upPut e line eof own).out = .up e line eof :: s.out := by
  rw [upPut_free h hfree, emit_out, setUpPort_out]

/-- A frame of the node waits while the line is in use. -/
theorem upPut_waits {s : State} {e : Leaf} {line : List Byte} {eof : Bool} (h : (s.upPort e).empty)
    (hbusy : s.time.now < (s.upPort e).txEnd) : s.upPut e line eof true = s.setUpPort e { s.upPort e with own := [line] } := by
  unfold State.upPut
  rw [upDrain_empty h]
  obtain ⟨hf, ho⟩ := h
  refine (if_neg ?_).trans ?_
  · simpa [hf, ho] using hbusy
  · rw [if_pos rfl, ho]
    rfl

end Sys2Proof.Machine

namespace Sys2Proof.Machine

/-! ### Bad frames and returned broadcasts (R158, R159) -/

theorem setNow_ring (s : State) (t r : Nat) : (s.setNow t).ring r = s.ring r := rfl

/-- The counters of a port after a bad frame, or after code errors between frames. -/
def Ring.badCounted (x : Ring) (e : Leaf) (codes : Nat) (line : Option (List Byte)) : Ring :=
  if e = .a then { x with badA := satAdd 32 x.badA (b2n line.isSome), codeA := satAdd 32 x.codeA codes }
  else { x with badB := satAdd 32 x.badB (b2n line.isSome), codeB := satAdd 32 x.codeB codes }

/-- A bad frame counts at its port and is traced. -/
theorem badRx_logs (s : State) (r : Nat) (e : Leaf) (codes : Nat) (line : Option (List Byte)) :
    Logs (s.modRing r (fun x => x.badCounted e codes line)) (s.badRx r e codes line) := by
  unfold State.badRx
  cases line with
  | none => cases e <;> exact Logs.refl _
  | some p => cases e <;> exact Logs.traceFrame _ _ _ _ _ _

/-- What counting at one ring changes: that ring's record. -/
theorem counted_spec {s n : State} {r : Nat} {f : Ring → Ring} (h : Logs (s.modRing r f) n) :
    n.ring r = f (s.ring r) ∧ (∀ q, q ≠ r → n.ring q = s.ring q) ∧ n.ch.nodes = s.ch.nodes ∧ n.ch.ports = s.ch.ports ∧
      Frame [.chains, .log, .fifos] s n := by
  refine ⟨(ring_of_ch h.ch r).trans (ring_modRing_same s r f), fun q hq => (ring_of_ch h.ch q).trans (ring_modRing_other s f hq), ?_, ?_, ?_⟩
  · rw [h.ch]
    rfl
  · rw [h.ch]
    rfl
  · exact ((modRing_frame s r f).mono (by decide)).trans (h.frame_of_mem (by decide) (by decide))

theorem exec_badFrameReceived_master {t r c : Nat} {e : Leaf} {line : Option (List Byte)} {s : State} (hon : (s.setNow t).portOn e = true)
    (hring : s.cfg.ringOn r = true) (hup : r = 15 → s.cfg.uplink = false) :
    exec (.badFrameReceived t r e ⟨c, line⟩) s = .next (settle s ((s.setNow t).badRx r e c line)) := by
  change execBadFrameReceived t r e ⟨c, line⟩ s = _
  unfold execBadFrameReceived
  refine at'_eq ((if_neg ?_).trans ?_)
  · rintro ⟨h15, hu⟩
    rw [setNow_cfg, hup h15] at hu
    exact Bool.false_ne_true hu
  · exact if_pos ⟨hring, hon⟩

theorem exec_badFrameReceived_uplink {t c : Nat} {e : Leaf} {line : Option (List Byte)} {s : State} (hup : s.cfg.uplink = true) :
    exec (.badFrameReceived t 15 e ⟨c, line⟩) s = .next (settle s ((s.setNow t).upBad e c line)) := by
  change execBadFrameReceived t 15 e ⟨c, line⟩ s = _
  unfold execBadFrameReceived
  exact at'_eq (if_pos ⟨rfl, hup⟩)

/-- A bad frame at a working uplink port counts there; its copy ends with ABORT. -/
theorem upBad_spec {s : State} {e : Leaf} (c : Nat) (line : Option (List Byte)) (hrx : s.upRx e = true) :
    (s.upBad e c line).ring 15 = (s.ring 15).badCounted e c line ∧ (∀ q, q ≠ 15 → (s.upBad e c line).ring q = s.ring q) ∧
      Frame [.chains, .nest, .out, .log, .fifos] s (s.upBad e c line) := by
  have hdrains := Transmits.upDrains s
  obtain ⟨hring, hothers, -, -, hframe⟩ := counted_spec (badRx_logs s.upDrains 15 e c line)
  have hforward : Transmits (s.upDrains.badRx 15 e c line) (s.upBad e c line) := by
    unfold State.upBad
    rw [if_neg (by simp [hrx])]
    cases line with
    | none => exact Transmits.refl _
    | some p =>
      dsimp only
      split
      · exact Transmits.refl _
      · exact Transmits.upForward _ _ _ _
  refine ⟨?_, fun q hq => ?_, ?_⟩
  · rw [ring_of_ch hforward.ch, hring, ring_of_ch hdrains.ch]
  · rw [ring_of_ch hforward.ch, hothers q hq, ring_of_ch hdrains.ch]
  · exact ((hdrains.frame.mono (by decide)).trans (hframe.mono (by decide))).trans (hforward.frame.mono (by decide))

/-- A frame of no position that arrives good at a port that works, with Pick not armed, is traced and goes to its rule. -/
theorem rx_unpicked {s : State} {r kind seq : Nat} {e : Leaf} {p : List Byte} {again : Instr} {judge : List Byte → State → Nat}
    {deliver : List Byte → Nat → State → State} (hon : s.portOn e = true) (hpick : s.pick.armed = false) :
    s.rx r e 0 kind seq p again judge deliver =
      deliver p (judge p s) (s.traceFrame r e 1 (judge p s) (frameBytes 0 0 kind seq p)) := by
  unfold State.rx
  rw [if_neg (by simp [hon])]
  simp only [State.pickJudge, hpick, Bool.not_false, Bool.true_or, if_true]
  rfl

theorem exec_broadcastReturned_counts {t r : Nat} {e : Leaf} {s : State} (hon : (s.setNow t).portOn e = true) (hring : s.cfg.ringOn r = true)
    (hpick : s.pick.armed = false) :
    ∃ m, Logs (s.setNow t) m ∧ exec (.broadcastReturned t r e) s =
      .next (settle s (m.modRing r (fun x => { x with bcast := satAdd 32 x.bcast 1 }))) := by
  refine ⟨_, Logs.traceFrame (s.setNow t) r e 1 0 (frameBytes 0 0 0x0A 0 (s.setNow t).heartbeatP), ?_⟩
  change execBroadcastReturned t r e s = _
  unfold execBroadcastReturned
  refine at'_eq ((if_neg (by simp [hring])).trans ?_)
  exact rx_unpicked hon hpick

/-- Counting after logging comes to the same as logging after counting. -/
theorem Logs.modRing {s m : State} (h : Logs s m) (r : Nat) (f : Ring → Ring) : Logs (s.modRing r f) (m.modRing r f) := by
  obtain ⟨g, fs, qa, qb, rfl⟩ := h
  exact ⟨g, fs, qa, qb, rfl⟩

end Sys2Proof.Machine

namespace Sys2Proof.Machine

/-! ### Loss of signal, link up and probes (R147, R223, R228) -/

/-- Awake, a wake source changes nothing. -/
theorem wake_awake {s : State} (h : s.sleep.st = 0) (bits : Nat) : s.wake bits = s := by
  unfold State.wake
  rw [if_neg (by omega), if_pos (by omega)]

/-- A ring's record with a loss of signal counted at an end. -/
def Ring.losCounted (x : Ring) (e : Leaf) : Ring :=
  if e = .a then { x with losA := true, losCntA := satAdd 32 x.losCntA 1 } else { x with losB := true, losCntB := satAdd 32 x.losCntB 1 }

theorem losCounted_eq (x : Ring) (e : Leaf) : x.losCounted e = match e with
    | .a => { x with losA := true, losCntA := satAdd 32 x.losCntA 1 }
    | .b => { x with losB := true, losCntB := satAdd 32 x.losCntB 1 } := by cases e <;> rfl

theorem exec_portLos_master {t r : Nat} {e : Leaf} {s : State} (hon : (s.setNow t).portOn e = true) (hring : s.cfg.ringOn r = true)
    (hup : r = 15 → s.cfg.uplink = false) (hlos : (if e = .a then (s.ring r).losA else (s.ring r).losB) = false) (hawake : s.sleep.st = 0) :
    exec (.portLos t r e) s =
      .next (settle s (((s.setNow t).setRing r ((s.ring r).losCounted e)).ringEvent r (e.num + 1))) := by
  have hwake : ((s.setNow t).setRing r ((s.ring r).losCounted e)).wake 0x80 = (s.setNow t).setRing r ((s.ring r).losCounted e) :=
    wake_awake (s := (s.setNow t).setRing r ((s.ring r).losCounted e)) hawake _
  change execPortLos t r e s = _
  unfold execPortLos
  refine at'_eq ((if_neg ?_).trans ((if_neg ?_).trans ?_))
  · rintro ⟨h15, hu, -⟩
    rw [setNow_cfg, hup h15] at hu
    exact Bool.false_ne_true hu
  · cases e <;> simpa [hring, hon, setNow_ring] using hlos
  · rw [losCounted_eq] at hwake ⊢
    exact congrArg (fun m : State => m.ringEvent r (e.num + 1)) hwake

/-- Where no event of R223 begins a determination. -/
theorem ringEvent_none {s : State} {r : Nat} (code : Nat) (h : ((s.ring r).st ≠ .whole ∧ (s.ring r).sideOk = false) ∨ (s.ring r).brk ≠ 0) :
    s.ringEvent r code = s := by
  unfold State.ringEvent
  refine if_pos ?_
  obtain ⟨hst, hside⟩ | hbrk := h
  · exact .inl ⟨hst, by simp [hside]⟩
  · exact .inr hbrk

/-- A ring's record as the determination of a break begins (R223). -/
def Ring.breakBegun (x : Ring) (code now : Nat) : Ring :=
  { x with
      brk := code, brkNow := now, brkSent := code == 5, brkEnum := false
      probedA := x.probedA && x.st != .whole, probedB := x.probedB && x.st != .whole }

/-- A loss of signal on a ring that is WHOLE, or whole on the side that is left, begins the determination of a break. -/
theorem ringEvent_begins {s : State} {r code : Nat} (hst : (s.ring r).st = .whole ∨ (s.ring r).sideOk = true) (hbrk : (s.ring r).brk = 0)
    (hcode : code ≤ 2) : Enumerates r (s.setRing r ((s.ring r).breakBegun code s.time.now)) (s.ringEvent r code) := by
  have hpos : PositionsOnly (s.setRing r ((s.ring r).breakBegun code s.time.now))
      ((s.setRing r ((s.ring r).breakBegun code s.time.now)).each (s.cfg.positions r)
        (fun p s => s.modNode r p (fun n => { n with reqA := false, reqB := false }))) :=
    PositionsOnly.each (fun p s => PositionsOnly.modNode s r p _) _ _
  unfold State.ringEvent
  dsimp only
  rw [if_neg, if_neg (by omega)]
  · split
    · exact Enumerates.of_positions hpos
    · exact (Enumerates.of_positions hpos).trans (Enumerates.breakEnum _ r)
  · rintro (⟨hne, hside⟩ | hne)
    · exact hst.elim hne (fun h => by simp [h, hcode] at hside)
    · exact hne hbrk

/-- What the determination notes in the ring's record, and what it leaves there. -/
theorem ringEvent_begins_ring {s : State} {r code : Nat} (hst : (s.ring r).st = .whole ∨ (s.ring r).sideOk = true)
    (hbrk : (s.ring r).brk = 0) (hcode : code ≤ 2) :
    ((s.ringEvent r code).ring r).brk = code ∧ ((s.ringEvent r code).ring r).brkNow = s.time.now ∧
      ((s.ringEvent r code).ring r).losA = (s.ring r).losA ∧ ((s.ringEvent r code).ring r).losB = (s.ring r).losB ∧
      ((s.ringEvent r code).ring r).losCntA = (s.ring r).losCntA ∧ ((s.ringEvent r code).ring r).losCntB = (s.ring r).losCntB := by
  have h := (ringEvent_begins hst hbrk hcode).ring
  rw [ring_setRing_same] at h
  have hbrk' := congrArg Ring.brk h
  have hnow := congrArg Ring.brkNow h
  have hlosA := congrArg Ring.losA h
  have hlosB := congrArg Ring.losB h
  have hcntA := congrArg Ring.losCntA h
  have hcntB := congrArg Ring.losCntB h
  exact ⟨hbrk', hnow, hlosA, hlosB, hcntA, hcntB⟩

theorem ringEvent_frame {s : State} {r code : Nat} (hcode : code ≤ 2) : Frame ringParts s (s.ringEvent r code) := by
  by_cases h : ((s.ring r).st = .whole ∨ (s.ring r).sideOk = true) ∧ (s.ring r).brk = 0
  · exact ((setRing_frame s r _).mono (by decide)).trans (ringEvent_begins h.1 h.2 hcode).frame
  · rw [ringEvent_none code]
    · exact Frame.refl _ s
    · by_cases hbrk : (s.ring r).brk = 0
      · exact .inl (by simpa [hbrk] using h)
      · exact .inr hbrk

/-! Link up -/

/-- A ring's record with the signal back at an end. -/
def Ring.linkUp (x : Ring) (e : Leaf) : Ring := if e = .a then { x with losA := false } else { x with losB := false }

theorem linkUp_eq (x : Ring) (e : Leaf) : x.linkUp e = match e with | .a => { x with losA := false } | .b => { x with losB := false } := by
  cases e <;> rfl

theorem exec_portLinkUp_master {t r : Nat} {e : Leaf} {s : State} (hon : (s.setNow t).portOn e = true) (hring : s.cfg.ringOn r = true)
    (hup : r = 15 → s.cfg.uplink = false) :
    exec (.portLinkUp t r e) s = .next (settle s ((s.setNow t).modRing r (fun x => x.linkUp e))) := by
  change execPortLinkUp t r e s = _
  unfold execPortLinkUp
  refine at'_eq ((if_neg ?_).trans ((if_pos ⟨hring, hon⟩).trans ?_))
  · rintro ⟨h15, hu, -⟩
    rw [setNow_cfg, hup h15] at hu
    exact Bool.false_ne_true hu
  · exact congrArg ((s.setNow t).modRing r) (funext fun x => (linkUp_eq x e).symm)

/-! The uplink ports -/

/-- A ring's record with a loss of signal counted at an uplink port. -/
def Ring.upLosCounted (x : Ring) (e : Leaf) : Ring :=
  if e = .a then { x with losCntA := satAdd 32 x.losCntA 1 } else { x with losCntB := satAdd 32 x.losCntB 1 }

theorem exec_portLos_uplink {t : Nat} {e : Leaf} {s : State} (hon : (s.setNow t).portOn e = true) (hup : s.cfg.uplink = true)
    (hlos : (s.upPort e).los = false) : exec (.portLos t 15 e) s =
      .next (settle s (((s.setNow t).setUpPort e { s.upPort e with up := false, los := true }).modRing 15 (fun x => x.upLosCounted e))) := by
  have hlos' : ((s.setNow t).upPort e).los = false := hlos
  change execPortLos t 15 e s = _
  unfold execPortLos
  refine at'_eq ((if_pos ⟨rfl, hup, hon⟩).trans ?_)
  unfold State.upLos
  refine (if_neg (by simp [hlos'])).trans ?_
  cases e <;> rfl

theorem exec_portLinkUp_uplink {t : Nat} {e : Leaf} {s : State} (hon : (s.setNow t).portOn e = true) (hup : s.cfg.uplink = true) :
    exec (.portLinkUp t 15 e) s = .next (settle s ((s.setNow t).setUpPort e { s.upPort e with up := true, los := false })) := by
  change execPortLinkUp t 15 e s = _
  unfold execPortLinkUp
  exact at'_eq (if_pos ⟨rfl, hup, hon⟩)

/-! Probes -/

theorem exec_enumProbe_due {t r : Nat} {e : Leaf} {s : State} (hon : (s.setNow t).portOn e = true) (hring : s.cfg.ringOn r = true)
    (hsweep : (s.setNow t).sweeping = true) (hst : (s.ring r).st.probes = true)
    (hfirst : (if e = .a then (s.ring r).probedA else (s.ring r).probedB) = true)
    (hlast : (if e = .a then (s.ring r).enumA else (s.ring r).enumB) + 1000000000 ≤ (s.setNow t).time.now) :
    exec (.enumProbe t r e) s = .next (settle s ((s.setNow t).probe r e)) := by
  change execEnumProbe t r e s = _
  unfold execEnumProbe
  refine at'_eq (if_pos ⟨hring, hsweep, hst, ?_, hon, ?_⟩)
  · cases e <;> exact hfirst
  · cases e <;> exact hlast

/-- A probe is an ENUM of its end, before which the answers of an enumeration that has ended are cleared. -/
theorem probe_enumerates (s : State) (r : Nat) (e : Leaf) : ∃ m, Enumerates r s m ∧ s.probe r e = m.sendEnum r e := by
  refine ⟨_, ?_, rfl⟩
  split
  · exact Enumerates.refl r s
  · exact (Enumerates.enumClear s r).trans (Enumerates.modRing _ _ fun _ => rfl)

/-- After a probe the end's answer window is open from now on; nothing but an enumeration's notes changes. -/
theorem probe_spec {s : State} {e : Leaf} (r : Nat) (hon : s.portOn e = true) : Enumerates r s (s.probe r e) ∧
    (e = .a → ((s.probe r e).ring r).openA = true ∧ ((s.probe r e).ring r).enumA = s.time.now) ∧
    (e = .b → ((s.probe r e).ring r).openB = true ∧ ((s.probe r e).ring r).enumB = s.time.now) := by
  obtain ⟨m, hm, hprobe⟩ := probe_enumerates s r e
  rw [hprobe]
  refine ⟨hm.trans (Enumerates.sendEnum m r e), ?_, ?_⟩
  all_goals
    rintro rfl
    rw [sendEnum_ring r ((hm.portOn _).trans hon), ← hm.now]
    exact ⟨rfl, rfl⟩

/-- A loss of signal at a master port counts there; a determination of R223 begins where the ring, or the side of it that is left, is
whole and none is under way. -/
theorem portLos_effect {t r : Nat} {e : Leaf} {s : State} (hon : (s.setNow t).portOn e = true) (hring : s.cfg.ringOn r = true)
    (hup : r = 15 → s.cfg.uplink = false) (hlos : (if e = .a then (s.ring r).losA else (s.ring r).losB) = false) (hawake : s.sleep.st = 0) :
    ∃ n, exec (.portLos t r e) s = .next n ∧
      (n.ring r).losA = ((s.ring r).losCounted e).losA ∧ (n.ring r).losB = ((s.ring r).losCounted e).losB ∧
      (n.ring r).losCntA = ((s.ring r).losCounted e).losCntA ∧ (n.ring r).losCntB = ((s.ring r).losCounted e).losCntB ∧
      ((s.ring r).st = .whole ∨ (s.ring r).sideOk = true → (s.ring r).brk = 0 →
        (n.ring r).brk = e.num + 1 ∧ (n.ring r).brkNow = (s.setNow t).time.now) ∧
      (((s.ring r).st ≠ .whole ∧ (s.ring r).sideOk = false) ∨ (s.ring r).brk ≠ 0 →
        n.ring r = (s.ring r).losCounted e ∧ n.ch.nodes = s.ch.nodes ∧ n.ch.ports = s.ch.ports) ∧ Frame ringParts s n := by
  have hcode : e.num + 1 ≤ 2 := by cases e <;> decide
  obtain ⟨u, hu⟩ : ∃ u, u = (s.setNow t).setRing r ((s.ring r).losCounted e) := ⟨_, rfl⟩
  have hur : u.ring r = (s.ring r).losCounted e := by rw [hu, ring_setRing_same]
  have hkept : (u.ring r).st = (s.ring r).st ∧ (u.ring r).sideOk = (s.ring r).sideOk ∧ (u.ring r).brk = (s.ring r).brk := by
    rw [hur]
    cases e <;> exact ⟨rfl, rfl, rfl⟩
  obtain ⟨hst, hside, hbrk⟩ := hkept
  have hframe : Frame ringParts (s.setNow t) (u.ringEvent r (e.num + 1)) :=
    Frame.trans (hu ▸ (setRing_frame _ _ _).mono (by decide)) (ringEvent_frame hcode)
  refine ⟨_, exec_portLos_master hon hring hup hlos hawake, ?_⟩
  rw [← hu, ← hst, ← hside, ← hbrk, ← hur]
  by_cases hnone : ((u.ring r).st ≠ .whole ∧ (u.ring r).sideOk = false) ∨ (u.ring r).brk ≠ 0
  · rw [ringEvent_none _ hnone] at hframe ⊢
    refine ⟨rfl, rfl, rfl, rfl, fun h1 h2 => ?_, fun _ => ⟨rfl, ?_, ?_⟩, hframe.settle⟩
    · obtain ⟨h3, h4⟩ | h3 := hnone
      · exact absurd h1 (by simp [h3, h4])
      · exact absurd h2 h3
    · rw [hu]
      rfl
    · rw [hu]
      rfl
  · have hbegins : ((u.ring r).st = .whole ∨ (u.ring r).sideOk = true) ∧ (u.ring r).brk = 0 := by
      obtain ⟨h1, h2⟩ := not_or.mp hnone
      exact ⟨by simpa [imp_iff_not_or] using h1, not_not.mp h2⟩
    obtain ⟨hcodeNoted, hnow, hlosA, hlosB, hcntA, hcntB⟩ := ringEvent_begins_ring hbegins.1 hbegins.2 hcode
    refine ⟨hlosA, hlosB, hcntA, hcntB, fun _ _ => ⟨hcodeNoted, ?_⟩, fun h => absurd h hnone, hframe.settle⟩
    refine hnow.trans ?_
    rw [hu]
    rfl

/-- Settles O39: each command by the record that it leaves of its ring, or of its uplink port. -/
theorem portsAndBadFrames : Obligations.PortsAndBadFrames := by
  unfold Obligations.PortsAndBadFrames
  intro t ring e s hon
  refine ⟨fun c line => ⟨fun hring hup => ?_, fun hup hrx => ?_⟩, fun hring hpick => ?_, fun hring hup hlos hawake => ?_,
    fun hring hup => ?_, fun hup => ⟨fun hlos => ?_, ?_⟩, fun hring hsweep hst hfirst hlast => ?_⟩
  · obtain ⟨h1, h2, h3, h4, hframe⟩ := counted_spec (badRx_logs (s.setNow t) ring e c line)
    exact ⟨_, exec_badFrameReceived_master hon hring hup, h1, h2, h3, h4, hframe.settle⟩
  · obtain ⟨h1, h2, hframe⟩ := upBad_spec c line hrx
    exact ⟨_, exec_badFrameReceived_uplink hup, h1, h2, hframe.settle⟩
  · obtain ⟨m, hlogs, hexec⟩ := exec_broadcastReturned_counts hon hring hpick
    obtain ⟨h1, h2, h3, h4, hframe⟩ := counted_spec (hlogs.modRing ring (fun x => { x with bcast := satAdd 32 x.bcast 1 }))
    exact ⟨_, hexec, h1, h2, h3, h4, hframe.settle⟩
  · obtain ⟨n, hexec, hlosA, hlosB, hcntA, hcntB, hbegins, hnone, hframe⟩ := portLos_effect hon hring hup hlos hawake
    refine ⟨n, hexec, ?_, ?_, hbegins, hnone, hframe⟩
    · rintro rfl
      exact ⟨hlosA, hcntA⟩
    · rintro rfl
      exact ⟨hlosB, hcntB⟩
  · obtain ⟨h1, h2, h3, h4, -⟩ := counted_spec (Logs.refl ((s.setNow t).modRing ring (fun x => x.linkUp e)))
    exact ⟨_, exec_portLinkUp_master hon hring hup, h1, h2, h3, h4, (modRing_frame _ _ _).settle⟩
  · refine ⟨_, exec_portLos_uplink hon hup hlos, ?_, ?_, ?_, ?_⟩
    · exact upPort_setUpPort_same _ _ _
    · exact upPort_setUpPort_other _ _ _
    · refine (ring_modRing_same _ _ (fun x => x.upLosCounted e)).trans ?_
      rw [setUpPort_ring]
      rfl
    · exact (((setUpPort_frame _ _ _).mono (by decide)).trans ((modRing_frame _ _ _).mono (by decide))).settle
  · exact ⟨_, exec_portLinkUp_uplink hon hup, upPort_setUpPort_same _ _ _, upPort_setUpPort_other _ _ _, (setUpPort_frame _ _ _).settle⟩
  · obtain ⟨henum, ha, hb⟩ := probe_spec ring hon
    have hkept := congrArg Ring.st henum.ring
    exact ⟨_, exec_enumProbe_due hon hring hsweep hst hfirst hlast, ha, hb, hkept, henum.others, henum.frame.settle⟩

end Sys2Proof.Machine

namespace Sys2Proof.Machine

/-! ### Requests to nodes (R187, R203, R208) -/

/-- Requests are queued and sent: the ports' views of positions and what frames reach, nothing else differs. -/
def Requests (s n : State) : Prop := ∃ m, PositionsOnly s m ∧ Sends m n

theorem Requests.refl (s : State) : Requests s s := ⟨s, PositionsOnly.refl s, Sends.refl s⟩

theorem Requests.of_sends {s n : State} (h : Sends s n) : Requests s n := ⟨s, PositionsOnly.refl s, h⟩

theorem Requests.trans {s t n : State} (h : Requests s t) (k : Requests t n) : Requests s n := by
  obtain ⟨_, ⟨_, _, rfl⟩, _, _, _, _, _, _, rfl⟩ := h
  obtain ⟨_, ⟨x, y, rfl⟩, p, o, g, fs, qa, qb, rfl⟩ := k
  exact ⟨_, ⟨x, y, rfl⟩, p, o, g, fs, qa, qb, rfl⟩

theorem Requests.each {α : Type} {f : α → State → State} (h : ∀ x s, Requests s (f x s)) (l : List α) (s : State) : Requests s (s.each l f) := by
  induction l generalizing s with
  | nil => exact Requests.refl s
  | cons x r ih => exact (h x s).trans (ih (f x s))

theorem Requests.time {s n : State} (h : Requests s n) : n.time = s.time := by
  obtain ⟨m, hpos, hsends⟩ := h
  exact hsends.time.trans hpos.time

theorem Requests.nest {s n : State} (h : Requests s n) : n.nest = s.nest := by
  obtain ⟨m, ⟨_, _, rfl⟩, hsends⟩ := h
  exact hsends.nest

theorem Requests.frame {s n : State} (h : Requests s n) : Frame ringParts s n := by
  obtain ⟨m, hpos, hsends⟩ := h
  exact (hpos.frame.mono (by decide)).trans (hsends.frame.mono (by decide))

/-- One request asks what another does, whatever has become of its sending. -/
def Req.asks (x y : Req) : Prop := y.purpose = x.purpose ∧ y.kind = x.kind ∧ y.reg = x.reg ∧ y.payload = x.payload

theorem Req.asks_refl (x : Req) : x.asks x := ⟨rfl, rfl, rfl, rfl⟩

theorem mem_insReq (x : Req) (q : List Req) : x ∈ insReq x q := by
  induction q with
  | nil => exact List.mem_singleton_self x
  | cons y r ih =>
    unfold insReq
    split
    · exact List.mem_cons_of_mem y ih
    · exact List.mem_cons_self

/-- A request that joins a queue stands in it. -/
theorem mem_joinReq (x : Req) (q : List Req) : x ∈ joinReq x q := by
  cases q with
  | nil => exact List.mem_singleton_self x
  | cons y r =>
    simp only [joinReq]
    split
    · exact List.mem_cons_of_mem y (mem_insReq x r)
    · exact mem_insReq x _

/-- The first request's sending changes the positions' views and sends. -/
theorem Requests.pump (s : State) (r : Nat) (e : Leaf) (p : Nat) : Requests s (s.pump r e p) := by
  unfold State.pump
  dsimp only
  split
  · exact Requests.refl s
  split
  · exact Requests.refl s
  · exact ⟨_, PositionsOnly.setPort s r e p _, Sends.sendFrame _ _ _ _ _ _ _ _⟩

/-- A request in the queue stays there as its first one is sent. -/
theorem pump_queued {s : State} {r p : Nat} {e : Leaf} {x : Req} (h : x ∈ (s.port r e p).q) :
    ∃ y ∈ ((s.pump r e p).port r e p).q, x.asks y := by
  unfold State.pump
  dsimp only
  split
  next hnil => exact absurd (hnil ▸ h) List.not_mem_nil
  next hd rest hq =>
    split
    · exact ⟨x, h, x.asks_refl⟩
    · rw [port_of_ch (Sends.sendFrame _ _ _ _ _ _ _ _).ch, port_setPort_same]
      obtain rfl | hrest := List.mem_cons.mp (hq ▸ h)
      · exact ⟨_, List.mem_cons_self, rfl, rfl, rfl, rfl⟩
      · exact ⟨x, List.mem_cons_of_mem _ hrest, x.asks_refl⟩

theorem Requests.request' (s : State) (r : Nat) (e : Leaf) (p : Nat) (x : Req) : Requests s (s.request' r e p x) := by
  unfold State.request'
  split
  · exact Requests.refl s
  · exact Requests.trans ⟨_, PositionsOnly.setPort s r e p _, Sends.refl _⟩ (Requests.pump _ _ _ _)

/-- A request that may be sent from a working end stands in its queue. -/
theorem request'_queued {s : State} {r p : Nat} {e : Leaf} {x : Req} (hon : s.portOn e = true)
    (hopen : x.diag = true ∨ (s.node r p).barred = false) : ∃ y ∈ ((s.request' r e p x).port r e p).q, x.asks y := by
  unfold State.request'
  rw [if_neg]
  · refine pump_queued ?_
    rw [port_setPort_same]
    exact mem_joinReq x _
  · obtain h | h := hopen <;> simp [hon, h]

theorem barred_of_quar {n : Node} (h : n.quar = 0) : n.barred = false := by simp [Node.barred, h]

/-! ### A host's requests to nodes (R646, R649) -/

@[simp] theorem taken_portOn (s : State) (q : HReq) (kind op : Nat) (e : Leaf) : (s.taken q kind op).portOn e = s.portOn e := by
  simp only [State.portOn, State.alive, State.fenceLine, taken_leaf, taken_aon]

@[simp] theorem taken_node (s : State) (q : HReq) (kind op r p : Nat) : (s.taken q kind op).node r p = s.node r p := by
  simp only [State.node, taken_ch]

@[simp] theorem taken_ring (s : State) (q : HReq) (kind op r : Nat) : (s.taken q kind op).ring r = s.ring r := by
  simp only [State.ring, taken_ch]

@[simp] theorem taken_reqEnd (s : State) (q : HReq) (kind op r p : Nat) : (s.taken q kind op).reqEnd r p = s.reqEnd r p := by
  simp only [State.reqEnd, taken_sw, taken_ring, taken_node, taken_portOn]

section HostRequest

variable {t op : Nat} {q : HReq} {s : State} {c : Instr} {ok : State → Bool} {lenOk : Nat → Bool} {h : State → HR}

/-- A command that passes every gate and whose rule makes one request of a node: the request waits, and stands in the queue of the
end that reaches the node. -/
theorem command_requests {r p : Nat} {x : Req} (hexec : exec c s = at' t (fun s => s.cmd q op ok lenOk h) s)
    (hopens : (s.setNow t).opens q op = true) (hok : ok ((s.setNow t).taken q 3 op) = true) (hlen : lenOk q.args.length = true)
    (hrule : h ((s.setNow t).taken q 3 op) =
      (((s.setNow t).taken q 3 op).request' r (((s.setNow t).taken q 3 op).reqEnd r p) p x).later)
    (hopen : x.diag = true ∨ (s.node r p).barred = false) :
    ∃ n, exec c s = .next n ∧ Waits n q 3 op ∧
      ((s.setNow t).portOn ((s.setNow t).reqEnd r p) = true → ∃ y ∈ (n.port r ((s.setNow t).reqEnd r p) p).q, x.asks y) ∧
      Frame (ringParts ++ hostParts) s n := by
  obtain ⟨hnext, hwaits, hframe⟩ := command_waits hexec hopens hok hlen hrule (Requests.request' _ _ _ _ _).frame (by decide)
  refine ⟨_, hnext, hwaits, fun hon => ?_, hframe.mono (by decide)⟩
  rw [taken_reqEnd]
  exact request'_queued ((taken_portOn _ _ _ _ _).trans hon) (hopen.imp_right (fun hb => by rw [taken_node]; exact hb))

end HostRequest

/-! NODE_READ (R649) -/

/-- The request of NODE_READ. -/
def readReq (q : HReq) : Req := reqRd (arg q 2 2) (if arg q 2 2 = 0xFF20 then 64 else arg q 4 2) (.hostR q.sess q.tag (arg q 4 2)) 7 []

theorem nodeRead_requests {s : State} {q : HReq} (hring : s.cfg.ringOn (arg q 0 1) = true) (hp : 1 ≤ arg q 1 1)
    (hcount : arg q 1 1 ≤ s.cfg.nodeCount (arg q 0 1)) (hn : 1 ≤ arg q 4 2) (hmax : arg q 4 2 ≤ 32) :
    s.nodeRead q = (s.request' (arg q 0 1) (s.reqEnd (arg q 0 1) (arg q 1 1)) (arg q 1 1) (readReq q)).later := by
  unfold State.nodeRead
  refine (if_neg ?_).trans rfl
  simp only [hring, Bool.not_true, Bool.false_eq_true, false_or]
  omega

/-! NODE_WRITE (R157, R650) -/

/-- What stands against no NODE_WRITE of these arguments: its length, the ring, the registers, the strings. -/
structure WriteFits (s : State) (q : HReq) : Prop where
  length : q.args.length = 8 + arg q 6 2
  ring : s.cfg.ringOn (arg q 0 1) = true
  some : 1 ≤ arg q 6 2
  fits : arg q 6 2 ≤ 508
  dest : 1 ≤ arg q 2 2
  below : arg q 4 2 + arg q 6 2 ≤ 0xFB00
  openStrings : ∀ i ∈ s.cfg.ringStrings (arg q 0 1), (s.hs i).st = 0

theorem WriteFits.taken {s : State} {q : HReq} (h : WriteFits s q) (t op : Nat) : WriteFits ((s.setNow t).taken q 3 op) q := by
  refine ⟨h.length, ?_, h.some, h.fits, h.dest, h.below, fun i hi => ?_⟩
  · rw [taken_cfg]
    exact h.ring
  · rw [taken_hs]
    rw [taken_cfg] at hi
    exact h.openStrings i hi

section Write

variable {s : State} {q : HReq} (h : WriteFits s q)
include h

theorem WriteFits.gate : decide (8 ≤ q.args.length) = true := decide_eq_true (by rw [h.length]; omega)

theorem WriteFits.strings : (s.cfg.ringStrings (arg q 0 1)).any (fun i => (s.hs i).st != 0) = false := by
  simpa using h.openStrings

theorem nodeWrite_bounds (hlow : arg q 2 2 < 0xFF00) (hcount : s.cfg.nodeCount (arg q 0 1) < arg q 2 2) : s.nodeWrite q = s.ans St.bounds := by
  unfold State.nodeWrite
  refine (if_neg (not_not.mpr h.length)).trans (if_pos ?_)
  exact .inr (.inr (.inr (.inr ⟨hlow, hcount⟩)))

theorem nodeWrite_node (hdest : arg q 2 2 ≤ 64) (hcount : arg q 2 2 ≤ s.cfg.nodeCount (arg q 0 1))
    (hquar : (s.node (arg q 0 1) (arg q 2 2)).quar = 0) :
    s.nodeWrite q = (s.request' (arg q 0 1) (s.reqEnd (arg q 0 1) (arg q 2 2)) (arg q 2 2)
      (reqWr (arg q 4 2) (q.args.drop 8) (.hostW q.sess q.tag) 7)).later := by
  obtain ⟨hlen, hring, hsome, hfits, hone, hbelow, -⟩ := id h
  unfold State.nodeWrite
  refine (if_neg (not_not.mpr hlen)).trans ((if_neg ?_).trans ((if_neg ?_).trans (if_pos hdest)))
  · simp only [hring, Bool.not_true, Bool.false_eq_true, false_or]
    omega
  · simp only [h.strings, hquar, ne_eq, not_true_eq_false, and_false, Bool.false_eq_true, or_false]
    omega

theorem nodeWrite_group (hdest : 0xFF00 ≤ arg q 2 2) :
    s.nodeWrite q = s.groupWrite q (arg q 0 1) (arg q 2 2) (arg q 4 2) (arg q 6 2) (q.args.drop 8) := by
  obtain ⟨hlen, hring, hsome, hfits, hone, hbelow, -⟩ := id h
  unfold State.nodeWrite
  refine (if_neg (not_not.mpr hlen)).trans ((if_neg ?_).trans ((if_neg ?_).trans (if_neg (by omega))))
  · simp only [hring, Bool.not_true, Bool.false_eq_true, false_or]
    omega
  · simp only [h.strings, Bool.false_eq_true, or_false]
    omega

end Write

/-- The positions of a ring that a group address, or the broadcast, names. -/
def Cfg.members (c : Cfg) (r dest : Nat) : List Nat := (c.positions r).filter (fun p => dest == 0xFFFF || c.nodeFld r p 0x1A == dest)

/-- A group write: the write leaves, and to members go the read-backs. -/
theorem groupWrite_spec (s : State) (q : HReq) (r dest reg n : Nat) (d : List Byte) :
    ((s.cfg.members r dest).isEmpty = true → ∃ m, Requests s m ∧ s.groupWrite q r dest reg n d = m.ans St.ok) ∧
      ((s.cfg.members r dest).isEmpty = false → ∃ m, Requests s m ∧ s.groupWrite q r dest reg n d = m.later) := by
  obtain ⟨u, hu⟩ : ∃ u, u = s.each (if (s.ring r).st = .whole then [s.act] else [Leaf.a, Leaf.b])
    (fun e s => s.sendFrame r e 7 dest 3 0 (cfgWrP reg d)) := ⟨_, rfl⟩
  have hsends : Sends s u := hu ▸ Sends.each (fun e s => Sends.sendFrame s r e _ _ _ _ _) _ s
  have hcfg : u.cfg = s.cfg := by
    obtain ⟨_, _, hlogs⟩ := hsends
    exact hlogs.cfg
  have hrule : s.groupWrite q r dest reg n d = if (u.cfg.members r dest).isEmpty then u.ans St.ok
      else (u.each (u.cfg.members r dest) (fun p s => s.request' r (s.reqEnd r p) p (reqRd reg n (.hostWR q.sess q.tag) 7 d))).later := by
    rw [hu]
    rfl
  rw [hrule, hcfg]
  refine ⟨fun h => ⟨u, Requests.of_sends hsends, if_pos h⟩, fun h => ⟨_, (Requests.of_sends hsends).trans ?_, if_neg (by simp [h])⟩⟩
  exact Requests.each (fun p s => Requests.request' s r _ p _) _ u

/-! NEST_PASS (R574) -/

/-- The request of NEST_PASS. -/
def outerPass (q : HReq) : Req := { kind := 0xC, payload := q.args.drop 4, purpose := .pass q.sess q.tag, cls := 7 }

/-- Whether a session may send the inner frame of a PASS. -/
def State.mayPass (s : State) (k : Nat) (x : PassParts) : Prop :=
  (x.kind = 4 ∧ s.may k Perm.read = true) ∨ (x.kind = 3 ∧ ((leAt x.inner 0 2 = 0xFB04 ∧ s.may k Perm.strings = true) ∨ s.role k = 3))

theorem nestPass_requests {s : State} {q : HReq} {x : PassParts} (hx : passParts (q.args.drop 4) = some x)
    (hring : s.cfg.ringOn (arg q 0 1) = true) (hp : 1 ≤ arg q 1 1) (hcount : arg q 1 1 ≤ s.cfg.nodeCount (arg q 0 1))
    (hquar : (s.node (arg q 0 1) (arg q 1 1)).quar = 0) (hmay : s.mayPass q.sess x) :
    s.nestPass q = (s.request' (arg q 0 1) (s.reqEnd (arg q 0 1) (arg q 1 1)) (arg q 1 1)
      (outerPass q)).later := by
  have hok : ((x.kind == 4 && s.may q.sess Perm.read) ||
      (x.kind == 3 && ((leAt x.inner 0 2 == 0xFB04 && s.may q.sess Perm.strings) || s.role q.sess == 3))) = true := by
    simpa [State.mayPass] using hmay
  unfold State.nestPass
  rw [hx]
  refine (if_neg ?_).trans ((if_neg ?_).trans rfl)
  · simp only [hring, Bool.not_true, Bool.false_eq_true, false_or]
    omega
  · simp [hquar, hok]

/-- A session that may send the inner frame passes the command's own gate. -/
theorem mayPass_gate {s : State} {k : Nat} {x : PassParts} (h : s.mayPass k x) :
    (s.may k Perm.read || s.may k Perm.strings || s.role k == 3) = true := by
  obtain ⟨-, h⟩ | ⟨-, ⟨-, h⟩ | h⟩ := h <;> simp [h]


/-- NODE_READ: the request that waits is the one of its rule. -/
theorem nodeRead_effect {t : Nat} {q : HReq} {s : State} (hlets : (s.setNow t).lets q 0x0202 Perm.read = true) (hlen : q.args.length = 8)
    (hring : s.cfg.ringOn (arg q 0 1) = true) (hp : 1 ≤ arg q 1 1) (hcount : arg q 1 1 ≤ s.cfg.nodeCount (arg q 0 1)) (hn : 1 ≤ arg q 4 2)
    (hmax : arg q 4 2 ≤ 32) : ∃ n, exec (.nodeRead t q) s = .next n ∧ Waits n q 3 0x0202 ∧
      ((s.setNow t).portOn ((s.setNow t).reqEnd (arg q 0 1) (arg q 1 1)) = true →
        ∃ y ∈ (n.port (arg q 0 1) ((s.setNow t).reqEnd (arg q 0 1) (arg q 1 1)) (arg q 1 1)).q, (readReq q).asks y) ∧
      Frame (ringParts ++ hostParts) s n :=
  command_requests (c := .nodeRead t q) rfl (lets_opens hlets) (taken_may_of_lets hlets) (by simp [hlen])
    (nodeRead_requests (by rw [taken_cfg]; exact hring) hp (by rw [taken_cfg]; exact hcount) hn hmax) (.inl rfl)

section Write

variable {t : Nat} {q : HReq} {s : State} (hfits : WriteFits s q) (hopens : (s.setNow t).opens q 0x0203 = true)
  (hrole : s.role q.sess = 3)
include hfits hopens hrole

theorem nodeWrite_node_effect (hdest : arg q 2 2 ≤ 64) (hcount : arg q 2 2 ≤ s.cfg.nodeCount (arg q 0 1))
    (hquar : (s.node (arg q 0 1) (arg q 2 2)).quar = 0) : ∃ n, exec (.nodeWrite t q) s = .next n ∧ Waits n q 3 0x0203 ∧
      ((s.setNow t).portOn ((s.setNow t).reqEnd (arg q 0 1) (arg q 2 2)) = true →
        ∃ y ∈ (n.port (arg q 0 1) ((s.setNow t).reqEnd (arg q 0 1) (arg q 2 2)) (arg q 2 2)).q,
          (reqWr (arg q 4 2) (q.args.drop 8) (.hostW q.sess q.tag) 7).asks y) ∧
      Frame (ringParts ++ hostParts) s n :=
  command_requests (c := .nodeWrite t q) rfl hopens (taken_maint hrole t _) hfits.gate
    (nodeWrite_node (hfits.taken t _) hdest (by rw [taken_cfg]; exact hcount) (by rw [taken_node]; exact hquar)) (.inr (barred_of_quar hquar))

theorem nodeWrite_bounds_effect (hlow : arg q 2 2 < 0xFF00) (hcount : s.cfg.nodeCount (arg q 0 1) < arg q 2 2) :
    ∃ n, exec (.nodeWrite t q) s = .next n ∧ Answered (s.setNow t) n q 3 0x0203 St.bounds [] ∧ Frame hostParts s n :=
  command_refused (c := .nodeWrite t q) rfl hopens (taken_maint hrole t _) hfits.gate
    (nodeWrite_bounds (hfits.taken t _) hlow (by rw [taken_cfg]; exact hcount))

/-- A group write to nobody is answered at once, one with members waits for their read-backs. -/
theorem nodeWrite_group_effect (hdest : 0xFF00 ≤ arg q 2 2) :
    ((s.cfg.members (arg q 0 1) (arg q 2 2)).isEmpty = true →
      ∃ n, exec (.nodeWrite t q) s = .next n ∧ AnsweredOk (s.setNow t) n q 0x0203 [] ∧ Frame (ringParts ++ hostParts) s n) ∧
    ((s.cfg.members (arg q 0 1) (arg q 2 2)).isEmpty = false →
      ∃ n, exec (.nodeWrite t q) s = .next n ∧ Waits n q 3 0x0203 ∧ Frame (ringParts ++ hostParts) s n) := by
  obtain ⟨hnobody, hmembers⟩ := groupWrite_spec ((s.setNow t).taken q 3 0x0203) q (arg q 0 1) (arg q 2 2) (arg q 4 2) (arg q 6 2)
    (q.args.drop 8)
  rw [← nodeWrite_group (hfits.taken t _) hdest, taken_cfg] at hnobody hmembers
  refine ⟨fun hnone => ?_, fun hany => ?_⟩
  · obtain ⟨m, hm, hrule⟩ := hnobody hnone
    obtain ⟨hexec, hans, hframe⟩ := command_answered (c := .nodeWrite t q) rfl hopens (taken_maint hrole t _) hfits.gate hrule hm.frame
      (by decide) ((congrArg TimeU.now hm.time).trans (taken_now _ _ _ _))
    exact ⟨_, hexec, hans, hframe.mono (by decide)⟩
  · obtain ⟨m, hm, hrule⟩ := hmembers hany
    obtain ⟨hexec, hwaits, hframe⟩ := command_waits (c := .nodeWrite t q) rfl hopens (taken_maint hrole t _) hfits.gate hrule hm.frame (by decide)
    exact ⟨_, hexec, hwaits, hframe.mono (by decide)⟩

end Write

/-- NEST_PASS: the PASS that waits carries the host's hops and inner frame. -/
theorem nestPass_effect {t : Nat} {q : HReq} {s : State} {x : PassParts} (hopens : (s.setNow t).opens q 0x0F01 = true)
    (hlen : 15 ≤ q.args.length) (hx : passParts (q.args.drop 4) = some x) (hring : s.cfg.ringOn (arg q 0 1) = true) (hp : 1 ≤ arg q 1 1)
    (hcount : arg q 1 1 ≤ s.cfg.nodeCount (arg q 0 1)) (hquar : (s.node (arg q 0 1) (arg q 1 1)).quar = 0)
    (hmay : (s.setNow t).mayPass q.sess x) : ∃ n, exec (.nestPass t q) s = .next n ∧ Waits n q 3 0x0F01 ∧
      ((s.setNow t).portOn ((s.setNow t).reqEnd (arg q 0 1) (arg q 1 1)) = true →
        ∃ y ∈ (n.port (arg q 0 1) ((s.setNow t).reqEnd (arg q 0 1) (arg q 1 1)) (arg q 1 1)).q, (outerPass q).asks y) ∧
      Frame (ringParts ++ hostParts) s n := by
  have hmay' : ((s.setNow t).taken q 3 0x0F01).mayPass q.sess x := by
    unfold State.mayPass
    rw [taken_may, taken_may, taken_role]
    exact hmay
  exact command_requests (c := .nestPass t q) rfl hopens (mayPass_gate hmay') (decide_eq_true hlen)
    (nestPass_requests hx (by rw [taken_cfg]; exact hring) hp (by rw [taken_cfg]; exact hcount) (by rw [taken_node]; exact hquar) hmay')
    (.inr (barred_of_quar hquar))

theorem members_isEmpty (c : Cfg) (r dest : Nat) : (c.members r dest).isEmpty =
    !(c.positions r).any (fun p => dest == 0xFFFF || c.nodeFld r p 0x1A == dest) := by
  rw [Bool.eq_iff_iff]
  simp [Cfg.members]

/-- Settles O45: each command by the request that its rule makes, a group write by its members. -/
theorem hostReachesNodes : Obligations.HostReachesNodes := by
  unfold Obligations.HostReachesNodes
  intro t q s
  refine ⟨fun hlets hlen hring hp hcount hn hmax => ?_, fun hopens hrole hlen hring hn hfit hdest hbelow hstrings => ?_,
    fun x hopens hlen hx hring hp hcount hquar hmay => ?_⟩
  · obtain ⟨n, hexec, hwaits, hqueue, hframe⟩ := nodeRead_effect hlets hlen hring hp hcount hn hmax
    refine ⟨n, hexec, hwaits, fun hon => ?_, hframe⟩
    obtain ⟨y, hy, hpurpose, hkind, hreg, -⟩ := hqueue hon
    exact List.any_eq_true.mpr ⟨y, hy, by rw [hpurpose, hkind, hreg]; simp [readReq, reqRd]⟩
  · have hfits : WriteFits s q := ⟨hlen, hring, hn, hfit, hdest, hbelow, hstrings⟩
    refine ⟨fun hlow hcount hquar => ?_, nodeWrite_bounds_effect hfits hopens hrole, fun hhigh => ?_⟩
    · obtain ⟨n, hexec, hwaits, hqueue, hframe⟩ := nodeWrite_node_effect hfits hopens hrole hlow hcount hquar
      refine ⟨n, hexec, hwaits, fun hon => ?_, hframe⟩
      obtain ⟨y, hy, hpurpose, hkind, -, hpayload⟩ := hqueue hon
      exact List.any_eq_true.mpr ⟨y, hy, by rw [hpurpose, hkind, hpayload]; simp [reqWr]⟩
    · obtain ⟨hnobody, hmembers⟩ := nodeWrite_group_effect hfits hopens hrole hhigh
      rw [members_isEmpty] at hnobody hmembers
      exact ⟨fun hnone => hnobody (by rw [hnone]; rfl), fun hany => hmembers (by rw [hany]; rfl)⟩
  · obtain ⟨n, hexec, hwaits, hqueue, hframe⟩ := nestPass_effect hopens hlen hx hring hp hcount hquar hmay
    refine ⟨n, hexec, hwaits, fun hon => ?_, hframe⟩
    obtain ⟨y, hy, hpurpose, hkind, -, hpayload⟩ := hqueue hon
    exact List.any_eq_true.mpr ⟨y, hy, by rw [hpurpose, hkind, hpayload]; simp [outerPass]⟩

end Sys2Proof.Machine

namespace Sys2Proof.Machine

/-! ### Fields of a payload (R3, R168) -/

@[simp] theorem toLe_length (w n : Nat) : (toLe w n).length = w := by
  induction w generalizing n with
  | zero => rfl
  | succ w ih => exact congrArg (· + 1) (ih _)

theorem leNat_toLe (w n : Nat) : leNat (toLe w n) = n % 256 ^ w := by
  induction w generalizing n with
  | zero => exact (Nat.mod_one n).symm
  | succ w ih =>
    have hbyte : (byteOf n).toNat = n % 256 := BitVec.toNat_ofNat n 8
    rw [toLe, leNat, hbyte, ih, pow_succ', Nat.mod_mul]

/-- The field at which a payload begins. -/
theorem leAt_toLe_append (w n : Nat) (p : List Byte) : leAt (toLe w n ++ p) 0 w = n % 256 ^ w := by
  rw [leAt, bytesAt, List.drop_zero, List.take_left' (toLe_length w n), leNat_toLe]

/-- A field behind another one. -/
theorem leAt_append (a p : List Byte) (off w : Nat) : leAt (a ++ p) (a.length + off) w = leAt p off w := by
  rw [leAt, leAt, bytesAt, bytesAt, List.drop_length_add_append]

theorem leAt_byteOf {n : Nat} (p : List Byte) (h : n < 256) : leAt (byteOf n :: p) 0 1 = n := by
  have hn : leAt (toLe 1 n ++ p) 0 1 = n % 256 ^ 1 := leAt_toLe_append 1 n p
  exact hn.trans (Nat.mod_eq_of_lt h)

/-- The register, the length and the data of a CFG_WR. -/
theorem cfgWrP_fields {reg : Nat} {d : List Byte} (hreg : reg < 65536) (hd : d.length < 65536) :
    (cfgWrP reg d).length = 4 + d.length ∧ leAt (cfgWrP reg d) 0 2 = reg ∧ leAt (cfgWrP reg d) 2 2 = d.length ∧ (cfgWrP reg d).drop 4 = d := by
  have hassoc : cfgWrP reg d = toLe 2 reg ++ (toLe 2 d.length ++ d) := List.append_assoc _ _ _
  have hlen : leAt (cfgWrP reg d) 2 2 = leAt (toLe 2 d.length ++ d) 0 2 := by
    rw [hassoc]
    exact leAt_append (toLe 2 reg) _ 0 2
  refine ⟨?_, ?_, ?_, ?_⟩
  · simp [cfgWrP, ← Nat.add_assoc]
  · rw [hassoc, leAt_toLe_append]
    exact Nat.mod_eq_of_lt hreg
  · rw [hlen, leAt_toLe_append]
    exact Nat.mod_eq_of_lt hd
  · exact List.drop_left' (by simp)

theorem cfgRdP_fields {reg n : Nat} (hreg : reg < 65536) :
    (cfgRdP reg n).length = 4 ∧ leAt (cfgRdP reg n) 0 2 = reg ∧ leAt (cfgRdP reg n) 2 2 = n % 65536 := by
  refine ⟨by simp [cfgRdP], ?_, ?_⟩
  · rw [cfgRdP, leAt_toLe_append]
    exact Nat.mod_eq_of_lt hreg
  · have hlen := leAt_append (toLe 2 reg) (toLe 2 n ++ []) 0 2
    rw [leAt_toLe_append, List.append_nil] at hlen
    exact hlen

/-! ### The steps of the sweep lock (R575 to R580) -/

/-- The nesting record without what the sweep lock keeps for itself. -/
def Nest.sansLock (x : Nest) : Nest :=
  { x with lock := 0, lockTime := 0, lockCause := 0, outPhase := 0, realigned := none, centre := none, rateErr := 0, phaseErr := 0 }

/-- A step of the sweep lock: of the nesting record its own fields change, and no part but those listed. -/
structure Locks (ps : List Part) (s n : State) : Prop where
  nest : n.nest.sansLock = s.nest.sansLock
  time : n.time = s.time
  out : n.out = s.out
  frame : Frame ps s n

theorem Locks.refl (ps : List Part) (s : State) : Locks ps s s := ⟨rfl, rfl, rfl, Frame.refl ps s⟩

theorem Locks.trans {ps : List Part} {s t n : State} (h : Locks ps s t) (k : Locks ps t n) : Locks ps s n :=
  ⟨k.nest.trans h.nest, k.time.trans h.time, k.out.trans h.out, h.frame.trans k.frame⟩

theorem Locks.mono {ps qs : List Part} {s n : State} (h : Locks ps s n) (hs : ∀ p, p ∈ ps → p ∈ qs) : Locks qs s n :=
  ⟨h.nest, h.time, h.out, h.frame.mono hs⟩

theorem Locks.of_logs {s n : State} (h : Logs s n) : Locks [.nest, .log, .fifos] s n :=
  ⟨by rw [h.nest], h.time, h.out, h.frame_of_mem (by decide) (by decide)⟩

theorem Locks.set {s : State} {x : Nest} (h : x.sansLock = s.nest.sansLock) : Locks [.nest, .log, .fifos] s { s with nest := x } :=
  ⟨h, rfl, rfl, (Frame.nest s x).mono (by decide)⟩

/-- LOCK_STATE set to another value is logged. -/
theorem setLock_spec (s : State) (v : Nat) : (s.setLock v).nest.lock = v ∧ Locks [.nest, .log, .fifos] s (s.setLock v) := by
  unfold State.setLock
  dsimp only
  split
  next h => exact ⟨h, Locks.refl _ s⟩
  · refine ⟨by rw [ev_nest], Locks.trans ?_ (Locks.of_logs (Logs.ev _ _ _ _))⟩
    exact Locks.set rfl

theorem Locks.setLock (s : State) (v : Nat) : Locks [.nest, .log, .fifos] s (s.setLock v) := (setLock_spec s v).2

theorem Locks.lockConfig (s : State) : Locks [.nest, .log, .fifos] s s.lockConfig := by
  unfold State.lockConfig
  dsimp only
  refine Locks.trans (t := if !s.nest.serveWritten ∨ s.nest.parentPeriod = 0xFF then s.setLock 0 else s) ?_ (Locks.set rfl)
  split
  · exact Locks.setLock s 0
  · exact Locks.refl _ s

/-- A configured node keeps its LOCK_STATE. -/
theorem lockConfig_lock {s : State} (hserve : s.nest.serveWritten = true) (hperiod : s.nest.parentPeriod ≠ 0xFF) :
    s.lockConfig.nest.lock = s.nest.lock := by
  unfold State.lockConfig
  rw [if_neg (by simp [hserve, hperiod])]

theorem lockConfig_centre {s : State} (hserve : s.nest.serveWritten = true) (hperiod : s.nest.parentPeriod ≠ 0xFF) :
    s.lockConfig.nest.centre = s.nest.centre := by
  unfold State.lockConfig
  rw [if_neg (by simp [hserve, hperiod])]

section
variable {ps : List Part} {s n : State} (h : Locks ps s n)
include h

theorem Locks.portA : n.nest.portA = s.nest.portA := by have := congrArg Nest.portA h.nest; exact this
theorem Locks.portB : n.nest.portB = s.nest.portB := by have := congrArg Nest.portB h.nest; exact this
theorem Locks.position : n.nest.position = s.nest.position := by have := congrArg Nest.position h.nest; exact this
theorem Locks.parentPeriod : n.nest.parentPeriod = s.nest.parentPeriod := by have := congrArg Nest.parentPeriod h.nest; exact this
theorem Locks.newPeriod : n.nest.newPeriod = s.nest.newPeriod := by have := congrArg Nest.newPeriod h.nest; exact this
theorem Locks.serveWritten : n.nest.serveWritten = s.nest.serveWritten := by have := congrArg Nest.serveWritten h.nest; exact this
theorem Locks.lastLow : n.nest.lastLow = s.nest.lastLow := by have := congrArg Nest.lastLow h.nest; exact this
theorem Locks.window : n.nest.window = s.nest.window := by have := congrArg Nest.window h.nest; exact this
theorem Locks.lastSync : n.nest.lastSync = s.nest.lastSync := by have := congrArg Nest.lastSync h.nest; exact this
theorem Locks.lastParent : n.nest.lastParent = s.nest.lastParent := by have := congrArg Nest.lastParent h.nest; exact this
theorem Locks.uplinkLost : n.nest.uplinkLost = s.nest.uplinkLost := by have := congrArg Nest.uplinkLost h.nest; exact this

end

end Sys2Proof.Machine

namespace Sys2Proof.Machine

/-! ### A request of the parent (R163, R164, R204, R560) -/

/-- The state in which a request of the parent runs: what has been sent has left, and no PASS in hand waits for its answer. -/
def State.upHeard (s : State) (e : Leaf) : State := s.upDrains.setUpPort e { s.upDrains.upPort e with busy := none }

/-- What a rule must leave for its answer to go as it would have gone before: both ports, the position, the clock, what was put out. -/
structure Quiet (s n : State) : Prop where
  portA : n.nest.portA = s.nest.portA
  portB : n.nest.portB = s.nest.portB
  position : n.nest.position = s.nest.position
  now : n.time.now = s.time.now
  out : n.out = s.out

theorem Quiet.refl (s : State) : Quiet s s := ⟨rfl, rfl, rfl, rfl, rfl⟩

theorem Quiet.trans {s t n : State} (h : Quiet s t) (k : Quiet t n) : Quiet s n :=
  ⟨k.portA.trans h.portA, k.portB.trans h.portB, k.position.trans h.position, k.now.trans h.now, k.out.trans h.out⟩

theorem Quiet.of_locks {ps : List Part} {s n : State} (h : Locks ps s n) : Quiet s n :=
  ⟨h.portA, h.portB, h.position, congrArg TimeU.now h.time, h.out⟩

theorem Quiet.upPort {s n : State} (h : Quiet s n) (e : Leaf) : n.upPort e = s.upPort e := by
  cases e
  · exact h.portA
  · exact h.portB

theorem upSrc_of_position {s : State} (h : s.nest.position ≠ 0) : s.upSrc = s.nest.position := if_neg h

/-- A frame of the node has left at once where the line was free; while the line was in use it waits at the port. -/
def UpSent (u n : State) (e : Leaf) (line : List Byte) : Prop :=
  (u.upFree e → n.out = .up e line true :: u.out) ∧
    ((∀ x, (u.upPort x).empty) → u.time.now < (u.upPort e).txEnd → n.out = u.out ∧ (n.upPort e).own = [line])

/-- A frame sent from a state whose transmitter stands as in another one. -/
theorem upSend_sent {u w : State} {e : Leaf} (seq k : Nat) (p : List Byte) (hpos : w.nest.position ≠ 0) (hnow : w.time.now = u.time.now)
    (hw : (∀ x, (u.upPort x).empty) → (w.upPort e).empty ∧ (w.upPort e).txEnd = (u.upPort e).txEnd ∧ w.out = u.out) :
    UpSent u (w.upSend e seq k p) e (ringLine 0 w.nest.position k seq p) := by
  unfold State.upSend
  rw [upSrc_of_position hpos]
  refine ⟨fun ⟨hidle, hfree⟩ => ?_, fun hidle hbusy => ?_⟩
  · obtain ⟨hempty, htx, hout⟩ := hw hidle
    rw [upPut_free_out hempty (by rw [htx, hnow]; exact hfree), hout]
  · obtain ⟨hempty, htx, hout⟩ := hw hidle
    rw [upPut_waits hempty (by rw [htx, hnow]; exact hbusy), setUpPort_out, upPort_setUpPort_same, hout]
    exact ⟨rfl, rfl⟩

theorem wakeIf_awake {s : State} (h : s.sleep.st = 0) (k : Nat) : s.wakeIf k = s := by
  unfold State.wakeIf
  split
  · exact wake_awake h _
  · rfl

/-- A request heard by a positioned, sweeping, awake node at a port that does not work on it. -/
structure UpAsked (u : State) (r : UpReq) : Prop where
  rx : u.upRx (upEnd r.port) = true
  position : u.nest.position ≠ 0
  dest : r.dest = u.nest.position
  sweeping : u.sweeping = true
  awake : u.sleep.st = 0
  free : (u.upPort (upEnd r.port)).busy ≠ some r.seq
  kind : r.kind ≠ 1

section

variable {u : State} {r : UpReq} (h : UpAsked u r)
include h

theorem UpAsked.upFrame : u.upFrame r = u.upDrains.upRequest (upEnd r.port) r.seq r.kind (fun s => s.upJudge (upEnd r.port) r) := by
  unfold State.upFrame
  dsimp only
  rw [if_neg (by simp [h.rx]), if_neg (fun hk => h.kind hk.1), if_pos]
  rw [(Transmits.upDrains u).position]
  exact ⟨h.position, h.dest⟩

/-- A request whose answer is not held runs. -/
theorem UpAsked.runs (hnew : ∀ k p, (u.upPort (upEnd r.port)).held ≠ some (r.seq, k, p)) :
    u.upFrame r = u.upDrains.upRun (upEnd r.port) r.seq (fun s => s.upJudge (upEnd r.port) r) := by
  have hd := Transmits.upDrains u
  have hawake : u.upDrains.sleep.st = 0 := by rw [hd.sleep, h.awake]
  have hsweep : u.upDrains.sweeping = true := by rw [State.sweeping, hd.aon]; exact h.sweeping
  rw [h.upFrame]
  unfold State.upRequest
  rw [wakeIf_awake hawake]
  dsimp only
  rw [if_neg (by simp [hsweep]), if_neg (by rw [hd.busy]; exact h.free), hd.held]
  split
  next q k p hheld =>
    rw [if_neg]
    rintro rfl
    exact hnew k p hheld
  · rfl

/-- A request whose answer is held is answered again. -/
theorem UpAsked.again {k : Nat} {p : List Byte} (hheld : (u.upPort (upEnd r.port)).held = some (r.seq, k, p)) :
    u.upFrame r = u.upDrains.upSend (upEnd r.port) r.seq k p := by
  have hd := Transmits.upDrains u
  have hawake : u.upDrains.sleep.st = 0 := by rw [hd.sleep, h.awake]
  have hsweep : u.upDrains.sweeping = true := by rw [State.sweeping, hd.aon]; exact h.sweeping
  rw [h.upFrame]
  unfold State.upRequest
  rw [wakeIf_awake hawake]
  dsimp only
  rw [if_neg (by simp [hsweep]), if_neg (by rw [hd.busy]; exact h.free), hd.held, hheld]
  exact if_pos rfl

end

/-- The state in which a request runs, by what has left and by the port it came to. -/
theorem upHeard_spec (u : State) (e : Leaf) : (u.upHeard e).nest.position = u.nest.position ∧ (u.upHeard e).time = u.time ∧
    ((u.upHeard e).upPort e).held = (u.upPort e).held ∧ Frame [.nest, .out] u (u.upHeard e) ∧
    ((∀ x, (u.upPort x).empty) → u.upHeard e = u.setUpPort e { u.upPort e with busy := none }) := by
  have hd := Transmits.upDrains u
  unfold State.upHeard
  refine ⟨?_, ?_, ?_, ?_, fun hidle => ?_⟩
  · rw [← hd.position]
    cases e <;> rfl
  · rw [setUpPort_time, hd.time]
  · rw [upPort_setUpPort_same, ← hd.held]
  · exact hd.frame.trans ((setUpPort_frame _ _ _).mono (by decide))
  · rw [upDrains_empty hidle]

/-- The port of the state in which a request runs, where nothing waits. -/
theorem upHeard_idle {u : State} {e : Leaf} (hidle : ∀ x, (u.upPort x).empty) : ((u.upHeard e).upPort e).empty ∧
    ((u.upHeard e).upPort e).txEnd = (u.upPort e).txEnd ∧ (u.upHeard e).out = u.out := by
  obtain ⟨-, -, -, -, heq⟩ := upHeard_spec u e
  rw [heq hidle, upPort_setUpPort_same, setUpPort_out]
  exact ⟨hidle e, rfl, rfl⟩

/-- A request that runs and is answered, but not with NACK BUSY: the answer is held and sent. -/
theorem upRun_held {u m : State} {e : Leaf} {seq k : Nat} {p : List Byte} {f : State → UpAns} (hf : f (u.upHeard e) = (m, some (k, p)))
    (hbusy : ¬(k = 0xD ∧ p.headD 0 = 4)) :
    u.upDrains.upRun e seq f = (m.setUpPort e { m.upPort e with held := some (seq, k, p) }).upSend e seq k p := by
  unfold State.upRun
  rw [show f (u.upDrains.setUpPort e { u.upDrains.upPort e with busy := none }) = (m, some (k, p)) from hf]
  dsimp only
  rw [if_neg hbusy]

/-- A request that runs and is answered with NACK BUSY: the answer is not held. -/
theorem upRun_busy {u m : State} {e : Leaf} {seq k : Nat} {f : State → UpAns} (hf : f (u.upHeard e) = m.upNack 4 k) :
    u.upDrains.upRun e seq f = m.upSend e seq 0xD (nackP 4 k) := by
  unfold State.upRun
  rw [show f (u.upDrains.setUpPort e { u.upDrains.upPort e with busy := none }) = (m, some (0xD, nackP 4 k)) from hf]
  dsimp only
  rw [if_pos ⟨rfl, rfl⟩]

/-- The command brings the frame `r` of the parent. -/
def BringsFrame (t : Nat) (r : UpReq) (c : Instr) : Prop :=
  c = .stringCmd t r ∨ c = .parentPeriod t r ∨ c = .nodeRegisterWrite t r ∨ c = .uplinkSampleLastRead t r

/-- The four commands that bring a frame of the parent run one rule. -/
theorem exec_upFrame {t : Nat} {r : UpReq} {c : Instr} (s : State) (hc : BringsFrame t r c) :
    exec c s = .next (settle s ((s.setNow t).upFrame r)) := by
  obtain rfl | rfl | rfl | rfl := hc <;> rfl

/-- A request of the parent that runs and is answered: what its rule leaves of the nesting record stands but for the ports, the answer
is held and sent. -/
theorem request_answered {t : Nat} {r : UpReq} {s m : State} {c : Instr} {k : Nat} {p : List Byte} {ps : List Part}
    (hc : BringsFrame t r c) (h : UpAsked (s.setNow t) r) (hnew : ∀ k p, (s.upPort (upEnd r.port)).held ≠ some (r.seq, k, p))
    (hrule : ((s.setNow t).upHeard (upEnd r.port)).upJudge (upEnd r.port) r = (m, some (k, p))) (hbusy : ¬(k = 0xD ∧ p.headD 0 = 4))
    (hquiet : Quiet ((s.setNow t).upHeard (upEnd r.port)) m) (hframe : Frame ps ((s.setNow t).upHeard (upEnd r.port)) m)
    (hps : .nest ∈ ps ∧ .out ∈ ps) :
    ∃ n, exec c s = .next n ∧ (∃ a b, n.nest = { m.nest with portA := a, portB := b }) ∧
      (n.upPort (upEnd r.port)).held = some (r.seq, k, p) ∧
      UpSent (s.setNow t) n (upEnd r.port) (ringLine 0 s.nest.position k r.seq p) ∧ Frame ps s n := by
  obtain ⟨hpos, htime, -, hheard, -⟩ := upHeard_spec (s.setNow t) (upEnd r.port)
  have hexec := exec_upFrame s hc
  rw [h.runs hnew, upRun_held hrule hbusy] at hexec
  have hsend := Transmits.upSend (m.setUpPort (upEnd r.port) { m.upPort (upEnd r.port) with held := some (r.seq, k, p) })
    (upEnd r.port) r.seq k p
  have hposm : m.nest.position = s.nest.position := hquiet.position.trans hpos
  have hposw : (m.setUpPort (upEnd r.port) { m.upPort (upEnd r.port) with held := some (r.seq, k, p) }).nest.position = s.nest.position := by
    rw [← hposm]
    cases upEnd r.port <;> rfl
  refine ⟨_, hexec, ?_, ?_, ?_, ?_⟩
  · obtain ⟨a, b, hnest⟩ := hsend.nest
    refine ⟨a, b, hnest.trans ?_⟩
    cases upEnd r.port <;> rfl
  · exact (hsend.held _).trans (by rw [upPort_setUpPort_same])
  · have hsent : UpSent (s.setNow t) _ (upEnd r.port) _ := upSend_sent r.seq k p (hposw ▸ h.position)
      (by rw [setUpPort_time, hquiet.now, htime]) (fun hidle => by
        rw [upPort_setUpPort_same, setUpPort_out, hquiet.out, hquiet.upPort]
        exact upHeard_idle hidle)
    rw [hposw] at hsent
    exact hsent
  · refine Frame.settle (t := t) ?_
    have hend : ∀ p, p ∈ [Part.nest, .out] → p ∈ ps := by simp [hps]
    exact ((hheard.mono hend).trans hframe).trans (((setUpPort_frame _ _ _).mono (by simp [hps])).trans (hsend.frame.mono hend))

end Sys2Proof.Machine

namespace Sys2Proof.Machine

/-! ### What a request of the parent does (R165, R178, R562, R565) -/

/-- A CFG_WR of one rw register, with data of its width. -/
theorem upCfgWr_register {s m : State} {reg : Nat} {d : List Byte} (hreg : reg < 65536) (hsome : 1 ≤ d.length) (hfit : d.length ≤ 508)
    (hwrite : s.upWrite1 reg d = some (d.length, 0, m)) : s.upCfgWr (cfgWrP reg d) = (m, some (5, [3, 0, 0, 0])) := by
  obtain ⟨hlen, hat, hn, hdrop⟩ := cfgWrP_fields hreg (show d.length < 65536 by omega)
  have hdone : ∀ k, State.upWriteAll (k + 1) (reg + d.length) [] m = some (0, m) := fun k => rfl
  have hall : State.upWriteAll (d.length + 1) reg d s = some (0, m) := by
    obtain ⟨k, hk⟩ : ∃ k, d.length = k + 1 := ⟨d.length - 1, by omega⟩
    have hne : d.isEmpty = false := by
      rw [List.isEmpty_eq_false_iff]
      rintro rfl
      exact absurd hsome (by decide)
    rw [State.upWriteAll, hne, hwrite]
    dsimp only
    rw [if_neg Bool.false_ne_true, if_neg (Nat.lt_irrefl _), if_neg (not_not.mpr rfl), List.drop_length]
    rw [show State.upWriteAll d.length = State.upWriteAll (k + 1) by rw [hk]]
    exact hdone k
  unfold State.upCfgWr
  dsimp only
  rw [hlen, hn, hat, hdrop, if_neg (by omega), hall]
  rfl

theorem upJudge_cfgWr {s : State} {e : Leaf} {r : UpReq} (h : r.kind = 3) : s.upJudge e r = s.upCfgWr r.payload := by
  simp only [State.upJudge, h]

theorem upJudge_cfgRd {s : State} {e : Leaf} {r : UpReq} (h : r.kind = 4) : s.upJudge e r = s.upCfgRd r.payload := by
  simp only [State.upJudge, h]

theorem upJudge_pass {s : State} {e : Leaf} {r : UpReq} (h : r.kind = 0xC) : s.upJudge e r = s.upPass e r.seq r.payload := by
  simp only [State.upJudge, h]

/-- A reserved KIND is refused as unknown. -/
theorem upJudge_unknown {s : State} {e : Leaf} {r : UpReq} (h : r.kind = 0 ∨ 0x0E ≤ r.kind) :
    s.upJudge e r = (s, some (0xD, nackP 1 r.kind)) := by
  unfold State.upJudge
  split
  case h_14 => rfl
  all_goals omega

/-- STRING_CMD noted, PENDING. -/
def State.cmdNoted (s : State) (i c : Nat) : State := { s with nest := { s.nest with cmd := some (i, c), cmdResult := 4 } }

theorem upWrite1_stringCmd {s : State} {i c : Nat} (hi : i < 64 ∨ i = 0xFF) (hc1 : 1 ≤ c) (hc3 : c ≤ 3) :
    s.upWrite1 0xFB04 [byteOf i, byteOf c] = some (2, 0, s.cmdNoted i c) := by
  have hat : leAt [byteOf i, byteOf c] 0 1 = i := leAt_byteOf _ (by omega)
  have hcmd : leAt [byteOf i, byteOf c] 1 1 = c := (leAt_append [byteOf i] [byteOf c] 0 1).trans (leAt_byteOf _ (by omega))
  simp only [State.upWrite1, hat, hcmd]
  exact if_neg (by omega)

/-- PARENT_PERIOD taken; the lock follows it. -/
def State.periodTaken (s : State) (v : Nat) : State :=
  ({ s with nest := { s.nest with parentPeriod := v, newPeriod := true } } : State).lockConfig

theorem upWrite1_parentPeriod {s : State} {v : Nat} (hv : v ≤ 8 ∨ v = 0xFF) : s.upWrite1 0xFB02 [byteOf v] = some (1, 0, s.periodTaken v) := by
  have hat : leAt [byteOf v] 0 1 = v := leAt_byteOf _ (by omega)
  simp only [State.upWrite1, hat]
  exact if_neg (by omega)

theorem periodTaken_spec (s : State) (v : Nat) : (s.periodTaken v).nest.parentPeriod = v ∧ (s.periodTaken v).nest.newPeriod = true ∧
    Quiet s (s.periodTaken v) ∧ Frame [.nest, .log, .fifos] s (s.periodTaken v) := by
  have hlock := Locks.lockConfig ({ s with nest := { s.nest with parentPeriod := v, newPeriod := true } } : State)
  have hset : Quiet s { s with nest := { s.nest with parentPeriod := v, newPeriod := true } } := ⟨rfl, rfl, rfl, rfl, rfl⟩
  exact ⟨hlock.parentPeriod, hlock.newPeriod, hset.trans (Quiet.of_locks hlock), ((Frame.nest s _).mono (by decide)).trans hlock.frame⟩

/-! Registers read -/

/-- What the registers of the group node read out stays when frames leave the ports. -/
theorem Transmits.upBytes {s n : State} (h : Transmits s n) (reg : Nat) : n.upBytes reg = s.upBytes reg := by
  have hA : n.nest.portA.los = s.nest.portA.los := h.los .a
  have hB : n.nest.portB.los = s.nest.portB.los := h.los .b
  obtain ⟨a, b, o, rfl, -⟩ := h
  simp only at hA hB
  unfold State.upBytes
  dsimp only
  rw [hA, hB]
  rfl

theorem setUpPort_upBytes {s : State} {e : Leaf} {x : UpPort} (h : x.los = (s.upPort e).los) (reg : Nat) :
    (s.setUpPort e x).upBytes reg = s.upBytes reg := by
  cases e
  · have hA : x.los = s.nest.portA.los := h
    unfold State.upBytes State.setUpPort
    dsimp only
    rw [hA]
    rfl
  · have hB : x.los = s.nest.portB.los := h
    unfold State.upBytes State.setUpPort
    dsimp only
    rw [hB]
    rfl

theorem upRead_congr {s n : State} (h : ∀ reg, n.upBytes reg = s.upBytes reg) (k reg len : Nat) : n.upRead k reg len = s.upRead k reg len := by
  induction k generalizing reg len with
  | zero => rfl
  | succ k ih =>
    unfold State.upRead
    rw [h reg]
    simp only [ih]

theorem upHeard_upRead (u : State) (e : Leaf) (k reg len : Nat) : (u.upHeard e).upRead k reg len = u.upRead k reg len := by
  have hbytes : ∀ reg, (u.upHeard e).upBytes reg = u.upBytes reg := fun reg =>
    (setUpPort_upBytes (s := u.upDrains) (x := { u.upDrains.upPort e with busy := none }) rfl reg).trans ((Transmits.upDrains u).upBytes reg)
  exact upRead_congr hbytes k reg len

theorem upHeard_summary (u : State) (e : Leaf) : (u.upHeard e).nest.summary = u.nest.summary ∧ (u.upHeard e).nest.lastLow = u.nest.lastLow := by
  obtain ⟨a, b, hnest⟩ := (Transmits.upDrains u).nest
  unfold State.upHeard
  rw [setUpPort_nest, hnest]
  split <;> exact ⟨rfl, rfl⟩

theorem upHeard_offsets (u : State) (e : Leaf) : (u.upHeard e).nest.offA = u.nest.offA ∧ (u.upHeard e).nest.offB = u.nest.offB := by
  obtain ⟨a, b, hnest⟩ := (Transmits.upDrains u).nest
  unfold State.upHeard
  rw [setUpPort_nest, hnest]
  split <;> exact ⟨rfl, rfl⟩

theorem upCfgRd_register {s : State} {reg len : Nat} {b : List Byte} (hreg : reg < 65536) (hlen : len < 65536) (hlast : reg ≠ 0xFF20)
    (hread : s.upRead (len + 1) reg len = some b) : s.upCfgRd (cfgRdP reg len) = (s, some (5, [4, 0] ++ toLe 2 reg ++ b)) := by
  obtain ⟨h4, hat, hn⟩ := cfgRdP_fields (n := len) hreg
  unfold State.upCfgRd
  dsimp only
  rw [h4, hat, hn, Nat.mod_eq_of_lt hlen, if_neg (by omega), if_neg hlast, hread]

/-- SAMPLE_LAST is answered with the summary of the last commit. -/
theorem upCfgRd_sampleLast (s : State) (len : Nat) :
    s.upCfgRd (cfgRdP 0xFF20 len) = (s, some (0x0B, s.summaryP (s.nest.lastLow.getD 0))) := by
  obtain ⟨h4, hat, -⟩ := cfgRdP_fields (reg := 0xFF20) (n := len) (by decide)
  unfold State.upCfgRd
  dsimp only
  rw [h4, hat, if_neg (by omega), if_pos rfl]

end Sys2Proof.Machine

namespace Sys2Proof.Machine

/-! ### ENUM, forwarded frames and PASS at an uplink port (R160, R166, R570) -/

/-- The position that an ENUM gives. -/
def enumPosition (hop endNo count : Nat) : Nat :=
  let pos : Int := if endNo = 0 then (hop : Int) + 1 else (count : Int) - hop
  if 1 ≤ pos ∧ pos ≤ count then pos.toNat else 0

theorem enumPosition_spec (hop endNo count : Nat) : (endNo = 0 → hop < count → enumPosition hop endNo count = hop + 1) ∧
    (endNo ≠ 0 → hop < count → enumPosition hop endNo count = count - hop) ∧ (count ≤ hop → enumPosition hop endNo count = 0) := by
  unfold enumPosition
  refine ⟨fun h0 hlt => ?_, fun h0 hlt => ?_, fun hle => ?_⟩
  · simp only [h0, if_true]
    rw [if_pos (by omega)]
    omega
  · simp only [h0, if_false]
    rw [if_pos (by omega)]
    omega
  · dsimp only
    split <;> exact if_neg (by omega)

/-- The state after an ENUM, before its answer: the ENUM forwarded, the port forgotten, the position taken. -/
def State.enumTaken (s : State) (e : Leaf) (seq hop endNo count : Nat) : State :=
  let s := s.upForward e (ringLine 0xFFFF 0 1 seq [byteOf (hop + 1), byteOf endNo, byteOf count, 0]) true
  let s := s.setUpPort e { s.upPort e with held := none, busy := none }
  { s with nest := { s.nest with position := enumPosition hop endNo count } }

/-- The payload of the group node's ENUM_RSP. -/
def groupEnumRspP (boot : Nat) : List Byte :=
  enumRspP { src := 0, cls := 2, cells := 0, ntcs := 0, version := 1, uid := Config.deviceUid, caps := 0x202, boot := boot, balIMax := 0, vFull := 0 }

theorem upEnum_eq (s : State) (e : Leaf) (seq hop endNo count : Nat) : s.upEnum e 0 seq hop endNo count =
    (s.enumTaken e seq hop endNo count).upSend e seq 2 (groupEnumRspP (s.enumTaken e seq hop endNo count).nest.boot) := by
  unfold State.upEnum State.enumTaken enumPosition
  simp only [decide_eq_true_eq]
  rfl

theorem enumTaken_spec (s : State) (e : Leaf) (seq hop endNo count : Nat) :
    let m := s.enumTaken e seq hop endNo count
    m.nest.position = enumPosition hop endNo count ∧ (m.upPort e).held = none ∧ (m.upPort e).busy = none ∧ m.nest.boot = s.nest.boot ∧
      m.time = s.time ∧ (m.upPort e).fwd = (s.upPort e).fwd ∧ (m.upPort e).own = (s.upPort e).own ∧ (m.upPort e).txEnd = (s.upPort e).txEnd ∧
      m.out = (s.upForward e (ringLine 0xFFFF 0 1 seq [byteOf (hop + 1), byteOf endNo, byteOf count, 0]) true).out ∧
      Frame [.nest, .out] s m := by
  obtain ⟨u, hu⟩ : ∃ u, u = s.upForward e (ringLine 0xFFFF 0 1 seq [byteOf (hop + 1), byteOf endNo, byteOf count, 0]) true := ⟨_, rfl⟩
  have hforward : Transmits s u := hu ▸ Transmits.upForward _ _ _ _
  have hsame : u.upPort e = s.upPort e := hu ▸ upForward_same _ _ _ _
  obtain ⟨a, b, hnest⟩ := hforward.nest
  have hm : s.enumTaken e seq hop endNo count =
      { u.setUpPort e { u.upPort e with held := none, busy := none } with
        nest := { (u.setUpPort e { u.upPort e with held := none, busy := none }).nest with position := enumPosition hop endNo count } } := by
    rw [hu]
    rfl
  have hport : (s.enumTaken e seq hop endNo count).upPort e = { s.upPort e with held := none, busy := none } := by
    rw [hm, ← hsame]
    cases e <;> rfl
  dsimp only
  rw [hport, ← hu]
  refine ⟨by rw [hm], rfl, rfl, ?_, ?_, rfl, rfl, rfl, ?_, ?_⟩
  · rw [hm]
    have hboot : u.nest.boot = s.nest.boot := by rw [hnest]
    rw [← hboot]
    cases e <;> rfl
  · rw [hm, ← hforward.time]
    exact setUpPort_time _ _ _
  · rw [hm]
    exact setUpPort_out _ _ _
  · rw [hm]
    refine (hforward.frame.trans ((setUpPort_frame u e { u.upPort e with held := none, busy := none }).mono (by decide))).trans ?_
    exact (Frame.nest _ _).mono (by decide)

theorem exec_uplinkEnum {t seq hop endNo count : Nat} {e : Leaf} {s : State} (hrx : (s.setNow t).upRx e = true) :
    exec (.uplinkEnum t e seq hop ⟨endNo, count⟩) s = .next (settle s ((s.setNow t).upDrains.upEnum e 0 seq hop endNo count)) := by
  change execUplinkEnum t e seq hop ⟨endNo, count⟩ s = _
  unfold execUplinkEnum
  exact at'_eq (if_pos hrx)

theorem uplinkEnum_effect {t seq hop endNo count : Nat} {e : Leaf} {s : State} (hrx : (s.setNow t).upRx e = true) :
    ∃ n, exec (.uplinkEnum t e seq hop ⟨endNo, count⟩) s = .next n ∧ n.nest.position = enumPosition hop endNo count ∧
      (n.upPort e).held = none ∧ (n.upPort e).busy = none ∧
      ((s.setNow t).upFree e → Out.up e (ringLine 0 n.upSrc 2 seq (groupEnumRspP s.nest.boot)) true ∈ n.out) ∧
      ((s.setNow t).upThrough = true → (s.setNow t).upFree e.other →
        Out.up e.other (ringLine 0xFFFF 0 1 seq [byteOf (hop + 1), byteOf endNo, byteOf count, 0]) true ∈ n.out) ∧
      Frame [.nest, .out] s n := by
  obtain ⟨d, hd⟩ : ∃ d, d = (s.setNow t).upDrains := ⟨_, rfl⟩
  have hdrains : Transmits (s.setNow t) d := hd ▸ Transmits.upDrains _
  obtain ⟨hpos, hheld, hbusy, hboot, htime, hfwd, hown, htx, hout, hframe⟩ := enumTaken_spec d e seq hop endNo count
  have hsend := Transmits.upSend (d.enumTaken e seq hop endNo count) e seq 2 (groupEnumRspP (d.enumTaken e seq hop endNo count).nest.boot)
  have hboot' : d.nest.boot = s.nest.boot := by
    obtain ⟨a, b, hnest⟩ := hdrains.nest
    rw [hnest]
    rfl
  have hexec := exec_uplinkEnum (seq := seq) (hop := hop) (endNo := endNo) (count := count) hrx
  rw [← hd, upEnum_eq] at hexec
  refine ⟨_, hexec, hsend.position.trans hpos, (hsend.held e).trans hheld, (hsend.busy e).trans hbusy, fun hfree => ?_, fun hthrough hfree => ?_,
    (hdrains.frame.trans (hframe.trans hsend.frame)).settle⟩
  · have hidle : d = s.setNow t := hd.trans (upDrains_empty hfree.1)
    have hempty : ((d.enumTaken e seq hop endNo count).upPort e).empty := by
      rw [UpPort.empty, hfwd, hown, hidle]
      exact hfree.1 e
    have hline : ((d.enumTaken e seq hop endNo count).upPort e).txEnd ≤ (d.enumTaken e seq hop endNo count).time.now := by
      rw [htx, htime, hidle]
      exact hfree.2
    have hput := upPut_free_out (line := ringLine 0 (d.enumTaken e seq hop endNo count).upSrc 2 seq
      (groupEnumRspP (d.enumTaken e seq hop endNo count).nest.boot)) (eof := true) (own := true) hempty hline
    have hsrc : ∀ n : State, (settle s n).upSrc = n.upSrc := fun _ => rfl
    rw [settle_out, hsrc, hsend.upSrc, ← hboot', ← hboot]
    exact hput ▸ List.mem_cons_self
  · have hidle : d = s.setNow t := hd.trans (upDrains_empty hfree.1)
    refine hsend.mem_out ?_
    rw [hout, hidle, State.upForward, if_pos hthrough, upPut_free_out (hfree.1 _) hfree.2]
    exact List.mem_cons_self

/-- A frame for others is forwarded, and looked at where it is for the node's group or for every node. -/
theorem upFrame_others {s : State} {r : UpReq} (hrx : s.upRx (upEnd r.port) = true) (hdest : r.dest ≠ s.nest.position) (hkind : r.kind ≠ 1) :
    let u := s.upDrains.upForward (upEnd r.port) (ringLine r.dest r.src r.kind r.seq r.payload) true
    Transmits s u ∧ s.upFrame r = if s.upToGroup r.dest then u.upGroup r else u := by
  intro u
  have hd := Transmits.upDrains s
  have hu : Transmits s u := hd.trans (Transmits.upForward _ _ _ _)
  have hgroup : u.upToGroup r.dest = s.upToGroup r.dest := by
    obtain ⟨a, b, hnest⟩ := hu.nest
    rw [State.upToGroup, State.upToGroup, hnest]
  refine ⟨hu, ?_⟩
  unfold State.upFrame
  dsimp only
  rw [if_neg (by simp [hrx]), if_neg (fun hk => hkind hk.1), if_neg (fun hk => hdest (hk.2.trans hd.position))]
  rw [← hgroup]

/-- A frame that is neither for the node's position nor for its group goes out of the other port unchanged. -/
theorem forward_effect {t : Nat} {r : UpReq} {s : State} (hrx : (s.setNow t).upRx (upEnd r.port) = true) (hdest : r.dest ≠ s.nest.position)
    (hkind : r.kind ≠ 1) (hgroup : (s.setNow t).upToGroup r.dest = false) (hthrough : (s.setNow t).upThrough = true)
    (hfree : (s.setNow t).upFree (upEnd r.port).other) : ∃ n, exec (.nodeRegisterWrite t r) s = .next n ∧
      n.out = .up (upEnd r.port).other (ringLine r.dest r.src r.kind r.seq r.payload) true :: s.out ∧ Frame [.nest, .out] s n := by
  obtain ⟨htransmits, hframe⟩ := upFrame_others hrx hdest hkind
  have hexec := exec_upFrame s (c := .nodeRegisterWrite t r) (.inr (.inr (.inl rfl)))
  rw [hframe, hgroup] at hexec
  refine ⟨_, hexec, ?_, htransmits.frame.settle⟩
  have hput := upPut_free_out (line := ringLine r.dest r.src r.kind r.seq r.payload) (eof := true) (own := false) (hfree.1 _) hfree.2
  rw [settle_out, if_neg Bool.false_ne_true, upDrains_empty hfree.1, State.upForward, if_pos hthrough, hput]
  rfl

end Sys2Proof.Machine

namespace Sys2Proof.Machine

/-! ### The requests that a group node executes (R165, R178, R562, R565) -/

theorem upWrite1_offA {s : State} {d : List Byte} (h : d.length = 4) :
    s.upWrite1 0xFF04 d = some (d.length, 0, { s with nest := { s.nest with offA := leAt d 0 4 } }) := by
  rw [h]
  rfl

theorem upWrite1_offB {s : State} {d : List Byte} (h : d.length = 4) :
    s.upWrite1 0xFF08 d = some (d.length, 0, { s with nest := { s.nest with offB := leAt d 0 4 } }) := by
  rw [h]
  rfl

section Executed

variable {t : Nat} {r : UpReq} {s : State} (h : UpAsked (s.setNow t) r)
  (hnew : ∀ k p, (s.upPort (upEnd r.port)).held ≠ some (r.seq, k, p))
include h hnew

/-- A rw register written with data of its width. -/
theorem register_written {c : Instr} {m : State} {reg : Nat} {d : List Byte} {ps : List Part}
    (hc : BringsFrame t r c) (hkind : r.kind = 3) (hpayload : r.payload = cfgWrP reg d) (hreg : reg < 65536) (hsome : 1 ≤ d.length) (hfit : d.length ≤ 508)
    (hwrite : ((s.setNow t).upHeard (upEnd r.port)).upWrite1 reg d = some (d.length, 0, m))
    (hquiet : Quiet ((s.setNow t).upHeard (upEnd r.port)) m) (hframe : Frame ps ((s.setNow t).upHeard (upEnd r.port)) m)
    (hps : .nest ∈ ps ∧ .out ∈ ps) :
    ∃ n, exec c s = .next n ∧ (∃ a b, n.nest = { m.nest with portA := a, portB := b }) ∧
      (n.upPort (upEnd r.port)).held = some (r.seq, 5, [3, 0, 0, 0]) ∧
      UpSent (s.setNow t) n (upEnd r.port) (ringLine 0 s.nest.position 5 r.seq [3, 0, 0, 0]) ∧ Frame ps s n := by
  refine request_answered hc h hnew ?_ (by decide) hquiet hframe hps
  rw [upJudge_cfgWr hkind, hpayload]
  exact upCfgWr_register hreg hsome hfit hwrite

theorem stringCmd_effect {i c : Nat} (hkind : r.kind = 3) (hpayload : r.payload = cfgWrP 0xFB04 [byteOf i, byteOf c])
    (hi : i < 64 ∨ i = 0xFF) (hc1 : 1 ≤ c) (hc3 : c ≤ 3) :
    ∃ n, exec (.stringCmd t r) s = .next n ∧ n.nest.cmd = some (i, c) ∧ n.nest.cmdResult = 4 ∧
      (n.upPort (upEnd r.port)).held = some (r.seq, 5, [3, 0, 0, 0]) ∧
      UpSent (s.setNow t) n (upEnd r.port) (ringLine 0 s.nest.position 5 r.seq [3, 0, 0, 0]) ∧ Frame [.nest, .out] s n := by
  obtain ⟨n, hexec, ⟨a, b, hnest⟩, hrest⟩ := register_written (ps := [.nest, .out]) h hnew (.inl rfl) hkind hpayload (by decide)
    (Nat.le_add_left 1 1) (show 2 ≤ 508 by decide) (upWrite1_stringCmd hi hc1 hc3) ⟨rfl, rfl, rfl, rfl, rfl⟩
    ((Frame.nest _ _).mono (by decide)) (by decide)
  exact ⟨n, hexec, by rw [hnest]; rfl, by rw [hnest]; rfl, hrest⟩

theorem parentPeriod_effect {v : Nat} (hkind : r.kind = 3) (hpayload : r.payload = cfgWrP 0xFB02 [byteOf v]) (hv : v ≤ 8 ∨ v = 0xFF) :
    ∃ n, exec (.parentPeriod t r) s = .next n ∧ n.nest.parentPeriod = v ∧ n.nest.newPeriod = true ∧
      (n.upPort (upEnd r.port)).held = some (r.seq, 5, [3, 0, 0, 0]) ∧
      UpSent (s.setNow t) n (upEnd r.port) (ringLine 0 s.nest.position 5 r.seq [3, 0, 0, 0]) ∧
      Frame [.nest, .out, .log, .fifos] s n := by
  obtain ⟨hperiod, hset, hquiet, hframe⟩ := periodTaken_spec ((s.setNow t).upHeard (upEnd r.port)) v
  obtain ⟨n, hexec, ⟨a, b, hnest⟩, hrest⟩ := register_written (ps := [.nest, .out, .log, .fifos]) h hnew (.inr (.inl rfl)) hkind
    hpayload (by decide) (Nat.le_refl 1) (show 1 ≤ 508 by decide) (upWrite1_parentPeriod hv) hquiet (hframe.mono (by decide)) (by decide)
  exact ⟨n, hexec, by rw [hnest]; exact hperiod, by rw [hnest]; exact hset, hrest⟩

/-- The offset of a port's end written. -/
theorem offset_effect {d : List Byte} (hkind : r.kind = 3) (hd : d.length = 4) :
    (r.payload = cfgWrP 0xFF04 d → ∃ n, exec (.nodeRegisterWrite t r) s = .next n ∧ n.nest.offA = leAt d 0 4 ∧ n.nest.offB = s.nest.offB ∧
      (n.upPort (upEnd r.port)).held = some (r.seq, 5, [3, 0, 0, 0]) ∧
      UpSent (s.setNow t) n (upEnd r.port) (ringLine 0 s.nest.position 5 r.seq [3, 0, 0, 0]) ∧ Frame [.nest, .out] s n) ∧
    (r.payload = cfgWrP 0xFF08 d → ∃ n, exec (.nodeRegisterWrite t r) s = .next n ∧ n.nest.offB = leAt d 0 4 ∧ n.nest.offA = s.nest.offA ∧
      (n.upPort (upEnd r.port)).held = some (r.seq, 5, [3, 0, 0, 0]) ∧
      UpSent (s.setNow t) n (upEnd r.port) (ringLine 0 s.nest.position 5 r.seq [3, 0, 0, 0]) ∧ Frame [.nest, .out] s n) := by
  obtain ⟨hoffA, hoffB⟩ := upHeard_offsets (s.setNow t) (upEnd r.port)
  refine ⟨fun hpayload => ?_, fun hpayload => ?_⟩
  · obtain ⟨n, hexec, ⟨a, b, hnest⟩, hrest⟩ := register_written (ps := [.nest, .out]) h hnew (.inr (.inr (.inl rfl))) hkind hpayload
      (by decide) (by omega) (by omega) (upWrite1_offA hd) ⟨rfl, rfl, rfl, rfl, rfl⟩ ((Frame.nest _ _).mono (by decide)) (by decide)
    exact ⟨n, hexec, by rw [hnest], by rw [hnest]; exact hoffB, hrest⟩
  · obtain ⟨n, hexec, ⟨a, b, hnest⟩, hrest⟩ := register_written (ps := [.nest, .out]) h hnew (.inr (.inr (.inl rfl))) hkind hpayload
      (by decide) (by omega) (by omega) (upWrite1_offB hd) ⟨rfl, rfl, rfl, rfl, rfl⟩ ((Frame.nest _ _).mono (by decide)) (by decide)
    exact ⟨n, hexec, by rw [hnest], by rw [hnest]; exact hoffA, hrest⟩

/-- A request that changes nothing but is answered. -/
theorem reading_answered {c : Instr} {k : Nat} {p : List Byte}
    (hc : BringsFrame t r c) (hrule : ((s.setNow t).upHeard (upEnd r.port)).upJudge (upEnd r.port) r = ((s.setNow t).upHeard (upEnd r.port), some (k, p)))
    (hbusy : ¬(k = 0xD ∧ p.headD 0 = 4)) :
    ∃ n, exec c s = .next n ∧ (n.upPort (upEnd r.port)).held = some (r.seq, k, p) ∧
      UpSent (s.setNow t) n (upEnd r.port) (ringLine 0 s.nest.position k r.seq p) ∧ Frame [.nest, .out] s n := by
  obtain ⟨n, hexec, -, hrest⟩ := request_answered hc h hnew hrule hbusy (Quiet.refl _) (Frame.refl _ _) (ps := [.nest, .out]) (by decide)
  exact ⟨n, hexec, hrest⟩

theorem registerRead_effect {reg len : Nat} {b : List Byte} (hkind : r.kind = 4) (hpayload : r.payload = cfgRdP reg len)
    (hreg : reg < 65536) (hlen : len < 65536) (hlast : reg ≠ 0xFF20) (hread : (s.setNow t).upRead (len + 1) reg len = some b) :
    ∃ n, exec (.nodeRegisterWrite t r) s = .next n ∧
      (n.upPort (upEnd r.port)).held = some (r.seq, 5, [4, 0] ++ toLe 2 reg ++ b) ∧
      UpSent (s.setNow t) n (upEnd r.port) (ringLine 0 s.nest.position 5 r.seq ([4, 0] ++ toLe 2 reg ++ b)) ∧ Frame [.nest, .out] s n := by
  refine reading_answered h hnew (.inr (.inr (.inl rfl))) ?_ (by simp)
  rw [upJudge_cfgRd hkind, hpayload]
  exact upCfgRd_register hreg hlen hlast ((upHeard_upRead _ _ _ _ _).trans hread)

theorem sampleLastRead_effect {len : Nat} (hkind : r.kind = 4) (hpayload : r.payload = cfgRdP 0xFF20 len) :
    ∃ n, exec (.uplinkSampleLastRead t r) s = .next n ∧
      (n.upPort (upEnd r.port)).held = some (r.seq, 0x0B, (s.setNow t).summaryP (s.nest.lastLow.getD 0)) ∧
      UpSent (s.setNow t) n (upEnd r.port) (ringLine 0 s.nest.position 0x0B r.seq ((s.setNow t).summaryP (s.nest.lastLow.getD 0))) ∧
      Frame [.nest, .out] s n := by
  refine reading_answered h hnew (.inr (.inr (.inr rfl))) ?_ (by simp)
  obtain ⟨hsummary, hlow⟩ := upHeard_summary (s.setNow t) (upEnd r.port)
  rw [upJudge_cfgRd hkind, hpayload, upCfgRd_sampleLast, State.summaryP, hsummary, hlow]
  rfl

theorem unknownKind_effect (hkind : r.kind = 0 ∨ 0x0E ≤ r.kind) :
    ∃ n, exec (.nodeRegisterWrite t r) s = .next n ∧ (n.upPort (upEnd r.port)).held = some (r.seq, 0xD, nackP 1 r.kind) ∧
      UpSent (s.setNow t) n (upEnd r.port) (ringLine 0 s.nest.position 0xD r.seq (nackP 1 r.kind)) ∧ Frame [.nest, .out] s n :=
  reading_answered h hnew (.inr (.inr (.inl rfl))) (upJudge_unknown hkind) (by simp [nackP, byteOf])

end Executed

/-- A request whose answer is held is answered again, and nothing else happens. -/
theorem again_effect {t k : Nat} {p : List Byte} {r : UpReq} {s : State} {c : Instr} (h : UpAsked (s.setNow t) r)
    (hc : BringsFrame t r c) (hheld : (s.upPort (upEnd r.port)).held = some (r.seq, k, p)) :
    ∃ n, exec c s = .next n ∧ UpSent (s.setNow t) n (upEnd r.port) (ringLine 0 s.nest.position k r.seq p) ∧
      (n.upPort (upEnd r.port)).held = some (r.seq, k, p) ∧ Frame [.nest, .out] s n := by
  have hd := Transmits.upDrains (s.setNow t)
  have hsend := Transmits.upSend (s.setNow t).upDrains (upEnd r.port) r.seq k p
  have hexec := exec_upFrame s hc
  rw [h.again hheld] at hexec
  refine ⟨_, hexec, ?_, ?_, (hd.frame.trans hsend.frame).settle⟩
  · have hsent : UpSent (s.setNow t) _ (upEnd r.port) _ := upSend_sent (u := s.setNow t) (e := upEnd r.port) r.seq k p
      (hd.position ▸ h.position) (congrArg TimeU.now hd.time) (fun hidle => by
        rw [upDrains_empty hidle]
        exact ⟨hidle _, rfl, rfl⟩)
    rw [hd.position] at hsent
    exact hsent
  · exact (hsend.held _).trans ((hd.held _).trans hheld)

/-! ### PASS (R570, R571) -/

theorem upHeard_passWhy (u : State) (e : Leaf) (x : PassParts) : (u.upHeard e).passWhy x = u.passWhy x := by
  obtain ⟨a, b, o, hd, -⟩ := Transmits.upDrains u
  unfold State.upHeard
  rw [hd]
  cases e <;> rfl

/-- An accepted PASS is in hand, its request made, and refused as BUSY. -/
theorem upPass_accepted {s : State} {seq : Nat} {e : Leaf} {payload : List Byte} {x : PassParts} (hx : passParts payload = some x)
    (hwhy : s.passWhy x = 0) : ∃ m, s.upPass e seq payload = m.upNack 4 0xC ∧
      Requests (s.setUpPort e { s.upPort e with busy := some seq }) m := by
  unfold State.upPass
  rw [hx]
  exact ⟨_, if_neg (not_not.mpr hwhy), Requests.request' _ _ _ _ _⟩

theorem uplinkPass_effect {t seq : Nat} {e : Leaf} {payload : List Byte} {x : PassParts} {s : State} (hrx : (s.setNow t).upRx e = true)
    (hpos : s.nest.position ≠ 0) (hsweep : (s.setNow t).sweeping = true) (hawake : s.sleep.st = 0) (hfree : (s.upPort e).busy ≠ some seq)
    (hnew : ∀ k p, (s.upPort e).held ≠ some (seq, k, p)) (hx : passParts payload = some x) (hwhy : (s.setNow t).passWhy x = 0) :
    ∃ n, exec (.uplinkPass t e seq payload) s = .next n ∧ (n.upPort e).busy = some seq ∧ (n.upPort e).held = (s.upPort e).held ∧
      ((s.setNow t).upFree e → n.out.head? = some (.up e (ringLine 0 s.nest.position 0xD seq (nackP 4 0xC)) true)) ∧
      Frame (ringParts ++ [.nest]) s n := by
  obtain ⟨hposu, htime, hheld, hframe, -⟩ := upHeard_spec (s.setNow t) e
  obtain ⟨m, hrule, hrequests⟩ := upPass_accepted (seq := seq) (e := e) hx ((upHeard_passWhy (s.setNow t) e x).trans hwhy)
  have hend : upEnd e.num = e := by cases e <;> rfl
  obtain ⟨r, hr⟩ : ∃ r : UpReq, r = { port := e.num, dest := s.nest.position, src := 0, kind := 0xC, seq := seq, payload := payload } := ⟨_, rfl⟩
  have hasked : UpAsked (s.setNow t) r := by
    subst hr
    exact ⟨by rw [hend]; exact hrx, hpos, rfl, hsweep, hawake, by rw [hend]; exact hfree, (by decide : 0xC ≠ 1)⟩
  have hexec : exec (.uplinkPass t e seq payload) s = .next (settle s ((s.setNow t).upFrame r)) := by
    rw [hr]
    rfl
  have hrun := hasked.runs (by subst hr; rw [hend]; exact hnew)
  have hjudge : ((s.setNow t).upHeard e).upJudge e r = m.upNack 4 0xC := by
    rw [upJudge_pass (by rw [hr]), hr]
    exact hrule
  rw [hrun, show upEnd r.port = e by rw [hr]; exact hend, show r.seq = seq by rw [hr], upRun_busy hjudge] at hexec
  have hport : m.upPort e = { ((s.setNow t).upHeard e).upPort e with busy := some seq } := by
    rw [upPort_of_nest hrequests.nest, upPort_setUpPort_same]
  have hsend := Transmits.upSend m e seq 0xD (nackP 4 0xC)
  refine ⟨_, hexec, (hsend.busy e).trans (by rw [hport]), ((hsend.held e).trans (by rw [hport])).trans hheld, fun hfreeLine => ?_, ?_⟩
  · obtain ⟨hempty, htx, -⟩ := upHeard_idle (e := e) hfreeLine.1
    have hnow : m.time.now = (s.setNow t).time.now := by rw [hrequests.time, setUpPort_time, htime]
    have hposm : m.nest.position = s.nest.position := by
      rw [hrequests.nest, ← show _ = s.nest.position from hposu]
      cases e <;> rfl
    have hput := upPut_free_out (line := ringLine 0 m.upSrc 0xD seq (nackP 4 0xC)) (eof := true) (own := true)
      (show (m.upPort e).empty by rw [hport]; exact hempty) (by rw [hport, hnow]; exact htx.trans_le hfreeLine.2)
    rw [settle_out, State.upSend, hput, upSrc_of_position (hposm ▸ hpos), hposm]
    rfl
  · refine Frame.settle (t := t) (((hframe.mono (by decide)).trans ?_).trans (hsend.frame.mono (by decide)))
    exact ((setUpPort_frame _ _ _).mono (by decide)).trans (hrequests.frame.mono (by decide))

/-- Settles O52: an ENUM by the state that it leaves, a request by the rule that executes it, a frame of others by where it goes. -/
theorem groupNodeAnswers : Obligations.GroupNodeAnswers := by
  unfold Obligations.GroupNodeAnswers
  intro t s
  refine ⟨fun e seq hop endNo count hrx => ?_, fun r hrx hpos hdest hsweep hawake hfree => ?_,
    fun r hrx hdest hkind hgroup hthrough hfree => forward_effect hrx hdest hkind hgroup hthrough hfree,
    fun e seq payload x hrx hpos hsweep hawake hfree hnew hx hwhy => uplinkPass_effect hrx hpos hsweep hawake hfree hnew hx hwhy⟩
  · obtain ⟨n, hexec, hpos, hrest⟩ := uplinkEnum_effect (seq := seq) (hop := hop) (endNo := endNo) (count := count) hrx
    obtain ⟨hfirst, hlast, hnone⟩ := enumPosition_spec hop endNo count
    exact ⟨n, hexec, fun h0 hlt => hpos.trans (hfirst h0 hlt), fun h0 hlt => hpos.trans (hlast h0 hlt), fun hle => hpos.trans (hnone hle), hrest⟩
  · have hasked : r.kind ≠ 1 → UpAsked (s.setNow t) r := fun hkind => ⟨hrx, hpos, hdest, hsweep, hawake, hfree, hkind⟩
    refine ⟨fun hnew => ⟨?_, ?_, ?_, ?_, ?_, ?_⟩, fun k p hheld hkind c hc => again_effect (hasked hkind) hc hheld⟩
    · exact fun i c hkind hpayload hi hc1 hc3 => stringCmd_effect (hasked (by omega)) hnew hkind hpayload hi hc1 hc3
    · exact fun v hkind hpayload hv => parentPeriod_effect (hasked (by omega)) hnew hkind hpayload hv
    · exact fun d hkind hd => offset_effect (hasked (by omega)) hnew hkind hd
    · exact fun reg len b hkind hpayload hreg hlen hlast hread =>
        registerRead_effect (hasked (by omega)) hnew hkind hpayload hreg hlen hlast hread
    · intro len hkind hpayload
      obtain ⟨n, hexec, hheld, hsent, hframe⟩ := sampleLastRead_effect (hasked (by omega)) hnew hkind hpayload
      exact ⟨n, hexec, hsent, hheld, hframe⟩
    · exact fun hkind => unknownKind_effect (hasked (by omega)) hnew hkind

end Sys2Proof.Machine

namespace Sys2Proof.Machine

/-! ### The sweep lock at a window centre (R576, R578, R580) -/

/-- The parts that the sweep lock changes. -/
def lockParts : List Part := [.nest, .log, .fifos, .sweep]

theorem Locks.realign (s : State) (c tp : Nat) : Locks lockParts s (s.realign c tp) := by
  refine ⟨rfl, rfl, rfl, ?_⟩
  rintro ⟨⟩ hp <;> simp [Part.same, lockParts, State.realign] at hp ⊢

theorem Locks.setLock_parts (s : State) (v : Nat) : Locks lockParts s (s.setLock v) := (Locks.setLock s v).mono (by decide)

theorem Locks.set_parts {s : State} {x : Nest} (h : x.sansLock = s.nest.sansLock) : Locks lockParts s { s with nest := x } :=
  (Locks.set h).mono (by decide)

theorem Locks.enterFreq (s : State) (c tp : Nat) (mult : Bool) : Locks lockParts s (s.enterFreq c tp mult) := by
  refine (Locks.setLock_parts s 1).trans ?_
  unfold State.enterFreq
  dsimp only
  split
  · exact Locks.realign _ c tp
  · exact Locks.set_parts rfl

theorem Locks.ite {ps : List Part} {s n m : State} (c : Prop) [Decidable c] (h : Locks ps s n) (k : Locks ps s m) :
    Locks ps s (if c then n else m) := by
  split
  · exact h
  · exact k

/-- A window centre of the parent moves the lock alone, and may postpone the next sweep. -/
theorem Locks.lockCentre (s : State) (c : Nat) (inRow : Bool) : Locks lockParts s (s.lockCentre c inRow) := by
  unfold State.lockCentre
  extract_lets n tp own err near mult first pair rate u locked lockedNest uNest w
  refine Locks.ite _ (Locks.set_parts rfl) ?_
  have hu : Locks lockParts s u := Locks.set_parts rfl
  clear_value rate pair first mult near err own tp u
  have hw : Locks lockParts u w := by
    have hfreq := Locks.enterFreq u c tp mult
    have hrealign := Locks.realign u c tp
    have hsame := Locks.refl lockParts u
    simp only [w]
    split
    case h_1 => exact Locks.ite _ hfreq hsame
    case h_2 => exact Locks.ite _ (Locks.setLock_parts u 2) (Locks.ite _ hfreq hsame)
    case h_3 =>
      have hlocked := (Locks.setLock_parts u 2).trans (Locks.set_parts (x := { (u.setLock 2).nest with realigned := none }) rfl)
      exact Locks.ite _ (Locks.ite _ hlocked (Locks.ite _ hrealign hsame)) (Locks.ite _ hrealign hsame)
    case h_4 =>
      exact Locks.ite _ hfreq (Locks.ite _ hsame (Locks.ite _ (Locks.set_parts rfl) (Locks.ite _ hfreq (Locks.set_parts rfl))))
  exact (hu.trans hw).trans ((Locks.lockConfig w).mono (by decide))

end Sys2Proof.Machine

namespace Sys2Proof.Machine

/-! ### An ordered set of the parent (R151, R153, R154) -/

/-- The skew of a pair of SYNCs: what the ports last heard, and the skew's own fields. -/
theorem skewPair_spec (s : State) (e : Leaf) (low : Nat) : ∃ a b sum count sweep, s.skewPair e low =
    { s with nest := { s.nest with portA := a, portB := b, skewSum := sum, skewCount := count, skewSweep := sweep } } := by
  have hset : ∀ x : UpPort, ∃ a b sum count sweep, s.setUpPort e x =
      { s with nest := { s.nest with portA := a, portB := b, skewSum := sum, skewCount := count, skewSweep := sweep } } := fun x => by
    cases e <;> exact ⟨_, _, _, _, _, rfl⟩
  unfold State.skewPair
  dsimp only
  split
  · split
    · cases e <;> exact ⟨_, _, _, _, _, rfl⟩
    · exact hset _
  · exact hset _

/-- The state after an ordered set has gone out of the other port. -/
def State.passedOn (s : State) (o : Out) : State := s.when s.upThrough (fun s => s.emit o)

theorem passedOn_eq (s : State) (o : Out) : s.passedOn o = { s with out := (if s.upThrough then [o] else []) ++ s.out } := by
  unfold State.passedOn State.when
  split <;> rfl

/-- A SYNC heard, right or wrong: it is forwarded, and the master is there. -/
def State.syncHeard (s : State) (e : Leaf) (low hop check : Nat) : State :=
  let s := s.passedOn (syncOut 15 e.other low (hopOn low hop check))
  { s with nest := { s.nest with lastSync := s.time.now, lastParent := s.time.now, uplinkLost := false } }

theorem syncHeard_eq (s : State) (e : Leaf) (low hop check : Nat) : s.syncHeard e low hop check =
    { s with nest := { s.nest with lastSync := s.time.now, lastParent := s.time.now, uplinkLost := false },
             out := (if s.upThrough then [syncOut 15 e.other low (hopOn low hop check)] else []) ++ s.out } := by
  unfold State.syncHeard
  rw [passedOn_eq]

theorem upSync_wrong {s : State} {e : Leaf} {low hop check : Nat} (h : check ≠ crc8 [low, hop] ∨ 0xFF ≤ hop) :
    s.upSync e low hop check = s.syncHeard e low hop check := by
  unfold State.upSync
  exact if_pos h

/-- The centre of the sample window that a SYNC opens. -/
def State.windowAt (s : State) (e : Leaf) : Nat := s.time.now + (match e with | .a => s.nest.offA | .b => s.nest.offB)

theorem windowAt_eq (s : State) (e : Leaf) : s.windowAt e = s.time.now + (if e = .a then s.nest.offA else s.nest.offB) := by cases e <;> rfl

/-- A right SYNC with a new SWEEP_LOW: it opens the window, and its centre goes to the lock. -/
theorem upSync_right {s : State} {e : Leaf} {low hop check : Nat} (hcheck : check = crc8 [low, hop]) (hhop : hop < 0xFF)
    (hnew : s.nest.lastLow ≠ some low) : ∃ u, Frame [.nest, .out] s u ∧ u.nest.lastLow = some low ∧ u.nest.window = some (s.windowAt e, low) ∧
      u.nest.lastParent = s.time.now ∧ u.nest.lastSync = s.time.now ∧ u.nest.uplinkLost = false ∧
      u.out = (if s.upThrough then [syncOut 15 e.other low (hop + 1)] else []) ++ s.out ∧
      ∃ inRow, s.upSync e low hop check = u.lockCentre (s.windowAt e) inRow := by
  have hhopOn : hopOn low hop check = hop + 1 := if_pos ⟨hcheck, hhop⟩
  obtain ⟨a, b, sum, count, sweep, hskew⟩ := skewPair_spec (s.syncHeard e low hop check) e low
  have hheard := syncHeard_eq s e low hop check
  rw [hhopOn] at hheard
  have hsync : s.upSync e low hop check = if ((s.syncHeard e low hop check).skewPair e low).nest.lastLow = some low
      then (s.syncHeard e low hop check).skewPair e low
      else State.lockCentre
        (let u := (s.syncHeard e low hop check).skewPair e low
        { u with nest := { u.nest with lastLow := some low, window := some (u.windowAt e, low) } })
        (((s.syncHeard e low hop check).skewPair e low).windowAt e)
        (((s.syncHeard e low hop check).skewPair e low).nest.lastLow = some ((low + 255) % 256)) := by
    unfold State.upSync
    exact if_neg (by omega)
  rw [hskew, hheard, if_neg hnew] at hsync
  refine ⟨_, ?_, ?_, ?_, ?_, ?_, ?_, ?_, _, hsync⟩
  · rintro ⟨⟩ hp <;> simp [Part.same] at hp ⊢
  all_goals rfl

end Sys2Proof.Machine

namespace Sys2Proof.Machine

/-! ### What a group node follows of its parent (R151, R153, R154, R171, R206, R565, R567, R576) -/

theorem Frame.nest_out (s : State) (x : Nest) (o : List Out) : Frame [.nest, .out] s { s with nest := x, out := o } := by
  rintro ⟨⟩ hp <;> simp [Part.same] at hp ⊢

section ParentSync

variable {t low hop check : Nat} {e : Leaf} {s : State} (hrx : (s.setNow t).upRx e = true)
  (hidle : ∀ x, ((s.setNow t).upPort x).empty)
include hrx hidle

theorem exec_parentSync : exec (.parentSync t e low (some hop) check) s = .next (settle s ((s.setNow t).upSync e low hop check)) := by
  change execParentSync t e low (some hop) check s = _
  unfold execParentSync
  refine at'_eq ((if_neg (by simp [hrx])).trans ?_)
  rw [upDrains_empty hidle]

theorem exec_parentRate : exec (.parentSync t e low none check) s = .next (settle s ((s.setNow t).upRate e low check)) := by
  change execParentSync t e low none check s = _
  unfold execParentSync
  refine at'_eq ((if_neg (by simp [hrx])).trans ?_)
  rw [upDrains_empty hidle]

theorem parentSync_right (hcheck : check = crc8 [low, hop]) (hhop : hop < 0xFF) (hnew : s.nest.lastLow ≠ some low) :
    ∃ n, exec (.parentSync t e low (some hop) check) s = .next n ∧ n.nest.lastLow = some low ∧
      n.nest.window = some ((s.setNow t).windowAt e, low) ∧ n.nest.lastParent = (s.setNow t).time.now ∧
      n.nest.lastSync = (s.setNow t).time.now ∧ n.nest.uplinkLost = false ∧
      n.out = (if (s.setNow t).upThrough then [syncOut 15 e.other low (hop + 1)] else []) ++ s.out ∧
      Frame [.nest, .out, .log, .fifos, .sweep] s n := by
  obtain ⟨u, hframe, hlow, hwindow, hparent, hsync, hlost, hout, inRow, hup⟩ := upSync_right (s := s.setNow t) (e := e) hcheck hhop hnew
  have hlock := Locks.lockCentre u ((s.setNow t).windowAt e) inRow
  rw [← hup] at hlock
  refine ⟨_, exec_parentSync hrx hidle, hlock.lastLow.trans hlow, hlock.window.trans hwindow, hlock.lastParent.trans hparent,
    hlock.lastSync.trans hsync, hlock.uplinkLost.trans hlost, hlock.out.trans hout, ?_⟩
  exact ((hframe.mono (by decide)).trans (hlock.frame.mono (by decide))).settle

theorem parentSync_wrong (h : check ≠ crc8 [low, hop] ∨ 0xFF ≤ hop) :
    ∃ n, exec (.parentSync t e low (some hop) check) s = .next n ∧
      n.nest = { s.nest with lastSync := (s.setNow t).time.now, lastParent := (s.setNow t).time.now, uplinkLost := false } ∧
      n.out = (if (s.setNow t).upThrough then [syncOut 15 e.other low 0xFF] else []) ++ s.out ∧ Frame [.nest, .out] s n := by
  have hhopOn : hopOn low hop check = 0xFF := if_neg (by omega)
  have hup := (upSync_wrong (s := s.setNow t) (e := e) h).trans (syncHeard_eq _ e low hop check)
  rw [hhopOn] at hup
  refine ⟨_, exec_parentSync hrx hidle, ?_, ?_, ?_⟩
  · rw [hup]
    rfl
  · rw [hup]
    rfl
  · rw [hup]
    exact (Frame.nest_out _ _ _).settle

/-- A RATE goes on as it came; a right one sets the rate. -/
theorem parentRate_effect : ∃ n, exec (.parentSync t e low none check) s = .next n ∧
      n.nest = (if check = crc8 [low] ∧ low ≤ 1 then { s.nest with low := low == 1 } else s.nest) ∧
      n.out = (if (s.setNow t).upThrough then [.rate 15 e.other low check] else []) ++ s.out ∧ Frame [.nest, .out] s n := by
  have hup : (s.setNow t).upRate e low check = { s.setNow t with
      nest := if check = crc8 [low] ∧ low ≤ 1 then { s.nest with low := low == 1 } else s.nest,
      out := (if (s.setNow t).upThrough then [.rate 15 e.other low check] else []) ++ s.out } := by
    have hpass := passedOn_eq (s.setNow t) (.rate 15 e.other low check)
    unfold State.passedOn at hpass
    unfold State.upRate
    dsimp only
    rw [hpass]
    split <;> rfl
  refine ⟨_, exec_parentRate hrx hidle, ?_, ?_, ?_⟩
  · rw [hup]
    rfl
  · rw [hup]
    rfl
  · rw [hup]
    exact (Frame.nest_out _ _ _).settle

end ParentSync

/-! The sample sent (R171, R565) -/

/-- The SEQ of the node's own frames taken. -/
def State.seqTaken (s : State) : State := { s with nest := { s.nest with seqOut := (s.nest.seqOut + 1) % 256 } }

/-- The summary sent out of SERVE_PORT, where it is written and works and the rate is not LOW. -/
def State.sampleOut (s : State) (low : Nat) : State :=
  if s.nest.serveWritten ∧ s.upOn (upEnd s.nest.servePort) ∧ !s.nest.low then
    s.seqTaken.upSend (upEnd s.nest.servePort) s.nest.seqOut 0x0B (s.summaryP low)
  else s

theorem sampleOut_sends {s : State} {low : Nat} (hwritten : s.nest.serveWritten = true) (hon : s.upOn (upEnd s.nest.servePort) = true)
    (hrate : s.nest.low = false) :
    s.sampleOut low = s.seqTaken.upSend (upEnd s.nest.servePort) s.nest.seqOut 0x0B (s.summaryP low) :=
  if_pos ⟨hwritten, hon, by simp [hrate]⟩

theorem sampleOut_low {s : State} {low : Nat} (hrate : s.nest.low = true) : s.sampleOut low = s := if_neg (by simp [hrate])

/-- Sent or not, the summary leaves of the nesting record all but the ports and the SEQ. -/
theorem sampleOut_spec (s : State) (low : Nat) : (s.sampleOut low).nest.window = s.nest.window ∧ Frame [.nest, .out] s (s.sampleOut low) := by
  unfold State.sampleOut
  split
  next =>
    have hsend := Transmits.upSend s.seqTaken (upEnd s.nest.servePort) s.nest.seqOut 0x0B (s.summaryP low)
    obtain ⟨a, b, hnest⟩ := hsend.nest
    refine ⟨?_, ((Frame.nest s s.seqTaken.nest).mono (by decide)).trans hsend.frame⟩
    rw [hnest]
    rfl
  next => exact ⟨rfl, Frame.refl _ s⟩

/-- The summary sent where the line is free. -/
theorem sampleOut_free {s : State} {low : Nat} (hwritten : s.nest.serveWritten = true) (hon : s.upOn (upEnd s.nest.servePort) = true)
    (hrate : s.nest.low = false) : (s.sampleOut low).nest.seqOut = (s.nest.seqOut + 1) % 256 ∧ (s.upFree (upEnd s.nest.servePort) →
      (s.sampleOut low).out = .up (upEnd s.nest.servePort) (ringLine 0 s.upSrc 0x0B s.nest.seqOut (s.summaryP low)) true :: s.out) := by
  have hsend := Transmits.upSend s.seqTaken (upEnd s.nest.servePort) s.nest.seqOut 0x0B (s.summaryP low)
  obtain ⟨a, b, hnest⟩ := hsend.nest
  have hport : s.seqTaken.upPort (upEnd s.nest.servePort) = s.upPort (upEnd s.nest.servePort) := by cases upEnd s.nest.servePort <;> rfl
  rw [sampleOut_sends hwritten hon hrate]
  refine ⟨by rw [hnest]; rfl, fun hfree => ?_⟩
  exact upPut_free_out (hport.symm ▸ hfree.1 _) (hport.symm ▸ hfree.2)

/-- The state in which the window has closed. -/
def State.windowClosed (s : State) : State := { s with nest := { s.nest with window := none } }

theorem exec_uplinkWindowEnd {t c low : Nat} {s : State} (hwindow : s.nest.window = some (c, low)) (hdue : c + 50000 ≤ (s.setNow t).time.now) :
    exec (.uplinkWindowEnd t) s = .next (settle s ((s.setNow t).windowClosed.upDrains.sampleOut low)) := by
  change execUplinkWindowEnd t s = _
  unfold execUplinkWindowEnd
  refine at'_eq ?_
  have hw : (s.setNow t).nest.window = some (c, low) := hwindow
  rw [hw]
  exact if_pos hdue

theorem uplinkWindowEnd_effect {t c low : Nat} {s : State} (hwindow : s.nest.window = some (c, low)) (hdue : c + 50000 ≤ (s.setNow t).time.now) :
    ∃ n, exec (.uplinkWindowEnd t) s = .next n ∧ n.nest.window = none ∧ Frame [.nest, .out] s n ∧
      (s.nest.serveWritten = true → (s.setNow t).upOn (upEnd s.nest.servePort) = true → s.nest.low = false →
        n.nest.seqOut = (s.nest.seqOut + 1) % 256 ∧ ((s.setNow t).upFree (upEnd s.nest.servePort) →
          n.out = .up (upEnd s.nest.servePort) (ringLine 0 s.upSrc 0x0B s.nest.seqOut (s.summaryP low)) true :: s.out)) ∧
      (s.nest.low = true → (∀ x, ((s.setNow t).upPort x).empty) → n.out = s.out ∧ n.nest.seqOut = s.nest.seqOut) := by
  obtain ⟨w, hw⟩ : ∃ w, w = (s.setNow t).windowClosed := ⟨_, rfl⟩
  have hexec := exec_uplinkWindowEnd hwindow hdue
  rw [← hw] at hexec
  have hclosed : Frame [.nest, .out] (s.setNow t) w := hw ▸ (Frame.nest (s.setNow t) _).mono (by decide)
  have hport : ∀ x, w.upPort x = (s.setNow t).upPort x := fun x => by
    rw [hw]
    cases x <;> rfl
  have hidle : (∀ x, ((s.setNow t).upPort x).empty) → w.upDrains = w := fun hempty => upDrains_empty (fun x => (hport x).symm ▸ hempty x)
  have hdrains := Transmits.upDrains w
  obtain ⟨a, b, hnest⟩ := hdrains.nest
  have hserve : w.upDrains.nest.servePort = s.nest.servePort := by rw [hnest, hw]; rfl
  have hwritten : w.upDrains.nest.serveWritten = s.nest.serveWritten := by rw [hnest, hw]; rfl
  have hlow : w.upDrains.nest.low = s.nest.low := by rw [hnest, hw]; rfl
  have hseq : w.upDrains.nest.seqOut = s.nest.seqOut := by rw [hnest, hw]; rfl
  have hsummary : w.upDrains.summaryP low = s.summaryP low := by rw [State.summaryP, hnest, hw]; rfl
  have hsrc : w.upDrains.upSrc = s.upSrc := by rw [hdrains.upSrc, hw]; rfl
  have hon : w.upDrains.upOn (upEnd s.nest.servePort) = (s.setNow t).upOn (upEnd s.nest.servePort) := by rw [hdrains.upOn, hw]; rfl
  obtain ⟨hwindow', hframe⟩ := sampleOut_spec w.upDrains low
  refine ⟨_, hexec, ?_, ((hclosed.trans hdrains.frame).trans hframe).settle, fun hserved hworks hrate => ?_, fun hrate hempty => ?_⟩
  · rw [settle_nest, hwindow', hnest, hw]
    rfl
  · obtain ⟨hnext, hsent⟩ := sampleOut_free (low := low) (hwritten.trans hserved) (by rw [hserve, hon]; exact hworks) (hlow.trans hrate)
    rw [hseq] at hnext
    rw [hserve, hseq, hsummary, hsrc] at hsent
    refine ⟨hnext, fun hfree => ?_⟩
    have hfreeW : w.upFree (upEnd s.nest.servePort) := ⟨fun x => (hport x).symm ▸ hfree.1 x, by rw [hport, hw]; exact hfree.2⟩
    rw [settle_out, hsent (by rw [hidle hfree.1]; exact hfreeW), hidle hfree.1, hw]
    rfl
  · rw [settle_nest, settle_out, sampleOut_low (hlow.trans hrate), hseq, hidle hempty, hw]
    exact ⟨rfl, rfl⟩

/-! Loss (R206, R561, R567, R576) -/

theorem holdoverTimeout_effect {t : Nat} {s : State} (hlock : s.nest.lock = 1 ∨ s.nest.lock = 2) (hperiod : s.nest.parentPeriod ≤ 8)
    (hserve : s.nest.serveWritten = true) (hdue : s.nest.lastSync + 4 * periodNs s.nest.parentPeriod ≤ (s.setNow t).time.now) :
    ∃ n, exec (.holdoverTimeout t) s = .next n ∧ n.nest.lock = 3 ∧ n.nest.centre = none ∧ n.nest.position = s.nest.position ∧
      Frame [.nest, .log, .fifos] s n := by
  obtain ⟨hthree, hset⟩ := setLock_spec (s.setNow t) 3
  obtain ⟨u, hu⟩ : ∃ u : State, u = { (s.setNow t).setLock 3 with
    nest := { ((s.setNow t).setLock 3).nest with centre := none, realigned := none } } := ⟨_, rfl⟩
  have hlocks : Locks [.nest, .log, .fifos] (s.setNow t) u := hset.trans (hu ▸ Locks.set rfl)
  have hexec : exec (.holdoverTimeout t) s = .next (settle s u.lockConfig) := by
    rw [hu]
    exact at'_eq (if_pos ⟨hlock, hperiod, hdue⟩)
  have hserveU : u.nest.serveWritten = true := hlocks.serveWritten.trans hserve
  have hperiodU : u.nest.parentPeriod ≠ 0xFF := by
    rw [hlocks.parentPeriod]
    exact ne_of_lt (hperiod.trans_lt (by decide))
  have hconfig := hlocks.trans (Locks.lockConfig u)
  refine ⟨_, hexec, ?_, ?_, hconfig.position, hconfig.frame.settle⟩
  · rw [settle_nest, lockConfig_lock hserveU hperiodU, hu]
    exact hthree
  · rw [settle_nest, lockConfig_centre hserveU hperiodU, hu]

theorem uplinkMasterLoss_effect {t : Nat} {s : State} (hon : ((s.setNow t).upOn .a || (s.setNow t).upOn .b) = true)
    (hthere : s.nest.uplinkLost = false) (hdue : s.nest.lastParent + 2900000000 ≤ (s.setNow t).time.now) :
    ∃ n, exec (.uplinkMasterLoss t) s = .next n ∧ n.nest = { s.nest with uplinkLost := true } ∧ Frame [.nest, .log, .fifos] s n := by
  have hcond : (((s.setNow t).upOn .a || (s.setNow t).upOn .b) && !(s.setNow t).nest.uplinkLost &&
      decide ((s.setNow t).nest.lastParent + 2900000000 ≤ (s.setNow t).time.now)) = true := by
    rw [hon, setNow_nest, hthere, decide_eq_true hdue]
    rfl
  obtain ⟨u, hu⟩ : ∃ u : State, u = { s.setNow t with nest := { (s.setNow t).nest with uplinkLost := true } } := ⟨_, rfl⟩
  have hexec : exec (.uplinkMasterLoss t) s = .next (settle s (u.ev Ev.nestUplinkLost srcD [])) := by
    change execUplinkMasterLoss t s = _
    unfold execUplinkMasterLoss
    rw [hu]
    exact at'_eq (if_pos hcond)
  have hlost : Frame [.nest, .log, .fifos] (s.setNow t) u := hu ▸ (Frame.nest (s.setNow t) _).mono (by decide)
  refine ⟨_, hexec, ?_, (hlost.trans ((Logs.ev u _ _ _).frame_of_mem (by decide) (by decide))).settle⟩
  rw [settle_nest, ev_nest, hu]
  rfl

/-- A HEARTBEAT of the parent ends the loss of the master. -/
theorem heartbeat_effect {t : Nat} {r : UpReq} {s : State} (hrx : (s.setNow t).upRx (upEnd r.port) = true) (hdest : r.dest = 0xFFFF)
    (hpos : s.nest.position ≠ 0xFFFF) (hkind : r.kind = 0xA) (hlen : r.payload.length = 8) :
    ∃ n, exec (.nodeRegisterWrite t r) s = .next n ∧ n.nest.lastParent = (s.setNow t).time.now ∧ n.nest.uplinkLost = false ∧
      n.nest.position = s.nest.position ∧ Frame [.nest, .out] s n := by
  have hother : r.dest ≠ (s.setNow t).nest.position := by
    rw [hdest]
    exact hpos.symm
  obtain ⟨htransmits, hframe⟩ := upFrame_others hrx hother (by omega)
  obtain ⟨u, hu⟩ : ∃ u, u = (s.setNow t).upDrains.upForward (upEnd r.port) (ringLine r.dest r.src r.kind r.seq r.payload) true := ⟨_, rfl⟩
  rw [← hu] at htransmits hframe
  have hexec := exec_upFrame s (c := .nodeRegisterWrite t r) (.inr (.inr (.inl rfl)))
  have hall : (s.setNow t).upToGroup r.dest = true := by rw [State.upToGroup, hdest]; rfl
  rw [hframe, hall, if_pos rfl, State.upGroup, if_neg (by omega), if_pos ⟨hkind, hlen⟩] at hexec
  refine ⟨_, hexec, ?_, rfl, ?_, ?_⟩
  · exact congrArg TimeU.now htransmits.time
  · exact htransmits.position
  · exact (htransmits.frame.trans ((Frame.nest u _).mono (by decide))).settle

/-- A child's state set, with its record where it was another one. -/
theorem kidState_spec (s : State) (c r p st : Nat) : (s.kidState c r p st).kid c = { s.kid c with st := st } ∧
    (∀ k, k ≠ c → (s.kidState c r p st).kid k = s.kid k) ∧ Frame [.nest, .log, .fifos] s (s.kidState c r p st) := by
  unfold State.kidState
  dsimp only
  split
  next h => exact ⟨by rw [← h], fun _ _ => rfl, Frame.refl _ _⟩
  next =>
    obtain ⟨u, hu⟩ : ∃ u, u = s.setKid c { s.kid c with st := st } := ⟨_, rfl⟩
    have hset : Frame [.nest, .log, .fifos] s u := hu ▸ (Frame.nest s _).mono (by decide)
    have hkid : ∀ k, (u.ev Ev.nestChildState (srcN r p) [p1 (s.kid c).st, p1 st]).kid k = u.kid k := fun k => by
      rw [State.kid, ev_nest, State.kid]
    rw [← hu]
    refine ⟨?_, fun k hk => ?_, hset.trans ((Logs.ev u _ _ _).frame_of_mem (by decide) (by decide))⟩
    · rw [hkid, hu]
      exact kget_kset_same _ _ _ _
    · rw [hkid, hu]
      exact kget_kset_other _ _ _ _ _ hk

theorem childLost_effect {t ring pos c : Nat} {s : State} (hc : s.cfg.groups.findIdx? (· == (ring, pos)) = some c)
    (hage : secTicks 2 ≤ (s.kid c).age) (hst : (s.kid c).st ≠ 4) :
    ∃ n, exec (.childLost t ring pos) s = .next n ∧ n.kid c = { s.kid c with st := 3 } ∧ (∀ k, k ≠ c → n.kid k = s.kid k) ∧
      Frame [.nest, .log, .fifos] s n := by
  obtain ⟨hkid, hothers, hframe⟩ := kidState_spec (s.setNow t) c ring pos 3
  have hexec : exec (.childLost t ring pos) s = .next (settle s ((s.setNow t).kidState c ring pos 3)) := by
    change execChildLost t ring pos s = _
    unfold execChildLost
    refine at'_eq ?_
    have hfound : (s.setNow t).cfg.groups.findIdx? (· == (ring, pos)) = some c := hc
    rw [hfound]
    exact if_pos ⟨hage, hst⟩
  exact ⟨_, hexec, hkid, hothers, hframe.settle⟩

/-- Settles O53: each set and each loss of the parent by the rule of its command. -/
theorem groupNodeFollows : Obligations.GroupNodeFollows := by
  unfold Obligations.GroupNodeFollows
  intro t s
  refine ⟨fun e low hop check hrx hidle => ⟨fun hcheck hhop hnew => ?_, fun hwrong => parentSync_wrong hrx hidle hwrong⟩,
    fun e code check hrx hidle => parentRate_effect hrx hidle, fun c low hwindow hdue => uplinkWindowEnd_effect hwindow hdue,
    fun hlock hperiod hserve hdue => holdoverTimeout_effect hlock hperiod hserve hdue,
    fun hon hthere hdue => uplinkMasterLoss_effect hon hthere hdue,
    fun r hrx hdest hpos hkind hlen => heartbeat_effect hrx hdest hpos hkind hlen,
    fun ring pos c hc hage hst => childLost_effect hc hage hst⟩
  have hright := parentSync_right hrx hidle hcheck hhop hnew
  rw [windowAt_eq] at hright
  exact hright

end Sys2Proof.Machine

namespace Sys2Proof.Machine

/-! ### Requests alone (R203, R208) -/

/-- The ports' views of positions differ, and what a frame that leaves reaches; nothing else. -/
def Asks (s n : State) : Prop := ∃ x, Sends { s with ch := { s.ch with ports := x } } n

theorem Asks.of_sends {s n : State} (h : Sends s n) : Asks s n := ⟨s.ch.ports, h⟩

theorem Asks.refl (s : State) : Asks s s := Asks.of_sends (Sends.refl s)

theorem Asks.trans {s t n : State} (h : Asks s t) (k : Asks t n) : Asks s n := by
  obtain ⟨_, _, _, _, _, _, _, rfl⟩ := h
  obtain ⟨x, p, o, g, fs, qa, qb, rfl⟩ := k
  exact ⟨x, p, o, g, fs, qa, qb, rfl⟩

theorem Asks.setPort (s : State) (r : Nat) (e : Leaf) (p : Nat) (x : PortPos) : Asks s (s.setPort r e p x) := ⟨_, Sends.refl _⟩

theorem Asks.pump (s : State) (r : Nat) (e : Leaf) (p : Nat) : Asks s (s.pump r e p) := by
  unfold State.pump
  dsimp only
  split
  · exact Asks.refl s
  split
  · exact Asks.refl s
  · exact (Asks.setPort s r e p _).trans (Asks.of_sends (Sends.sendFrame _ _ _ _ _ _ _ _))

theorem Asks.request' (s : State) (r : Nat) (e : Leaf) (p : Nat) (x : Req) : Asks s (s.request' r e p x) := by
  unfold State.request'
  split
  · exact Asks.refl s
  · exact (Asks.setPort s r e p _).trans (Asks.pump _ r e p)

theorem Asks.popReq (s : State) (r : Nat) (e : Leaf) (p : Nat) : Asks s (s.popReq r e p) := (Asks.setPort s r e p _).trans (Asks.pump _ r e p)

section
variable {s n : State} (h : Asks s n)
include h

theorem Asks.nodes : n.ch.nodes = s.ch.nodes := by obtain ⟨_, h⟩ := h; have := congrArg Chains.nodes h.ch; exact this
theorem Asks.rings : n.ch.rings = s.ch.rings := by obtain ⟨_, h⟩ := h; have := congrArg Chains.rings h.ch; exact this
theorem Asks.alarms : n.ch.alarms = s.ch.alarms := by obtain ⟨_, h⟩ := h; have := congrArg Chains.alarms h.ch; exact this
theorem Asks.time : n.time = s.time := by obtain ⟨_, h⟩ := h; exact h.time
theorem Asks.ring (r : Nat) : n.ring r = s.ring r := congrArg (fun m => kget ({} : Ring) m r) h.rings
theorem Asks.node (r p : Nat) : n.node r p = s.node r p := congrArg (fun m => kget ({} : Node) m (srcN r p)) h.nodes

theorem Asks.frame : Frame ringParts s n := by
  obtain ⟨_, h⟩ := h
  exact ((Frame.ch s _).mono (by decide)).trans (h.frame.mono (by decide))

end

/-! ### What work on the rings leaves -/

/-- A view `f` of every ring's record, a view `g` of every node's record, and the alarms are the same before and after. -/
structure Keeps (f : Ring → Ring) (g : Node → Node) (s n : State) : Prop where
  ring : ∀ r, f (n.ring r) = f (s.ring r)
  node : ∀ k, g (kget {} n.ch.nodes k) = g (kget {} s.ch.nodes k)
  alarms : n.ch.alarms = s.ch.alarms

section
variable {f : Ring → Ring} {g : Node → Node}

theorem Keeps.refl (s : State) : Keeps f g s s := ⟨fun _ => rfl, fun _ => rfl, rfl⟩

theorem Keeps.trans {s t n : State} (h : Keeps f g s t) (k : Keeps f g t n) : Keeps f g s n :=
  ⟨fun r => (k.ring r).trans (h.ring r), fun i => (k.node i).trans (h.node i), k.alarms.trans h.alarms⟩

theorem Keeps.of_ch {s n : State} (h : n.ch = s.ch) : Keeps f g s n := by
  refine ⟨fun r => by rw [ring_of_ch h], fun k => by rw [h], by rw [h]⟩

theorem Keeps.of_asks {s n : State} (h : Asks s n) : Keeps f g s n :=
  ⟨fun r => by rw [h.ring], fun k => by rw [h.nodes], h.alarms⟩

theorem Keeps.setRing (s : State) (r : Nat) (x : Ring) (h : f x = f (s.ring r)) : Keeps f g s (s.setRing r x) := by
  refine ⟨fun q => ?_, fun _ => rfl, rfl⟩
  by_cases hq : q = r
  · rw [hq, ring_setRing_same, h]
  · exact congrArg f (kget_kset_other _ _ _ _ _ hq)

theorem Keeps.setNode (s : State) (r p : Nat) (x : Node) (h : g x = g (s.node r p)) : Keeps f g s (s.setNode r p x) := by
  refine ⟨fun _ => rfl, fun k => ?_, rfl⟩
  by_cases hk : k = srcN r p
  · rw [hk]
    exact (congrArg g (kget_kset_same _ _ _ _)).trans h
  · exact congrArg g (kget_kset_other _ _ _ _ _ hk)

theorem Keeps.each {α : Type} {u : α → State → State} (h : ∀ x s, Keeps f g s (u x s)) (l : List α) (s : State) : Keeps f g s (s.each l u) := by
  induction l generalizing s with
  | nil => exact Keeps.refl s
  | cons x r ih => exact (h x s).trans (ih (u x s))

end

/-- The queue of a position keeps its outstanding request, and the request of a sample if it holds one. -/
structure PortPos.Holds (x y : PortPos) : Prop where
  head : ∀ h rest, x.q = h :: rest → h.sent = true → ∃ rest', y.q = h :: rest'
  sample : (∃ z ∈ x.q, reqSample.asks z) → ∃ z ∈ y.q, reqSample.asks z

theorem PortPos.Holds.refl (x : PortPos) : x.Holds x := ⟨fun _ rest h _ => ⟨rest, h⟩, id⟩

theorem PortPos.Holds.trans {x y z : PortPos} (h : x.Holds y) (k : y.Holds z) : x.Holds z :=
  ⟨fun a rest ha hs => (h.head a rest ha hs).elim (fun rest' hy => k.head a rest' hy hs), k.sample ∘ h.sample⟩

theorem PortPos.Holds.of_q {x y : PortPos} (h : y.q = x.q) : x.Holds y := ⟨fun _ rest hx _ => ⟨rest, h.trans hx⟩, fun hx => h ▸ hx⟩

theorem mem_insReq_of_mem {x z : Req} {q : List Req} (h : z ∈ q) : z ∈ insReq x q := by
  induction q with
  | nil => exact absurd h List.not_mem_nil
  | cons y r ih =>
    unfold insReq
    split
    · obtain rfl | hr := List.mem_cons.mp h
      · exact List.mem_cons_self
      · exact List.mem_cons_of_mem y (ih hr)
    · exact List.mem_cons_of_mem x h

/-- A request that joins a queue takes the place of none. -/
theorem PortPos.Holds.join (x : PortPos) (y : Req) : x.Holds { x with q := joinReq y x.q } := by
  refine ⟨fun h rest hq hs => ⟨insReq y rest, by simp [joinReq, hq, hs]⟩, fun ⟨z, hz, hasks⟩ => ⟨z, ?_, hasks⟩⟩
  obtain ⟨c, q⟩ := x
  cases q with
  | nil => exact absurd hz List.not_mem_nil
  | cons a rest =>
    simp only [joinReq]
    split
    · obtain rfl | hr := List.mem_cons.mp hz
      · exact List.mem_cons_self
      · exact List.mem_cons_of_mem a (mem_insReq_of_mem hr)
    · exact mem_insReq_of_mem hz

/-- Requests that are dropped leave those that a predicate keeps. -/
theorem PortPos.Holds.filter (x : PortPos) {keep : Req → Bool} (h : ∀ z : Req, z.sent = true ∨ z.purpose = .sample → keep z = true) :
    x.Holds { x with q := x.q.filter keep } := by
  refine ⟨fun a rest hq hs => ⟨rest.filter keep, ?_⟩, fun ⟨z, hz, hasks⟩ => ⟨z, ?_, hasks⟩⟩
  · exact (congrArg (List.filter keep) hq).trans (List.filter_cons_of_pos (h a (.inl hs)))
  · exact List.mem_filter.mpr ⟨hz, h z (.inr hasks.1)⟩

/-- Work on the rings: of the state nothing but the rings, Pick, the log and what was put out differs, of the rings what their views
leave out, and no queue loses its outstanding request or a sample's. -/
structure Works (f : Ring → Ring) (g : Node → Node) (s n : State) : Prop where
  only : ∃ c p o, Logs { s with ch := c, pick := p, out := o } n
  keeps : Keeps f g s n
  port : ∀ k, (kget ({} : PortPos) s.ch.ports k).Holds (kget {} n.ch.ports k)

section
variable {f : Ring → Ring} {g : Node → Node}

theorem Works.of_sends {s n : State} (h : Sends s n) : Works f g s n := by
  refine ⟨?_, Keeps.of_ch h.ch, fun k => by rw [h.ch]; exact PortPos.Holds.refl _⟩
  obtain ⟨p, o, h⟩ := h
  exact ⟨s.ch, p, o, h⟩

theorem Works.of_logs {s n : State} (h : Logs s n) : Works f g s n := Works.of_sends (Sends.of_logs h)

theorem Works.refl (s : State) : Works f g s s := Works.of_logs (Logs.refl s)

theorem Works.trans {s t n : State} (h : Works f g s t) (k : Works f g t n) : Works f g s n := by
  refine ⟨?_, h.keeps.trans k.keeps, fun i => (h.port i).trans (k.port i)⟩
  obtain ⟨_, _, _, _, _, _, _, rfl⟩ := h.only
  obtain ⟨c, p, o, w, fs, qa, qb, rfl⟩ := k.only
  exact ⟨c, p, o, w, fs, qa, qb, rfl⟩

theorem Works.each {α : Type} {u : α → State → State} (h : ∀ x s, Works f g s (u x s)) (l : List α) (s : State) : Works f g s (s.each l u) := by
  induction l generalizing s with
  | nil => exact Works.refl s
  | cons x r ih => exact (h x s).trans (ih (u x s))

theorem Works.ite {s t n : State} (c : Prop) [Decidable c] (h : Works f g s t) (k : Works f g s n) : Works f g s (if c then t else n) := by
  split
  · exact h
  · exact k

theorem Works.setRing (s : State) (r : Nat) (x : Ring) (h : f x = f (s.ring r)) : Works f g s (s.setRing r x) :=
  ⟨⟨_, s.pick, s.out, Logs.refl _⟩, Keeps.setRing s r x h, fun _ => PortPos.Holds.refl _⟩

theorem Works.modRing (s : State) (r : Nat) (u : Ring → Ring) (h : ∀ x, f (u x) = f x) : Works f g s (s.modRing r u) := Works.setRing s r _ (h _)

theorem Works.setNode (s : State) (r p : Nat) (x : Node) (h : g x = g (s.node r p)) : Works f g s (s.setNode r p x) :=
  ⟨⟨_, s.pick, s.out, Logs.refl _⟩, Keeps.setNode s r p x h, fun _ => PortPos.Holds.refl _⟩

theorem Works.modNode (s : State) (r p : Nat) (u : Node → Node) (h : ∀ x, g (u x) = g x) : Works f g s (s.modNode r p u) :=
  Works.setNode s r p _ (h _)

theorem Works.setPort {s : State} {r p : Nat} {e : Leaf} {x : PortPos} (h : (s.port r e p).Holds x) : Works f g s (s.setPort r e p x) := by
  refine ⟨⟨_, s.pick, s.out, Logs.refl _⟩, Keeps.of_asks (Asks.setPort s r e p x), fun k => ?_⟩
  by_cases hk : k = portKey r e p
  · rw [hk]
    exact (kget_kset_same ({} : PortPos) s.ch.ports (portKey r e p) x).symm ▸ h
  · exact (kget_kset_other ({} : PortPos) s.ch.ports (portKey r e p) k x hk).symm ▸ PortPos.Holds.refl _

theorem Works.pump (s : State) (r : Nat) (e : Leaf) (p : Nat) : Works f g s (s.pump r e p) := by
  unfold State.pump
  dsimp only
  split
  · exact Works.refl s
  next hd rest hq =>
    split
    · exact Works.refl s
    next hsent =>
      refine Works.trans (Works.setPort ⟨fun h r' hx hs => ?_, fun ⟨z, hz, hasks⟩ => ?_⟩) (Works.of_sends (Sends.sendFrame _ _ _ _ _ _ _ _))
      · rw [hq] at hx
        exact absurd ((List.cons.inj hx).1 ▸ hs) hsent
      · obtain rfl | hr := List.mem_cons.mp (hq ▸ hz)
        · exact ⟨_, List.mem_cons_self, hasks⟩
        · exact ⟨z, List.mem_cons_of_mem _ hr, hasks⟩

theorem Works.request' (s : State) (r : Nat) (e : Leaf) (p : Nat) (x : Req) : Works f g s (s.request' r e p x) := by
  unfold State.request'
  split
  · exact Works.refl s
  · exact (Works.setPort (PortPos.Holds.join _ x)).trans (Works.pump _ r e p)

theorem Works.dropReqs (s : State) (r p : Nat) {keep : Req → Bool} (h : ∀ z : Req, z.sent = true ∨ z.purpose = .sample → keep z = true) :
    Works f g s (s.dropReqs r p keep) := (Works.setPort (PortPos.Holds.filter _ h)).trans (Works.setPort (PortPos.Holds.filter _ h))

theorem Works.mono {f' : Ring → Ring} {g' : Node → Node} {s n : State} (h : Works f g s n) (hf : ∀ x y, f x = f y → f' x = f' y)
    (hg : ∀ x y, g x = g y → g' x = g' y) : Works f' g' s n :=
  ⟨h.only, ⟨fun r => hf _ _ (h.keeps.ring r), fun k => hg _ _ (h.keeps.node k), h.keeps.alarms⟩, h.port⟩

variable {s n : State} (h : Works f g s n)
include h

theorem Works.ring (r : Nat) : f (n.ring r) = f (s.ring r) := h.keeps.ring r
theorem Works.node (r p : Nat) : g (n.node r p) = g (s.node r p) := h.keeps.node _
theorem Works.time : n.time = s.time := by obtain ⟨_, _, _, h⟩ := h.only; exact h.time
theorem Works.sw : n.sw = s.sw := by obtain ⟨_, _, _, h⟩ := h.only; exact h.sw
theorem Works.cfg : n.cfg = s.cfg := by obtain ⟨_, _, _, h⟩ := h.only; exact h.cfg
theorem Works.links : n.links = s.links := by obtain ⟨_, _, _, h⟩ := h.only; exact h.links

theorem Works.portOn (e : Leaf) : n.portOn e = s.portOn e := by
  obtain ⟨_, _, _, _, _, _, _, rfl⟩ := h.only
  cases e <;> rfl

theorem Works.frame : Frame ringParts s n := by
  obtain ⟨c, p, o, hlogs⟩ := h.only
  refine Frame.trans ?_ (hlogs.frame_of_mem (by decide) (by decide))
  rintro ⟨⟩ hp <;> simp [Part.same] at hp ⊢

/-- The outstanding request of a position stays outstanding. -/
theorem Works.head {r p : Nat} {e : Leaf} {x : Req} (hx : s.head r e p = some x) : n.head r e p = some x := by
  have hport := h.port (portKey r e p)
  unfold State.head at hx ⊢
  split at hx
  next hd rest hq =>
    obtain ⟨hsent, hhd⟩ := Option.ite_none_right_eq_some.mp hx
    obtain rfl := Option.some.inj hhd
    obtain ⟨rest', hq'⟩ := hport.head hd rest hq hsent
    have hq'' : (n.port r e p).q = hd :: rest' := hq'
    rw [hq'']
    exact if_pos hsent
  next => cases hx

end

end Sys2Proof.Machine

namespace Sys2Proof.Machine

/-! ### Configuration, split and calibration of a ring (R195 to R201, R222 to R227) -/

/-- The counters of a ring, its answer windows, and the marks that its SYNCs and re-requests set in a sweep. -/
def Ring.counts (x : Ring) : Ring :=
  { stray := x.stray, late := x.late, retries := x.retries, noAns := x.noAns, bcast := x.bcast, openA := x.openA, openB := x.openB
    rrA := x.rrA, rrB := x.rrB, missA := x.missA, missB := x.missB }

/-- What a node has answered, and what it has not. -/
def Node.answers (x : Node) : Node :=
  { known := x.known, ansA := x.ansA, ansB := x.ansB, deafA := x.deafA, deafB := x.deafB, lastNack := x.lastNack, noAnswers := x.noAnswers }

/-- That, and whether the node is quarantined. -/
def Node.standing (x : Node) : Node := { x.answers with quar := x.quar }

theorem Node.answers_of_standing {x y : Node} (h : x.standing = y.standing) : x.answers = y.answers :=
  (congrArg Node.answers h :)

theorem Node.standing_ite (c : Prop) [Decidable c] {x y : Node} (h : x.standing = y.standing) : (if c then x else y).standing = y.standing := by
  split
  · exact h
  · rfl

section
variable {f : Ring → Ring}

theorem Works.markServe (s : State) (r : Nat) : Works f Node.standing s (s.markServe r) :=
  Works.each (fun p s => Works.modNode s r p _ fun _ => Node.standing_ite _ (by rfl)) _ s

theorem Works.serveWrites (s : State) (r : Nat) : Works f Node.standing s (s.serveWrites r) :=
  Works.each (fun p s => Works.ite _ (Works.request' s r _ p _) (Works.refl s)) _ s

theorem Works.planNext (s : State) (r p : Nat) : Works f Node.standing s (s.planNext r p) := by
  unfold State.planNext
  split
  · exact Works.refl s
  · exact Works.request' s r _ p _

theorem Works.startPlan (s : State) (r p kind : Nat) (plan : List (Nat × List Byte)) : Works f Node.standing s (s.startPlan r p kind plan) := by
  unfold State.startPlan
  refine Works.ite _ (Works.refl s) ?_
  obtain ⟨u, hu⟩ : ∃ u, u = s.dropReqs r p (fun x => x.purpose != .cfgW && x.purpose != .cfgR || x.sent) := ⟨_, rfl⟩
  have hdrop : Works f Node.standing s u := by
    rw [hu]
    refine Works.dropReqs s r p fun z hz => ?_
    obtain hsent | hsample := hz
    · simp [hsent]
    · simp [hsample]
  have hset := hdrop.trans (Works.setNode (f := f) u r p
    { s.node r p with plan := plan, planKind := kind, cfg := if kind = 3 then (s.node r p).cfg else 1 } (hdrop.node r p).symm)
  dsimp only
  rw [← hu]
  exact Works.ite _ hset (hset.trans (Works.planNext _ r p))

theorem Works.configNode (s : State) (r p kind : Nat) (offs : Option (Nat × Nat)) : Works f Node.standing s (s.configNode r p kind offs) :=
  Works.startPlan s r p kind _

theorem Works.configRing (s : State) (r : Nat) (offs : Nat → Option (Nat × Nat)) : Works f Node.standing s (s.configRing r offs) :=
  Works.each (fun p s => Works.ite _ (Works.configNode s r p 1 _) (Works.refl s)) _ s

theorem Works.newOffs (s : State) (r p : Nat) (o : Nat × Nat) : Works f Node.standing s (s.newOffs r p o) := by
  unfold State.newOffs
  exact Works.ite _ (Works.refl s) (Works.ite _ (Works.startPlan s r p 3 _) (Works.setNode s r p _ rfl))

theorem Works.calReads (s : State) (r : Nat) : Works f Node.standing s (s.calReads r) := by
  unfold State.calReads
  refine Works.each (fun p s => ?_) _ s
  dsimp only
  refine Works.ite _ (Works.refl s) (Works.trans ?_ (Works.request' _ r _ p _))
  have hmark := Works.modNode (f := f) (g := Node.standing) s r p (fun n => { n with gotSkew := false, gotFwd := false }) fun _ => rfl
  exact Works.ite _ hmark (hmark.trans (Works.request' _ r _ p _))

theorem calReads_ring (s : State) (r q : Nat) : (s.calReads r).ring q = s.ring q := (Works.calReads (f := id) s r).ring q

/-- After reads that need no round (R198, R230): the round is over, and the nodes are configured. -/
theorem calFinish_survey {s : State} {r : Nat} (h : (s.ring r).cal = 4 ∨ (s.ring r).cal = 10) :
    Works f Node.standing (s.modRing r (fun x => { x with cal := 0, calState := if s.storedOk r then 2 else 3 })) (s.calFinish r) := by
  unfold State.calFinish
  dsimp only
  rw [if_pos h]
  exact (Works.of_logs (Logs.ev _ _ _ _)).trans (Works.configRing _ r _)

end

/-- Work on the rings under the views of their counters and of what the nodes have answered and whether they are quarantined. -/
abbrev RingWork := Works Ring.counts Node.standing

theorem RingWork.calFinish_survey {s : State} {r : Nat} (h : (s.ring r).cal = 4 ∨ (s.ring r).cal = 10) : RingWork s (s.calFinish r) :=
  (Works.modRing s r _ fun _ => by rfl).trans (Machine.calFinish_survey h)

/-- Before the reads of a round the calibration moves on within the rings. -/
theorem RingWork.calCheck {s : State} {r : Nat} (hstart : (s.ring r).cal ≠ 3) (hback : (s.ring r).cal ≠ 7) : RingWork s (s.calCheck r) := by
  unfold State.calCheck
  dsimp only
  refine Works.ite _ (Works.refl s) (Works.ite _ (Works.modRing s r _ fun _ => by rfl) (Works.ite _ (Works.modRing s r _ fun _ => by rfl) ?_))
  split
  · obtain ⟨u, hu⟩ : ∃ u, u = (s.modRing r (fun x => { x with cal := 10 })).calReads r := ⟨_, rfl⟩
    have hcal : (u.ring r).cal = 10 := by rw [hu, calReads_ring, ring_modRing_same]
    have hu' : RingWork s u := hu ▸ (Works.modRing s r _ fun _ => by rfl).trans (Works.calReads _ r)
    rw [← hu]
    exact Works.ite _ hu' (hu'.trans (RingWork.calFinish_survey (.inr hcal)))
  · split
    next hcal => exact RingWork.calFinish_survey (by omega)
    next => exact Works.refl s

theorem RingWork.splitMove (s : State) (r : Nat) : RingWork s (s.splitMove r) := by
  unfold State.splitMove
  refine Works.trans (Works.ite _ (Works.refl s) ?_) (Works.serveWrites _ r)
  exact ((Works.setRing s r _ (by rfl)).trans (Works.of_logs (Logs.ev _ _ _ _))).trans (Works.markServe _ r)

theorem RingWork.splitLate (s : State) (r : Nat) : RingWork s (s.splitLate r) := Works.ite _ (Works.refl s) (RingWork.splitMove s r)

theorem RingWork.reSplit (s : State) (r aLast bFirst : Nat) : RingWork s (s.reSplit r aLast bFirst) := by
  have hmove : ∀ x, x.counts = (s.ring r).counts → RingWork s (((s.setRing r x).markServe r).splitLate r) := fun x hx =>
    ((Works.setRing s r x hx).trans (Works.markServe _ r)).trans (RingWork.splitLate _ r)
  unfold State.reSplit
  dsimp only
  split
  · exact Works.ite _ (Works.refl s) (hmove _ rfl)
  · exact Works.ite _ (Works.refl s) (hmove _ rfl)
  · exact Works.refl s

theorem RingWork.grow (s : State) (r p : Nat) : RingWork s (s.grow r p) := Works.ite _ (RingWork.reSplit s r _ _) (Works.refl s)

theorem RingWork.breakRing (s : State) (r aLast bFirst : Nat) : RingWork s (s.breakRing r aLast bFirst) := by
  obtain ⟨u, hu⟩ : ∃ u, u = s.each (s.cfg.positions r) (fun p s => s.modNode r p (fun n => n.beyond p aLast bFirst)) := ⟨_, rfl⟩
  have hbeyond : Works id Node.standing s u := hu ▸ Works.each (fun p s => Works.modNode s r p _ fun _ => by rfl) _ s
  have hring : u.ring r = s.ring r := hbeyond.ring r
  have hcheck : ∀ t : State, RingWork t (t.when ((t.ring r).cal == 9) (fun s => s.calCheck r)) := fun t => by
    unfold State.when
    split
    next h => exact RingWork.calCheck (by simp_all) (by simp_all)
    next => exact Works.refl t
  unfold State.breakRing
  dsimp only
  rw [← hu]
  refine Works.trans (Works.trans ?_ (hcheck _)) (RingWork.splitLate _ r)
  refine Works.trans ?_ (Works.markServe _ r)
  refine Works.trans (t := u.setRing r _) ?_ (Works.ite _ (Works.refl _) (Works.of_logs (Logs.ev _ _ _ _)))
  exact (hbeyond.mono (fun _ _ h => congrArg Ring.counts h) (fun _ _ h => h)).trans (Works.setRing u r _ (by rw [hring]; rfl))

theorem RingWork.settleBreak (s : State) (r : Nat) (final : Bool) : RingWork s (s.settleBreak r final) := by
  unfold State.settleBreak
  exact Works.ite _ (RingWork.breakRing s r _ _) (Works.refl s)

end Sys2Proof.Machine

namespace Sys2Proof.Machine

/-! ### What a fence leaves of the rings (R224, R546 to R551) -/

theorem foldl_ch {α : Type} {f : State → α → State} (h : ∀ s x, (f s x).ch = s.ch) (l : List α) (s : State) : (l.foldl f s).ch = s.ch := by
  induction l generalizing s with
  | nil => rfl
  | cons x r ih => exact (ih (f s x)).trans (h s x)

theorem ite_ch {s t n : State} (c : Prop) [Decidable c] (h : t.ch = s.ch) (k : n.ch = s.ch) : (if c then t else n).ch = s.ch := by
  split
  · exact h
  · exact k

/-- One more operation that leaves the rings, where a condition holds. -/
theorem step_ch {s t : State} {f : State → State} (c : Prop) [Decidable c] (h : t.ch = s.ch) (hf : ∀ t, (f t).ch = t.ch) :
    (if c then f t else t).ch = s.ch := ite_ch c ((hf t).trans h) h

theorem answerOpt_ch (s : State) (w : Option (Nat × Nat)) (status : Nat) (body : List Byte) : (s.answerOpt w status body).ch = s.ch := by
  cases w with
  | none => rfl
  | some x => exact answer_ch s _ _ _ _

theorem withdraw_ch (s : State) (k : Nat) : (s.withdraw k).ch = s.ch :=
  foldl_ch (fun s l => ite_ch _ (modLeaf_ch s l _) rfl) _ s

theorem stageAbandon_ch (s : State) (k : Nat) : (s.stageAbandon k).ch = s.ch := by
  unfold State.stageAbandon
  refine ite_ch _ ((evA_ch _ _ _ _).trans ?_) rfl
  exact (answerOpt_ch _ _ _ _).trans (ite_ch _ (withdraw_ch s _) rfl)

theorem applyAbandon_ch (s : State) (k : Nat) : (s.applyAbandon k).ch = s.ch := ite_ch _ (evA_ch _ _ _ _) rfl

theorem pickDisarm_ch (s : State) (cause : Nat) : (s.pickDisarm cause).ch = s.ch :=
  ite_ch _ rfl ((evA_ch _ _ _ _).trans (Sends.release s (s.pick.held.filterMap (·.tx))).ch)

theorem unsubscribe_ch (s : State) (k : Nat) : (s.unsubscribe k).ch = s.ch := by
  unfold State.unsubscribe
  exact foldl_ch (fun s n => setFifo_ch s n _) _ s

theorem closeSession_ch (s : State) (k cause : Nat) : (s.closeSession k cause).ch = s.ch := by
  unfold State.closeSession
  refine ite_ch _ rfl ?_
  refine step_ch (f := fun t => t.freeMarks k) _ ?_ fun _ => rfl
  refine step_ch (f := State.armEnd) _ ?_ fun _ => rfl
  refine step_ch (f := fun t => t.pickDisarm 6) _ ?_ fun t => pickDisarm_ch t 6
  refine step_ch (f := fun t => t.stageAbandon 0) _ ?_ fun t => stageAbandon_ch t 0
  exact (evA_ch _ _ _ _).trans (unsubscribe_ch _ k)

theorem closeAll_ch (s : State) (cause : Nat) : (s.closeAll cause).ch = s.ch := foldl_ch (fun s k => closeSession_ch s k cause) _ s

theorem knuckleCancel_ch (s : State) : s.knuckleCancel.ch = s.ch := (answerOpt_ch _ _ _ _).trans (answerOpt_ch s _ _ _)

theorem enterSafe_ch (s : State) : s.enterSafe.ch = s.ch := ite_ch _ rfl ((pickDisarm_ch _ 8).trans (closeAll_ch s Cc.safe))

theorem survivor_ch (s : State) (l : Leaf) : (s.survivor l).ch = s.ch :=
  ite_ch _ (setLeaf_ch s l.other _) (ite_ch _ (setLeaf_ch s l.other _) rfl)

theorem nextBlocks_ch (s : State) : s.nextBlocks.ch = s.ch := by
  unfold State.nextBlocks
  exact foldl_ch (fun s k => modSess_ch s k _) _ s

theorem fifosOver_ch (s : State) : s.fifosOver.ch = s.ch := by
  unfold State.fifosOver
  refine foldl_ch (fun s e => ?_) _ s
  exact (draw_ch _).trans (setFifo_ch s e.1 _)

theorem failover_ch (s : State) (l : Leaf) : (s.failover l).ch = s.ch := by
  refine ite_ch _ ((evA_ch _ _ _ _).trans ?_) (survivor_ch s l)
  exact (fifosOver_ch _).trans ((nextBlocks_ch _).trans (survivor_ch s l))

theorem rejoinFail_ch (s : State) (l : Leaf) : (s.rejoinFail l).ch = s.ch := (evAon_ch _ _ _ _).trans (setLeaf_ch s l _)

/-- A record keeps its value under a map that changes no record's view. -/
theorem kget_map {α β : Type} (g : α → β) (u : Nat × α → α) (d : α) (h : ∀ e, g (u e) = g e.2) (m : KMap α) (k : Nat) :
    g (kget d (m.map fun e => (e.1, u e)) k) = g (kget d m k) := by
  induction m with
  | nil => rfl
  | cons e r ih =>
    by_cases he : e.1 = k
    · simp [kget, he, h]
    · simpa [kget, he] using ih

/-- Every ring and node keeps what no fence of an end changes, and the alarms stay. -/
structure Silences (s n : State) : Prop where
  ring : ∀ P : Ring → Prop, (∀ x l c, P x → P (x.fenceEnd l c)) → ∀ r, P (s.ring r) → P (n.ring r)
  node : ∀ k, (kget {} n.ch.nodes k).standing = (kget {} s.ch.nodes k).standing
  alarms : n.ch.alarms = s.ch.alarms

theorem Silences.of_ch {s n : State} (h : n.ch = s.ch) : Silences s n :=
  ⟨fun _ _ r hr => ring_of_ch h r ▸ hr, fun _ => by rw [h], by rw [h]⟩

theorem Silences.refl (s : State) : Silences s s := Silences.of_ch rfl

theorem Silences.trans {s t n : State} (h : Silences s t) (k : Silences t n) : Silences s n :=
  ⟨fun P hP r hr => k.ring P hP r (h.ring P hP r hr), fun i => (k.node i).trans (h.node i), k.alarms.trans h.alarms⟩

theorem Silences.ite {s t n : State} (c : Prop) [Decidable c] (h : Silences s t) (k : Silences s n) : Silences s (if c then t else n) := by
  split
  · exact h
  · exact k

theorem Silences.foldl {α : Type} {f : State → α → State} (h : ∀ s x, Silences s (f s x)) (l : List α) (s : State) : Silences s (l.foldl f s) := by
  induction l generalizing s with
  | nil => exact Silences.refl s
  | cons x r ih => exact (h s x).trans (ih (f s x))

theorem Silences.fenceNodes (s : State) (l : Leaf) (r : Nat) : Silences s (s.fenceNodes l r) := by
  unfold State.fenceNodes
  split
  · refine ⟨fun _ _ _ hr => hr, fun k => ?_, rfl⟩
    have hmap : (fun e : Nat × Node => if e.1 / 64 = r then (e.1, e.2.fenceSee l) else e) =
        fun e => (e.1, if e.1 / 64 = r then e.2.fenceSee l else e.2) := by
      funext e
      split <;> rfl
    rw [hmap]
    exact kget_map Node.standing _ {} (fun e => Node.standing_ite _ (by cases l <;> rfl)) s.ch.nodes k
  · exact Silences.refl s

theorem Silences.fenceRing (s : State) (l : Leaf) (r c : Nat) : Silences s (s.modRing r (fun x => x.fenceEnd l c)) := by
  refine ⟨fun P hP q hq => ?_, fun _ => rfl, rfl⟩
  by_cases h : q = r
  · rw [h, ring_modRing_same]
    exact hP _ l c (h ▸ hq)
  · have hkept : (s.modRing r (fun x => x.fenceEnd l c)).ring q = s.ring q := kget_kset_other _ _ _ _ _ h
    exact hkept ▸ hq

theorem Silences.fenceRings (s : State) (l : Leaf) : Silences s (s.fenceRings l) :=
  Silences.foldl (fun s r => (Silences.fenceNodes s l r).trans (Silences.fenceRing _ l r _)) _ s

theorem Silences.fence (s : State) (l : Leaf) (cause : Nat) : Silences s (s.fence l cause) := by
  unfold State.fence
  refine Silences.ite _ (Silences.refl s) (Silences.ite _ (Silences.of_ch (rejoinFail_ch s l)) ?_)
  obtain ⟨m, hm⟩ : ∃ m : State, m = ((s.modLeaf l (fun x => { x with
      st := .fenced, cause := if x.cause = 0 then cause else x.cause, fenceTime := s.devTime, rejoin := 0
      rq := false, dbReq := false, mramQ := [], log := { x.log with queue := [] } })).snapCut l) := ⟨_, rfl⟩
  have hlogged : ∀ l' c ps, (m.evAon l' c ps).ch = s.ch := fun l' c ps =>
    (evAon_ch m l' c ps).trans (by rw [hm]; exact (modLeaf_ch _ l _).trans (modLeaf_ch s l _))
  obtain ⟨u, hu⟩ : ∃ u : State, u = (m.evAon Ev.leafFenced l.num [p1 (m.leaf l).cause, p4 m.sw.num]).fenceRings l := ⟨_, rfl⟩
  have hrings : Silences s u := hu ▸ (Silences.of_ch (hlogged _ _ _)).trans (Silences.fenceRings _ l)
  dsimp only
  rw [← hm, ← hu]
  refine hrings.trans (Silences.of_ch ?_)
  obtain ⟨v, hv⟩ : ∃ v, v = ((if s.kn.active == some l then u.failover l else u).knuckleCancel.stageAbandon 4) := ⟨_, rfl⟩
  have hv' : v.ch = u.ch := hv ▸ (stageAbandon_ch _ 4).trans ((knuckleCancel_ch _).trans (ite_ch _ (failover_ch u l) rfl))
  rw [← hv]
  obtain ⟨w, hw⟩ : ∃ w, w = (if v.cfg.dual then v.applyAbandon (Config.caseCode Ev.imageApplyAbandoned 1) else v).pickDisarm 5 := ⟨_, rfl⟩
  have hw' : w.ch = u.ch := hw ▸ (pickDisarm_ch _ 5).trans (ite_ch _ ((applyAbandon_ch v _).trans hv') hv')
  rw [← hw]
  exact ite_ch _ ((enterSafe_ch _).trans (ite_ch _ ((setLeaf_ch w l.other _).trans hw') hw')) hw'

/-! ### A unit for MRAM (R420, R553) -/

/-- Work that may fence a leaf: rings and nodes keep what no fence changes; the limits, the protection and the rest of the state stay. -/
structure Stores (s n : State) : Prop where
  silences : Silences s n
  prot : { n.prot with confirm := none } = { s.prot with confirm := none }
  frame : Frame (fenceParts ++ [.thermal]) s n

theorem Stores.refl (s : State) : Stores s s := ⟨Silences.refl s, rfl, Frame.refl _ s⟩

theorem Stores.trans {s t n : State} (h : Stores s t) (k : Stores t n) : Stores s n :=
  ⟨h.silences.trans k.silences, k.prot.trans h.prot, h.frame.trans k.frame⟩

theorem Stores.ite {s t n : State} (c : Prop) [Decidable c] (h : Stores s t) (k : Stores s n) : Stores s (if c then t else n) := by
  split
  · exact h
  · exact k

theorem Stores.of_logs {s n : State} (h : Logs s n) : Stores s n :=
  ⟨Silences.of_ch h.ch, by rw [h.prot], h.frame_of_mem (by decide) (by decide)⟩

theorem Stores.fence (s : State) (l : Leaf) (cause : Nat) : Stores s (s.fence l cause) :=
  ⟨Silences.fence s l cause, (Ends.fence s l cause).prot, (Ends.fence s l cause).frame.mono (by decide)⟩

theorem Stores.modLeaf (s : State) (l : Leaf) (f : LeafRec → LeafRec) : Stores s (s.modLeaf l f) :=
  ⟨Silences.of_ch (modLeaf_ch s l f), by rw [modLeaf_prot], (Ends.modLeaf s l f).frame.mono (by decide)⟩

theorem Stores.refuseUnits (s : State) (l : Leaf) (n : Nat) : Stores s (s.refuseUnits l n) := by
  unfold State.refuseUnits
  refine Stores.ite _ (Stores.refl s) ⟨Silences.of_ch rfl, rfl, ?_⟩
  rintro ⟨⟩ hp <;> simp [Part.same] at hp ⊢

/-- A unit that is no entry of the learning store is dropped with an event alone. -/
theorem Stores.dropUnit (s : State) (l : Leaf) {u : MUnit} (h : ∀ c e, u ≠ .learn c e) : Stores s (s.dropUnit l u) := by
  cases u with
  | learn c e => exact absurd rfl (h c e)
  | opens | latched | segs => exact Stores.of_logs (Logs.evA _ _ _ _)

/-- The write queue of a running leaf has no room (R553). -/
def State.full (s : State) (l : Leaf) : Bool := s.running l && decide ((s.leaf l).mramQ.length ≥ 512)

theorem Stores.mramPut (s : State) {u : MUnit} (h : ∀ c e, u ≠ .learn c e) : Stores s (s.mramPut u) := by
  have hleaf : ∀ (l : Leaf) (t : State), Stores t (if !t.running l then t
      else if t.full l then t.dropUnit l u
      else (t.modLeaf l (fun x => { x with mramQ := x.mramQ ++ [u] })).refuseUnits l 1) := fun l t =>
    Stores.ite _ (Stores.refl t) (Stores.ite _ (Stores.dropUnit t l h) ((Stores.modLeaf t l _).trans (Stores.refuseUnits _ l 1)))
  have hfull : Stores s (if s.bothRun then
      if s.full .a ∧ s.full .b then s.fence s.act.other Fc.queue
      else if s.full .a then s.fence .a Fc.queue else if s.full .b then s.fence .b Fc.queue else s
    else s) := by
    refine Stores.ite _ (Stores.ite _ (Stores.fence s _ _) (Stores.ite _ (Stores.fence s _ _) (Stores.ite _ (Stores.fence s _ _) ?_))) ?_
    · exact Stores.refl s
    · exact Stores.refl s
  exact (hfull.trans (hleaf .a _)).trans (hleaf .b _)

end Sys2Proof.Machine

namespace Sys2Proof.Machine

/-! ### The end of a calibration round (R193 to R198) -/

/-- Work that may end a round: the counters and what the nodes have answered stay, and nothing but what a unit for MRAM reaches changes. -/
structure Calibrates (s n : State) : Prop where
  keeps : Keeps Ring.counts Node.standing s n
  frame : Frame (fenceParts ++ [.thermal]) s n

theorem Calibrates.refl (s : State) : Calibrates s s := ⟨Keeps.refl s, Frame.refl _ s⟩

theorem Calibrates.trans {s t n : State} (h : Calibrates s t) (k : Calibrates t n) : Calibrates s n :=
  ⟨h.keeps.trans k.keeps, h.frame.trans k.frame⟩

theorem Calibrates.ite {s t n : State} (c : Prop) [Decidable c] (h : Calibrates s t) (k : Calibrates s n) :
    Calibrates s (if c then t else n) := by
  split
  · exact h
  · exact k

theorem Calibrates.of_works {s n : State} (h : RingWork s n) : Calibrates s n := ⟨h.keeps, h.frame.mono (by decide)⟩

theorem Ring.fenceEnd_counts (x : Ring) (l : Leaf) (c : Nat) : (x.fenceEnd l c).counts = x.counts := by
  unfold Ring.fenceEnd
  split
  · cases l <;> rfl
  · cases l <;> rfl
  · rfl

/-- A ring whose calibration is idle stays so when an end falls silent. -/
theorem Ring.fenceEnd_cal (x : Ring) (l : Leaf) (c : Nat) (h : x.cal = 0) : (x.fenceEnd l c).cal = 0 := by
  unfold Ring.fenceEnd
  split
  · cases l <;> simp [Ring.silenced, Ring.brokenAt, h]
  · cases l <;> simp [Ring.silenced, Ring.brokenAt, h]
  · exact h

theorem Stores.calibrates {s n : State} (h : Stores s n) : Calibrates s n := by
  refine ⟨⟨fun r => ?_, h.silences.node, h.silences.alarms⟩, h.frame⟩
  exact h.silences.ring (fun x => x.counts = (s.ring r).counts) (fun x l c hx => (Ring.fenceEnd_counts x l c).trans hx) r rfl

theorem Stores.cal {s n : State} (h : Stores s n) {r : Nat} (hr : (s.ring r).cal = 0) : (n.ring r).cal = 0 :=
  h.silences.ring (fun x => x.cal = 0) Ring.fenceEnd_cal r hr

/-- A round that ends leaves the calibration of its ring idle. -/
structure Finishes (r : Nat) (s n : State) : Prop extends Calibrates s n where
  idle : (s.ring r).cal = 0 → (n.ring r).cal = 0

section
variable {r : Nat}

theorem Finishes.trans {s t n : State} (h : Finishes r s t) (k : Finishes r t n) : Finishes r s n :=
  ⟨h.toCalibrates.trans k.toCalibrates, k.idle ∘ h.idle⟩

theorem Finishes.ite {s t n : State} (c : Prop) [Decidable c] (h : Finishes r s t) (k : Finishes r s n) : Finishes r s (if c then t else n) := by
  split
  · exact h
  · exact k

/-- Work that leaves every ring's record leaves its calibration idle. -/
theorem Finishes.of_works {s n : State} (h : Works id Node.standing s n) : Finishes r s n := by
  have hring : n.ring r = s.ring r := h.ring r
  exact ⟨Calibrates.of_works (h.mono (fun _ _ h => congrArg Ring.counts h) fun _ _ h => h), fun hr => hring ▸ hr⟩

theorem Finishes.of_logs {s n : State} (h : Logs s n) : Finishes r s n := Finishes.of_works (Works.of_logs h)

theorem Finishes.modRing (s : State) {u : Ring → Ring} (hcounts : ∀ x, (u x).counts = x.counts) (hcal : ∀ x, (u x).cal = x.cal) :
    Finishes r s (s.modRing r u) := by
  refine ⟨Calibrates.of_works (Works.modRing s r u hcounts), fun h => ?_⟩
  rw [ring_modRing_same, hcal, h]

theorem Finishes.mramSegs (s : State) (x : Segs) : Finishes r s (s.mramPut (.segs r x)) := by
  have hput : Stores s (s.mramPut (.segs r x)) := Stores.mramPut s fun _ _ h => nomatch h
  exact ⟨hput.calibrates, hput.cal⟩

/-- A ring's record after an accepted round (R196, R197). -/
def Ring.accepted (x : Ring) (t : Nat) (segs : List Int) (uids : List Nat) (time : Nat) : Ring :=
  { x with calState := 1, t := t, segs := segs, uids := uids, calRounds := satAdd 16 x.calRounds 1, calTime := time }

theorem calAccept_eq (s : State) (t : Int) (segs : List Int) : s.calAccept r t segs =
    ((s.modRing r fun x => x.accepted t.toNat segs ((s.cfg.positions r).map fun p => (s.node r p).uid) s.devTime).mramPut
      (.segs r { t := t.toNat, segs := segs, uids := (s.cfg.positions r).map fun p => (s.node r p).uid })).ev Ev.calDone r [p1 1, p4 t.toNat] := by
  unfold State.calAccept
  simp only [ring_modRing_same]
  rfl

theorem Finishes.calAccept (s : State) (t : Int) (segs : List Int) : Finishes r s (s.calAccept r t segs) :=
  calAccept_eq s t segs ▸
    ((Finishes.modRing s (fun _ => by rfl) (fun _ => by rfl)).trans (Finishes.mramSegs _ _)).trans (Finishes.of_logs (Logs.ev _ _ _ _))

theorem Finishes.newOffs (s : State) (offs : Nat → Nat × Nat) (l : List Nat) : Finishes r s (s.each l fun p s => s.newOffs r p (offs p)) :=
  Finishes.of_works (Works.each (fun p s => Works.newOffs s r p _) l s)

theorem Finishes.configRing (s : State) (offs : Nat → Option (Nat × Nat)) : Finishes r s (s.configRing r offs) :=
  Finishes.of_works (Works.configRing s r offs)

/-- A round that reads every register ends with its verdict (R194, R195, R196). -/
theorem calFinish_round {s : State} (h : ¬((s.ring r).cal = 4 ∨ (s.ring r).cal = 10)) :
    Finishes r (s.modRing r (fun x => { x with cal := 0 })) (s.calFinish r) := by
  unfold State.calFinish
  dsimp only
  rw [if_neg h]
  split
  · exact Finishes.ite _ ((Finishes.of_logs (Logs.ev _ _ _ _)).trans (Finishes.configRing _ _)) (Finishes.of_logs (Logs.ev _ _ _ _))
  · exact Finishes.ite _ ((Finishes.calAccept _ _ _).trans (Finishes.configRing _ _)) ((Finishes.calAccept _ _ _).trans (Finishes.newOffs _ _ _))

theorem calFinish_idle (s : State) : ((s.calFinish r).ring r).cal = 0 := by
  by_cases h : (s.ring r).cal = 4 ∨ (s.ring r).cal = 10
  · have hring : (s.calFinish r).ring r = _ := (calFinish_survey (f := id) h).ring r
    rw [hring]
    exact congrArg Ring.cal (ring_modRing_same s r _)
  · exact (calFinish_round h).idle (congrArg Ring.cal (ring_modRing_same s r _))

theorem Calibrates.calFinish (s : State) : Calibrates s (s.calFinish r) := by
  by_cases h : (s.ring r).cal = 4 ∨ (s.ring r).cal = 10
  · exact Calibrates.of_works (RingWork.calFinish_survey h)
  · exact (Calibrates.of_works (Works.modRing s r _ fun _ => by rfl)).trans (calFinish_round h).toCalibrates

/-- A round whose reads have all been answered, or have failed, ends (R195, R196). -/
theorem calCheck_read {s : State} (h : (s.ring r).cal = 3 ∨ (s.ring r).cal = 7) :
    s.calCheck r = if s.calOpen r then s else s.calFinish r := by
  obtain h | h := h
  · simp [State.calCheck, h]
  · simp [State.calCheck, h]

theorem Calibrates.calCheck (s : State) : Calibrates s (s.calCheck r) := by
  by_cases hread : (s.ring r).cal = 3 ∨ (s.ring r).cal = 7
  · rw [calCheck_read hread]
    exact Calibrates.ite _ (Calibrates.refl s) (Calibrates.calFinish s)
  · exact Calibrates.of_works (RingWork.calCheck (fun h => hread (.inl h)) (fun h => hread (.inr h)))

end

end Sys2Proof.Machine

namespace Sys2Proof.Machine

/-! ### What the end of a request reaches (R187, R201, R207) -/

/-- Work within some parts of the state under which the counters of the rings and what the nodes have answered stay. -/
structure WorksIn (ps : List Part) (s n : State) : Prop where
  keeps : Keeps Ring.counts Node.answers s n
  frame : Frame ps s n

section
variable {ps : List Part}

theorem WorksIn.refl (s : State) : WorksIn ps s s := ⟨Keeps.refl s, Frame.refl ps s⟩

theorem WorksIn.trans {s t n : State} (h : WorksIn ps s t) (k : WorksIn ps t n) : WorksIn ps s n :=
  ⟨h.keeps.trans k.keeps, h.frame.trans k.frame⟩

theorem WorksIn.ite {s t n : State} (c : Prop) [Decidable c] (h : WorksIn ps s t) (k : WorksIn ps s n) : WorksIn ps s (if c then t else n) := by
  split
  · exact h
  · exact k

theorem WorksIn.each {α : Type} {u : α → State → State} (h : ∀ x s, WorksIn ps s (u x s)) (l : List α) (s : State) : WorksIn ps s (s.each l u) :=
  ⟨Keeps.each (fun x s => (h x s).keeps) l s, Frame.each (fun x s => (h x s).frame) l s⟩

theorem WorksIn.mono {qs : List Part} {s n : State} (h : WorksIn ps s n) (hs : ∀ p, p ∈ ps → p ∈ qs) : WorksIn qs s n :=
  ⟨h.keeps, h.frame.mono hs⟩

theorem Keeps.answers {f : Ring → Ring} {s n : State} (h : Keeps f Node.standing s n) : Keeps f Node.answers s n :=
  ⟨h.ring, fun k => Node.answers_of_standing (h.node k), h.alarms⟩

theorem WorksIn.of_ch {s n : State} (h : n.ch = s.ch) (hframe : Frame ps s n) : WorksIn ps s n := ⟨Keeps.of_ch h, hframe⟩

end

theorem WorksIn.of_ring {s n : State} (h : RingWork s n) : WorksIn ringParts s n := ⟨h.keeps.answers, h.frame⟩

theorem WorksIn.of_asks {s n : State} (h : Asks s n) : WorksIn ringParts s n := ⟨Keeps.of_asks h, h.frame⟩

theorem WorksIn.of_logs {s n : State} (h : Logs s n) : WorksIn ringParts s n := WorksIn.of_ring (Works.of_logs h)

theorem WorksIn.setNode (s : State) (r p : Nat) (x : Node) (h : x.answers = (s.node r p).answers) : WorksIn ringParts s (s.setNode r p x) :=
  ⟨Keeps.setNode s r p x h, (Frame.ch s _).mono (by decide)⟩

theorem WorksIn.modNode (s : State) (r p : Nat) (u : Node → Node) (h : ∀ x, (u x).answers = x.answers) : WorksIn ringParts s (s.modNode r p u) :=
  WorksIn.setNode s r p _ (h _)

theorem WorksIn.dropReqs (s : State) (r p : Nat) (keep : Req → Bool) : WorksIn ringParts s (s.dropReqs r p keep) :=
  WorksIn.of_asks ((Asks.setPort s r .a p _).trans (Asks.setPort _ r .b p _))

/-- The parts that the judgement of a node reaches: requests of the hosts that it forgets are answered (R187). -/
abbrev judgeParts : List Part := ringParts ++ [.links]

theorem WorksIn.judges {s n : State} (h : WorksIn ringParts s n) : WorksIn judgeParts s n := h.mono (by decide)

theorem WorksIn.answer (s : State) (k tag status : Nat) (body : List Byte) : WorksIn judgeParts s (s.answer k tag status body) :=
  WorksIn.of_ch (answer_ch s k tag status body) ((answer_frame s k tag status body).mono (by decide))

theorem WorksIn.quarantine (s : State) (r p reason uid cls reg : Nat) : WorksIn judgeParts s (s.quarantine r p reason uid cls reg) := by
  unfold State.quarantine
  refine WorksIn.ite _ (WorksIn.refl s) (WorksIn.trans ?_ (WorksIn.of_logs (Logs.ev _ _ _ _)).judges)
  refine WorksIn.trans (WorksIn.trans ?_ (WorksIn.dropReqs _ r p Req.diag).judges) (WorksIn.each (fun q s => ?_) _ _)
  · exact (WorksIn.setNode s r p _ (by rfl)).judges
  · split
    · exact WorksIn.answer s _ _ _ _
    · exact WorksIn.answer s _ _ _ _
    · exact WorksIn.refl s

theorem WorksIn.configFails (s : State) (r p reg : Nat) : WorksIn judgeParts s (s.configFails r p reg) := WorksIn.quarantine s r p 9 _ _ reg

/-- The parts that the end of a request reaches that no calibration has sent. -/
abbrev handleParts : List Part := ringParts ++ [.links, .bal, .hasp, .nest]

theorem WorksIn.handles {s n : State} (h : WorksIn judgeParts s n) : WorksIn handleParts s n := h.mono (by decide)

theorem Frame.bal (s : State) (x : Bal) : Frame [.bal] s { s with bal := x } := by
  rintro ⟨⟩ hp <;> simp [Part.same] at hp ⊢

theorem Frame.hasp (s : State) (x : Hasp) : Frame [.hasp] s { s with hasp := x } := by
  rintro ⟨⟩ hp <;> simp [Part.same] at hp ⊢

theorem WorksIn.planRefused (s : State) (r p : Nat) (b : Bool) : WorksIn handleParts s (s.planRefused r p b) :=
  WorksIn.of_ch rfl ((Frame.bal s _).mono (by decide))

theorem WorksIn.upDone (s : State) (e : Leaf) (seq kind : Nat) (payload : List Byte) : WorksIn handleParts s (s.upDone e seq kind payload) :=
  WorksIn.ite _ (WorksIn.of_ch (setUpPort_ch s e _) ((setUpPort_frame s e _).mono (by decide))) (WorksIn.refl s)

theorem WorksIn.modHs (s : State) (i : Nat) (u : HaspStr → HaspStr) : WorksIn handleParts s (s.modHs i u) :=
  WorksIn.of_ch rfl ((Frame.hasp s _).mono (by decide))

theorem WorksIn.badBack (s : State) (x : List (Nat × Nat × Nat)) : WorksIn judgeParts s { s with ch := { s.ch with badBack := x } } :=
  ⟨⟨fun _ => rfl, fun _ => rfl, rfl⟩, (Frame.ch s _).mono (by decide)⟩

theorem WorksIn.backDone (s : State) (k tag pos : Nat) (ok : Bool) : WorksIn judgeParts s (s.backDone k tag pos ok) := by
  unfold State.backDone
  obtain ⟨u, hu⟩ : ∃ u, u = if ok then s else { s with ch := { s.ch with badBack := (k, tag, pos) :: s.ch.badBack } } := ⟨_, rfl⟩
  have hbad : WorksIn judgeParts s u := hu ▸ WorksIn.ite _ (WorksIn.refl s) (WorksIn.badBack s _)
  dsimp only
  rw [← hu]
  refine hbad.trans (WorksIn.ite _ (WorksIn.refl u) ?_)
  split
  · exact (WorksIn.badBack u _).trans (WorksIn.answer _ k tag _ _)
  · exact (WorksIn.badBack u _).trans (WorksIn.answer _ k tag _ _)

theorem readBack_answers (x : Node) (reg : Nat) (d : List Byte) (time : Nat) : (x.readBack reg d time).answers = x.answers := by
  unfold Node.readBack
  split <;> rfl

theorem WorksIn.planNext (s : State) (r p : Nat) : WorksIn ringParts s (s.planNext r p) := WorksIn.of_ring (Works.planNext s r p)

theorem WorksIn.planDone (s : State) (r p : Nat) : WorksIn ringParts s (s.planDone r p) := by
  unfold State.planDone State.when
  refine WorksIn.trans ?_ (WorksIn.ite _ (WorksIn.of_logs (Logs.ev _ _ _ _)) (WorksIn.refl _))
  exact WorksIn.setNode s r p _ (by rfl)

theorem WorksIn.planStep (s : State) (r p reg : Nat) (d : List Byte) : WorksIn ringParts s (s.planStep r p reg d) := by
  unfold State.planStep
  refine (WorksIn.modNode s r p _ fun x => readBack_answers x reg d s.devTime).trans ?_
  dsimp only
  split
  · exact WorksIn.refl _
  · refine WorksIn.ite _ (WorksIn.planNext _ r p) (WorksIn.trans ?_ (WorksIn.ite _ (WorksIn.planDone _ r p) (WorksIn.planNext _ r p)))
    exact WorksIn.setNode _ r p _ (by rfl)

theorem WorksIn.request' (s : State) (r : Nat) (e : Leaf) (p : Nat) (x : Req) : WorksIn ringParts s (s.request' r e p x) :=
  WorksIn.of_asks (Asks.request' s r e p x)

theorem WorksIn.actMute (s : State) (r : Nat) (e : Leaf) (p tok : Nat) : WorksIn ringParts s (s.actMute r e p tok) :=
  WorksIn.of_asks (Asks.setPort s r e p _)

theorem WorksIn.settleBreak (s : State) (r : Nat) : WorksIn ringParts s (s.settleBreak r false) := WorksIn.of_ring (RingWork.settleBreak s r false)

/-- The registers of a calibration round. -/
def Purpose.calibrates : Purpose → Bool
  | .calClear | .calSkew | .calFwd => true
  | _ => false

section
variable {s n : State} {h : Req}

theorem reqParts_plain (hp : h.purpose.calibrates = false) : reqParts h = handleParts := by
  unfold reqParts
  refine if_neg ?_
  rintro (hc | hc | hc) <;> simp [hc, Purpose.calibrates] at hp

theorem reqParts_round (hp : h.purpose.calibrates = true) : reqParts h = fenceParts ++ [.thermal] := by
  unfold reqParts
  refine if_pos ?_
  revert hp
  cases h.purpose <;> simp [Purpose.calibrates]

/-- Work on the rings is within what every request's end reaches. -/
theorem mem_reqParts (h : Req) : ∀ p, p ∈ ringParts → p ∈ reqParts h := by
  cases hp : h.purpose.calibrates with
  | false => rw [reqParts_plain hp]; decide
  | true => rw [reqParts_round hp]; decide

theorem WorksIn.of_plain (hp : h.purpose.calibrates = false) (hwork : WorksIn handleParts s n) : WorksIn (reqParts h) s n := reqParts_plain hp ▸ hwork

theorem WorksIn.of_rings (hwork : WorksIn ringParts s n) : WorksIn (reqParts h) s n := hwork.mono (mem_reqParts h)

theorem WorksIn.calCheck {r : Nat} (hp : h.purpose.calibrates = true) : WorksIn (reqParts h) s (s.calCheck r) := by
  rw [reqParts_round hp]
  exact ⟨(Calibrates.calCheck s).keeps.answers, (Calibrates.calCheck s).frame⟩

/-- A failed request's purpose keeps the counters and what the nodes have answered. -/
theorem WorksIn.reqLost (r p : Nat) (hact : ∀ i tok, h.purpose ≠ .act i tok) : WorksIn (reqParts h) s (s.reqLost r p h) := by
  cases hp : h.purpose
  case act i tok => exact absurd hp (hact i tok)
  case calClear | calSkew | calFwd =>
    simp only [State.reqLost, hp]
    exact WorksIn.calCheck (by rw [hp]; rfl)
  all_goals
    refine WorksIn.of_plain (by rw [hp]; rfl) ?_
    simp only [State.reqLost, hp]
  case sample => exact (WorksIn.settleBreak s r).judges.handles
  case bal => exact WorksIn.planRefused s r p true
  case cfgW | cfgR => exact (WorksIn.configFails s r p h.reg).handles
  case reach | serveW | serveR => exact WorksIn.refl s
  case hostR | hostW | pass => exact (WorksIn.answer s _ _ _ _).handles
  case hostWR k tag => exact (WorksIn.backDone s k tag p false).handles
  case upPass => exact WorksIn.upDone s _ _ _ _

theorem WorksIn.reqNack (r : Nat) (e : Leaf) (p : Nat) (f : List Byte) : WorksIn (reqParts h) s (s.reqNack r e p h f) := by
  cases hp : h.purpose
  case calClear | calSkew | calFwd =>
    simp only [State.reqNack, hp]
    exact WorksIn.calCheck (by rw [hp]; rfl)
  all_goals
    refine WorksIn.of_plain (by rw [hp]; rfl) ?_
    simp only [State.reqNack, hp]
  case sample => exact (WorksIn.settleBreak s r).judges.handles
  case bal => exact WorksIn.planRefused s r p true
  case cfgW | cfgR => exact (WorksIn.configFails s r p h.reg).handles
  case reach | serveW | serveR => exact WorksIn.refl s
  case act i tok => exact (WorksIn.actMute s r e.other p tok).judges.handles.trans (WorksIn.modHs _ i _)
  case hostR | hostW | pass => exact (WorksIn.answer s _ _ _ _).handles
  case hostWR k tag => exact (WorksIn.backDone s k tag p false).handles
  case upPass => exact WorksIn.upDone s _ _ _ _

theorem WorksIn.reqOk (r : Nat) (e : Leaf) (p : Nat) (f : List Byte) : WorksIn (reqParts h) s (s.reqOk r e p h f) := by
  cases hp : h.purpose
  case calClear =>
    simp only [State.reqOk, hp]
    exact WorksIn.calCheck (by rw [hp]; rfl)
  case calSkew | calFwd =>
    simp only [State.reqOk, hp]
    exact (WorksIn.of_rings (WorksIn.modNode s r p _ fun _ => by rfl)).trans (WorksIn.calCheck (by rw [hp]; rfl))
  all_goals
    refine WorksIn.of_plain (by rw [hp]; rfl) ?_
    simp only [State.reqOk, hp]
  case sample | reach => exact WorksIn.refl s
  case bal => exact WorksIn.planRefused s r p false
  case cfgW | serveW => exact (WorksIn.request' s r e p _).judges.handles
  case cfgR => exact WorksIn.ite _ (WorksIn.planStep s r p h.reg _).judges.handles (WorksIn.configFails s r p h.reg).handles
  case serveR =>
    refine WorksIn.ite _ (WorksIn.modNode s r p _ fun x => ?_).judges.handles (WorksIn.refl s)
    exact readBack_answers x 0xFF01 (f.drop 4) s.devTime
  case act i tok => exact (WorksIn.actMute s r e.other p tok).judges.handles.trans (WorksIn.modHs _ i _)
  case hostR | hostW | pass => exact (WorksIn.answer s _ _ _ _).handles
  case hostWR k tag => exact (WorksIn.backDone s k tag p _).handles
  case upPass => exact WorksIn.upDone s _ _ _ _

end

/-! ### Answers to hosts (R614, R615) -/

/-- The answer to an outstanding command: CONTROL shows it, and it is outstanding no more. -/
theorem answer_shown {s : State} {k tag op : Nat} (status : Nat) (body : List Byte)
    (h : (s.sess k).outst.find? (fun o => o.1 == tag) = some (tag, 3, op)) :
    (s.answer k tag status body).links.lastStatus = status ∧ (s.answer k tag status body).links.lastOpcode = op ∧
      (s.answer k tag status body).links.lastSlot = k ∧ ((s.answer k tag status body).sess k).outst.all (fun o => o.1 != tag) = true := by
  unfold State.answer
  simp only [h]
  obtain ⟨hout, hstatus, hop, hslot⟩ := send_keeps _ k (3 + 0x80) status tag body
  refine ⟨hstatus, hop, hslot, ?_⟩
  rw [hout]
  refine List.all_eq_true.mpr fun o ho => ?_
  have hset := (sess_setSess_same _ k _) ▸ ho
  exact (List.mem_filter.mp hset).2

end Sys2Proof.Machine

namespace Sys2Proof.Machine

/-! ### The queue of a position (R203, R207, R208) -/

section
variable {s : State} {r p : Nat} {e : Leaf} {h : Req}

/-- The outstanding request stands first in its queue. -/
theorem head_eq_some : s.head r e p = some h ↔ ∃ rest, (s.port r e p).q = h :: rest ∧ h.sent = true := by
  unfold State.head
  split
  next hd rest hq =>
    rw [hq]
    constructor
    · intro hh
      obtain ⟨hsent, hhd⟩ := Option.ite_none_right_eq_some.mp hh
      obtain rfl := Option.some.inj hhd
      exact ⟨rest, rfl, hsent⟩
    · rintro ⟨rest', hcons, hsent⟩
      obtain ⟨rfl, -⟩ := List.cons.inj hcons
      exact if_pos hsent
  next hq => simp [hq]

theorem head_of_port {n : State} (hport : n.port r e p = s.port r e p) : n.head r e p = s.head r e p := by
  unfold State.head
  rw [hport]

/-- The views of the two ends of a position lie apart. -/
theorem portKey_ne {f : Leaf} (hf : f ≠ e) : portKey r f p ≠ portKey r e p := by
  unfold portKey
  cases e <;> cases f <;> simp_all [Leaf.num] <;> omega

theorem port_setPort_end {f : Leaf} (hf : f ≠ e) (x : PortPos) : (s.setPort r f p x).port r e p = s.port r e p :=
  kget_kset_other _ _ _ _ _ (portKey_ne hf).symm

theorem port_pump_end {f : Leaf} (hf : f ≠ e) : (s.pump r f p).port r e p = s.port r e p := by
  unfold State.pump
  dsimp only
  split
  · rfl
  split
  · rfl
  · exact (port_of_ch (Sends.sendFrame _ _ _ _ _ _ _ _).ch r e p).trans (port_setPort_end hf _)

theorem port_request'_end {f : Leaf} (hf : f ≠ e) (x : Req) : (s.request' r f p x).port r e p = s.port r e p := by
  unfold State.request'
  split
  · rfl
  · exact (port_pump_end hf).trans (port_setPort_end hf _)

theorem length_pump : ((s.pump r e p).port r e p).q.length = (s.port r e p).q.length := by
  unfold State.pump
  dsimp only
  split
  · rfl
  next hq =>
    split
    · rfl
    · rw [port_of_ch (Sends.sendFrame _ _ _ _ _ _ _ _).ch, port_setPort_same, hq]
      rfl

/-- A request that is done with leaves its queue. -/
theorem length_popReq (hh : s.head r e p = some h) : ((s.popReq r e p).port r e p).q.length + 1 = (s.port r e p).q.length := by
  obtain ⟨rest, hq, -⟩ := head_eq_some.mp hh
  unfold State.popReq
  rw [length_pump, port_setPort_same, hq]
  rfl

/-- The outstanding request is changed, and stays outstanding. -/
theorem modHead_eq (hh : s.head r e p = some h) (u : Req → Req) :
    ∃ rest, s.modHead r e p u = s.setPort r e p { s.port r e p with q := u h :: rest } := by
  obtain ⟨rest, hq, -⟩ := head_eq_some.mp hh
  refine ⟨rest, ?_⟩
  simp only [State.modHead, hq]

theorem head_modHead (hh : s.head r e p = some h) {u : Req → Req} (hu : (u h).sent = true) : (s.modHead r e p u).head r e p = some (u h) := by
  obtain ⟨rest, heq⟩ := modHead_eq hh u
  rw [heq]
  exact head_eq_some.mpr ⟨rest, by rw [port_setPort_same], hu⟩

theorem Asks.modHead (s : State) (r : Nat) (e : Leaf) (p : Nat) (u : Req → Req) : Asks s (s.modHead r e p u) := by
  unfold State.modHead
  dsimp only
  split
  · exact Asks.refl s
  · exact Asks.setPort s r e p _

end

/-! ### Retries (R206, R207) -/

/-- What a retry leaves at its node and of every ring: nothing but the ring's count of retries differs. -/
structure Retries (r : Nat) (s n : State) : Prop where
  retries : (n.ring r).retries = satAdd 32 (s.ring r).retries 1
  nodes : n.ch.nodes = s.ch.nodes
  frame : Frame ringParts s n

section
variable {s : State} {r p : Nat} {e : Leaf} {h : Req}

/-- Requests before and after a retry is counted. -/
theorem Retries.of_asks {t n : State} (hbefore : Asks s t)
    (hafter : Asks (t.modRing r (fun x => { x with retries := satAdd 32 x.retries 1 })) n) : Retries r s n := by
  refine ⟨?_, ?_, hbefore.frame.trans (((modRing_frame t r _).mono (by decide)).trans hafter.frame)⟩
  · rw [hafter.ring, ring_modRing_same, hbefore.ring]
  · rw [hafter.nodes, ← hbefore.nodes]
    rfl

theorem Retries.resend : Retries r s (s.resend r e p h) :=
  Retries.of_asks (Asks.modHead s r e p _) (Asks.of_sends (Sends.sendFrame _ _ _ _ _ _ _ _))

/-- A request sent again keeps its SEQ and waits anew. -/
theorem head_resend (hh : s.head r e p = some h) :
    (s.resend r e p h).head r e p = some { h with retries := h.retries + 1, busy := false, due := s.time.now + s.answerNs } := by
  obtain ⟨_, _, hsent⟩ := head_eq_some.mp hh
  unfold State.resend
  rw [head_of_port (port_of_ch (Sends.sendFrame _ _ _ _ _ _ _ _).ch r e p)]
  exact head_modHead hh hsent

theorem Retries.moveReq {new : Leaf} : Retries r s (s.moveReq r e new p h) := by
  unfold State.moveReq
  dsimp only
  split
  · exact Retries.of_asks (Asks.popReq s r e p) ((Asks.setPort _ r new p _).trans (Asks.of_sends (Sends.sendFrame _ _ _ _ _ _ _ _)))
  · exact Retries.of_asks (Asks.popReq s r e p) (Asks.request' _ r new p _)

/-- A request that moves leaves the queue of its old end. -/
theorem length_moveReq {new : Leaf} (hh : s.head r e p = some h) (hnew : new ≠ e) :
    ((s.moveReq r e new p h).port r e p).q.length + 1 = (s.port r e p).q.length := by
  rw [← length_popReq hh]
  unfold State.moveReq
  dsimp only
  split
  · rw [port_of_ch (Sends.sendFrame _ _ _ _ _ _ _ _).ch, port_setPort_end hnew]
    rfl
  · rw [port_request'_end hnew]
    rfl

end

/-! ### A request that has failed (R207, R573) -/

/-- A node's record with a failed request counted. -/
def Node.unanswered (x : Node) (e : Leaf) : Node :=
  { x with noAnswers := satAdd 16 x.noAnswers 1, deafA := x.deafA || (e == .a && x.reach e), deafB := x.deafB || (e == .b && x.reach e) }

/-- A ring's record with a failed request counted. -/
def Ring.unanswered (x : Ring) : Ring := { x with noAns := satAdd 32 x.noAns 1 }

section
variable {s : State} {r p : Nat} {e : Leaf} {h : Req}

/-- The state in which a failed request has been counted and logged, before its purpose speaks. -/
def State.failCounted (s : State) (r : Nat) (e : Leaf) (p : Nat) (h : Req) : State :=
  (((s.popReq r e p).setNode r p ((s.node r p).unanswered e)).modRing r Ring.unanswered).ev Ev.nodeNoAnswer (srcN r p) [p1 h.kind, p1 h.seq]

theorem reqFail_counted (hmuted : h.muted = false) (hact : ∀ i tok, h.purpose ≠ .act i tok) :
    s.reqFail r e p h = (s.failCounted r e p h).reqLost r p h := by
  have hnode : (s.popReq r e p).node r p = s.node r p := (Asks.popReq s r e p).node r p
  unfold State.reqFail
  dsimp only
  rw [hnode, if_neg]
  · rfl
  · cases hp : h.purpose
    case act i tok => exact absurd hp (hact i tok)
    all_goals simp [hmuted]

theorem failCounted_ring : (s.failCounted r e p h).ring r = (s.ring r).unanswered := by
  refine (ring_of_ch (ev_ch _ _ _ _) r).trans ((ring_modRing_same _ _ _).trans (congrArg Ring.unanswered ?_))
  exact (Asks.popReq s r e p).ring r

theorem failCounted_node : (s.failCounted r e p h).node r p = (s.node r p).unanswered e :=
  (congrArg (fun c : Chains => kget ({} : Node) c.nodes (srcN r p)) (ev_ch _ _ _ _)).trans (kget_kset_same _ _ _ _)

theorem failCounted_frame : Frame ringParts s (s.failCounted r e p h) := by
  refine (Asks.popReq s r e p).frame.trans (Frame.trans ?_ ((Logs.ev _ _ _ _).frame_of_mem (by decide) (by decide)))
  exact (Frame.ch (s.popReq r e p) _).mono (by decide)

/-- A failed request has left its session record as it was. -/
theorem failCounted_sess (k : Nat) : (s.failCounted r e p h).sess k = s.sess k :=
  congrArg (fun l : Links => kget ({} : Sess) l.sess k) ((failCounted_frame (h := h)).links_eq (by decide))

/-- A failed request is counted at its node and its ring. -/
theorem reqFail_spec (hmuted : h.muted = false) (hact : ∀ i tok, h.purpose ≠ .act i tok) :
    ((s.reqFail r e p h).node r p).noAnswers = satAdd 16 (s.node r p).noAnswers 1 ∧
      ((s.reqFail r e p h).ring r).noAns = satAdd 32 (s.ring r).noAns 1 ∧ Frame (reqParts h) s (s.reqFail r e p h) := by
  have hlost := WorksIn.reqLost (s := s.failCounted r e p h) r p hact
  rw [reqFail_counted hmuted hact]
  refine ⟨?_, ?_, (failCounted_frame.mono (mem_reqParts h)).trans hlost.frame⟩
  · have hnode := congrArg Node.noAnswers (hlost.keeps.node (srcN r p))
    exact hnode.trans (congrArg Node.noAnswers failCounted_node)
  · have hring := congrArg Ring.noAns (hlost.keeps.ring r)
    exact hring.trans (congrArg Ring.noAns failCounted_ring)

/-- A host's read that has failed, or its PASS, is answered DENIED. -/
theorem reqFail_denied {k tag op : Nat} (hmuted : h.muted = false) (hp : (∃ m, h.purpose = .hostR k tag m) ∨ h.purpose = .pass k tag)
    (hout : (s.sess k).outst.find? (fun o => o.1 == tag) = some (tag, 3, op)) :
    (s.reqFail r e p h).links.lastStatus = St.denied ∧ (s.reqFail r e p h).links.lastOpcode = op ∧
      (s.reqFail r e p h).links.lastSlot = k ∧ ((s.reqFail r e p h).sess k).outst.all (fun o => o.1 != tag) = true := by
  have hlost : s.reqFail r e p h = (s.failCounted r e p h).answer k tag St.denied [0xFF] := by
    rw [reqFail_counted hmuted]
    · obtain ⟨m, hp⟩ | hp := hp <;> simp only [State.reqLost, hp]
    · obtain ⟨m, hp⟩ | hp := hp <;> simp [hp]
  rw [hlost]
  exact answer_shown St.denied [0xFF] (by rw [failCounted_sess, hout])

end

/-! ### The timers of a request -/

section
variable {t r p : Nat} {e : Leaf} {h : Req} {s : State} {c : Instr}

theorem exec_answerTimeout_due (hh : (s.setNow t).head r e p = some h) (hbusy : h.busy = false) (hdue : h.due ≤ (s.setNow t).time.now) :
    exec (.answerTimeout t r e p) s = .next (settle s ((s.setNow t).retry r e p h)) := by
  change execAnswerTimeout t r e p s = _
  unfold execAnswerTimeout
  refine at'_eq ?_
  simp only [hh]
  exact if_pos ⟨by simp [hbusy], hdue⟩

theorem exec_busyRetryDelay_due (hh : (s.setNow t).head r e p = some h) (hbusy : h.busy = true) (hkind : h.kind ≠ 0xC)
    (hdue : h.due ≤ (s.setNow t).time.now) : exec (.busyRetryDelay t r e p) s = .next (settle s ((s.setNow t).retry r e p h)) := by
  change execBusyRetryDelay t r e p s = _
  unfold execBusyRetryDelay
  refine at'_eq ?_
  simp only [hh]
  exact if_pos ⟨hbusy, hdue, hkind⟩

theorem passHead_eq (hh : s.head r e p = some h) (hkind : h.kind = 0xC) : s.passHead r e p = some h := by
  unfold State.passHead
  simp only [hh]
  exact if_pos hkind

theorem exec_passDeadline_due (hh : (s.setNow t).head r e p = some h) (hkind : h.kind = 0xC)
    (hdue : h.first + 2500000 * leAt h.payload 0 1 ≤ (s.setNow t).time.now) :
    exec (.passDeadline t r e p) s = .next (settle s ((s.setNow t).reqFail r e p h)) := by
  change execPassDeadline t r e p s = _
  unfold execPassDeadline
  refine at'_eq ?_
  simp only [passHead_eq hh hkind]
  exact if_pos hdue

/-- PASS goes out again under its SEQ. -/
def State.passAgain (s : State) (r : Nat) (e : Leaf) (p : Nat) (h : Req) : State :=
  (s.modHead r e p (fun h => { h with busy := false, due := s.time.now + s.answerNs })).sendFrame r e h.cls p h.kind h.seq h.payload

theorem exec_passRepeat_due (hh : (s.setNow t).head r e p = some h) (hkind : h.kind = 0xC) (hbusy : h.busy = true)
    (hdue : h.due ≤ (s.setNow t).time.now) : exec (.passRepeat t r e p) s = .next (settle s ((s.setNow t).passAgain r e p h)) := by
  change execPassRepeat t r e p s = _
  unfold execPassRepeat
  refine at'_eq ?_
  simp only [passHead_eq hh hkind]
  exact if_pos ⟨hbusy, hdue⟩

/-- The answer timeout of a request, or the delay after NACK BUSY, is over. -/
theorem exec_retry_due (hh : (s.setNow t).head r e p = some h) (hdue : h.due ≤ (s.setNow t).time.now)
    (hc : (c = Instr.answerTimeout t r e p ∧ h.busy = false) ∨ (c = Instr.busyRetryDelay t r e p ∧ h.busy = true ∧ h.kind ≠ 0xC)) :
    exec c s = .next (settle s ((s.setNow t).retry r e p h)) := by
  obtain ⟨rfl, hbusy⟩ | ⟨rfl, hbusy, hkind⟩ := hc
  · exact exec_answerTimeout_due hh hbusy hdue
  · exact exec_busyRetryDelay_due hh hbusy hkind hdue

theorem retry_muted (h1 : h.muted = true) : s.retry r e p h = s.popReq r e p := if_pos h1

theorem retry_again (h1 : h.muted = false) (h2 : s.mayRetry r h = true) (h3 : s.retryEnd r e p h = e) : s.retry r e p h = s.resend r e p h := by
  unfold State.retry
  rw [if_neg (by simp [h1]), if_neg (by simp [h2])]
  exact if_pos h3

theorem retry_moves (h1 : h.muted = false) (h2 : s.mayRetry r h = true) (h3 : s.retryEnd r e p h ≠ e) :
    s.retry r e p h = s.moveReq r e (s.retryEnd r e p h) p h := by
  unfold State.retry
  rw [if_neg (by simp [h1]), if_neg (by simp [h2])]
  exact if_neg h3

theorem retry_fails (h1 : h.muted = false) (h2 : s.mayRetry r h = false) : s.retry r e p h = s.reqFail r e p h := by
  unfold State.retry
  rw [if_neg (by simp [h1]), if_pos (by simp [h2])]

/-- A PASS repeated keeps its SEQ and waits anew; rings and nodes stay. -/
theorem passAgain_spec (hh : s.head r e p = some h) :
    (s.passAgain r e p h).head r e p = some { h with busy := false, due := s.time.now + s.answerNs } ∧ Asks s (s.passAgain r e p h) := by
  obtain ⟨_, _, hsent⟩ := head_eq_some.mp hh
  have hsends := Sends.sendFrame (s.modHead r e p (fun h => { h with busy := false, due := s.time.now + s.answerNs })) r e h.cls p h.kind h.seq h.payload
  exact ⟨(head_of_port (port_of_ch hsends.ch r e p)).trans (head_modHead hh hsent), (Asks.modHead s r e p _).trans (Asks.of_sends hsends)⟩

end

/-- Settles O44: each timer by the request that it finds outstanding. -/
theorem retriesAndFailures : Obligations.RetriesAndFailures := by
  unfold Obligations.RetriesAndFailures
  intro t ring e pos h s hh
  refine ⟨fun c hc hdue => ⟨fun hmuted => ?_, fun hmuted hmay hend => ?_, fun hmuted hmay hend => ?_⟩, fun c hc hmuted hact => ?_,
    fun hkind hbusy hdue => ?_⟩
  · have hpop := Asks.popReq (s.setNow t) ring e pos
    have hexec := exec_retry_due hh hdue hc
    rw [retry_muted hmuted] at hexec
    exact ⟨_, hexec, length_popReq hh, hpop.nodes, hpop.ring, hpop.frame.settle⟩
  · have hagain := Retries.resend (s := s.setNow t) (r := ring) (p := pos) (e := e) (h := h)
    have hexec := exec_retry_due hh hdue hc
    rw [retry_again hmuted hmay hend] at hexec
    exact ⟨_, hexec, head_resend hh, hagain.retries, hagain.nodes, hagain.frame.settle⟩
  · have hmoves := Retries.moveReq (s := s.setNow t) (r := ring) (p := pos) (e := e) (h := h) (new := (s.setNow t).retryEnd ring e pos h)
    have hexec := exec_retry_due hh hdue hc
    rw [retry_moves hmuted hmay hend] at hexec
    exact ⟨_, hexec, length_moveReq hh hend, hmoves.retries, hmoves.nodes, hmoves.frame.settle⟩
  · obtain ⟨hnode, hring, hframe⟩ := reqFail_spec (s := s.setNow t) (r := ring) (p := pos) (e := e) hmuted hact
    refine ⟨settle s ((s.setNow t).reqFail ring e pos h), ?_, hnode, hring, fun k tag m op hp hout => ?_, hframe.settle⟩
    · obtain ⟨rfl, hbusy, hdue, hmay⟩ | ⟨rfl, hbusy, hkind, hdue, hmay⟩ | ⟨rfl, hkind, hdue⟩ := hc
      · rw [exec_answerTimeout_due hh hbusy hdue, retry_fails hmuted hmay]
      · rw [exec_busyRetryDelay_due hh hbusy hkind hdue, retry_fails hmuted hmay]
      · exact exec_passDeadline_due hh hkind hdue
    · exact reqFail_denied (s := s.setNow t) hmuted (hp.imp_left fun hr => ⟨m, hr⟩) hout
  · obtain ⟨hhead, hasks⟩ := passAgain_spec hh
    exact ⟨_, exec_passRepeat_due hh hkind hbusy hdue, hhead, hasks.rings, hasks.nodes, hasks.frame.settle⟩

end Sys2Proof.Machine

namespace Sys2Proof.Machine

/-! ### Frames of nodes at a master port (R157, R205, R222) -/

/-- A ring's record without the mark that one of its nodes was heard. -/
def Ring.unheard (x : Ring) : Ring := { x with heard := false }

/-- A node's record without the marks of the ends at which it was heard. -/
def Node.unseen (x : Node) : Node := { x with seenA := false, seenB := false }

/-- A good frame of a node marks that it was heard, and is traced; nothing else differs. -/
structure Hears (s n : State) : Prop where
  only : ∃ x y, Logs { s with ch := { s.ch with nodes := x, rings := y } } n
  ring : ∀ r, (n.ring r).unheard = (s.ring r).unheard
  node : ∀ r p, (n.node r p).unseen = (s.node r p).unseen

/-- A good frame of a node is heard at an end. -/
def State.heardFrom (s : State) (r : Nat) (e : Leaf) (p kind : Nat) : State :=
  (s.modNode r p (fun n => if n.shows kind then n.see e else n)).modRing r (fun x => { x with heard := true })

section
variable {s : State} {r p kind : Nat} {e : Leaf}

theorem heardFrom_ring (q : Nat) : ((s.heardFrom r e p kind).ring q).unheard = (s.ring q).unheard := by
  by_cases hq : q = r
  · rw [hq, State.heardFrom, ring_modRing_same]
    rfl
  · exact congrArg Ring.unheard (ring_modRing_other _ _ hq)

theorem heardFrom_node (q i : Nat) : ((s.heardFrom r e p kind).node q i).unseen = (s.node q i).unseen := by
  by_cases hk : srcN q i = srcN r p
  · have hnode : (s.heardFrom r e p kind).node q i = if (s.node r p).shows kind then (s.node r p).see e else s.node r p := by
      unfold State.node
      rw [hk]
      exact kget_kset_same _ _ _ _
    have hold : s.node q i = s.node r p := by
      unfold State.node
      rw [hk]
    rw [hnode, hold]
    split
    · cases e <;> rfl
    · rfl
  · exact congrArg Node.unseen (kget_kset_other _ _ _ _ _ hk)

theorem Hears.of_logs {n : State} (h : Logs (s.heardFrom r e p kind) n) : Hears s n := by
  refine ⟨⟨_, _, h⟩, fun q => ?_, fun q i => ?_⟩
  · rw [ring_of_ch h.ch, heardFrom_ring]
  · have hnode : n.node q i = (s.heardFrom r e p kind).node q i := congrArg (fun c : Chains => kget ({} : Node) c.nodes (srcN q i)) h.ch
    rw [hnode, heardFrom_node]

end

section
variable {s n : State} (h : Hears s n)
include h

theorem Hears.time : n.time = s.time := by obtain ⟨_, _, h⟩ := h.only; exact h.time
theorem Hears.sw : n.sw = s.sw := by obtain ⟨_, _, h⟩ := h.only; exact h.sw
theorem Hears.links : n.links = s.links := by obtain ⟨_, _, h⟩ := h.only; exact h.links
theorem Hears.cfg : n.cfg = s.cfg := by obtain ⟨_, _, _, _, _, _, rfl⟩ := h.only; rfl
theorem Hears.pick : n.pick = s.pick := by obtain ⟨_, _, h⟩ := h.only; exact h.pick
theorem Hears.ports : n.ch.ports = s.ch.ports := by obtain ⟨_, _, h⟩ := h.only; exact (congrArg Chains.ports h.ch :)
theorem Hears.alarms : n.ch.alarms = s.ch.alarms := by obtain ⟨_, _, h⟩ := h.only; exact (congrArg Chains.alarms h.ch :)
theorem Hears.low : n.ch.low = s.ch.low := by obtain ⟨_, _, h⟩ := h.only; exact (congrArg Chains.low h.ch :)

theorem Hears.portOn (e : Leaf) : n.portOn e = s.portOn e := by
  obtain ⟨_, _, _, _, _, _, rfl⟩ := h.only
  cases e <;> rfl

theorem Hears.head (r : Nat) (e : Leaf) (p : Nat) : n.head r e p = s.head r e p :=
  head_of_port (congrArg (fun m => kget ({} : PortPos) m (portKey r e p)) h.ports)

theorem Hears.busyNs : n.busyNs = s.busyNs := by
  unfold State.busyNs
  rw [h.low]

theorem Hears.counts (r : Nat) : (n.ring r).counts = (s.ring r).counts := (congrArg Ring.counts (h.ring r) :)

theorem Hears.standing (r p : Nat) : (n.node r p).standing = (s.node r p).standing := (congrArg Node.standing (h.node r p) :)

/-- The parts that a node's frame reaches before its rule runs. -/
theorem Hears.frame : Frame [.chains, .log, .fifos] s n := by
  obtain ⟨_, _, hlogs⟩ := h.only
  exact ((Frame.ch s _).mono (by decide)).trans (hlogs.frame_of_mem (by decide) (by decide))

end

/-- A frame of a position that arrives good at a port that works, with Pick not armed, is heard, is traced and goes to its rule. -/
theorem rx_heard {s : State} {r src kind seq : Nat} {e : Leaf} {p : List Byte} {again : Instr} {judge : List Byte → State → Nat}
    {deliver : List Byte → Nat → State → State} (hon : s.portOn e = true) (hpick : s.pick.armed = false) (hlow : 1 ≤ src)
    (hhigh : src ≤ s.cfg.nodeCount r) : ∃ m, Hears s m ∧ s.rx r e src kind seq p again judge deliver = deliver p (judge p s) m := by
  refine ⟨_, Hears.of_logs (r := r) (e := e) (p := src) (kind := kind) (Logs.traceFrame _ r e 1 (judge p s) (frameBytes 0 src kind seq p)), ?_⟩
  unfold State.rx
  rw [if_neg (by simp [hon])]
  simp only [State.pickJudge, hpick, Bool.not_false, Bool.true_or, if_true]
  unfold State.takeRx
  dsimp only
  rw [decide_eq_true ⟨hlow, hhigh⟩]
  rfl

end Sys2Proof.Machine

namespace Sys2Proof.Machine

/-! ### RSP and NACK at a master port (R201, R205, R207) -/

section
variable {s : State} {r p seq : Nat} {e : Leaf} {h : Req}

theorem judgeAnswer_eq (hh : s.head r e p = some h) (hlow : 1 ≤ p) (hhigh : p ≤ s.cfg.nodeCount r) :
    s.judgeAnswer r e p seq = if h.seq = seq then 0 else 3 := by
  unfold State.judgeAnswer
  simp [hh, hlow, hhigh]

/-- An answer that is no stray is heard: its node hears requests at the end. -/
def Node.hears (x : Node) (e : Leaf) : Node := match e with | .a => { x with deafA := false } | .b => { x with deafB := false }

theorem heardAt_eq : s.heardAt r e p = s.setNode r p ((s.node r p).hears e) := by cases e <;> rfl

theorem heardAt_node : (s.heardAt r e p).node r p = (s.node r p).hears e := by
  rw [heardAt_eq]
  exact kget_kset_same _ _ _ _

theorem heardAt_frame : Frame ringParts s (s.heardAt r e p) := by
  rw [heardAt_eq]
  exact (Frame.ch s _).mono (by decide)

/-- The state in which a request has been answered and is done with, before its purpose speaks. -/
def State.answeredAt (s : State) (r : Nat) (e : Leaf) (p : Nat) : State := (s.heardAt r e p).popReq r e p

theorem answeredAt_node : (s.answeredAt r e p).node r p = (s.node r p).hears e := ((Asks.popReq _ r e p).node r p).trans heardAt_node

theorem answeredAt_ring (q : Nat) : (s.answeredAt r e p).ring q = s.ring q := by
  refine ((Asks.popReq _ r e p).ring q).trans ?_
  rw [heardAt_eq]
  rfl

theorem answeredAt_frame : Frame ringParts s (s.answeredAt r e p) := heardAt_frame.trans (Asks.popReq _ r e p).frame

theorem answeredAt_sess (k : Nat) : (s.answeredAt r e p).sess k = s.sess k :=
  congrArg (fun l : Links => kget ({} : Sess) l.sess k) (answeredAt_frame.links_eq (by decide))

theorem deliverRsp_taken {q : List Byte} (hh : s.head r e p = some h) :
    s.deliverRsp r e p q 0 = ((s.answeredAt r e p).reqOk r e p h q).grow r p := by
  unfold State.deliverRsp
  simp only [hh]
  rfl

theorem deliverRsp_stray {q : List Byte} {res : Nat} (hh : s.head r e p = some h) (hres : res ≠ 0) : s.deliverRsp r e p q res = s.stray r := by
  unfold State.deliverRsp
  simp only [hh]
  exact if_pos hres

/-- A split that follows the reach shows hosts nothing new. -/
theorem grow_links : (s.grow r p).links = s.links := (RingWork.grow s r p).links

theorem grow_sess (k : Nat) : (s.grow r p).sess k = s.sess k := congrArg (fun l : Links => kget ({} : Sess) l.sess k) grow_links

theorem grow_quar : ((s.grow r p).node r p).quar = (s.node r p).quar := (congrArg Node.quar ((RingWork.grow s r p).node r p) :)

theorem grow_hs (i : Nat) : (s.grow r p).hs i = s.hs i :=
  congrArg (fun x : Hasp => kget ({} : HaspStr) x.strs i) ((RingWork.grow s r p).frame .hasp (by decide))

theorem hs_modHs_same (i : Nat) (u : HaspStr → HaspStr) : (s.modHs i u).hs i = u (s.hs i) := kget_kset_same _ _ _ _

/-- What becomes of a request that a quarantine forgets: a host's is answered DENIED (R187). -/
def State.forgotten (q : Req) (s : State) : State :=
  match q.purpose with
  | .hostW k tag => s.answer k tag St.denied []
  | .pass k tag => s.answer k tag St.denied []
  | _ => s

/-- A quarantine puts its reason at the node, where the count of the ring is right. -/
theorem quarantine_quar {reason uid cls reg : Nat} (hcount : (s.ring r).countBad = false) :
    ((s.quarantine r p reason uid cls reg).node r p).quar = reason := by
  unfold State.quarantine
  dsimp only
  split
  next h =>
    obtain ⟨hquar, -⟩ | ⟨-, hbad⟩ := h
    · exact hquar
    · simp [hcount] at hbad
  next =>
    obtain ⟨u, hu⟩ : ∃ u, u = (s.setNode r p { s.node r p with
      quar := reason, trial := false, cfg := 0, plan := [], planKind := 0, servePend := false }).dropReqs r p Req.diag := ⟨_, rfl⟩
    have hquar : (u.node r p).quar = reason := hu ▸ congrArg Node.quar (kget_kset_same ({} : Node) s.ch.nodes (srcN r p) _)
    have hforgotten : ∀ q s, (State.forgotten q s).ch = s.ch := fun q s => by
      unfold State.forgotten
      split
      · exact answer_ch s _ _ _ _
      · exact answer_ch s _ _ _ _
      · rfl
    refine Eq.trans (congrArg (fun c : Chains => (kget ({} : Node) c.nodes (srcN r p)).quar) ((ev_ch _ _ _ _).trans ?_)) hquar
    rw [← hu]
    exact foldl_ch (fun s q => hforgotten q s) _ u

/-- What an answer to the outstanding request leaves. -/
theorem deliverRsp_spec {q : List Byte} (hh : s.head r e p = some h) :
    ((s.deliverRsp r e p q 0).ring r).counts = (s.ring r).counts ∧
      ((s.deliverRsp r e p q 0).node r p).answers = ((s.node r p).hears e).answers ∧ Frame (reqParts h) s (s.deliverRsp r e p q 0) := by
  have hok := WorksIn.reqOk (s := s.answeredAt r e p) (h := h) r e p q
  have hgrow := RingWork.grow ((s.answeredAt r e p).reqOk r e p h q) r p
  rw [deliverRsp_taken hh]
  refine ⟨?_, ?_, ?_⟩
  · rw [hgrow.ring, hok.keeps.ring, answeredAt_ring]
  · have hnode := Node.answers_of_standing (hgrow.node r p)
    exact hnode.trans ((hok.keeps.node (srcN r p)).trans (congrArg Node.answers answeredAt_node))
  · exact ((answeredAt_frame.mono (mem_reqParts h)).trans hok.frame).trans (hgrow.frame.mono (mem_reqParts h))

/-- A host's read that is answered: CONTROL shows OK, and it is outstanding no more. -/
theorem deliverRsp_hostR {q : List Byte} {k tag m op : Nat} (hh : s.head r e p = some h) (hp : h.purpose = .hostR k tag m)
    (hout : (s.sess k).outst.find? (fun o => o.1 == tag) = some (tag, 3, op)) :
    (s.deliverRsp r e p q 0).links.lastStatus = St.ok ∧ (s.deliverRsp r e p q 0).links.lastOpcode = op ∧
      (s.deliverRsp r e p q 0).links.lastSlot = k ∧ ((s.deliverRsp r e p q 0).sess k).outst.all (fun o => o.1 != tag) = true := by
  have hok : (s.answeredAt r e p).reqOk r e p h q = (s.answeredAt r e p).answer k tag St.ok ((q.drop 4).take m) := by
    simp only [State.reqOk, hp]
  rw [deliverRsp_taken hh, grow_links, grow_sess, hok]
  exact answer_shown St.ok _ (by rw [answeredAt_sess, hout])

/-- An actuation that is answered is unanswered no more. -/
theorem deliverRsp_act {q : List Byte} {i tok : Nat} (hh : s.head r e p = some h) (hp : h.purpose = .act i tok) :
    ((s.deliverRsp r e p q 0).hs i).unans = false := by
  rw [deliverRsp_taken hh, grow_hs]
  simp only [State.reqOk, hp]
  rw [hs_modHs_same]

/-- A read-back that does not hold quarantines its node with reason CONFIG (R201). -/
theorem deliverRsp_configFails {q : List Byte} (hh : s.head r e p = some h) (hp : h.purpose = .cfgR) (hq : q.drop 4 ≠ h.expect)
    (hcount : (s.ring r).countBad = false) : ((s.deliverRsp r e p q 0).node r p).quar = 9 := by
  have hok : (s.answeredAt r e p).reqOk r e p h q = (s.answeredAt r e p).configFails r p h.reg := by
    simp only [State.reqOk, hp]
    exact if_neg hq
  rw [deliverRsp_taken hh, hok, grow_quar]
  exact quarantine_quar (by rw [answeredAt_ring, hcount])

/-- What a NACK leaves its rule with: the node hears requests, and its reason is recorded. -/
def State.nackedAt (s : State) (r : Nat) (e : Leaf) (p reason : Nat) : State :=
  (s.heardAt r e p).modNode r p (fun n => { n with lastNack := reason })

theorem nackedAt_node {reason : Nat} : ((s.nackedAt r e p reason).node r p).lastNack = reason :=
  congrArg Node.lastNack (kget_kset_same _ _ _ _)

theorem nackedAt_frame {reason : Nat} : Frame ringParts s (s.nackedAt r e p reason) :=
  heardAt_frame.trans ((Frame.ch (s.heardAt r e p) _).mono (by decide))

theorem nackedAt_ring {reason : Nat} (q : Nat) : (s.nackedAt r e p reason).ring q = s.ring q := by
  unfold State.nackedAt
  rw [heardAt_eq]
  rfl

theorem nackedAt_head {reason : Nat} : (s.nackedAt r e p reason).head r e p = s.head r e p := by
  unfold State.nackedAt
  rw [heardAt_eq]
  rfl

theorem nackedAt_busy {reason : Nat} : (s.nackedAt r e p reason).time.now + (s.nackedAt r e p reason).busyNs = s.time.now + s.busyNs := by
  unfold State.nackedAt
  rw [heardAt_eq]
  rfl

theorem deliverNack_busy {q : List Byte} (hh : s.head r e p = some h) (hq : leAt q 0 1 = 4) (hact : ∀ i tok, h.purpose ≠ .act i tok) :
    s.deliverNack r e p q 0 = (((s.nackedAt r e p 4).modHead r e p fun h =>
      { h with busy := true, due := (s.nackedAt r e p 4).time.now + (s.nackedAt r e p 4).busyNs })).grow r p := by
  have hwait : (s.nackedAt r e p 4).nackBusy r e p h = (s.nackedAt r e p 4).modHead r e p fun h =>
      { h with busy := true, due := (s.nackedAt r e p 4).time.now + (s.nackedAt r e p 4).busyNs } := by
    unfold State.nackBusy
    split
    next hp => exact absurd hp (hact _ _)
    next => rfl
  rw [← hwait]
  unfold State.deliverNack
  simp only [hh, hq]
  rfl

/-- NACK BUSY: the request waits for its delay, and the reason is recorded. -/
theorem deliverNack_busy_spec {q : List Byte} (hh : s.head r e p = some h) (hq : leAt q 0 1 = 4) (hact : ∀ i tok, h.purpose ≠ .act i tok) :
    (s.deliverNack r e p q 0).head r e p = some { h with busy := true, due := s.time.now + s.busyNs } ∧
      ((s.deliverNack r e p q 0).node r p).lastNack = 4 ∧ Frame ringParts s (s.deliverNack r e p q 0) := by
  rw [deliverNack_busy hh hq hact, nackedAt_busy]
  obtain ⟨u, hu⟩ : ∃ u, u = (s.nackedAt r e p 4).modHead r e p fun h => { h with busy := true, due := s.time.now + s.busyNs } := ⟨_, rfl⟩
  have hasks : Asks (s.nackedAt r e p 4) u := hu ▸ Asks.modHead _ r e p _
  have hhead : u.head r e p = some { h with busy := true, due := s.time.now + s.busyNs } := by
    obtain ⟨_, _, hsent⟩ := head_eq_some.mp hh
    exact hu ▸ head_modHead (nackedAt_head.trans hh) hsent
  have hgrow := RingWork.grow u r p
  rw [← hu]
  refine ⟨hgrow.head hhead, ?_, (nackedAt_frame.trans hasks.frame).trans hgrow.frame⟩
  refine Eq.trans (congrArg Node.lastNack (hgrow.node r p) :) ?_
  rw [hasks.node]
  exact nackedAt_node

/-- The state in which a request has been refused and is done with, before its purpose speaks. -/
def State.refusedAt (s : State) (r : Nat) (e : Leaf) (p : Nat) (q : List Byte) : State :=
  ((s.nackedAt r e p (leAt q 0 1)).ev Ev.nodeNack (srcN r p) [p1 (leAt q 0 1), p1 (leAt q 1 1)]).popReq r e p

theorem deliverNack_refused {q : List Byte} (hh : s.head r e p = some h) (hq : leAt q 0 1 ≠ 4) :
    s.deliverNack r e p q 0 = ((s.refusedAt r e p q).reqNack r e p h q).grow r p := by
  unfold State.deliverNack
  simp only [hh, hq, ne_eq, not_true_eq_false, if_false]
  rfl

theorem refusedAt_asks {q : List Byte} : Asks (s.nackedAt r e p (leAt q 0 1)) (s.refusedAt r e p q) :=
  (Asks.of_sends (Sends.of_logs (Logs.ev _ _ _ _))).trans (Asks.popReq _ r e p)

theorem refusedAt_frame {q : List Byte} : Frame ringParts s (s.refusedAt r e p q) := nackedAt_frame.trans refusedAt_asks.frame

theorem refusedAt_sess {q : List Byte} (k : Nat) : (s.refusedAt r e p q).sess k = s.sess k :=
  congrArg (fun l : Links => kget ({} : Sess) l.sess k) (refusedAt_frame.links_eq (by decide))

/-- Another NACK ends the request, and its reason is recorded. -/
theorem deliverNack_refused_spec {q : List Byte} (hh : s.head r e p = some h) (hq : leAt q 0 1 ≠ 4) :
    ((s.deliverNack r e p q 0).node r p).lastNack = leAt q 0 1 ∧ ((s.deliverNack r e p q 0).ring r).counts = (s.ring r).counts ∧
      Frame (reqParts h) s (s.deliverNack r e p q 0) := by
  have hnack := WorksIn.reqNack (s := s.refusedAt r e p q) (h := h) r e p q
  have hgrow := RingWork.grow ((s.refusedAt r e p q).reqNack r e p h q) r p
  rw [deliverNack_refused hh hq]
  refine ⟨?_, ?_, ((refusedAt_frame.mono (mem_reqParts h)).trans hnack.frame).trans (hgrow.frame.mono (mem_reqParts h))⟩
  · refine Eq.trans (congrArg Node.lastNack (hgrow.node r p) :) (Eq.trans (congrArg Node.lastNack (hnack.keeps.node (srcN r p)) :) ?_)
    exact (congrArg Node.lastNack (refusedAt_asks.node r p)).trans nackedAt_node
  · rw [hgrow.ring, hnack.keeps.ring, refusedAt_asks.ring, nackedAt_ring]

/-- A host's read that is refused is answered DENIED. -/
theorem deliverNack_hostR {q : List Byte} {k tag m op : Nat} (hh : s.head r e p = some h) (hq : leAt q 0 1 ≠ 4)
    (hp : h.purpose = .hostR k tag m) (hout : (s.sess k).outst.find? (fun o => o.1 == tag) = some (tag, 3, op)) :
    (s.deliverNack r e p q 0).links.lastStatus = St.denied ∧ (s.deliverNack r e p q 0).links.lastOpcode = op ∧
      (s.deliverNack r e p q 0).links.lastSlot = k ∧ ((s.deliverNack r e p q 0).sess k).outst.all (fun o => o.1 != tag) = true := by
  have hnack : (s.refusedAt r e p q).reqNack r e p h q = (s.refusedAt r e p q).answer k tag St.denied [q.headD 0] := by
    simp only [State.reqNack, hp]
  rw [deliverNack_refused hh hq, grow_links, grow_sess, hnack]
  exact answer_shown St.denied _ (by rw [refusedAt_sess, hout])

end

end Sys2Proof.Machine

namespace Sys2Proof.Machine

/-! ### Answers to the outstanding request (R201, R205, R207, R649) -/

theorem leAt_nackP {reason : Nat} (kind : Nat) (h : reason < 256) : leAt (nackP reason kind) 0 1 = reason := leAt_byteOf _ h

theorem Ring.stray_of_counts {x y : Ring} (h : x.counts = y.counts) : x.stray = y.stray := (congrArg Ring.stray h :)

theorem Hears.countBad {s n : State} (h : Hears s n) (r : Nat) : (n.ring r).countBad = (s.ring r).countBad :=
  (congrArg Ring.countBad (h.ring r) :)

theorem stray_ring (s : State) (r : Nat) : ((s.stray r).ring r).stray = satAdd 32 (s.ring r).stray 1 :=
  congrArg Ring.stray (ring_modRing_same s r _)

section
variable {t ring pos seq : Nat} {e : Leaf} {h : Req} {s : State}

theorem exec_rspReceived {f : RspFrame} (hring : s.cfg.ringOn ring = true) (hon : (s.setNow t).portOn e = true) (hpick : s.pick.armed = false)
    (hh : (s.setNow t).head ring e f.pos = some h) (hlow : 1 ≤ f.pos) (hhigh : f.pos ≤ s.cfg.nodeCount ring) :
    ∃ m, Hears (s.setNow t) m ∧ exec (.rspReceived t ring e f) s =
      .next (settle s (m.deliverRsp ring e f.pos (rspP f) (if h.seq = f.seq then 0 else 3))) := by
  obtain ⟨m, hm, hrx⟩ := rx_heard (r := ring) (kind := 5) (seq := f.seq) (p := rspP f) (again := .rspReceived t ring e f)
    (judge := fun _ s => s.judgeAnswer ring e f.pos f.seq) (deliver := fun p res s => s.deliverRsp ring e f.pos p res) hon hpick hlow hhigh
  refine ⟨m, hm, ?_⟩
  change execRspReceived t ring e f s = _
  unfold execRspReceived
  refine at'_eq ((if_neg (by simp [hring])).trans (hrx.trans ?_))
  rw [judgeAnswer_eq hh hlow hhigh]

theorem exec_nackReceived {reason kind : Nat} (hring : s.cfg.ringOn ring = true) (hon : (s.setNow t).portOn e = true)
    (hpick : s.pick.armed = false) (hh : (s.setNow t).head ring e pos = some h) (hlow : 1 ≤ pos) (hhigh : pos ≤ s.cfg.nodeCount ring)
    (hseq : h.seq = seq) : ∃ m, Hears (s.setNow t) m ∧ exec (.nackReceived t ring e pos seq reason kind) s =
      .next (settle s (m.deliverNack ring e pos (nackP reason kind) 0)) := by
  obtain ⟨m, hm, hrx⟩ := rx_heard (r := ring) (kind := 0xD) (seq := seq) (p := nackP reason kind)
    (again := .nackReceived t ring e pos seq reason kind) (judge := fun _ s => s.judgeAnswer ring e pos seq)
    (deliver := fun p res s => s.deliverNack ring e pos p res) hon hpick hlow hhigh
  refine ⟨m, hm, ?_⟩
  change execNackReceived t ring e pos seq reason kind s = _
  unfold execNackReceived
  refine at'_eq ((if_neg (by simp [hring])).trans (hrx.trans ?_))
  rw [judgeAnswer_eq hh hlow hhigh, if_pos hseq]

end

/-- What is outstanding in a session does not hang on a node's frame. -/
theorem Hears.sess {s n : State} (h : Hears s n) (k : Nat) : n.sess k = s.sess k := congrArg (fun l : Links => kget ({} : Sess) l.sess k) h.links

/-- Settles O43: the frame is heard, then the outstanding request's end by its purpose. -/
theorem answersReceived : Obligations.AnswersReceived := by
  unfold Obligations.AnswersReceived
  intro t ring e pos seq h s hring hon hpick hh hlow hhigh
  refine ⟨?_, fun kind hseq => ⟨fun hact => ?_, fun reason hreason hbusy => ?_⟩⟩
  · rintro f rfl rfl
    obtain ⟨m, hm, hexec⟩ := exec_rspReceived hring hon hpick hh hlow hhigh
    have hhead : m.head ring e f.pos = some h := (hm.head ring e f.pos).trans hh
    have hframe : Frame ringParts (s.setNow t) m := hm.frame.mono (by decide)
    refine ⟨fun hseq => ?_, fun hseq => ?_⟩
    · rw [if_pos hseq] at hexec
      obtain ⟨hcounts, hnode, hparts⟩ := deliverRsp_spec (q := rspP f) hhead
      refine ⟨_, hexec, ?_, ?_, ?_, fun k tag n op hp hout => ?_, fun i tok hp => deliverRsp_act hhead hp, fun hp hdata hcount => ?_,
        ((hframe.mono (mem_reqParts h)).trans hparts).settle⟩
      · exact Ring.stray_of_counts (hcounts.trans (hm.counts ring))
      · rintro rfl
        exact congrArg Node.deafA hnode
      · rintro rfl
        exact congrArg Node.deafB hnode
      · exact deliverRsp_hostR hhead hp (by rw [hm.sess]; exact hout)
      · exact deliverRsp_configFails hhead hp hdata ((hm.countBad ring).trans hcount)
    · rw [if_neg hseq, deliverRsp_stray hhead (by decide)] at hexec
      refine ⟨_, hexec, ?_, hm.ports, (hm.frame.trans ((modRing_frame m ring _).mono (by decide))).settle⟩
      refine (stray_ring m ring).trans (congrArg (satAdd 32 · 1) ?_)
      exact Ring.stray_of_counts (hm.counts ring)
  · obtain ⟨m, hm, hexec⟩ := exec_nackReceived (reason := 4) (kind := kind) hring hon hpick hh hlow hhigh hseq
    obtain ⟨hhead, hnack, hframe⟩ := deliverNack_busy_spec ((hm.head ring e pos).trans hh) (leAt_nackP kind (by decide)) hact
    refine ⟨_, hexec, ?_, hnack, ((hm.frame.mono (by decide)).trans hframe).settle⟩
    rw [hm.time, hm.busyNs] at hhead
    exact hhead
  · obtain ⟨m, hm, hexec⟩ := exec_nackReceived (reason := reason) (kind := kind) hring hon hpick hh hlow hhigh hseq
    have hhead : m.head ring e pos = some h := (hm.head ring e pos).trans hh
    have hfield := leAt_nackP kind hreason
    have hrefused : leAt (nackP reason kind) 0 1 ≠ 4 := by rw [hfield]; exact hbusy
    obtain ⟨hnack, hcounts, hframe⟩ := deliverNack_refused_spec hhead hrefused
    refine ⟨_, hexec, hnack.trans hfield, Ring.stray_of_counts (hcounts.trans (hm.counts ring)), fun k tag n op hp hout => ?_, ?_⟩
    · exact deliverNack_hostR hhead hrefused hp (by rw [hm.sess]; exact hout)
    · exact (((hm.frame.mono (by decide : ∀ p, p ∈ _ → p ∈ ringParts)).mono (mem_reqParts h)).trans hframe).settle

end Sys2Proof.Machine

namespace Sys2Proof.Machine

/-! ### The SYNCs of a start round (R195) -/

section
variable {t r : Nat} {s : State}

/-- One end's SYNC of a start round leaves, where the end works. -/
def State.syncFrom (s : State) (r low : Nat) (e : Leaf) : State := if s.portOn e then s.emit (syncOut r e low 0) else s

theorem syncFrom_out (low : Nat) (e : Leaf) : (s.syncFrom r low e).out = (if s.portOn e then [syncOut r e low 0] else []) ++ s.out := by
  unfold State.syncFrom
  split <;> rfl

theorem syncFrom_ch (low : Nat) (e : Leaf) : (s.syncFrom r low e).ch = s.ch := ite_ch _ (emit_ch s _) rfl

theorem syncFrom_portOn (low : Nat) (e f : Leaf) : (s.syncFrom r low e).portOn f = s.portOn f := by
  unfold State.syncFrom
  split
  · cases f <;> rfl
  · rfl

theorem syncFrom_frame (low : Nat) (e : Leaf) : Frame [.out] s (s.syncFrom r low e) := by
  unfold State.syncFrom
  refine Frame.ite _ ?_ (Frame.refl _ s)
  rintro ⟨⟩ hp <;> simp [Part.same] at hp ⊢

/-- The next SYNC of a start round leaves both ends. -/
def State.launched (s : State) (r : Nat) : State :=
  ((s.setRing r { s.ring r with calN := (s.ring r).calN + 1, calLast := s.time.now }).syncFrom r (0xF8 + (s.ring r).calN) .a).syncFrom r
    (0xF8 + (s.ring r).calN) .b

theorem launched_spec : (s.launched r).ring r = { s.ring r with calN := (s.ring r).calN + 1, calLast := s.time.now } ∧
    (s.launched r).out = (if s.portOn .b then [syncOut r .b (0xF8 + (s.ring r).calN) 0] else []) ++
      (if s.portOn .a then [syncOut r .a (0xF8 + (s.ring r).calN) 0] else []) ++ s.out ∧
    (∀ q, q ≠ r → (s.launched r).ring q = s.ring q) ∧ Frame [.chains, .out] s (s.launched r) := by
  have hch : (s.launched r).ch = (s.setRing r { s.ring r with calN := (s.ring r).calN + 1, calLast := s.time.now }).ch :=
    (syncFrom_ch _ _).trans (syncFrom_ch _ _)
  refine ⟨?_, ?_, fun q hq => ?_, ?_⟩
  · rw [ring_of_ch hch, ring_setRing_same]
  · unfold State.launched
    rw [syncFrom_out, syncFrom_portOn, syncFrom_out, setRing_portOn, setRing_portOn, List.append_assoc]
    rfl
  · exact (ring_of_ch hch q).trans (kget_kset_other _ _ _ _ _ hq)
  · exact ((setRing_frame s r _).mono (by decide)).trans (((syncFrom_frame _ _).trans (syncFrom_frame _ _)).mono (by decide))

theorem exec_calSyncLaunch_due (hcal : (s.ring r).cal = 2) (hlow : s.ch.low = false)
    (hdue : (s.ring r).calN = 0 ∨ (s.ring r).calLast + 250000 ≤ (s.setNow t).time.now) :
    exec (.calSyncLaunch t r) s = .next (settle s (if (s.ring r).calN < 8 then (s.setNow t).launched r
      else (((s.setNow t).setRing r { s.ring r with cal := 3 }).calReads r).calCheck r)) := by
  change execCalSyncLaunch t r s = _
  unfold execCalSyncLaunch
  have hcal' : ((s.setNow t).ring r).cal = 2 := hcal
  refine at'_eq ((if_neg (by omega)).trans ((if_pos ⟨hcal, by simp [hlow], hdue⟩).trans ?_))
  rfl

/-- The reads of every register after the eighth SYNC: the round waits for their answers, or is over where none went. -/
theorem launchOver_spec : (((((s.setRing r { s.ring r with cal := 3 }).calReads r).calCheck r).ring r).cal = 3 ∨
    ((((s.setRing r { s.ring r with cal := 3 }).calReads r).calCheck r).ring r).cal = 0) ∧
    Frame (fenceParts ++ [.thermal]) s (((s.setRing r { s.ring r with cal := 3 }).calReads r).calCheck r) := by
  obtain ⟨u, hu⟩ : ∃ u, u = (s.setRing r { s.ring r with cal := 3 }).calReads r := ⟨_, rfl⟩
  have hreads : RingWork (s.setRing r { s.ring r with cal := 3 }) u := hu ▸ Works.calReads _ r
  have hcal : (u.ring r).cal = 3 := by rw [hu, calReads_ring, ring_setRing_same]
  rw [← hu]
  refine ⟨?_, (((setRing_frame s r _).mono (by decide)).trans (hreads.frame.mono (by decide))).trans (Calibrates.calCheck u).frame⟩
  rw [calCheck_read (.inl hcal)]
  split
  · exact .inl hcal
  · exact .inr (calFinish_idle u)

/-- A start round that a break cut goes on by R198 when its requests are over (R230). -/
theorem exec_calSyncLaunch_cut (hcal : (s.ring r).cal = 9) :
    exec (.calSyncLaunch t r) s = .next (settle s ((s.setNow t).calCheck r)) := by
  change execCalSyncLaunch t r s = _
  unfold execCalSyncLaunch
  exact at'_eq (if_pos hcal)

theorem calCheck_open (hopen : s.calOpen r = true) : s.calCheck r = s := if_pos hopen

theorem calCheck_cut (hcal : (s.ring r).cal = 9) (hopen : s.calOpen r = false) :
    ((s.calCheck r).ring r).cal = 10 ∨ ((s.calCheck r).ring r).cal = 0 := by
  obtain ⟨u, hu⟩ : ∃ u, u = (s.modRing r (fun x => { x with cal := 10 })).calReads r := ⟨_, rfl⟩
  have hcal' : (u.ring r).cal = 10 := by rw [hu, calReads_ring, ring_modRing_same]
  have heq : s.calCheck r = if u.calOpen r then u else u.calFinish r := by
    rw [hu]
    simp [State.calCheck, hcal, hopen]
  rw [heq]
  split
  · exact .inl hcal'
  · exact .inr (calFinish_idle u)

end

/-! ### A background round (R196) -/

section
variable {t r : Nat} {s : State}

theorem exec_calRoundStart_due (hst : (s.ring r).st = .whole) (hcal : (s.ring r).cal = 0) (hcount : (s.ring r).countBad = false)
    (hsweep : (s.setNow t).sweeping = true) (hphase : s.sw.phase = .committed)
    (hdue : (s.ring r).calFrom + 60000000000 ≤ (s.setNow t).time.now) :
    exec (.calRoundStart t r) s = .next (settle s ((s.setNow t).calClear r 5)) := by
  have hbad : (!((s.setNow t).ring r).countBad) = true := by
    have hkept : ((s.setNow t).ring r).countBad = false := hcount
    rw [hkept]
    rfl
  change execCalRoundStart t r s = _
  unfold execCalRoundStart
  exact at'_eq (if_pos ⟨hst, hcal, hbad, hsweep, hphase, hdue⟩)

/-- The clearing of SKEW_COUNT begins a round: it waits for the answers, or for the sweeps where none went. -/
theorem calClear_spec {phase : Nat} (hphase : phase = 5) : ((s.calClear r phase).ring r).calFrom = s.time.now ∧
    (((s.calClear r phase).ring r).cal = 5 ∨ ((s.calClear r phase).ring r).cal = 6) ∧
    ((s.calClear r phase).ring r).st = (s.ring r).st ∧ Frame ringParts s (s.calClear r phase) := by
  subst hphase
  unfold State.calClear
  dsimp only
  obtain ⟨v, hv⟩ : ∃ v, v = s.modRing r (fun x => { x with cal := 5, calFrom := s.time.now }) := ⟨_, rfl⟩
  obtain ⟨u, hu⟩ : ∃ u, u = v.each (v.cfg.positions r) (fun p s => let n := s.node r p
      if n.known ∧ !n.barred then s.request' r (s.reqEnd r p) p (reqWr 0xFE04 [0] .calClear 6) else s) := ⟨_, rfl⟩
  have hwrites : Works id Node.standing v u := hu ▸ Works.each (fun p s => Works.ite _ (Works.request' s r _ p _) (Works.refl s)) _ v
  have hring : u.ring r = { s.ring r with cal := 5, calFrom := s.time.now } := by
    have hsame : u.ring r = v.ring r := hwrites.ring r
    rw [hsame, hv, ring_modRing_same]
  have hcal : (u.ring r).cal = 5 := by rw [hring]
  have hframe : Frame ringParts s u := (hv ▸ (modRing_frame s r _).mono (by decide) : Frame ringParts s v).trans hwrites.frame
  have hcheck : (u.calCheck r) = if u.calOpen r then u else
      u.modRing r (fun x => { x with cal := 6, calN := 0, calAb := 0, calBa := 0, calAbN := 0, calBaN := 0 }) := by
    simp [State.calCheck, hcal]
  rw [← hv, ← hu, hcheck]
  split
  · rw [hring]
    exact ⟨rfl, .inl rfl, rfl, hframe⟩
  · rw [ring_modRing_same, hring]
    exact ⟨rfl, .inr rfl, rfl, hframe.trans ((modRing_frame u r _).mono (by decide))⟩

end

/-! ### SYNCs that come round, and one that does not (R182, R191, R263) -/

/-- A ring's record with the delay of a start round's SYNC that came round at an end. -/
def Ring.delayAdded (x : Ring) (e : Leaf) (delay : Nat) : Ring :=
  if e = .a then { x with calBa := x.calBa + delay, calBaN := x.calBaN + 1 } else { x with calAb := x.calAb + delay, calAbN := x.calAbN + 1 }

/-- A ring's record with the sweep's SYNC come round at an end, under a HOP; `n` is NODE_COUNT. -/
def Ring.syncRound (x : Ring) (e : Leaf) (hop n : Nat) : Ring :=
  match e with
  | .a => { x with syncA := true, hopOkA := hop == n, hopAtA := hop }
  | .b => { x with syncB := true, hopOkB := hop == n, hopAtB := hop }

/-- A ring's record with a SYNC noted missing at an end. -/
def Ring.syncMissed (x : Ring) (e : Leaf) : Ring := match e with | .a => { x with missA := true } | .b => { x with missB := true }

/-- Event 3 or 4 of R223 begins the determination of a break on a ring that is WHOLE. -/
theorem ringEvent_missed {s : State} {r code : Nat} (hst : (s.ring r).st = .whole) (hbrk : (s.ring r).brk = 0) (hcode : code ≠ 5) :
    Enumerates r (s.setRing r ((s.ring r).breakBegun code s.time.now)) (s.ringEvent r code) := by
  have hpos : PositionsOnly (s.setRing r ((s.ring r).breakBegun code s.time.now))
      ((s.setRing r ((s.ring r).breakBegun code s.time.now)).each (s.cfg.positions r)
        (fun p s => s.modNode r p (fun n => { n with reqA := false, reqB := false }))) :=
    PositionsOnly.each (fun p s => PositionsOnly.modNode s r p _) _ _
  unfold State.ringEvent
  dsimp only
  rw [if_neg (by simp [hst, hbrk]), if_neg hcode]
  split
  · exact Enumerates.of_positions hpos
  · exact (Enumerates.of_positions hpos).trans (Enumerates.breakEnum _ r)

section
variable {t r : Nat} {e : Leaf} {s : State}

theorem exec_syncReceived {low hop delay : Nat} (hring : s.cfg.ringOn r = true) (hon : (s.setNow t).portOn e = true) :
    exec (.syncReceived t r e low hop delay) s = .next (settle s ((s.setNow t).syncIn r e low hop delay)) := by
  change execSyncReceived t r e low hop delay s = _
  unfold execSyncReceived
  exact at'_eq (if_pos ⟨hring, hon⟩)

theorem syncIn_start {low hop delay : Nat} (hcal : (s.ring r).cal = 2) (hn : 0 < (s.ring r).calN) (hlow : low = 0xF7 + (s.ring r).calN) :
    s.syncIn r e low hop delay = s.setRing r ((s.ring r).delayAdded e delay) := by
  unfold State.syncIn
  dsimp only
  rw [if_pos hcal, if_pos ⟨hn, hlow⟩]
  cases e <;> rfl

theorem syncIn_sweep {low hop delay : Nat} (hcal : (s.ring r).cal ≠ 2) (hstarted : s.sw.started = true) (hup : s.up = true)
    (hlow : low = s.sw.num % 256) (hdue : s.time.now ≤ s.sw.ts + (s.ring r).tNs + 5000) :
    s.syncIn r e low hop delay = s.setRing r
      ((if (s.ring r).cal = 6 then (s.ring r).delayAdded e delay else s.ring r).syncRound e hop (s.cfg.nodeCount r)) := by
  unfold State.syncIn
  dsimp only
  rw [if_neg hcal, if_pos ⟨hstarted, hup, hlow, hdue⟩]
  cases e <;> rfl

theorem exec_farSyncMissing_due (hring : s.cfg.ringOn r = true) (hboth : (s.setNow t).bothRun = true) (hsweep : (s.setNow t).sweeping = true)
    (hstarted : s.sw.started = true) (hcount : (s.ring r).countBad = false)
    (hgot : (if e = .a then (s.ring r).syncA else (s.ring r).syncB) = false) (hdue : s.sw.ts + (s.ring r).tNs + 5000 ≤ (s.setNow t).time.now) :
    exec (.farSyncMissing t r e) s =
      .next (settle s (((s.setNow t).modRing r (fun x => x.syncMissed e)).ringEvent r (if e = .b then 3 else 4))) := by
  obtain ⟨ha, hb⟩ : (s.setNow t).running .a = true ∧ (s.setNow t).running .b = true := by simpa [State.bothRun] using hboth
  have hbad : ((s.setNow t).ring r).countBad = false := hcount
  change execFarSyncMissing t r e s = _
  unfold execFarSyncMissing
  refine at'_eq ((if_pos ⟨hring, alive_of_running ha, alive_of_running hb, hsweep, hstarted, by rw [hbad]; rfl, ?_, hdue⟩).trans ?_)
  · cases e <;> rfl
  · cases e
    · exact congrArg not hgot
    · exact congrArg not hgot

/-- What a missing SYNC leaves: it is marked, and on a WHOLE ring it begins the determination of a break. -/
theorem syncMissed_spec {code : Nat} (hcode : 2 < code ∧ code ≠ 5) :
    let n := (s.modRing r (fun x => x.syncMissed e)).ringEvent r code
    (e = .a → (n.ring r).missA = true) ∧ (e = .b → (n.ring r).missB = true) ∧
      ((s.ring r).st = .whole → (s.ring r).brk = 0 → (n.ring r).brk = code ∧ (n.ring r).brkNow = s.time.now) ∧ Frame ringParts s n := by
  obtain ⟨u, hu⟩ : ∃ u, u = s.modRing r (fun x => x.syncMissed e) := ⟨_, rfl⟩
  have hur : u.ring r = (s.ring r).syncMissed e := by rw [hu, ring_modRing_same]
  have hst : (u.ring r).st = (s.ring r).st ∧ (u.ring r).brk = (s.ring r).brk := by
    rw [hur]
    cases e <;> exact ⟨rfl, rfl⟩
  have hmiss : (e = .a → (u.ring r).missA = true) ∧ (e = .b → (u.ring r).missB = true) := by
    rw [hur]
    exact ⟨fun h => h ▸ rfl, fun h => h ▸ rfl⟩
  have hframe : Frame ringParts s u := hu ▸ (modRing_frame s r _).mono (by decide)
  have hnow : u.time.now = s.time.now := by rw [hu]; rfl
  dsimp only
  rw [← hu]
  by_cases hwhole : (u.ring r).st = .whole ∧ (u.ring r).brk = 0
  · have hbegins := ringEvent_missed hwhole.1 hwhole.2 hcode.2
    have hrec := hbegins.ring
    rw [ring_setRing_same] at hrec
    refine ⟨fun h => ?_, fun h => ?_, fun _ _ => ⟨?_, ?_⟩, hframe.trans (((setRing_frame u r _).mono (by decide)).trans hbegins.frame)⟩
    · exact (congrArg Ring.missA hrec :).trans (hmiss.1 h)
    · exact (congrArg Ring.missB hrec :).trans (hmiss.2 h)
    · exact (congrArg Ring.brk hrec :)
    · exact (congrArg Ring.brkNow hrec :).trans hnow
  · have hnone : u.ringEvent r code = u := by
      unfold State.ringEvent
      refine if_pos ?_
      by_cases hbrk : (u.ring r).brk = 0
      · exact .inl ⟨fun h => hwhole ⟨h, hbrk⟩, by simp [hcode.1]⟩
      · exact .inr hbrk
    rw [hnone]
    exact ⟨hmiss.1, hmiss.2, fun h1 h2 => absurd ⟨hst.1.trans h1, hst.2.trans h2⟩ hwhole, hframe⟩

end

end Sys2Proof.Machine

namespace Sys2Proof.Machine

/-! ### SYNCs and calibration (R182, R191, R195, R196, R263) -/

section
variable {t r : Nat} {e : Leaf} {s : State}

/-- A start round that a break cut waits for its requests, then goes on by R198. -/
theorem calSyncLaunch_cut (hcal : (s.ring r).cal = 9) : ∃ n, exec (.calSyncLaunch t r) s = .next n ∧
    ((s.setNow t).calOpen r = true → n.ring r = s.ring r) ∧
    ((s.setNow t).calOpen r = false → (n.ring r).cal = 10 ∨ (n.ring r).cal = 0) ∧ Frame ringParts s n := by
  obtain ⟨u, hu⟩ : ∃ u, u = (s.setNow t).calCheck r := ⟨_, rfl⟩
  have hcut : RingWork (s.setNow t) u := hu ▸ RingWork.calCheck (by rw [setNow_ring, hcal]; decide) (by rw [setNow_ring, hcal]; decide)
  have hround : (s.setNow t).calOpen r = false → (u.ring r).cal = 10 ∨ (u.ring r).cal = 0 := fun hopen => hu ▸ calCheck_cut hcal hopen
  refine ⟨_, exec_calSyncLaunch_cut hcal, fun hopen => ?_, ?_, hu ▸ hcut.frame.settle⟩
  · rw [calCheck_open hopen]
    rfl
  · rw [← hu]
    exact hround

/-- A SYNC of a start round that came round at an end adds its delay there. -/
theorem syncReceived_start {low hop delay : Nat} (hring : s.cfg.ringOn r = true) (hon : (s.setNow t).portOn e = true)
    (hcal : (s.ring r).cal = 2) (hn : 0 < (s.ring r).calN) (hlow : low = 0xF7 + (s.ring r).calN) :
    ∃ n, exec (.syncReceived t r e low hop delay) s = .next n ∧ n.ring r = (s.ring r).delayAdded e delay ∧
      (∀ q, q ≠ r → n.ring q = s.ring q) ∧ n.ch.nodes = s.ch.nodes ∧ Frame [.chains] s n := by
  have hin := syncIn_start (s := s.setNow t) (e := e) (hop := hop) (delay := delay) hcal hn hlow
  refine ⟨_, exec_syncReceived hring hon, ?_⟩
  rw [hin]
  exact ⟨ring_setRing_same _ _ _, fun q hq => kget_kset_other _ _ _ _ _ hq, rfl, (setRing_frame _ r _).settle⟩

/-- A SYNC of the sweep that came round at an end marks the end's SYNC and HOP, and counts for a background round. -/
theorem syncReceived_sweep {low hop delay : Nat} (hring : s.cfg.ringOn r = true) (hon : (s.setNow t).portOn e = true)
    (hcal : (s.ring r).cal ≠ 2) (hstarted : s.sw.started = true) (hup : (s.setNow t).up = true) (hlow : low = s.sw.num % 256)
    (hdue : (s.setNow t).time.now ≤ s.sw.ts + (s.ring r).tNs + 5000) :
    ∃ n, exec (.syncReceived t r e low hop delay) s = .next n ∧
      n.ring r = (if (s.ring r).cal = 6 then (s.ring r).delayAdded e delay else s.ring r).syncRound e hop (s.cfg.nodeCount r) ∧
      (∀ q, q ≠ r → n.ring q = s.ring q) ∧ n.ch.nodes = s.ch.nodes ∧ Frame [.chains] s n := by
  have hin := syncIn_sweep (s := s.setNow t) (e := e) (hop := hop) (delay := delay) hcal hstarted hup hlow hdue
  refine ⟨_, exec_syncReceived hring hon, ?_⟩
  rw [hin]
  exact ⟨ring_setRing_same _ _ _, fun q hq => kget_kset_other _ _ _ _ _ hq, rfl, (setRing_frame _ r _).settle⟩

/-- What a delay adds stays beneath the sweep's marks, and the other end's SYNC is left alone. -/
theorem syncRound_spec (x : Ring) (e : Leaf) (hop n delay : Nat) :
    let y := (if x.cal = 6 then x.delayAdded e delay else x).syncRound e hop n
    (x.cal = 6 → e = .a → y.calBa = x.calBa + delay ∧ y.calBaN = x.calBaN + 1) ∧
      (x.cal = 6 → e = .b → y.calAb = x.calAb + delay ∧ y.calAbN = x.calAbN + 1) ∧
      (e = .a → y.syncA = true ∧ y.hopAtA = hop ∧ y.hopOkA = (hop == n) ∧ y.syncB = x.syncB) ∧
      (e = .b → y.syncB = true ∧ y.hopAtB = hop ∧ y.hopOkB = (hop == n) ∧ y.syncA = x.syncA) := by
  by_cases hcal : x.cal = 6
  · cases e <;> simp [hcal, Ring.syncRound, Ring.delayAdded]
  · cases e <;> simp [hcal, Ring.syncRound]

end

/-- Settles O40: each command by the record that it leaves of its ring. -/
theorem syncsAndCalibration : Obligations.SyncsAndCalibration := by
  unfold Obligations.SyncsAndCalibration
  intro t ring s
  refine ⟨fun hcal hlow hdue => ⟨fun hn => ?_, fun hn => ?_⟩, fun hcal => ?_, fun hst hcal hcount hsweep hphase hdue => ?_,
    fun e low hop delay hring hon => ⟨fun hcal hn hlow => ?_, fun hcal hstarted hup hlow hdue => ?_⟩,
    fun e hring hboth hsweep hstarted hcount hgot hdue => ?_⟩
  · have hexec := exec_calSyncLaunch_due hcal hlow hdue
    rw [if_pos hn] at hexec
    obtain ⟨hsame, hout, hothers, hframe⟩ := launched_spec (r := ring) (s := s.setNow t)
    exact ⟨_, hexec, hsame, hout, hothers, hframe.settle⟩
  · have hexec := exec_calSyncLaunch_due hcal hlow hdue
    rw [if_neg (by omega)] at hexec
    obtain ⟨hround, hframe⟩ := launchOver_spec (r := ring) (s := s.setNow t)
    exact ⟨_, hexec, hround, hframe.settle⟩
  · exact calSyncLaunch_cut hcal
  · have hexec := exec_calRoundStart_due hst hcal hcount hsweep hphase hdue
    obtain ⟨u, hu⟩ : ∃ u, u = (s.setNow t).calClear ring 5 := ⟨_, rfl⟩
    have hclear := calClear_spec (r := ring) (s := s.setNow t) (phase := 5) rfl
    rw [← hu] at hexec hclear
    obtain ⟨hfrom, hround, hkept, hframe⟩ := hclear
    exact ⟨_, hexec, hfrom, hround, hkept.trans hst, hframe.settle⟩
  · exact syncReceived_start hring hon hcal hn hlow
  · obtain ⟨n, hexec, hsame, hothers, hnodes, hframe⟩ := syncReceived_sweep (hop := hop) (delay := delay) hring hon hcal hstarted hup hlow hdue
    obtain ⟨h1, h2, h3, h4⟩ := syncRound_spec (s.ring ring) e hop (s.cfg.nodeCount ring) delay
    refine ⟨n, hexec, ?_⟩
    rw [hsame]
    exact ⟨h1, h2, h3, h4, hothers, hnodes, hframe⟩
  · have hcode : 2 < (if e = .b then 3 else 4) ∧ (if e = .b then 3 else 4) ≠ 5 := by cases e <;> decide
    obtain ⟨hmissA, hmissB, hbegins, hframe⟩ := syncMissed_spec (r := ring) (e := e) (s := s.setNow t) hcode
    exact ⟨_, exec_farSyncMissing_due hring hboth hsweep hstarted hcount hgot hdue, hmissA, hmissB, hbegins, hframe.settle⟩

end Sys2Proof.Machine

namespace Sys2Proof.Machine

/-! ### A full enumeration (R179, R188) -/

/-- A ring's record after an enumeration has begun at an instant with those ends at work. -/
structure Ring.Enumerating (x : Ring) (kind now : Nat) (onA onB : Bool) : Prop where
  enumKind : x.enumKind = kind
  first : onA = true → x.openA = true ∧ x.enumA = now ∧ x.bPend = onB
  single : onA = false → onB = true → x.openB = true ∧ x.enumB = now

section
variable {s : State} {r kind : Nat}

/-- An enumeration touches its own ring alone, and opens the window of the end that it begins at. -/
theorem enumerate_spec : Enumerates r s (s.enumerate r kind) ∧
    ((s.enumerate r kind).ring r).Enumerating kind s.time.now (s.portOn .a) (s.portOn .b) := by
  obtain ⟨u, hu⟩ : ∃ u, u = (s.enumClear r).modRing r (fun x => { x with enumKind := kind }) := ⟨_, rfl⟩
  have hbegun : Enumerates r s u := hu ▸ (Enumerates.enumClear s r).trans (Enumerates.modRing _ _ fun _ => rfl)
  have hkind : (u.ring r).enumKind = kind := by rw [hu, ring_modRing_same]
  have heq : s.enumerate r kind =
      if u.portOn .a then (u.modRing r (fun x => { x with bPend := u.portOn .b })).sendEnum r .a else u.sendEnum r .b := by rw [hu]; rfl
  rw [heq, ← hbegun.portOn, ← hbegun.portOn, ← hbegun.now]
  split
  next ha =>
    have hon : (u.modRing r (fun x => { x with bPend := u.portOn .b })).portOn .a = true := (setRing_portOn u r _ .a).trans ha
    refine ⟨hbegun.trans ((Enumerates.modRing u _ fun _ => by rfl).trans (Enumerates.sendEnum _ r .a)), ?_⟩
    rw [sendEnum_ring r hon, ring_modRing_same]
    exact ⟨hkind, fun _ => ⟨rfl, rfl, rfl⟩, fun hna => absurd ha (by simp [hna])⟩
  next ha =>
    refine ⟨hbegun.trans (Enumerates.sendEnum u r .b), ?_, fun h => absurd h ha, fun _ hb => ?_⟩
    · cases hb : u.portOn .b with
      | true =>
        rw [sendEnum_ring r hb]
        exact hkind
      | false =>
        unfold State.sendEnum
        rw [if_pos (by simp [hb])]
        exact hkind
    · rw [sendEnum_ring r hb]
      exact ⟨rfl, rfl⟩

/-- Every ring of a list enumerates; the clock, the ends at work and the rest of the state stay. -/
theorem each_enumerate (l : List Nat) (s : State) : (∀ r ∈ l, ((s.each l fun r s => s.enumerate r kind).ring r).Enumerating kind s.time.now
      (s.portOn .a) (s.portOn .b)) ∧ (∀ r, r ∉ l → (s.each l fun r s => s.enumerate r kind).ring r = s.ring r) ∧
    (s.each l fun r s => s.enumerate r kind).time.now = s.time.now ∧ Frame ringParts s (s.each l fun r s => s.enumerate r kind) := by
  induction l generalizing s with
  | nil => exact ⟨fun r hr => absurd hr List.not_mem_nil, fun r _ => rfl, rfl, Frame.refl _ s⟩
  | cons q l ih =>
    obtain ⟨hone, hbegun⟩ := enumerate_spec (s := s) (r := q) (kind := kind)
    obtain ⟨hmem, hothers, hnow, hframe⟩ := ih (s.enumerate q kind)
    rw [hone.now, hone.portOn, hone.portOn] at hmem
    refine ⟨fun r hr => ?_, fun r hr => ?_, hnow.trans hone.now, hone.frame.trans hframe⟩
    · by_cases hl : r ∈ l
      · exact hmem r hl
      · obtain rfl : r = q := (List.mem_cons.mp hr).resolve_right hl
        have hkept := hothers r hl
        exact hkept ▸ hbegun
    · obtain ⟨hne, hl⟩ := not_or.mp (mt List.mem_cons.mpr hr)
      exact (hothers r hl).trans (hone.others r hne)

end

/-- The rings that CHAIN_REENUM names. -/
def reenumRings (q : HReq) (s : State) : List Nat := if arg q 0 1 = 0xFF then s.cfg.rings else [arg q 0 1]

/-- CHAIN_REENUM enumerates the rings that it names, and is answered OK. -/
theorem chainReenum_effect {t : Nat} {q : HReq} {s : State} (hlets : (s.setNow t).lets q 0x0201 Perm.restart = true) (hlen : q.args.length = 4)
    (hring : arg q 0 1 ≠ 0xFF → s.cfg.ringOn (arg q 0 1) = true) : ∃ n, exec (.chainReenum t q) s = .next n ∧
      AnsweredOk (s.setNow t) n q 0x0201 [] ∧
      (∀ r ∈ reenumRings q s, (n.ring r).Enumerating 3 (s.setNow t).time.now ((s.setNow t).portOn .a) ((s.setNow t).portOn .b)) ∧
      Frame (ringParts ++ hostParts) s n := by
  obtain ⟨u, hu⟩ : ∃ u, u = (s.setNow t).taken q 3 0x0201 := ⟨_, rfl⟩
  have hcfg : u.cfg = s.cfg := by rw [hu, taken_cfg, setNow_cfg]
  obtain ⟨m, hm⟩ : ∃ m, m = u.each (reenumRings q s) fun r s => s.enumerate r 3 := ⟨_, rfl⟩
  obtain ⟨hbegun, -, hnow, hframe⟩ := each_enumerate (kind := 3) (reenumRings q s) u
  have hon : ∀ e, u.portOn e = (s.setNow t).portOn e := fun e => hu ▸ taken_portOn _ q 3 0x0201 e
  have hnow' : u.time.now = (s.setNow t).time.now := hu ▸ taken_now _ q 3 0x0201
  rw [← hm, hon, hon, hnow'] at hbegun
  have hcommand : exec (.chainReenum t q) s = .next (settle s (m.answer q.sess q.tag St.ok [])) ∧
      AnsweredOk (s.setNow t) (settle s (m.answer q.sess q.tag St.ok [])) q 0x0201 [] ∧
      Frame (hostParts ++ ringParts) s (settle s (m.answer q.sess q.tag St.ok [])) := by
    refine command_answered rfl (lets_opens hlets) (taken_may_of_lets hlets) (beq_iff_eq.mpr hlen) ?_ ?_ (by decide) ?_
    · rw [← hu]
      refine (if_neg ?_).trans ?_
      · rintro ⟨hone, hoff⟩
        simp [hcfg, hring hone] at hoff
      · rw [hcfg, hm]
        rfl
    · rw [← hu, hm]
      exact hframe
    · rw [hm, hnow, hnow']
  obtain ⟨hexec, hanswered, hparts⟩ := hcommand
  refine ⟨_, hexec, hanswered, fun r hr => ?_, hparts.mono (by decide)⟩
  rw [ring_of_ch ((settle_ch _ _).trans (answer_ch m _ _ _ _))]
  exact hbegun r hr

/-! ### ENUM comes round (R179, R180) -/

/-- A ring's record with an ENUM come round to an end. -/
def Ring.enumBack (x : Ring) (e : Leaf) (hop : Nat) : Ring :=
  match e with
  | .a => { x with hopRetA := some hop, hopAtA := hop, bcast := satAdd 32 x.bcast 1 }
  | .b => { x with hopRetB := some hop, hopAtB := hop, bcast := satAdd 32 x.bcast 1 }

section
variable {s : State} {r hop : Nat} {e : Leaf}

/-- An ENUM come round is noted; where Leaf B's end has waited for it, its ENUM leaves. -/
theorem deliverEnum_spec (hon : s.portOn e = true) : ((s.deliverEnum r e hop).ring r).bcast = satAdd 32 (s.ring r).bcast 1 ∧
    (e = .a → ((s.deliverEnum r e hop).ring r).hopRetA = some hop ∧ ((s.deliverEnum r e hop).ring r).hopAtA = hop) ∧
    (e = .b → ((s.deliverEnum r e hop).ring r).hopRetB = some hop ∧ ((s.deliverEnum r e hop).ring r).hopAtB = hop) ∧
    Frame ringParts s (s.deliverEnum r e hop) := by
  obtain ⟨u, hu⟩ : ∃ u, u = s.modRing r (fun x => x.enumBack e hop) := ⟨_, rfl⟩
  have hur : u.ring r = (s.ring r).enumBack e hop := by rw [hu, ring_modRing_same]
  have hframe : Frame ringParts s u := hu ▸ (modRing_frame s r _).mono (by decide)
  have heq : s.deliverEnum r e hop =
      if e = .b ∧ (u.ring r).bPend then (u.modRing r (fun x => { x with bPend := false })).sendEnum r .b else u := by
    rw [hu]
    cases e <;> rfl
  rw [heq]
  split
  next hb =>
    obtain ⟨rfl, -⟩ := hb
    have hon' : (u.modRing r (fun x => { x with bPend := false })).portOn .b = true :=
      (setRing_portOn u r _ .b).trans (hu ▸ (setRing_portOn s r _ .b).trans hon)
    rw [sendEnum_ring r hon', ring_modRing_same, hur]
    refine ⟨rfl, fun h => absurd h (by decide), fun _ => ⟨rfl, rfl⟩, hframe.trans (Frame.trans ?_ (Enumerates.sendEnum _ r .b).frame)⟩
    exact (modRing_frame u r _).mono (by decide)
  next =>
    rw [hur]
    exact ⟨by cases e <;> rfl, fun h => h ▸ ⟨rfl, rfl⟩, fun h => h ▸ ⟨rfl, rfl⟩, hframe⟩

theorem enumReturned_effect {t : Nat} (hring : s.cfg.ringOn r = true) (hon : (s.setNow t).portOn e = true) (hpick : s.pick.armed = false)
    (hhop : hop < 256) : ∃ n, exec (.enumReturned t r e hop) s = .next n ∧ (n.ring r).bcast = satAdd 32 (s.ring r).bcast 1 ∧
      (e = .a → (n.ring r).hopRetA = some hop ∧ (n.ring r).hopAtA = hop) ∧
      (e = .b → (n.ring r).hopRetB = some hop ∧ (n.ring r).hopAtB = hop) ∧ Frame ringParts s n := by
  obtain ⟨p, hp⟩ : ∃ p, p = [byteOf hop, byteOf e.other.num, byteOf (s.cfg.nodeCount r), 0] := ⟨_, rfl⟩
  obtain ⟨m, hm⟩ : ∃ m, m = (s.setNow t).traceFrame r e 1 0 (frameBytes 0 0 1 0 p) := ⟨_, rfl⟩
  have hlogs : Logs (s.setNow t) m := hm ▸ Logs.traceFrame _ _ _ _ _ _
  have hexec : exec (.enumReturned t r e hop) s = .next (settle s (m.deliverEnum r e hop)) := by
    change execEnumReturned t r e hop s = _
    unfold execEnumReturned
    refine at'_eq ((if_neg (by simp [hring])).trans ((rx_unpicked hon hpick).trans ?_))
    rw [setNow_cfg, ← hp, ← hm, hp, leAt_byteOf _ hhop]
  obtain ⟨hcount, ha, hb, hframe⟩ := deliverEnum_spec (s := m) (r := r) (hop := hop) (e := e) ((Sends.of_logs hlogs).portOn e ▸ hon)
  refine ⟨_, hexec, ?_, ha, hb, ((hlogs.frame_of_mem (by decide) (by decide)).trans hframe).settle⟩
  exact hcount.trans (by rw [ring_of_ch hlogs.ch]; rfl)

end

/-! ### The judgement of a ring's nodes (R181, R185, R187, R188) -/

theorem WorksIn.setRing {s : State} {r : Nat} {x : Ring} (h : x.counts = (s.ring r).counts) : WorksIn ringParts s (s.setRing r x) :=
  ⟨Keeps.setRing s r x h, (setRing_frame s r x).mono (by decide)⟩

theorem WorksIn.modRing (s : State) (r : Nat) {u : Ring → Ring} (h : ∀ x, (u x).counts = x.counts) : WorksIn ringParts s (s.modRing r u) :=
  WorksIn.setRing (h _)

theorem WorksIn.countMismatch (s : State) (r : Nat) : WorksIn judgeParts s (s.countMismatch r) := by
  unfold State.countMismatch
  refine WorksIn.ite _ (WorksIn.refl s) (WorksIn.trans ?_ (WorksIn.each (fun p s => WorksIn.quarantine s r p _ _ _ _) _ _))
  exact ((WorksIn.setRing (by rfl)).trans (WorksIn.of_logs (Logs.ev _ _ _ _))).judges

theorem WorksIn.checkNode (s : State) (r p : Nat) (f : EnumRsp) : WorksIn judgeParts s (s.checkNode r p f) := by
  unfold State.checkNode
  refine WorksIn.ite _ (WorksIn.refl s) (WorksIn.trans (WorksIn.quarantine s r p _ _ _ _) (WorksIn.ite _ ?_ (WorksIn.refl _)))
  split
  · exact WorksIn.quarantine _ _ _ _ _ _ _
  · exact WorksIn.refl _

theorem WorksIn.releaseNodes (s : State) (r : Nat) : WorksIn judgeParts s (s.releaseNodes r) := by
  unfold State.releaseNodes
  refine (WorksIn.modRing s r fun _ => by rfl).judges.trans (WorksIn.each (fun p s => ?_) _ _)
  refine WorksIn.ite _ (WorksIn.ite _ ?_ (WorksIn.ite _ (WorksIn.checkNode s r p _) (WorksIn.refl s))) (WorksIn.refl s)
  exact (WorksIn.setNode s r p _ (by rfl)).judges

theorem WorksIn.resetSeen (s : State) (r p boot uid : Nat) : WorksIn ringParts s (s.resetSeen r p boot uid) := by
  unfold State.resetSeen
  refine WorksIn.trans ?_ (WorksIn.of_logs (Logs.ev _ _ _ _))
  exact WorksIn.setNode s r p _ (by rfl)

theorem WorksIn.takeBack (s : State) (r p : Nat) : WorksIn ringParts s (s.takeBack r p) := by
  unfold State.takeBack
  exact WorksIn.ite _ (WorksIn.setNode s r p _ (by rfl)) (WorksIn.refl s)

theorem WorksIn.configNode (s : State) (r p kind : Nat) (offs : Option (Nat × Nat)) : WorksIn ringParts s (s.configNode r p kind offs) :=
  WorksIn.of_ring (Works.configNode s r p kind offs)

end Sys2Proof.Machine

namespace Sys2Proof.Machine

/-! ### ENUM_RSP (R185, R206) -/

/-- A node's record with its answer to ENUM at an end. -/
def Node.enumAnswered (x : Node) (e : Leaf) (uid : Nat) : Node :=
  match e with
  | .a => { x with ansA := some uid, deafA := false }
  | .b => { x with ansB := some uid, deafB := false }

/-- The node has reset since it was last known (R220). -/
def Node.hasReset (x : Node) (f : EnumRsp) : Bool := x.known && (x.resetPend || x.boot != f.boot || x.uid != f.uid)

/-- What the node has answered at the other end. -/
def Node.ansOther (x : Node) (e : Leaf) : Option Nat := match e with | .a => x.ansB | .b => x.ansA

/-- An answer is held against what was known of its node, `n`: the UID at the other end, and a reset (R181, R220). -/
def State.enumCompared (s : State) (r : Nat) (e : Leaf) (f : EnumRsp) (n : Node) : State :=
  let s := if (n.ansOther e).isSome ∧ n.ansOther e ≠ some f.uid then s.countMismatch r else s
  if n.hasReset f ∧ !n.resetPend then s.resetSeen r f.src f.boot f.uid else s

/-- The state in which an answer to ENUM stands in its node's record, before the node is judged. -/
def State.enumRecorded (s : State) (r : Nat) (e : Leaf) (f : EnumRsp) : State :=
  ((s.setNode r f.src ((s.node r f.src).enumAnswered e f.uid)).enumCompared r e f (s.node r f.src)).modNode r f.src
    (fun x => { x.record f with resetPend := false, spoke := x.spoke && !(s.node r f.src).hasReset f })

/-- A node that has answered ENUM is judged and, where it needs it, configured (R185, R188, R219, R220). -/
def State.enumJudged (s : State) (r : Nat) (f : EnumRsp) (reset : Bool) : State :=
  let s := (s.checkNode r f.src f).grow r f.src
  let s := if reset then s.takeBack r f.src else s
  let x := s.ring r
  let n := s.node r f.src
  if n.barred then s
  else if reset then s.reconfigure r f.src
  else if (x.enumKind = 0 ∨ x.enumKind = 4) ∧ n.cfg = 0 ∧ n.plan.isEmpty ∧ !x.calStart then s.configNode r f.src 1 (some (s.offsFor r f.src))
  else s

section
variable {s : State} {r : Nat} {e : Leaf} {f : EnumRsp}

theorem enumAnswer_eq : s.enumAnswer r e f = (s.enumRecorded r e f).enumJudged r f ((s.node r f.src).hasReset f) := by cases e <;> rfl

theorem WorksIn.enumCompared (n : Node) : WorksIn judgeParts s (s.enumCompared r e f n) := by
  unfold State.enumCompared
  obtain ⟨u, hu⟩ : ∃ u, u = if (n.ansOther e).isSome ∧ n.ansOther e ≠ some f.uid then s.countMismatch r else s := ⟨_, rfl⟩
  have hmismatch : WorksIn judgeParts s u := hu ▸ WorksIn.ite _ (WorksIn.countMismatch s r) (WorksIn.refl s)
  dsimp only
  rw [← hu]
  exact WorksIn.ite _ (hmismatch.trans (WorksIn.resetSeen u r f.src _ _).judges) hmismatch

theorem WorksIn.enumJudged (reset : Bool) : WorksIn judgeParts s (s.enumJudged r f reset) := by
  unfold State.enumJudged
  obtain ⟨u, hu⟩ : ∃ u, u = (s.checkNode r f.src f).grow r f.src := ⟨_, rfl⟩
  have hgrow : WorksIn judgeParts s u := hu ▸ (WorksIn.checkNode s r f.src f).trans (WorksIn.of_ring (RingWork.grow _ r f.src)).judges
  obtain ⟨v, hv⟩ : ∃ v, v = if reset then u.takeBack r f.src else u := ⟨_, rfl⟩
  have hback : WorksIn judgeParts s v := hgrow.trans (hv ▸ WorksIn.ite _ (WorksIn.takeBack u r f.src).judges (WorksIn.refl u))
  dsimp only
  rw [← hu, ← hv]
  refine hback.trans (WorksIn.ite _ (WorksIn.refl v) (WorksIn.ite _ ?_ (WorksIn.ite _ ?_ (WorksIn.refl v))))
  · exact (WorksIn.configNode v r f.src 2 _).judges
  · exact (WorksIn.configNode v r f.src 1 _).judges

/-- A recorded answer leaves its node known, with its UID at the end. -/
theorem enumRecorded_spec : ((s.enumRecorded r e f).node r f.src).known = true ∧
    (e = .a → ((s.enumRecorded r e f).node r f.src).ansA = some f.uid) ∧
    (e = .b → ((s.enumRecorded r e f).node r f.src).ansB = some f.uid) ∧
    ((s.enumRecorded r e f).ring r).counts = (s.ring r).counts ∧ Frame judgeParts s (s.enumRecorded r e f) := by
  obtain ⟨a, ha⟩ : ∃ a, a = s.setNode r f.src ((s.node r f.src).enumAnswered e f.uid) := ⟨_, rfl⟩
  obtain ⟨c, hc⟩ : ∃ c, c = a.enumCompared r e f (s.node r f.src) := ⟨_, rfl⟩
  obtain ⟨u, hu⟩ : ∃ u : Node → Node, u = fun x =>
    { x.record f with resetPend := false, spoke := x.spoke && !(s.node r f.src).hasReset f } := ⟨_, rfl⟩
  have hwork : WorksIn judgeParts a c := hc ▸ WorksIn.enumCompared _
  have hanode : a.node r f.src = (s.node r f.src).enumAnswered e f.uid := ha ▸ kget_kset_same _ _ _ _
  have hcnode : (c.node r f.src).answers = ((s.node r f.src).enumAnswered e f.uid).answers :=
    (hwork.keeps.node _).trans (congrArg Node.answers hanode)
  have haframe : Frame judgeParts s a := ha ▸ (Frame.ch s _).mono (by decide)
  have hrecorded : s.enumRecorded r e f = c.modNode r f.src u := by rw [hc, ha, hu]; rfl
  have hnode : (c.modNode r f.src u).node r f.src = u (c.node r f.src) := kget_kset_same _ _ _ _
  have hring : (c.modNode r f.src u).ring r = c.ring r := rfl
  have haring : a.ring r = s.ring r := ha ▸ rfl
  rw [hrecorded, hnode, hring, hu]
  refine ⟨rfl, fun h => ?_, fun h => ?_, (hwork.keeps.ring r).trans (congrArg Ring.counts haring),
    (haframe.trans hwork.frame).trans ((Frame.ch c _).mono (by decide))⟩
  · subst h
    exact (congrArg Node.ansA hcnode :)
  · subst h
    exact (congrArg Node.ansB hcnode :)

theorem enumAnswer_spec : ((s.enumAnswer r e f).node r f.src).known = true ∧
    (e = .a → ((s.enumAnswer r e f).node r f.src).ansA = some f.uid) ∧
    (e = .b → ((s.enumAnswer r e f).node r f.src).ansB = some f.uid) ∧
    ((s.enumAnswer r e f).ring r).counts = (s.ring r).counts ∧ Frame judgeParts s (s.enumAnswer r e f) := by
  obtain ⟨hknown, ha, hb, hcounts, hframe⟩ := enumRecorded_spec (s := s) (r := r) (e := e) (f := f)
  have hjudged := WorksIn.enumJudged (s := s.enumRecorded r e f) (r := r) (f := f) ((s.node r f.src).hasReset f)
  rw [← enumAnswer_eq] at hjudged
  have hnode := hjudged.keeps.node (srcN r f.src)
  refine ⟨?_, fun h => ?_, fun h => ?_, (hjudged.keeps.ring r).trans hcounts, hframe.trans hjudged.frame⟩
  · exact (congrArg Node.known hnode :).trans hknown
  · exact (congrArg Node.ansA hnode :).trans (ha h)
  · exact (congrArg Node.ansB hnode :).trans (hb h)

/-- The position and the UID that an ENUM_RSP's payload carries. -/
theorem enumRspOf_enumRspP (hf : f.uid < 2 ^ 64) : (enumRspOf f.src (enumRspP f)).src = f.src ∧ (enumRspOf f.src (enumRspP f)).uid = f.uid := by
  refine ⟨rfl, ?_⟩
  have hassoc : enumRspP f = [byteOf f.cls, byteOf f.cells, byteOf f.ntcs, byteOf f.version] ++
      (toLe 8 f.uid ++ (toLe 4 f.caps ++ toLe 4 f.boot ++ toLe 2 f.balIMax ++ toLe 2 f.vFull)) := by simp [enumRspP, List.append_assoc]
  have huid : leAt (enumRspP f) 4 8 = f.uid % 256 ^ 8 := by
    rw [hassoc]
    exact (leAt_append [byteOf f.cls, byteOf f.cells, byteOf f.ntcs, byteOf f.version] _ 0 8).trans (leAt_toLe_append 8 f.uid _)
  exact huid.trans (Nat.mod_eq_of_lt hf)

theorem exec_enumRspReceived {t : Nat} (hring : s.cfg.ringOn r = true) (hon : (s.setNow t).portOn e = true) (hpick : s.pick.armed = false)
    (hlow : 1 ≤ f.src) (hhigh : f.src ≤ s.cfg.nodeCount r) : ∃ m, Hears (s.setNow t) m ∧ exec (.enumRspReceived t r e f) s =
      .next (settle s (m.deliverEnumRsp r e (enumRspOf f.src (enumRspP f)) (if (s.setNow t).enumOpen r e then 0 else 3))) := by
  obtain ⟨m, hm, hrx⟩ := rx_heard (r := r) (kind := 2) (seq := 0) (p := enumRspP f) (again := .enumRspReceived t r e f)
    (judge := fun _ s => if s.enumOpen r e then 0 else 3) (deliver := fun p res s => s.deliverEnumRsp r e (enumRspOf f.src p) res)
    hon hpick hlow hhigh
  refine ⟨m, hm, ?_⟩
  change execEnumRspReceived t r e f s = _
  unfold execEnumRspReceived
  exact at'_eq ((if_neg (by simp [hring])).trans hrx)

theorem deliverEnumRsp_answer (hlow : 1 ≤ f.src) (hhigh : f.src ≤ s.cfg.nodeCount r) : s.deliverEnumRsp r e f 0 = s.enumAnswer r e f := by
  unfold State.deliverEnumRsp
  rw [if_neg (by decide), if_neg (by omega)]

theorem deliverEnumRsp_stray : s.deliverEnumRsp r e f 3 = s.stray r := if_pos (by decide)

/-- An ENUM_RSP in its end's open window: the node is known, with its UID at the end. -/
theorem enumRspReceived_open {t : Nat} (hring : s.cfg.ringOn r = true) (hon : (s.setNow t).portOn e = true) (hpick : s.pick.armed = false)
    (hlow : 1 ≤ f.src) (hhigh : f.src ≤ s.cfg.nodeCount r) (huid : f.uid < 2 ^ 64) (hopen : (s.setNow t).enumOpen r e = true) :
    ∃ n, exec (.enumRspReceived t r e f) s = .next n ∧ (n.node r f.src).known = true ∧
      (e = .a → (n.node r f.src).ansA = some f.uid) ∧ (e = .b → (n.node r f.src).ansB = some f.uid) ∧
      (n.ring r).stray = (s.ring r).stray ∧ Frame judgeParts s n := by
  obtain ⟨m, hm, hexec⟩ := exec_enumRspReceived hring hon hpick hlow hhigh
  obtain ⟨g, hg⟩ : ∃ g, g = enumRspOf f.src (enumRspP f) := ⟨_, rfl⟩
  obtain ⟨hsrc, hguid⟩ := enumRspOf_enumRspP huid
  rw [← hg] at hexec hsrc hguid
  have hgrange : 1 ≤ g.src ∧ g.src ≤ m.cfg.nodeCount r := by rw [hsrc, hm.cfg]; exact ⟨hlow, hhigh⟩
  rw [if_pos hopen, deliverEnumRsp_answer hgrange.1 hgrange.2] at hexec
  obtain ⟨hknown, ha, hb, hcounts, hframe⟩ := enumAnswer_spec (s := m) (r := r) (e := e) (f := g)
  rw [hsrc] at hknown ha hb
  rw [hguid] at ha hb
  exact ⟨_, hexec, hknown, ha, hb, Ring.stray_of_counts (hcounts.trans (hm.counts r)), ((hm.frame.mono (by decide)).trans hframe).settle⟩

/-- An ENUM_RSP outside the window is stray. -/
theorem enumRspReceived_closed {t : Nat} (hring : s.cfg.ringOn r = true) (hon : (s.setNow t).portOn e = true) (hpick : s.pick.armed = false)
    (hlow : 1 ≤ f.src) (hhigh : f.src ≤ s.cfg.nodeCount r) (hopen : (s.setNow t).enumOpen r e = false) :
    ∃ n, exec (.enumRspReceived t r e f) s = .next n ∧ (n.ring r).stray = satAdd 32 (s.ring r).stray 1 ∧
      (n.node r f.src).answers = (s.node r f.src).answers ∧ Frame [.chains, .log, .fifos] s n := by
  obtain ⟨m, hm, hexec⟩ := exec_enumRspReceived hring hon hpick hlow hhigh
  rw [hopen, if_neg (by decide), deliverEnumRsp_stray] at hexec
  refine ⟨_, hexec, ?_, Node.answers_of_standing (hm.standing r f.src), (hm.frame.trans ((modRing_frame m r _).mono (by decide))).settle⟩
  exact (stray_ring m r).trans (congrArg (satAdd 32 · 1) (Ring.stray_of_counts (hm.counts r)))

end

/-! ### The end of an answer window (R179 to R181, R195, R198, R221, R223) -/

section
variable {s : State} {r : Nat}

theorem WorksIn.calReads (s : State) (r : Nat) : WorksIn ringParts s (s.calReads r) := WorksIn.of_ring (Works.calReads s r)

/-- A calibration that begins stays within the rings: no round ends at its beginning. -/
theorem WorksIn.calBegin (s : State) (r : Nat) : WorksIn ringParts s (s.calBegin r) := by
  unfold State.calBegin
  refine WorksIn.ite _ ?_ ?_
  · unfold State.calClear
    dsimp only
    obtain ⟨v, hv⟩ : ∃ v, v = s.modRing r (fun x => { x with cal := 1, calFrom := s.time.now }) := ⟨_, rfl⟩
    obtain ⟨u, hu⟩ : ∃ u, u = v.each (v.cfg.positions r) (fun p s => let n := s.node r p
      if n.known ∧ !n.barred then s.request' r (s.reqEnd r p) p (reqWr 0xFE04 [0] .calClear 6) else s) := ⟨_, rfl⟩
    have hwrites : Works id Node.standing v u := hu ▸ Works.each (fun p s => Works.ite _ (Works.request' s r _ p _) (Works.refl s)) _ v
    have hcal : (u.ring r).cal = 1 := by
      have hsame : u.ring r = v.ring r := hwrites.ring r
      rw [hsame, hv, ring_modRing_same]
    rw [← hv, ← hu]
    refine WorksIn.trans (hv ▸ WorksIn.modRing s r fun _ => by rfl) (WorksIn.trans ?_ (WorksIn.of_ring (RingWork.calCheck ?_ ?_)))
    · exact WorksIn.of_ring (hwrites.mono (fun _ _ h => congrArg Ring.counts h) fun _ _ h => h)
    · rw [hcal]; decide
    · rw [hcal]; decide
  · obtain ⟨u, hu⟩ : ∃ u, u = (s.modRing r (fun x => { x with cal := 4 })).calReads r := ⟨_, rfl⟩
    have hcal : (u.ring r).cal = 4 := by rw [hu, calReads_ring, ring_modRing_same]
    rw [← hu]
    refine WorksIn.trans (t := u) (hu ▸ (WorksIn.modRing s r fun _ => by rfl).trans (WorksIn.calReads _ r)) (WorksIn.of_ring (RingWork.calCheck ?_ ?_))
    · rw [hcal]; decide
    · rw [hcal]; decide

theorem WorksIn.enumStart (s : State) (r : Nat) (bad : Bool) : WorksIn ringParts s (s.enumStart r bad) := by
  unfold State.enumStart
  refine WorksIn.trans (WorksIn.trans ?_ (WorksIn.modRing _ r fun _ => by rfl)) (WorksIn.ite _ (WorksIn.refl _) (WorksIn.calBegin _ r))
  refine WorksIn.ite _ (WorksIn.trans ?_ (WorksIn.of_logs (Logs.ev _ _ _ _))) (WorksIn.ite _ (WorksIn.setRing (by rfl)) (WorksIn.setRing (by rfl)))
  exact WorksIn.setRing (by rfl)

/-- A ring's record with an end's answer window shut. -/
def Ring.windowShut (x : Ring) (e : Leaf) : Ring := match e with | .a => { x with openA := false } | .b => { x with openB := false }

/-- An end's answer window is shut; where Leaf B's end has waited for Leaf A's, its ENUM leaves. -/
def State.windowShut (s : State) (r : Nat) (e : Leaf) : State :=
  let x := (s.ring r).windowShut e
  if e = .a ∧ x.bPend then ((s.setRing r x).setRing r { x with bPend := false }).sendEnum r .b else s.setRing r x

theorem windowClose_eq {e : Leaf} : s.windowClose r e = (s.windowShut r e).enumJudge r := by cases e <;> rfl

/-- Leaf B's ENUM leaves the window of Leaf A's end alone. -/
theorem sendEnum_openA (s : State) (r : Nat) : ((s.sendEnum r .b).ring r).openA = (s.ring r).openA := by
  cases hb : s.portOn .b with
  | true => rw [sendEnum_ring r hb]; rfl
  | false =>
    unfold State.sendEnum
    rw [if_pos (by simp [hb])]

theorem windowShut_spec {e : Leaf} : (s.windowShut r e).enumOpen r e = false ∧ Frame ringParts s (s.windowShut r e) := by
  obtain ⟨x, hx⟩ : ∃ x, x = (s.ring r).windowShut e := ⟨_, rfl⟩
  have heq : s.windowShut r e =
      if e = .a ∧ x.bPend then ((s.setRing r x).setRing r { x with bPend := false }).sendEnum r .b else s.setRing r x := by rw [hx]; rfl
  have hset : Frame ringParts s (s.setRing r x) := (setRing_frame s r x).mono (by decide)
  rw [heq]
  split
  next h =>
    obtain ⟨rfl, -⟩ := h
    have henum := Enumerates.sendEnum ((s.setRing r x).setRing r { x with bPend := false }) r .b
    refine ⟨?_, (hset.trans ((setRing_frame _ r _).mono (by decide))).trans henum.frame⟩
    refine (sendEnum_openA _ r).trans ?_
    rw [ring_setRing_same, hx]
    rfl
  next =>
    refine ⟨?_, hset⟩
    cases e
    · exact (congrArg Ring.openA (ring_setRing_same s r x)).trans (by rw [hx]; rfl)
    · exact (congrArg Ring.openB (ring_setRing_same s r x)).trans (by rw [hx]; rfl)

/-- The nodes of a ring that need it are configured after an enumeration. -/
theorem WorksIn.configKnown (s : State) (r : Nat) (l : List Nat) : WorksIn ringParts s (s.each l fun p s =>
    let n := s.node r p
    if n.known ∧ !n.barred ∧ n.cfg = 0 ∧ s.reachable r p then s.configNode r p 1 (some (s.offsFor r p)) else s) :=
  WorksIn.each (fun p s => WorksIn.ite _ (WorksIn.configNode s r p 1 _) (WorksIn.refl s)) l s

theorem WorksIn.enumJudge (s : State) (r : Nat) : WorksIn judgeParts s (s.enumJudge r) := by
  unfold State.enumJudge
  dsimp only
  obtain ⟨x, hx⟩ : ∃ x, x = s.ring r := ⟨_, rfl⟩
  obtain ⟨bad, hbad⟩ : ∃ bad, bad = (x.srcBad || (x.enumKind != 4 && s.countWrong r)) := ⟨_, rfl⟩
  obtain ⟨full, hfull⟩ : ∃ full, full = decide (x.enumKind = 1 ∨ x.enumKind = 2 ∨ x.enumKind = 3) := ⟨_, rfl⟩
  obtain ⟨u, hu⟩ : ∃ u, u = if bad then s.countMismatch r else if full then s.releaseNodes r else s := ⟨_, rfl⟩
  have hjudged : WorksIn judgeParts s u :=
    hu ▸ WorksIn.ite _ (WorksIn.countMismatch s r) (WorksIn.ite _ (WorksIn.releaseNodes s r) (WorksIn.refl s))
  obtain ⟨v, hv⟩ : ∃ v, v = if x.brkEnum then u.breakRing r (u.fromEnum r).1 (u.fromEnum r).2
    else if full then u.reSplit r (u.fromEnum r).1 (u.fromEnum r).2 else u := ⟨_, rfl⟩
  have hsplit : WorksIn judgeParts s v := hjudged.trans (hv ▸ WorksIn.ite _ (WorksIn.of_ring (RingWork.breakRing u r _ _)).judges
    (WorksIn.ite _ (WorksIn.of_ring (RingWork.reSplit u r _ _)).judges (WorksIn.refl u)))
  rw [← hx, ← hbad, ← hfull, ← hu, ← hv]
  refine WorksIn.ite _ (WorksIn.refl s) (WorksIn.ite _ (hjudged.trans (WorksIn.enumStart u r bad).judges) (WorksIn.ite _ ?_ hsplit))
  exact hsplit.trans (WorksIn.configKnown v r _).judges

/-- An answer window that is due closes, and the ring is judged. -/
theorem enumWindowClose_effect {t : Nat} {e : Leaf} (hring : s.cfg.ringOn r = true) (hopen : (s.setNow t).enumOpen r e = true)
    (hdue : (if e = .a then (s.ring r).enumA else (s.ring r).enumB) + (s.setNow t).enumNs ≤ (s.setNow t).time.now) :
    ∃ n, exec (.enumWindowClose t r e) s = .next n ∧ n.enumOpen r e = false ∧ Frame judgeParts s n := by
  obtain ⟨u, hu⟩ : ∃ u, u = (s.setNow t).windowShut r e := ⟨_, rfl⟩
  have hjudge := WorksIn.enumJudge u r
  have hexec : exec (.enumWindowClose t r e) s = .next (settle s (u.enumJudge r)) := by
    change execEnumWindowClose t r e s = _
    unfold execEnumWindowClose
    refine at'_eq ((if_pos ⟨hring, hopen, ?_⟩).trans (by rw [hu]; exact windowClose_eq))
    cases e <;> exact hdue
  obtain ⟨hshut, hframe⟩ := windowShut_spec (s := s.setNow t) (r := r) (e := e)
  rw [← hu] at hshut hframe
  refine ⟨_, hexec, ?_, ((hframe.mono (by decide)).trans hjudge.frame).settle⟩
  have hcounts := hjudge.keeps.ring r
  cases e
  · exact (congrArg Ring.openA hcounts :).trans hshut
  · exact (congrArg Ring.openB hcounts :).trans hshut

end

theorem mem_reenumRings {q : HReq} {s : State} {r : Nat} :
    r ∈ reenumRings q s ↔ if arg q 0 1 = 0xFF then r ∈ s.cfg.rings else r = arg q 0 1 := by
  unfold reenumRings
  split
  · rfl
  · exact List.mem_singleton

/-- Settles O41: each command of an enumeration by the record that it leaves of its ring or its node. -/
theorem enumerationRuns : Obligations.EnumerationRuns := by
  unfold Obligations.EnumerationRuns
  intro t s
  refine ⟨fun q hlets hlen hring => ?_, fun ring e hring hon hpick => ⟨fun hop hhop => ?_, fun f hlow hhigh huid => ⟨fun hopen => ?_, fun hopen => ?_⟩⟩,
    fun ring e hring hopen hdue => enumWindowClose_effect hring hopen hdue⟩
  · obtain ⟨n, hexec, hanswered, hbegun, hframe⟩ := chainReenum_effect hlets hlen hring
    refine ⟨n, hexec, hanswered, fun r hr => ?_, hframe⟩
    obtain ⟨hkind, hfirst, hsingle⟩ := hbegun r (mem_reenumRings.mpr hr)
    exact ⟨hkind, hfirst, hsingle⟩
  · exact enumReturned_effect hring hon hpick hhop
  · exact enumRspReceived_open hring hon hpick hlow hhigh huid hopen
  · obtain ⟨n, hexec, hstray, hanswers, hframe⟩ := enumRspReceived_closed hring hon hpick hlow hhigh hopen
    exact ⟨n, hexec, hstray, (congrArg Node.ansA hanswers :), (congrArg Node.ansB hanswers :), (congrArg Node.known hanswers :), hframe⟩

end Sys2Proof.Machine

namespace Sys2Proof.Machine

/-! ### What a decision leaves of the alarms (R213, R426 to R430, R436) -/

/-- Work under which the alarms of the rings stay, and the instants of each cell's alarms. -/
structure Spares (s n : State) : Prop where
  alarms : n.ch.alarms = s.ch.alarms
  ov : ∀ k, (n.cp k).ovAlarm = (s.cp k).ovAlarm
  uv : ∀ k, (n.cp k).uvAlarm = (s.cp k).uvAlarm

theorem cp_of_cells {s n : State} (h : n.prot.cells = s.prot.cells) (k : Nat) : n.cp k = s.cp k := congrArg (fun m => kget ({} : CellProt) m k) h

theorem Spares.of_cells {s n : State} (halarms : n.ch.alarms = s.ch.alarms) (hcells : n.prot.cells = s.prot.cells) : Spares s n :=
  ⟨halarms, fun k => by rw [cp_of_cells hcells], fun k => by rw [cp_of_cells hcells]⟩

theorem Spares.of_prot {s n : State} (hch : n.ch = s.ch) (hprot : n.prot = s.prot) : Spares s n := Spares.of_cells (by rw [hch]) (by rw [hprot])

theorem Spares.refl (s : State) : Spares s s := Spares.of_prot rfl rfl

theorem Spares.trans {s t n : State} (h : Spares s t) (k : Spares t n) : Spares s n :=
  ⟨k.alarms.trans h.alarms, fun i => (k.ov i).trans (h.ov i), fun i => (k.uv i).trans (h.uv i)⟩

theorem Spares.ite {s t n : State} (c : Prop) [Decidable c] (h : Spares s t) (k : Spares s n) : Spares s (if c then t else n) := by
  split
  · exact h
  · exact k

theorem Spares.when {u : State → State} (s : State) (b : Bool) (h : ∀ s, Spares s (u s)) : Spares s (s.when b u) :=
  Spares.ite _ (h s) (Spares.refl s)

theorem Spares.each {α : Type} {u : α → State → State} (h : ∀ x s, Spares s (u x s)) (l : List α) (s : State) : Spares s (s.each l u) := by
  induction l generalizing s with
  | nil => exact Spares.refl s
  | cons x r ih => exact (h x s).trans (ih (u x s))

theorem Spares.of_logs {s n : State} (h : Logs s n) : Spares s n := Spares.of_prot h.ch h.prot

theorem Spares.of_asks {s n : State} (h : Asks s n) : Spares s n := Spares.of_cells h.alarms (congrArg Prot.cells (h.frame .prot (by decide)))

theorem Spares.of_stores {s n : State} (h : Stores s n) : Spares s n := Spares.of_cells h.silences.alarms (congrArg Prot.cells h.prot :)

theorem Spares.modHs (s : State) (i : Nat) (u : HaspStr → HaspStr) : Spares s (s.modHs i u) := Spares.of_prot rfl rfl

theorem Spares.modSp (s : State) (i : Nat) (u : StrProt → StrProt) : Spares s (s.modSp i u) := Spares.of_cells rfl rfl

theorem Spares.mramPut (s : State) {u : MUnit} (h : ∀ c e, u ≠ .learn c e) : Spares s (s.mramPut u) := Spares.of_stores (Stores.mramPut s h)

/-! Contactors -/

theorem Spares.countOpen (s : State) (i : Nat) (pos : Bool) : Spares s (s.countOpen i pos) := by
  refine Spares.trans ?_ (Spares.mramPut _ fun _ _ h => nomatch h)
  exact Spares.of_prot rfl rfl

theorem chanFollow_ch (s : State) (k : Nat) : (s.chanFollow k).ch = s.ch := by
  unfold State.chanFollow
  exact ite_ch _ rfl (ite_ch _ rfl rfl)

theorem chanFollow_prot (s : State) (k : Nat) : (s.chanFollow k).prot = s.prot := by
  unfold State.chanFollow
  dsimp only
  split
  · rfl
  · split <;> rfl

theorem Spares.chanSet (s : State) (k : Nat) (on : Bool) : Spares s (s.chanSet k on) :=
  Spares.ite _ (Spares.of_prot (chanFollow_ch _ k) (chanFollow_prot _ k)) (Spares.refl s)

theorem Spares.request' (s : State) (r : Nat) (e : Leaf) (p : Nat) (x : Req) : Spares s (s.request' r e p x) := Spares.of_asks (Asks.request' s r e p x)

theorem Spares.sendAct (s : State) (i code : Nat) (em : Bool) : Spares s (s.sendAct i code em) := by
  unfold State.sendAct
  split
  · exact Spares.refl s
  next r p _ =>
    refine Spares.ite _ (Spares.refl s) (Spares.trans (t := { s with ch := { s.ch with actTok := s.ch.actTok + 1 } }) ?_ ?_)
    · exact Spares.of_cells rfl rfl
    · exact Spares.ite _ (Spares.each (fun e s => Spares.request' s r e p _) _ _) (Spares.request' _ r _ p _)

/-- A contactor's channel is set where its command asks for it. -/
theorem Spares.put (s : State) (o : Option Bool) (k : Nat) : Spares s (match o with | some b => s.chanSet k b | none => s) := by
  cases o with
  | none => exact Spares.refl s
  | some b => exact Spares.chanSet s k b

/-- A contactor's ACT_CMD is sent where its command asks for it. -/
theorem Spares.act (s : State) (i : Nat) (o : Option Bool) (close opens : Nat) (em : Bool) :
    Spares s (match o with | some true => s.sendAct i close em | some false => s.sendAct i opens em | none => s) := by
  cases o with
  | none => exact Spares.refl s
  | some b => cases b <;> exact Spares.sendAct s i _ em

theorem Spares.drive (s : State) (i : Nat) (d : Drive) (em : Bool) : Spares s (s.drive i d em) := by
  unfold State.drive
  refine Spares.ite _ (Spares.refl s) ?_
  obtain ⟨u, hu⟩ : ∃ u : State, u = ((s.when (d.pos == some false && (s.hs i).cmdPos) (fun s => s.countOpen i true)).when
    (d.neg == some false && (s.hs i).cmdNeg) (fun s => s.countOpen i false)) := ⟨_, rfl⟩
  have hcounted : Spares s u := hu ▸ (Spares.when s _ fun s => Spares.countOpen s i true).trans (Spares.when _ _ fun s => Spares.countOpen s i false)
  obtain ⟨v, hv⟩ : ∃ v : State, v = u.modHs i (fun x => { x with
    cmdPos := d.pos.getD x.cmdPos, cmdNeg := d.neg.getD x.cmdNeg, cmdPc := d.pc.getD x.cmdPc, cmdNow := u.time.now, stepTime := u.devTime }) := ⟨_, rfl⟩
  have hcommanded : Spares s v := hcounted.trans (hv ▸ Spares.modHs u i _)
  dsimp only
  rw [← hu, ← hv]
  refine hcommanded.trans (Spares.ite _ ?_ (Spares.ite _ (Spares.sendAct v i 0 em) ?_))
  · exact ((Spares.put v d.pos _).trans (Spares.put _ d.neg _)).trans (Spares.put _ d.pc _)
  · exact ((Spares.act v i d.neg 1 6 em).trans (Spares.act _ i d.pos 3 5 em)).trans (Spares.act _ i d.pc 2 4 em)

theorem Spares.beginOpen (s : State) (i : Nat) (em ramp : Bool) (c : OpenCause) : Spares s (s.beginOpen i em ramp c) := by
  unfold State.beginOpen
  refine Spares.ite _ ?_ (Spares.ite _ ?_ ?_)
  · exact ((Spares.modHs s i _).trans (Spares.modHs _ i _)).trans (Spares.drive _ i _ _)
  · exact (Spares.modHs s i _).trans (Spares.modHs _ i _)
  · exact ((Spares.modHs s i _).trans (Spares.modHs _ i _)).trans (Spares.drive _ i _ _)

theorem Spares.abortClose (s : State) (i reason : Nat) (em : Bool) (c : OpenCause) : Spares s (s.abortClose i reason em c) := by
  unfold State.abortClose
  refine Spares.trans (Spares.trans ?_ (Spares.of_logs (Logs.ev _ _ _ _))) (Spares.beginOpen _ i _ _ c)
  exact (Spares.modHs s i _).trans (Spares.when _ _ fun s => Spares.of_logs (Logs.ev _ _ _ _))

theorem Spares.unqueue (s : State) (i reason : Nat) : Spares s (s.unqueue i reason) := by
  unfold State.unqueue
  refine Spares.ite _ (Spares.trans ?_ (Spares.of_logs (Logs.ev _ _ _ _))) (Spares.refl s)
  exact Spares.of_prot rfl rfl

theorem Spares.openStr (s : State) (i : Nat) (em : Bool) (c : OpenCause) : Spares s (s.openStr i em c) := by
  unfold State.openStr
  refine Spares.ite _ (Spares.refl s) ?_
  split
  · exact Spares.unqueue s i _
  · exact Spares.abortClose s i _ em c
  · exact Spares.abortClose s i _ em c
  · exact Spares.beginOpen s i em true c
  · exact Spares.ite _ ((Spares.modHs s i _).trans (Spares.drive _ i _ _)) (Spares.refl s)
  · exact Spares.refl s

/-! Decisions -/

theorem Spares.setLatched (s : State) (i v : Nat) : Spares s (s.setLatched i v) := by
  unfold State.setLatched
  exact Spares.ite _ (Spares.refl s) ((Spares.modSp s i _).trans (Spares.mramPut _ fun _ _ h => nomatch h))

theorem Spares.throwDb (s : State) (cause source inputs : Nat) : Spares s (s.throwDb cause source inputs) := by
  unfold State.throwDb State.dbThrow
  refine Spares.ite _ (Spares.refl s) (Spares.trans (Spares.trans (Spares.ite _ (Spares.refl s) ?_) (Spares.of_logs (Logs.evAon _ _ _ _)))
    (Spares.each (fun i s => (Spares.modSp s i _).trans (Spares.setLatched _ i _)) _ _))
  exact Spares.of_prot rfl rfl

theorem Spares.modCp (s : State) (k : Nat) (u : CellProt → CellProt) (hov : ∀ x, (u x).ovAlarm = x.ovAlarm) (huv : ∀ x, (u x).uvAlarm = x.uvAlarm) :
    Spares s (s.modCp k u) := by
  refine ⟨rfl, fun j => ?_, fun j => ?_⟩
  all_goals
    by_cases hj : j = k
    · subst hj
      have hcell : (s.modCp j u).cp j = u (s.cp j) := kget_kmod_same _ _ _ _
      simp [hcell, hov, huv]
    · have hcell : (s.modCp k u).cp j = s.cp j := kget_kmod_other _ _ _ _ _ hj
      rw [hcell]

theorem Spares.tripCell (s : State) (d : Dec) : Spares s (s.tripCell d).1 := by
  unfold State.tripCell
  dsimp only
  split
  · exact Spares.modCp s d.cell _ (fun _ => rfl) (fun _ => rfl)
  · exact Spares.modCp s d.cell _ (fun _ => rfl) (fun _ => rfl)

theorem Spares.markDec (s : State) (d : Dec) : Spares s (s.markDec d) := by
  unfold State.markDec
  exact Spares.ite _ ((Spares.modSp s d.str _).trans (Spares.setLatched _ d.str _)) (Spares.modSp s d.str _)

theorem Spares.decOpens (s : State) (d : Dec) : Spares s (s.decOpens d) := by
  unfold State.decOpens State.openAll
  exact Spares.ite _ (Spares.each (fun i s => Spares.openStr s i _ _) _ s) (Spares.ite _ (Spares.openStr s d.str _ _) (Spares.refl s))

theorem Spares.pickDisarm (s : State) (cause : Nat) : Spares s (s.pickDisarm cause) :=
  Spares.of_cells (by rw [pickDisarm_ch]) (congrArg Prot.cells (Ends.pickDisarm s cause).prot :)

/-- The record of a decision is raised, in the name of its cell's node or its string's. -/
def State.recDec (s : State) (d : Dec) (raise : Bool) : State :=
  s.when (raise && d.code != 0) (fun s =>
    s.withPick (if d.cell = 0xFFFF then s.strPicked d.str else s.cellPicked d.cell) (fun s => s.ev d.code d.src d.ps))

theorem Spares.recDec (s : State) (d : Dec) (raise : Bool) : Spares s (s.recDec d raise) :=
  Spares.when s _ fun s => Spares.of_logs (Logs.withPick s _ _ fun t => Logs.ev t _ _ _)

/-- The trip bit of a decision's cell, and whether its record is raised. -/
def State.trippedBy (s : State) (d : Dec) : State × Bool :=
  if d.cell = 0xFFFF then (s, !bit (s.sp d.str).acting d.fn && !bit (s.sp d.str).latched d.fn) else s.tripCell d

theorem Spares.trippedBy (s : State) (d : Dec) : Spares s (s.trippedBy d).1 := by
  unfold State.trippedBy
  split
  · exact Spares.refl s
  · exact Spares.tripCell s d

theorem takeDec_eq (s : State) (d : Dec) : s.takeDec d =
    (let new := !bit (s.sp d.str).acting d.fn && !bit (s.sp d.str).latched d.fn
     let t := s.trippedBy d
     let u := if d.code < Ev.deadboltThrown then t.1.recDec d t.2 else t.1
     let u := (u.markDec d).when (s.cfg.fnLevel d.str d.fn == 4 && new) (fun s => s.throwDb (0x10 + d.fn) d.str s.leafBits)
     let u := (if d.code < Ev.deadboltThrown then u else u.recDec d t.2).decOpens d
     if s.cfg.fnLevel d.str d.fn ≥ 2 ∧ new then
       { u.pickDisarm 3 with lease := { (u.pickDisarm 3).lease with zeroDue := true } }
     else u) := rfl

theorem Spares.takeDec (s : State) (d : Dec) : Spares s (s.takeDec d) := by
  rw [takeDec_eq]
  obtain ⟨t, ht⟩ : ∃ t, t = s.trippedBy d := ⟨_, rfl⟩
  have htripped : Spares s t.1 := ht ▸ Spares.trippedBy s d
  obtain ⟨u, hu⟩ : ∃ u, u = if d.code < Ev.deadboltThrown then t.1.recDec d t.2 else t.1 := ⟨_, rfl⟩
  have hbefore : Spares s u := htripped.trans (hu ▸ Spares.ite _ (Spares.recDec t.1 d t.2) (Spares.refl t.1))
  obtain ⟨v, hv⟩ : ∃ v, v = (u.markDec d).when (s.cfg.fnLevel d.str d.fn == 4 && (!bit (s.sp d.str).acting d.fn && !bit (s.sp d.str).latched d.fn))
    (fun s => s.throwDb (0x10 + d.fn) d.str s.leafBits) := ⟨_, rfl⟩
  have hmarked : Spares s v := hbefore.trans (hv ▸ (Spares.markDec u d).trans (Spares.when _ _ fun s => Spares.throwDb s _ _ _))
  obtain ⟨w, hw⟩ : ∃ w, w = (if d.code < Ev.deadboltThrown then v else v.recDec d t.2).decOpens d := ⟨_, rfl⟩
  have hopened : Spares s w :=
    hmarked.trans (hw ▸ (Spares.ite _ (Spares.refl v) (Spares.recDec v d t.2)).trans (Spares.decOpens _ d))
  dsimp only
  rw [← ht, ← hu, ← hv, ← hw]
  refine Spares.ite _ (hopened.trans ((Spares.pickDisarm w 3).trans ?_)) hopened
  exact Spares.of_prot rfl rfl

theorem Spares.levels (s : State) : Spares s s.levels := Spares.of_cells rfl rfl

theorem Spares.rqFollow (s : State) : Spares s s.rqFollow := Spares.of_prot rfl rfl

theorem Spares.decideAll (s : State) (l : List Dec) : Spares s (s.decideAll l) :=
  ((Spares.each (fun d s => Spares.takeDec s d) l s).trans (Spares.levels _)).trans (Spares.rqFollow _)

/-! The zero lease -/

theorem Sends.sendCan (s : State) (ident : Nat) (data : List Byte) : Sends s (s.sendCan ident data) := by
  unfold State.sendCan
  split
  · exact Sends.refl s
  dsimp only
  split
  · exact Sends.refl s
  refine Sends.trans ?_ (Sends.pickRelease _)
  split
  case h_2 => exact Sends.pickJudge _ _
  case h_5 => exact (Sends.pickJudge _ _).trans (Sends.pick _ _)
  case h_6 => exact ((Sends.pickJudge _ _).trans (Sends.out _ _)).trans (Sends.out _ _)
  all_goals exact (Sends.pickJudge _ _).trans (Sends.out _ _)

/-- The parts that a lease reaches as it leaves. -/
abbrev putParts : List Part := [.lease, .links, .pick, .out, .log, .fifos]

theorem send_frame (s : State) (k kind status tag : Nat) (body : List Byte) : Frame [.links, .out] s (s.send k kind status tag body) := by
  unfold State.send
  refine Frame.ite _ (Frame.refl _ s) (Frame.ite _ ((Frame.links s _).mono (by decide)) (Frame.ite _ (Frame.refl _ s) ?_))
  rintro ⟨⟩ hp <;> simp [Part.same] at hp ⊢

theorem Frame.lease (s : State) (x : Lease) : Frame [.lease] s { s with lease := x } := by
  rintro ⟨⟩ hp <;> simp [Part.same] at hp ⊢

/-- A lease leaves on every transport. -/
def State.leaseSent (s : State) (m : LeaseMsg) : State :=
  let s := s.sendCan 0 m.bytes
  if bit (s.cfg.lease 0x0E) 1 then s.each s.leaseSessions (fun k s => s.send k 0x90 0 0 m.bytes) else s

theorem leaseSent_frame (s : State) (m : LeaseMsg) : Frame putParts s (s.leaseSent m) := by
  have hcan : Frame putParts s (s.sendCan 0 m.bytes) := (Sends.sendCan s 0 m.bytes).frame.mono (by decide)
  exact Frame.ite _ (hcan.trans (Frame.each (fun k s => (send_frame s k _ _ _ _).mono (by decide)) _ _)) hcan

theorem putLease_frame (s : State) (m : LeaseMsg) : Frame putParts s (s.putLease m) := by
  unfold State.putLease
  refine Frame.trans (Frame.trans ?_ (leaseSent_frame _ m)) ((Logs.produce _ _ _ _ _).frame_of_mem (by decide) (by decide))
  exact (Frame.lease s _).mono (by decide)

theorem zeroLeaseNow_frame (s : State) : Frame putParts s s.zeroLeaseNow := by
  unfold State.zeroLeaseNow State.zeroLease
  exact Frame.ite _ (((Frame.lease s _).mono (by decide)).trans (putLease_frame _ _)) (Frame.refl _ s)

theorem Spares.of_frame {s n : State} {ps : List Part} (h : Frame ps s n) (hch : .chains ∉ ps) (hprot : .prot ∉ ps) : Spares s n :=
  Spares.of_prot (h .chains hch) (h .prot hprot)

end Sys2Proof.Machine

namespace Sys2Proof.Machine

/-! ### An alarm and its decision (R174, R213, R435, R436) -/

/-- The fields that an ALARM's payload carries. -/
theorem alarmOf_alarmP {f : AlarmFrame} (hcause : f.cause < 256) (hchan : f.chan < 256) (hvalue : f.value < 65536) (hboot : f.boot < 2 ^ 32) :
    alarmOf f.src f.seq (alarmP f) = f := by
  have hassoc : alarmP f = [byteOf f.cause] ++ (byteOf f.chan :: (toLe 2 f.value ++ toLe 4 f.boot)) := by simp [alarmP]
  have h0 : leAt (alarmP f) 0 1 = f.cause := by
    rw [hassoc]
    exact leAt_byteOf _ hcause
  have h1 : leAt (alarmP f) 1 1 = f.chan := by
    rw [hassoc]
    exact (leAt_append [byteOf f.cause] _ 0 1).trans (leAt_byteOf _ hchan)
  have h2 : leAt (alarmP f) 2 2 = f.value := by
    have hsplit : alarmP f = [byteOf f.cause, byteOf f.chan] ++ (toLe 2 f.value ++ toLe 4 f.boot) := by simp [alarmP]
    rw [hsplit]
    exact (leAt_append [byteOf f.cause, byteOf f.chan] _ 0 2).trans ((leAt_toLe_append 2 f.value _).trans (Nat.mod_eq_of_lt hvalue))
  have h4 : leAt (alarmP f) 4 4 = f.boot := by
    have hsplit : alarmP f = ([byteOf f.cause, byteOf f.chan] ++ toLe 2 f.value) ++ (toLe 4 f.boot ++ []) := by simp [alarmP]
    have hlen : ([byteOf f.cause, byteOf f.chan] ++ toLe 2 f.value).length = 4 := by simp
    have happ := leAt_append ([byteOf f.cause, byteOf f.chan] ++ toLe 2 f.value) (toLe 4 f.boot ++ []) 0 4
    rw [hlen] at happ
    rw [hsplit]
    exact happ.trans ((leAt_toLe_append 4 f.boot []).trans (Nat.mod_eq_of_lt hboot))
  unfold alarmOf
  rw [h0, h1, h2, h4]

section
variable {P : CellProt → Prop} {u : CellProt → CellProt}

/-- What every cell's word keeps under a change of some of them. -/
theorem each_modCp_keeps (hu : ∀ x, P x → P (u x)) (l : List Nat) (s : State) (k : Nat) (h : P (s.cp k)) :
    P ((s.each l fun k s => s.modCp k u).cp k) := by
  induction l generalizing s with
  | nil => exact h
  | cons j l ih =>
    refine ih (s.modCp j u) ?_
    by_cases hk : k = j
    · subst hk
      have hcell : (s.modCp k u).cp k = u (s.cp k) := kget_kmod_same _ _ _ _
      exact hcell ▸ hu _ h
    · have hcell : (s.modCp j u).cp k = s.cp k := kget_kmod_other _ _ _ _ _ hk
      exact hcell ▸ h

/-- What the word of a cell that is changed has. -/
theorem each_modCp_sets (hu : ∀ x, P (u x)) {l : List Nat} (s : State) {k : Nat} (hk : k ∈ l) : P ((s.each l fun k s => s.modCp k u).cp k) := by
  induction l generalizing s with
  | nil => exact absurd hk List.not_mem_nil
  | cons j l ih =>
    by_cases hl : k ∈ l
    · exact ih (s.modCp j u) hl
    · obtain rfl : k = j := (List.mem_cons.mp hk).resolve_right hl
      have hcell : (s.modCp k u).cp k = u (s.cp k) := kget_kmod_same _ _ _ _
      exact each_modCp_keeps (fun x _ => hu x) l (s.modCp k u) k (hcell ▸ hu _)

end

/-- The cells that an alarm names. -/
def Cfg.alarmCells (c : Cfg) (r p : Nat) (f : AlarmFrame) : List Nat :=
  (c.nodeCells r p).filter (fun k => f.chan == 0xFF || (c.cell k).chan == f.chan)

/-- The string of a node that is a string's own. -/
def Cfg.ownStr (c : Cfg) (r p : Nat) : List Nat := match c.stringAt r p with | some i => [i] | none => []

/-- The instants of an alarm are noted at its cells and strings. -/
def State.alarmNoted (s : State) (r p : Nat) (f : AlarmFrame) : State :=
  let now := s.time.now
  let cells := s.cfg.alarmCells r p f
  let u := s.when (bit f.cause 0) (fun s => s.each cells (fun k s => s.modCp k (fun x => { x with ovAlarm := some now })))
  let v := u.when (bit f.cause 1) (fun u => u.each cells (fun k s => s.modCp k (fun x => { x with uvAlarm := some now })))
  let w := v.when (bit f.cause 2) (fun v => v.each (s.cfg.alarmStrs r p) (fun i s => s.modSp i (fun x => { x with otAlarm := some now })))
  w.when (bit f.cause 3) (fun w => w.each (s.cfg.ownStr r p) (fun i s => s.modSp i (fun x => { x with isoAlarm := some now })))

/-- The decisions that an alarm takes (R436). -/
def Cfg.alarmDecs (c : Cfg) (r p : Nat) (f : AlarmFrame) : List Dec :=
  let cellDecs := fun (fn code : Nat) => (c.alarmCells r p f).map (fun k =>
    ({ str := (c.cell k).str, fn := fn, cell := k, code := code, src := k, ps := [p2 f.value, p1 0xFF, p1 (c.fnLevel (c.cell k).str fn)] } : Dec))
  (if bit f.cause 0 then cellDecs 0 Ev.cellOvTrip else []) ++ (if bit f.cause 1 then cellDecs 1 Ev.cellUvTrip else []) ++
  (if bit f.cause 2 then (c.alarmStrs r p).map (fun i => ({ str := i, fn := 9 } : Dec)) else []) ++
  (if bit f.cause 3 then (c.ownStr r p).map (fun i => ({ str := i, fn := 8, code := Ev.isolationFault, src := i, ps := [p1 1] } : Dec)) else [])

/-- The decisions of an alarm take effect, and it is logged. -/
def State.alarmActs (s : State) (r p : Nat) (f : AlarmFrame) (decs : List Dec) : State :=
  let s := (s.decideAll decs).ev Ev.nodeAlarm (srcN r p) [p1 f.cause, p1 f.chan, p2 f.value]
  if s.lease.zeroDue then ({ s with lease := { s.lease with zeroDue := false } } : State).zeroLeaseNow else s

section
variable {s : State} {r p : Nat} {f : AlarmFrame}

theorem protAlarm_eq : s.protAlarm r p f = (s.alarmNoted r p f).alarmActs r p f (s.cfg.alarmDecs r p f) := rfl

theorem Spares.alarmActs (decs : List Dec) : Spares s (s.alarmActs r p f decs) := by
  unfold State.alarmActs
  obtain ⟨u, hu⟩ : ∃ u, u = (s.decideAll decs).ev Ev.nodeAlarm (srcN r p) [p1 f.cause, p1 f.chan, p2 f.value] := ⟨_, rfl⟩
  have hdecided : Spares s u := hu ▸ (Spares.decideAll s decs).trans (Spares.of_logs (Logs.ev _ _ _ _))
  dsimp only
  rw [← hu]
  refine Spares.ite _ (hdecided.trans (Spares.trans ?_ (Spares.of_frame (zeroLeaseNow_frame _) (by decide) (by decide)))) hdecided
  exact Spares.of_prot rfl rfl

theorem when_ch {u : State → State} (b : Bool) (h : ∀ s, (u s).ch = s.ch) : (s.when b u).ch = s.ch := ite_ch _ (h s) rfl

theorem alarmNoted_ch : (s.alarmNoted r p f).ch = s.ch := by
  have hcp : ∀ (u : CellProt → CellProt) l (s : State), (s.each l fun k s => s.modCp k u).ch = s.ch := fun u l s => foldl_ch (fun s k => modCp_ch s k u) l s
  have hsp : ∀ (u : StrProt → StrProt) l (s : State), (s.each l fun i s => s.modSp i u).ch = s.ch := fun u l s => foldl_ch (fun s i => modSp_ch s i u) l s
  unfold State.alarmNoted
  refine (when_ch _ fun s => hsp _ _ s).trans ((when_ch _ fun s => hsp _ _ s).trans ?_)
  exact (when_ch _ fun s => hcp _ _ s).trans (when_ch _ fun s => hcp _ _ s)

/-- Strings' instants leave the cells' words. -/
theorem when_modSp_cp (b : Bool) (l : List Nat) (u : StrProt → StrProt) (k : Nat) : (s.when b (fun s => s.each l (fun i s => s.modSp i u))).cp k = s.cp k := by
  have heach : ∀ s : State, (s.each l (fun i s => s.modSp i u)).cp k = s.cp k := by
    induction l with
    | nil => exact fun _ => rfl
    | cons i l ih => exact fun s => ih (s.modSp i u)
  unfold State.when
  split
  · exact heach s
  · rfl

/-- An alarm sets the instants of the cells that it names. -/
theorem alarmNoted_cp {k : Nat} (hk : k ∈ s.cfg.alarmCells r p f) :
    (bit f.cause 0 = true → ((s.alarmNoted r p f).cp k).ovAlarm = some s.time.now) ∧
    (bit f.cause 1 = true → ((s.alarmNoted r p f).cp k).uvAlarm = some s.time.now) := by
  unfold State.alarmNoted
  dsimp only
  rw [when_modSp_cp, when_modSp_cp]
  refine ⟨fun h0 => ?_, fun h1 => ?_⟩
  · obtain ⟨u, hu⟩ : ∃ u, u = s.when (bit f.cause 0)
      (fun t => t.each (s.cfg.alarmCells r p f) (fun k t => t.modCp k (fun x => { x with ovAlarm := some s.time.now }))) := ⟨_, rfl⟩
    have hset : (u.cp k).ovAlarm = some s.time.now := by
      rw [hu, h0]
      exact each_modCp_sets (P := fun x => x.ovAlarm = some s.time.now) (fun _ => rfl) s hk
    rw [← hu]
    unfold State.when
    split
    · exact each_modCp_keeps (P := fun x => x.ovAlarm = some s.time.now) (u := fun x => { x with uvAlarm := some s.time.now })
        (fun _ h => h) _ u k hset
    · exact hset
  · rw [h1]
    exact each_modCp_sets (P := fun x => x.uvAlarm = some s.time.now) (fun _ => rfl) _ hk

/-- An alarm keeps the alarms of the rings, and sets the instants of the cells that it names. -/
theorem protAlarm_spec : (s.protAlarm r p f).ch.alarms = s.ch.alarms ∧ ∀ k ∈ s.cfg.alarmCells r p f,
    (bit f.cause 0 = true → ((s.protAlarm r p f).cp k).ovAlarm = some s.time.now) ∧
    (bit f.cause 1 = true → ((s.protAlarm r p f).cp k).uvAlarm = some s.time.now) := by
  have hacts := Spares.alarmActs (s := s.alarmNoted r p f) (r := r) (p := p) (f := f) (s.cfg.alarmDecs r p f)
  rw [← protAlarm_eq] at hacts
  refine ⟨hacts.alarms.trans (congrArg Chains.alarms alarmNoted_ch), fun k hk => ?_⟩
  obtain ⟨hov, huv⟩ := alarmNoted_cp hk
  exact ⟨fun h => (hacts.ov k).trans (hov h), fun h => (hacts.uv k).trans (huv h)⟩

/-- The parts that an alarm without a cause reaches: the levels follow, and it is logged. -/
abbrev idleAlarmParts : List Part := ringParts ++ [.prot, .lease, .links, .aon, .leafA, .leafB]

theorem levels_frame (s : State) : Frame [.prot, .aon] s s.levels := by
  rintro ⟨⟩ hp <;> simp [Part.same, State.levels] at hp ⊢

theorem alarmActs_frame : Frame idleAlarmParts s (s.alarmActs r p f []) := by
  unfold State.alarmActs
  obtain ⟨u, hu⟩ : ∃ u, u = (s.decideAll []).ev Ev.nodeAlarm (srcN r p) [p1 f.cause, p1 f.chan, p2 f.value] := ⟨_, rfl⟩
  have hlevels : Frame idleAlarmParts s (s.decideAll []) := ((levels_frame s).mono (by decide)).trans ((rqFollow_frame _).mono (by decide))
  have hdecided : Frame idleAlarmParts s u := hu ▸ hlevels.trans ((Logs.ev _ _ _ _).frame_of_mem (by decide) (by decide))
  dsimp only
  rw [← hu]
  refine Frame.ite _ (hdecided.trans (Frame.trans ?_ ((zeroLeaseNow_frame _).mono (by decide)))) hdecided
  exact (Frame.lease u _).mono (by decide)

/-- An alarm without a cause. -/
theorem protAlarm_frame (h0 : bit f.cause 0 = false) (h1 : bit f.cause 1 = false) (h2 : bit f.cause 2 = false) (h3 : bit f.cause 3 = false) :
    Frame idleAlarmParts s (s.protAlarm r p f) := by
  have hnoted : s.alarmNoted r p f = s := by
    unfold State.alarmNoted
    rw [h0, h1, h2, h3]
    rfl
  have hdecs : s.cfg.alarmDecs r p f = [] := by
    unfold Cfg.alarmDecs
    rw [h0, h1, h2, h3]
    rfl
  rw [protAlarm_eq, hnoted, hdecs]
  exact alarmActs_frame

end

end Sys2Proof.Machine

namespace Sys2Proof.Machine

/-! ### An ALARM at a master port (R213, R219, R436) -/

/-- A cause of none of the four protections has no bit of theirs. -/
theorem bit_of_and_zero {n k : Nat} (h : n &&& 15 = 0) (hk : Nat.testBit 15 k = true) : bit n k = false := by
  have hbit := Nat.testBit_and n 15 k
  rw [h, Nat.zero_testBit, hk, Bool.and_true] at hbit
  exact hbit.symm

/-- The alarms that are remembered: those seen within 10 ms. -/
def State.alarmsKept (s : State) : List (Nat × (Nat × Nat × Nat × Nat)) := s.ch.alarms.filter (fun a => decide (s.time.now < a.1 + 10000000))

/-- The alarms remembered are set, and the split follows the reach of an alarm's node. -/
def State.alarmHeard (s : State) (l : List (Nat × (Nat × Nat × Nat × Nat))) (r p : Nat) : State :=
  ({ s with ch := { s.ch with alarms := l } } : State).grow r p

section
variable {s : State} {r p : Nat} {e : Leaf} {f : AlarmFrame} {l : List (Nat × (Nat × Nat × Nat × Nat))}

theorem alarmHeard_alarms : (s.alarmHeard l r p).ch.alarms = l := (RingWork.grow _ r p).keeps.alarms

theorem alarmHeard_frame : Frame ringParts s (s.alarmHeard l r p) := ((Frame.ch s _).mono (by decide)).trans (RingWork.grow _ r p).frame

theorem alarmHeard_cfg : (s.alarmHeard l r p).cfg = s.cfg := (RingWork.grow _ r p).cfg

theorem alarmHeard_time : (s.alarmHeard l r p).time = s.time := (RingWork.grow _ r p).time

theorem deliverAlarm_copy (h : s.alarmsKept.any (fun a => a.2 == (r, f.src, f.seq, f.cause)) = true) :
    s.deliverAlarm r e f 0 = s.alarmHeard s.alarmsKept r f.src := by
  unfold State.alarmsKept at h
  unfold State.deliverAlarm
  simp only [h]
  rfl

/-- A new alarm of a node that has not reset: protection acts on it, unless the node is quarantined. -/
theorem deliverAlarm_new (h : s.alarmsKept.any (fun a => a.2 == (r, f.src, f.seq, f.cause)) = false) (hboot : (s.node r f.src).boot = f.boot)
    (hawake : s.sleep.st = 0) : s.deliverAlarm r e f 0 =
      (let u := s.alarmHeard ((s.time.now, (r, f.src, f.seq, f.cause)) :: s.alarmsKept) r f.src
       if (s.node r f.src).quar ≠ 0 then u else u.protAlarm r f.src f) := by
  obtain ⟨u, hu⟩ : ∃ u, u = s.alarmHeard ((s.time.now, (r, f.src, f.seq, f.cause)) :: s.alarmsKept) r f.src := ⟨_, rfl⟩
  have hsleep : u.sleep.st = 0 := by
    have hkept : u.sleep = s.sleep := hu ▸ alarmHeard_frame .sleep (by decide)
    rw [hkept, hawake]
  have hdeliver : s.deliverAlarm r e f 0 = if (s.node r f.src).quar ≠ 0 then u
      else if f.cause &&& 15 ≠ 0 then (u.wake 2).protAlarm r f.src f else (u.wakeIf 1).protAlarm r f.src f := by
    rw [hu]
    unfold State.alarmsKept at h ⊢
    unfold State.deliverAlarm
    simp only [h, hboot, ne_eq, not_true_eq_false, false_and, and_false, if_false]
    rfl
  dsimp only
  rw [hdeliver, ← hu, wake_awake hsleep, wakeIf_awake hsleep, ite_self]

/-- A new alarm is remembered; unless its node is quarantined, it sets the instants of the cells that it names. -/
theorem deliverAlarm_new_spec (h : s.alarmsKept.any (fun a => a.2 == (r, f.src, f.seq, f.cause)) = false) (hboot : (s.node r f.src).boot = f.boot)
    (hawake : s.sleep.st = 0) : let n := s.deliverAlarm r e f 0
    n.ch.alarms = (s.time.now, (r, f.src, f.seq, f.cause)) :: s.alarmsKept ∧ ((s.node r f.src).quar ≠ 0 → Frame ringParts s n) ∧
      ((s.node r f.src).quar = 0 → f.cause &&& 15 = 0 → Frame idleAlarmParts s n) ∧
      ((s.node r f.src).quar = 0 → ∀ k ∈ s.cfg.alarmCells r f.src f,
        (bit f.cause 0 = true → (n.cp k).ovAlarm = some s.time.now) ∧ (bit f.cause 1 = true → (n.cp k).uvAlarm = some s.time.now)) := by
  dsimp only
  rw [deliverAlarm_new h hboot hawake]
  obtain ⟨l, hl⟩ : ∃ l, l = (s.time.now, (r, f.src, f.seq, f.cause)) :: s.alarmsKept := ⟨_, rfl⟩
  dsimp only
  rw [← hl]
  split
  next hquar => exact ⟨alarmHeard_alarms, fun _ => alarmHeard_frame, fun h => absurd h hquar, fun h => absurd h hquar⟩
  next hquar =>
    obtain ⟨halarms, hcells⟩ := protAlarm_spec (s := s.alarmHeard l r f.src) (r := r) (p := f.src) (f := f)
    rw [alarmHeard_cfg, alarmHeard_time] at hcells
    refine ⟨halarms.trans alarmHeard_alarms, fun h => absurd h hquar, fun _ hcause => ?_, fun _ => hcells⟩
    have hbit : ∀ k, Nat.testBit 15 k = true → bit f.cause k = false := fun k => bit_of_and_zero hcause
    exact (alarmHeard_frame.mono (by decide)).trans
      (protAlarm_frame (hbit 0 (by decide)) (hbit 1 (by decide)) (hbit 2 (by decide)) (hbit 3 (by decide)))

end

section
variable {t r : Nat} {e : Leaf} {f : AlarmFrame} {s : State}

theorem exec_alarmReceived (hring : s.cfg.ringOn r = true) (hon : (s.setNow t).portOn e = true) (hpick : s.pick.armed = false)
    (hlow : 1 ≤ f.src) (hhigh : f.src ≤ s.cfg.nodeCount r) (hcause : f.cause < 256) (hchan : f.chan < 256) (hvalue : f.value < 65536)
    (hboot : f.boot < 2 ^ 32) : ∃ m, Hears (s.setNow t) m ∧
      exec (.alarmReceived t r e f) s = .next (settle s (m.deliverAlarm r e f 0)) := by
  obtain ⟨m, hm, hrx⟩ := rx_heard (r := r) (kind := 9) (seq := f.seq) (p := alarmP f) (again := .alarmReceived t r e f)
    (judge := fun _ s => if f.src = 0 ∨ f.src > s.cfg.nodeCount r then 3 else 0)
    (deliver := fun p res s => s.deliverAlarm r e (alarmOf f.src f.seq p) res) hon hpick hlow hhigh
  refine ⟨m, hm, ?_⟩
  have hrange : ¬(f.src = 0 ∨ f.src > (s.setNow t).cfg.nodeCount r) := by
    have hcount : (s.setNow t).cfg.nodeCount r = s.cfg.nodeCount r := rfl
    omega
  rw [alarmOf_alarmP hcause hchan hvalue hboot, if_neg hrange] at hrx
  change execAlarmReceived t r e f s = _
  unfold execAlarmReceived
  exact at'_eq ((if_neg (by simp [hring])).trans hrx)

theorem Hears.alarmsKept {n : State} (h : Hears s n) : n.alarmsKept = s.alarmsKept := by
  unfold State.alarmsKept
  rw [h.alarms, h.time]

theorem Hears.boot {n : State} (h : Hears s n) (r p : Nat) : (n.node r p).boot = (s.node r p).boot := (congrArg Node.boot (h.node r p) :)

theorem Hears.quar {n : State} (h : Hears s n) (r p : Nat) : (n.node r p).quar = (s.node r p).quar := (congrArg Node.quar (h.node r p) :)

end

end Sys2Proof.Machine

namespace Sys2Proof.Machine

/-! ### Samples and summaries at a master port (R205, R211, R212, R249, R250, R566) -/

/-- The parts that the end of a sample's request reaches: a host is answered, or the parent. -/
abbrev answerParts : List Part := ringParts ++ [.links, .nest]

/-- The parts that a sample reaches that counts. -/
abbrev sampleParts : List Part := ringParts ++ [.sweep, .links, .nest]

section
variable {s : State} {r p : Nat} {e : Leaf}

theorem ringEvent_five_frame : Frame ringParts s (s.ringEvent r 5) := by
  unfold State.ringEvent
  refine Frame.ite _ (Frame.refl _ s) ?_
  dsimp only
  rw [if_pos rfl]
  exact ((setRing_frame s r _).mono (by decide)).trans (RingWork.settleBreak _ r false).frame

/-- A node's record with its answer to a re-request at an end. -/
def Node.reAnswered (x : Node) (e : Leaf) : Node := match e with | .a => { x with reqA := true } | .b => { x with reqB := true }

/-- An answer to a re-request counts for a break that was found before it was sent. -/
def State.reAnswered (s : State) (r : Nat) (e : Leaf) (p first : Nat) : State :=
  if (s.ring r).brk = 0 ∨ (s.ring r).brk = 5 ∨ (s.ring r).brkNow ≤ first then s.modNode r p (fun n => n.reAnswered e) else s

theorem reAnswered_frame (first : Nat) : Frame ringParts s (s.reAnswered r e p first) :=
  Frame.ite _ ((Frame.ch s _).mono (by decide)) (Frame.refl _ s)

theorem rereqAnswered_eq (first : Nat) : s.rereqAnswered r e p first =
    if (s.ring r).serves p ≠ some e then (s.reAnswered r e p first).ringEvent r 5 else s.reAnswered r e p first := by
  cases e <;> rfl

theorem rereqAnswered_frame (first : Nat) : Frame ringParts s (s.rereqAnswered r e p first) := by
  rw [rereqAnswered_eq]
  exact (reAnswered_frame first).trans (Frame.ite _ ringEvent_five_frame (Frame.refl _ _))

theorem upDone_frame (f : Leaf) (seq kind : Nat) (payload : List Byte) : Frame answerParts s (s.upDone f seq kind payload) :=
  Frame.ite _ ((setUpPort_frame s f _).mono (by decide)) (Frame.refl _ s)

theorem sampleAnswer_frame (kind : Nat) (payload : List Byte) : Frame answerParts s (s.sampleAnswer r e p kind payload) := by
  unfold State.sampleAnswer
  split
  · exact Frame.refl _ s
  next h _ =>
    refine Frame.trans (t := s.answeredAt r e p) (answeredAt_frame.mono (by decide)) ?_
    split
    · exact (answer_frame _ _ _ _ _).mono (by decide)
    · exact (answer_frame _ _ _ _ _).mono (by decide)
    · exact upDone_frame _ _ _ _
    · exact (rereqAnswered_frame h.first).mono (by decide)
    · exact Frame.refl _ _

/-- A sample's node has spoken. -/
def State.sampleHeard (s : State) (r p : Nat) : State := s.modNode r p (fun n => { n with smp := true, spoke := true })

theorem sampleHeard_frame : Frame ringParts s (s.sampleHeard r p) := (Frame.ch s _).mono (by decide)

/-- The sweep's record with a sample among its items, unless its end has one already. -/
def Sweep.joined (x : Sweep) (r p : Nat) (e : Leaf) (payload : List Byte) : Sweep :=
  if x.items.any (fun i => i.ring == r && i.pos == p && i.e == e) then x
  else { x with items := x.items ++ [{ ring := r, pos := p, e := e, payload := payload, inA := true, inB := true }] }

/-- Whether a position's samples may be used hangs on no sample heard. -/
theorem sampleHeard_usable : (s.sampleHeard r p).usable r p = s.usable r p := by
  have hnode : (s.sampleHeard r p).node r p = { s.node r p with smp := true, spoke := true } := kget_kset_same _ _ _ _
  have hring : (s.sampleHeard r p).ring r = s.ring r := rfl
  unfold State.usable
  rw [hnode, hring]

theorem takeSample_spec {low : Nat} (payload : List Byte) (hcollect : s.collecting = true) (hlow : low = s.sw.num % 256) (huse : s.usable r p = true) :
    (s.takeSample r e p low payload).sw = s.sw.joined r p e payload ∧
      Frame (ringParts ++ [.sweep]) s (s.takeSample r e p low payload) := by
  obtain ⟨u, hu⟩ : ∃ u, u = s.modRing r (fun x => { x with used := true }) := ⟨_, rfl⟩
  have hsw : u.sw = s.sw := by rw [hu]; rfl
  have hframe : Frame (ringParts ++ [.sweep]) s u := hu ▸ (modRing_frame s r _).mono (by decide)
  unfold State.takeSample Sweep.joined
  dsimp only
  rw [if_pos ⟨hcollect, hlow, huse⟩, ← hu, hsw]
  split
  · exact ⟨hsw, hframe⟩
  · refine ⟨rfl, hframe.trans ?_⟩
    rintro ⟨⟩ hp <;> simp [Part.same] at hp ⊢

theorem Asks.muteSample (s : State) (r : Nat) (e : Leaf) (p : Nat) : Asks s (s.muteSample r e p) := Asks.setPort s r e p _

/-- A sample that counts, and answers no PASS: what follows its item leaves the sweep. -/
theorem deliverSample_good {kind low : Nat} {sol : Bool} {payload : List Byte} (hsol : sol = true → ∃ h, s.head r e p = some h ∧ h.kind = 4) :
    Frame answerParts ((s.sampleHeard r p).takeSample r e p low payload) (s.deliverSample r e p kind sol low payload 0) := by
  have hpass : (sol && (match s.head r e p with | some h => h.kind == 0xC | none => false)) = false := by
    cases hs : sol with
    | false => rfl
    | true =>
      obtain ⟨h, hhead, hkind⟩ := hsol hs
      simp [hhead, hkind]
  obtain ⟨u, hu⟩ : ∃ u, u = (s.sampleHeard r p).takeSample r e p low payload := ⟨_, rfl⟩
  obtain ⟨v, hv⟩ : ∃ v, v = u.when (u.hasSample r p) (fun s => s.muteSample r e.other p) := ⟨_, rfl⟩
  obtain ⟨w, hw⟩ : ∃ w, w = if sol then v.sampleAnswer r e p kind payload else v := ⟨_, rfl⟩
  have hmuted : Frame answerParts u v := hv ▸ Frame.ite _ ((Asks.muteSample u r e.other p).frame.mono (by decide)) (Frame.refl _ u)
  have hanswered : Frame answerParts v w := hw ▸ Frame.ite _ (sampleAnswer_frame kind payload) (Frame.refl _ v)
  have hdeliver : s.deliverSample r e p kind sol low payload 0 = (w.grow r p).settleBreak r false := by
    rw [hw, hv, hu]
    unfold State.deliverSample
    rw [if_neg (by decide)]
    dsimp only
    exact if_neg fun h => Bool.false_ne_true (hpass.symm.trans h)
  rw [hdeliver, ← hu]
  exact (hmuted.trans hanswered).trans (((RingWork.grow w r p).trans (RingWork.settleBreak _ r false)).frame.mono (by decide))

/-- A late sample is counted, in the sweep, at its ring and in all. -/
theorem deliverSample_late {kind low : Nat} {payload : List Byte} : let n := s.deliverSample r e p kind false low payload 2
    n.sw = { s.sw with late := satAdd 16 s.sw.late 1 } ∧ (n.ring r).late = satAdd 16 (s.ring r).late 1 ∧
      n.time.lateTotal = satAdd 32 s.time.lateTotal 1 ∧ Frame (ringParts ++ [.sweep, .time]) s n := by
  obtain ⟨u, hu⟩ : ∃ u, u = (s.sampleHeard r p).lateSample r := ⟨_, rfl⟩
  have hdeliver : s.deliverSample r e p kind false low payload 2 = (u.grow r p).settleBreak r false := by rw [hu]; rfl
  have hwork : RingWork u ((u.grow r p).settleBreak r false) := (RingWork.grow u r p).trans (RingWork.settleBreak _ r false)
  have hlate : (u.ring r).late = satAdd 16 (s.ring r).late 1 := by
    rw [hu]
    exact congrArg Ring.late (ring_modRing_same (s.sampleHeard r p) r (fun x => { x with late := satAdd 16 x.late 1 }))
  have hframe : Frame (ringParts ++ [.sweep, .time]) s u := by
    rw [hu]
    refine ((sampleHeard_frame (r := r) (p := p)).mono (by decide)).trans ?_
    rintro ⟨⟩ hp <;> simp [Part.same, State.lateSample] at hp ⊢
  dsimp only
  rw [hdeliver]
  refine ⟨?_, (congrArg Ring.late (hwork.ring r) :).trans hlate, ?_, hframe.trans (hwork.frame.mono (by decide))⟩
  · rw [hwork.sw, hu]
    rfl
  · rw [hwork.time, hu]
    rfl

theorem judgeSample_good {seq low : Nat} {sol : Bool} (hp : 1 ≤ p) (hcount : p ≤ s.cfg.nodeCount r)
    (hsol : sol = true → ∃ h, s.head r e p = some h ∧ h.kind = 4 ∧ h.reg = 0xFF20 ∧ h.seq = seq ∧ h.busy = false)
    (hcollect : s.collecting = true) (hlow : low = s.sw.num % 256) : s.judgeSample r e p seq sol low = 0 := by
  unfold State.judgeSample
  dsimp only
  rw [if_neg, if_neg]
  · rw [if_pos hlow, hcollect]
    simp
  · rintro (h | h | ⟨hs, hnone⟩)
    · omega
    · omega
    · obtain ⟨h, hhead, hkind, hreg, hseq, hbusy⟩ := hsol hs
      simp [hhead, hkind, hreg, hseq, hbusy] at hnone

theorem judgeSample_late {seq low : Nat} (hp : 1 ≤ p) (hcount : p ≤ s.cfg.nodeCount r) (hstarted : s.sw.started = true)
    (hlow : (low ≠ s.sw.num % 256 ∧ low < s.sw.num) ∨ (low = s.sw.num % 256 ∧ s.collecting = false)) : s.judgeSample r e p seq false low = 2 := by
  unfold State.judgeSample
  dsimp only
  rw [if_neg (by simp; omega)]
  refine if_pos ⟨hstarted, ?_⟩
  obtain ⟨hne, hlt⟩ | ⟨heq, hnot⟩ := hlow
  · rw [if_neg hne]
    exact decide_eq_true hlt
  · rw [if_pos heq, hnot]
    rfl

theorem Hears.collecting {n : State} (h : Hears s n) : n.collecting = s.collecting := by
  unfold State.collecting State.deadline
  rw [h.sw, h.time]

theorem Hears.usable {n : State} (h : Hears s n) : n.usable r p = s.usable r p := by
  have hquar := h.quar r p
  have hcfg : (n.node r p).cfg = (s.node r p).cfg := (congrArg Node.cfg (h.node r p) :)
  have hgated : (n.ring r).gated = (s.ring r).gated := (congrArg Ring.gated (h.ring r) :)
  unfold State.usable
  dsimp only
  rw [hquar, hcfg, hgated]

/-- A sample or a summary of the sweep that collects joins its items. -/
theorem Hears.sampleJoins {m : State} (hm : Hears s m) {kind low : Nat} {sol : Bool} {payload : List Byte}
    (hsol : sol = true → ∃ h, s.head r e p = some h ∧ h.kind = 4) (hcollect : s.collecting = true) (hlow : low = s.sw.num % 256)
    (huse : s.usable r p = true) : let n := m.deliverSample r e p kind sol low payload 0
    n.sw = s.sw.joined r p e payload ∧ Frame sampleParts s n := by
  obtain ⟨hsw, hframe⟩ := takeSample_spec (s := m.sampleHeard r p) (r := r) (p := p) (e := e) (low := low) payload (hm.collecting.trans hcollect)
    (hlow.trans (congrArg (fun x : Sweep => x.num % 256) hm.sw.symm)) (sampleHeard_usable.trans (hm.usable.trans huse))
  have hrest := deliverSample_good (s := m) (kind := kind) (low := low) (payload := payload) fun h => by
    rw [hm.head]
    exact hsol h
  refine ⟨(hrest .sweep (by decide)).trans (hsw.trans (congrArg (Sweep.joined · r p e payload) hm.sw)), ?_⟩
  exact (((hm.frame.mono (by decide)).trans (sampleHeard_frame.mono (by decide))).trans (hframe.mono (by decide))).trans (hrest.mono (by decide))

/-- A late sample or summary is only counted. -/
theorem Hears.sampleLate {m : State} (hm : Hears s m) {kind low : Nat} {payload : List Byte} :
    let n := m.deliverSample r e p kind false low payload 2
    n.sw = { s.sw with late := satAdd 16 s.sw.late 1 } ∧ (n.ring r).late = satAdd 16 (s.ring r).late 1 ∧
      n.time.lateTotal = satAdd 32 s.time.lateTotal 1 ∧ Frame (ringParts ++ [.sweep, .time]) s n := by
  obtain ⟨hsw, hring, htime, hframe⟩ := deliverSample_late (s := m) (r := r) (p := p) (e := e) (kind := kind) (low := low) (payload := payload)
  have hlate : (m.ring r).late = (s.ring r).late := (congrArg Ring.late (hm.ring r) :)
  rw [hm.sw] at hsw
  rw [hlate] at hring
  rw [hm.time] at htime
  exact ⟨hsw, hring, htime, (hm.frame.mono (by decide)).trans hframe⟩

end

section
variable {t r : Nat} {e : Leaf} {f : SampleRsp} {s : State}

theorem exec_sampleRspReceived {res : Nat} (hring : s.cfg.ringOn r = true) (hon : (s.setNow t).portOn e = true) (hpick : s.pick.armed = false)
    (hlow : 1 ≤ f.pos) (hhigh : f.pos ≤ s.cfg.nodeCount r) (hres : (s.setNow t).judgeSample r e f.pos f.seq f.solicited (sampleLow f.payload) = res) :
    ∃ m, Hears (s.setNow t) m ∧ exec (.sampleRspReceived t r e f) s =
      .next (settle s (m.deliverSample r e f.pos 6 f.solicited (sampleLow f.payload) (keptSample f f.payload) res)) := by
  obtain ⟨m, hm, hrx⟩ := rx_heard (r := r) (kind := 6) (seq := f.seq) (p := f.payload) (again := .sampleRspReceived t r e f)
    (judge := fun p s => s.judgeSample r e f.pos f.seq f.solicited (sampleLow p))
    (deliver := fun p res s => s.deliverSample r e f.pos 6 f.solicited (sampleLow p) (keptSample f p) res) hon hpick hlow hhigh
  refine ⟨m, hm, ?_⟩
  rw [hres] at hrx
  change execSampleRspReceived t r e f s = _
  unfold execSampleRspReceived
  exact at'_eq ((if_neg (by simp [hring])).trans hrx)

theorem exec_groupSummaryReceived {res : Nat} (hring : s.cfg.ringOn r = true) (hon : (s.setNow t).portOn e = true) (hpick : s.pick.armed = false)
    (hlow : 1 ≤ f.pos) (hhigh : f.pos ≤ s.cfg.nodeCount r) (hres : (s.setNow t).judgeSample r e f.pos f.seq f.solicited (summaryLow f.payload) = res) :
    ∃ m, Hears (s.setNow t) m ∧ exec (.groupSummaryReceived t r e f) s =
      .next (settle s (m.deliverSample r e f.pos 0x0B f.solicited (summaryLow f.payload) f.payload res)) := by
  obtain ⟨m, hm, hrx⟩ := rx_heard (r := r) (kind := 0x0B) (seq := f.seq) (p := f.payload) (again := .groupSummaryReceived t r e f)
    (judge := fun p s => s.judgeSample r e f.pos f.seq f.solicited (summaryLow p))
    (deliver := fun p res s => s.deliverSample r e f.pos 0x0B f.solicited (summaryLow p) p res) hon hpick hlow hhigh
  refine ⟨m, hm, ?_⟩
  rw [hres] at hrx
  change execGroupSummaryReceived t r e f s = _
  unfold execGroupSummaryReceived
  exact at'_eq ((if_neg (by simp [hring])).trans hrx)

end

end Sys2Proof.Machine

namespace Sys2Proof.Machine

/-! ### A re-request instant (R211, R223, R265) -/

/-- A ring's marks that its ends' re-request instants have passed. -/
def Ring.rrMarks (x : Ring) : Ring := { rrA := x.rrA, rrB := x.rrB }

/-- No view of a node's record. -/
def Node.unviewed (_ : Node) : Node := {}

/-- Work on the rings that leaves the marks of their re-request instants, whatever it does to the nodes' records. -/
abbrev RereqWork := Works Ring.rrMarks Node.unviewed

theorem RereqWork.of_ring {s n : State} (h : RingWork s n) : RereqWork s n := h.mono (fun _ _ hx => (congrArg Ring.rrMarks hx :)) fun _ _ _ => rfl

theorem RereqWork.enumClear (s : State) (r : Nat) : RereqWork s (s.enumClear r) := by
  unfold State.enumClear
  refine Works.ite _ (Works.refl s) (Works.trans ?_ (Works.modRing _ r _ fun _ => by rfl))
  exact Works.each (fun p s => Works.modNode s r p _ fun _ => by rfl) _ s

theorem RereqWork.sendEnum (s : State) (r : Nat) (e : Leaf) : RereqWork s (s.sendEnum r e) := by
  unfold State.sendEnum
  refine Works.ite _ (Works.refl s) (Works.trans (Works.trans ?_ (Works.modRing _ r _ fun x => ?_)) (Works.of_sends (Sends.sendFrame _ _ _ _ _ _ _ _)))
  · exact Works.each (fun p s => (Works.setPort (PortPos.Holds.of_q (by rfl))).trans (Works.modNode _ r p _ fun _ => by rfl)) _ s
  · cases e <;> rfl

theorem RereqWork.breakEnum (s : State) (r : Nat) : RereqWork s (s.breakEnum r) := by
  unfold State.breakEnum
  refine Works.trans (Works.trans ?_ (RereqWork.sendEnum _ r .a)) (RereqWork.sendEnum _ r .b)
  exact (RereqWork.enumClear s r).trans (Works.modRing _ r _ fun _ => by rfl)

/-- The requests of a list of positions' samples leave both ends. -/
def State.samplesAsked (s : State) (r : Nat) (l : List Nat) : State :=
  s.each l (fun p s => s.each [Leaf.a, Leaf.b] (fun e s => s.request' r e p reqSample))

/-- A ring's record with the mark of an end's re-request instant. -/
def Ring.rrMarked (x : Ring) (e : Leaf) : Ring := match e with | .a => { x with rrA := true } | .b => { x with rrB := true }

/-- A break that waits for the re-requests moves on. -/
def State.breakWaits (s : State) (r : Nat) (none : Bool) : State :=
  let x := s.ring r
  if x.brk = 0 ∨ x.brkEnum then s
  else
    let s := if none then s else s.modRing r (fun x => { x with brkSent := true })
    if s.rereqAhead r then s
    else if (s.ring r).brkSent then s.settleBreak r false else s.breakEnum r

section
variable {s : State} {r : Nat} {e : Leaf}

theorem samplesAsked_asks (p : Nat) (s : State) : Asks s (s.samplesAsked r [p]) :=
  (Asks.request' s r .a p reqSample).trans (Asks.request' _ r .b p reqSample)

theorem RereqWork.samplesAsked (s : State) (r : Nat) (l : List Nat) : RereqWork s (s.samplesAsked r l) :=
  Works.each (fun p s => Works.each (fun e s => Works.request' s r e p reqSample) _ s) l s

/-- A position's request of its sample stands at each working end. -/
theorem samplesAsked_one {p : Nat} {x : Leaf} (hon : s.portOn x = true) (hopen : (s.node r p).barred = false) :
    ∃ z ∈ ((s.samplesAsked r [p]).port r x p).q, reqSample.asks z := by
  have hfirst := Works.request' (f := id) (g := id) s r .a p reqSample
  cases x with
  | a =>
    have hlast := Works.request' (f := id) (g := id) (s.request' r .a p reqSample) r .b p reqSample
    exact (hlast.port (portKey r .a p)).sample (request'_queued hon (.inr hopen))
  | b =>
    refine request'_queued ((hfirst.portOn .b).trans hon) (.inr ?_)
    rw [(Asks.request' s r .a p reqSample).node, hopen]

theorem samplesAsked_queued {l : List Nat} {p : Nat} {x : Leaf} (hp : p ∈ l) (hon : s.portOn x = true) (hopen : (s.node r p).barred = false) :
    ∃ z ∈ ((s.samplesAsked r l).port r x p).q, reqSample.asks z := by
  induction l generalizing s with
  | nil => exact absurd hp List.not_mem_nil
  | cons i l ih =>
    by_cases hi : p = i
    · subst hi
      exact ((RereqWork.samplesAsked (s.samplesAsked r [p]) r l).port (portKey r x p)).sample (samplesAsked_one hon hopen)
    · refine ih (s := s.samplesAsked r [i]) ((List.mem_cons.mp hp).resolve_left hi) (((RereqWork.samplesAsked s r [i]).portOn x).trans hon) ?_
      rw [(samplesAsked_asks i s).node, hopen]

theorem RereqWork.breakWaits (s : State) (r : Nat) (none : Bool) : RereqWork s (s.breakWaits r none) := by
  obtain ⟨u, hu⟩ : ∃ u, u = if none then s else s.modRing r (fun x => { x with brkSent := true }) := ⟨_, rfl⟩
  have hsent : RereqWork s u := hu ▸ Works.ite _ (Works.refl s) (Works.modRing s r _ fun _ => by rfl)
  unfold State.breakWaits
  dsimp only
  rw [← hu]
  refine Works.ite _ (Works.refl s) (Works.ite _ hsent (Works.ite _ ?_ (hsent.trans (RereqWork.breakEnum u r))))
  exact hsent.trans (RereqWork.of_ring (RingWork.settleBreak u r false))

/-- An end's re-request instant is marked. -/
def State.rrMarked (s : State) (r : Nat) (e : Leaf) : State := s.modRing r (fun x => x.rrMarked e)

theorem rrMarked_ring : (s.rrMarked r e).ring r = (s.ring r).rrMarked e := ring_modRing_same s r _

theorem rrMarked_portOn (f : Leaf) : (s.rrMarked r e).portOn f = s.portOn f := setRing_portOn s r _ f

/-- The mark of an end's instant leaves what the end asks for. -/
theorem rrMarked_rereqList : (s.rrMarked r e).rereqList r e = s.rereqList r e := by
  have hserves : ∀ p, ((s.ring r).rrMarked e).serves p = (s.ring r).serves p := fun p => by cases e <;> rfl
  have hgated : ((s.ring r).rrMarked e).gated = (s.ring r).gated := by cases e <;> rfl
  have husable : ∀ p, (s.rrMarked r e).usable r p = s.usable r p := fun p => by
    unfold State.usable
    rw [rrMarked_ring, hgated]
    rfl
  have hheld : ∀ p, (s.rrMarked r e).heldSample r p = s.heldSample r p := fun p => by
    unfold State.heldSample
    rw [rrMarked_portOn, rrMarked_portOn]
    rfl
  unfold State.rereqList
  simp only [rrMarked_ring, hserves, husable, hheld, rrMarked_portOn]
  rfl

theorem rrMarked_rereqFits : (s.rrMarked r e).rereqFits r e = s.rereqFits r e := by
  have hat : (s.rrMarked r e).rereqAt r e = s.rereqAt r e := by
    unfold State.rereqAt
    rw [rrMarked_ring]
    cases e <;> rfl
  unfold State.rereqFits
  rw [rrMarked_portOn, hat]
  rfl

/-- The positions whose samples an end asks for at its instant. -/
def State.rereqNow (s : State) (r : Nat) (e : Leaf) : List Nat := if s.rereqFits r e then s.rereqList r e else []

theorem rereqRun_eq : s.rereqRun r e = ((s.rrMarked r e).samplesAsked r (s.rereqNow r e)).breakWaits r (s.rereqNow r e).isEmpty := by
  have hnow : s.rereqNow r e = (s.rrMarked r e).rereqNow r e := by
    unfold State.rereqNow
    rw [rrMarked_rereqFits, rrMarked_rereqList]
  rw [hnow]
  cases e <;> rfl

/-- The work of a re-request instant after its mark. -/
theorem RereqWork.rereqRun (s : State) (r : Nat) (e : Leaf) : RereqWork (s.rrMarked r e) (s.rereqRun r e) := by
  rw [rereqRun_eq]
  exact (RereqWork.samplesAsked _ r _).trans (RereqWork.breakWaits _ r _)

theorem mem_rereqList {p : Nat} (h : p ∈ s.rereqList r e) : (s.node r p).quar = 0 := by
  have huse : s.usable r p = true := by
    simp only [State.rereqList, List.mem_filter, Bool.and_eq_true] at h
    exact h.2.1.1.2
  simp only [State.usable, Bool.and_eq_true, beq_iff_eq] at huse
  exact huse.1.1

/-- At its instant an end asks both working ends for every sample that it misses. -/
theorem rereqRun_queued {p : Nat} {x : Leaf} (hfits : s.rereqFits r e = true) (hp : p ∈ s.rereqList r e) (hon : s.portOn x = true) :
    ∃ z ∈ ((s.rereqRun r e).port r x p).q, reqSample.asks z := by
  have hnow : p ∈ s.rereqNow r e := by
    unfold State.rereqNow
    rw [if_pos hfits]
    exact hp
  rw [rereqRun_eq]
  refine ((RereqWork.breakWaits _ r _).port (portKey r x p)).sample (samplesAsked_queued hnow ((rrMarked_portOn x).trans hon) ?_)
  exact (barred_of_quar (mem_rereqList hp) : (s.node r p).barred = false)

theorem rereqRun_spec : (e = .a → ((s.rereqRun r e).ring r).rrA = true) ∧ (e = .b → ((s.rereqRun r e).ring r).rrB = true) ∧
    Frame ringParts s (s.rereqRun r e) := by
  have hwork := RereqWork.rereqRun s r e
  have hmarks := hwork.ring r
  rw [rrMarked_ring] at hmarks
  refine ⟨fun h => ?_, fun h => ?_, ((modRing_frame s r _).mono (by decide)).trans hwork.frame⟩
  · subst h
    exact (congrArg Ring.rrA hmarks :)
  · subst h
    exact (congrArg Ring.rrB hmarks :)

/-- A request of SAMPLE_LAST for a sample. -/
theorem any_of_asks {q : List Req} (h : ∃ z ∈ q, reqSample.asks z) :
    q.any (fun r => r.purpose == .sample && r.kind == 4 && r.reg == 0xFF20) = true := by
  obtain ⟨z, hz, hpurpose, hkind, hreg, -⟩ := h
  exact List.any_eq_true.mpr ⟨z, hz, by simp [hpurpose, hkind, hreg, reqSample, reqRd]⟩

theorem exec_rerequestInstant_due {t : Nat} (hring : s.cfg.ringOn r = true) (hphase : s.sw.phase = .collecting)
    (hdone : (if e = .a then (s.ring r).rrA else (s.ring r).rrB) = false) (hdue : (s.setNow t).rereqAt r e ≤ (s.setNow t).time.now) :
    exec (.rerequestInstant t r e) s = .next (settle s ((s.setNow t).rereqRun r e)) := by
  change execRerequestInstant t r e s = _
  unfold execRerequestInstant
  refine at'_eq (if_pos ⟨hring, hphase, ?_, hdue⟩)
  cases e
  · exact congrArg not hdone
  · exact congrArg not hdone

end

end Sys2Proof.Machine

namespace Sys2Proof.Machine

/-! ### What a sweep collects (R205, R211, R212, R213, R249, R250, R436, R566) -/

section
variable {t r : Nat} {e : Leaf} {f : SampleRsp} {s : State}

/-- A frame that answers a request answers the outstanding read of SAMPLE_LAST. -/
def State.AwaitsSample (s : State) (r : Nat) (e : Leaf) (f : SampleRsp) : Prop :=
  f.solicited = true → ∃ h, s.head r e f.pos = some h ∧ h.kind = 4 ∧ h.reg = 0xFF20 ∧ h.seq = f.seq ∧ h.busy = false

theorem State.AwaitsSample.kind (h : s.AwaitsSample r e f) : f.solicited = true → ∃ h, s.head r e f.pos = some h ∧ h.kind = 4 := fun hs => by
  obtain ⟨x, hhead, hkind, -⟩ := h hs
  exact ⟨x, hhead, hkind⟩

theorem sampleRspReceived_joins (hring : s.cfg.ringOn r = true) (hon : (s.setNow t).portOn e = true) (hpick : s.pick.armed = false)
    (hp : 1 ≤ f.pos) (hcount : f.pos ≤ s.cfg.nodeCount r) (hsol : (s.setNow t).AwaitsSample r e f) (hcollect : (s.setNow t).collecting = true)
    (huse : (s.setNow t).usable r f.pos = true) (hlow : sampleLow f.payload = s.sw.num % 256) :
    ∃ n, exec (.sampleRspReceived t r e f) s = .next n ∧ n.sw = s.sw.joined r f.pos e (keptSample f f.payload) ∧ Frame sampleParts s n := by
  obtain ⟨m, hm, hexec⟩ := exec_sampleRspReceived hring hon hpick hp hcount (judgeSample_good (s := s.setNow t) hp hcount hsol hcollect hlow)
  obtain ⟨hsw, hframe⟩ := hm.sampleJoins (kind := 6) (payload := keptSample f f.payload) hsol.kind hcollect hlow huse
  exact ⟨_, hexec, hsw, hframe.settle⟩

theorem groupSummaryReceived_joins (hring : s.cfg.ringOn r = true) (hon : (s.setNow t).portOn e = true) (hpick : s.pick.armed = false)
    (hp : 1 ≤ f.pos) (hcount : f.pos ≤ s.cfg.nodeCount r) (hsol : (s.setNow t).AwaitsSample r e f) (hcollect : (s.setNow t).collecting = true)
    (huse : (s.setNow t).usable r f.pos = true) (hlow : summaryLow f.payload = s.sw.num % 256) :
    ∃ n, exec (.groupSummaryReceived t r e f) s = .next n ∧ n.sw = s.sw.joined r f.pos e f.payload ∧ Frame sampleParts s n := by
  obtain ⟨m, hm, hexec⟩ := exec_groupSummaryReceived hring hon hpick hp hcount (judgeSample_good (s := s.setNow t) hp hcount hsol hcollect hlow)
  obtain ⟨hsw, hframe⟩ := hm.sampleJoins (kind := 0x0B) (payload := f.payload) hsol.kind hcollect hlow huse
  exact ⟨_, hexec, hsw, hframe.settle⟩

/-- A low byte that shows an older sweep, or a frame that comes when the sweep in hand collects no more. -/
def State.Overdue (s : State) (low : Nat) : Prop :=
  (low ≠ s.sw.num % 256 ∧ low < s.sw.num) ∨ (low = s.sw.num % 256 ∧ s.collecting = false)

theorem sampleRspReceived_late (hring : s.cfg.ringOn r = true) (hon : (s.setNow t).portOn e = true) (hpick : s.pick.armed = false)
    (hp : 1 ≤ f.pos) (hcount : f.pos ≤ s.cfg.nodeCount r) (hstarted : s.sw.started = true) (hsol : f.solicited = false)
    (hlow : (s.setNow t).Overdue (sampleLow f.payload)) : ∃ n, exec (.sampleRspReceived t r e f) s = .next n ∧
      n.sw = { s.sw with late := satAdd 16 s.sw.late 1 } ∧ (n.ring r).late = satAdd 16 (s.ring r).late 1 ∧
      n.time.lateTotal = satAdd 32 s.time.lateTotal 1 ∧ Frame (ringParts ++ [.sweep, .time]) s n := by
  have hjudge : (s.setNow t).judgeSample r e f.pos f.seq f.solicited (sampleLow f.payload) = 2 := by
    rw [hsol]
    exact judgeSample_late hp hcount hstarted hlow
  obtain ⟨m, hm, hexec⟩ := exec_sampleRspReceived hring hon hpick hp hcount hjudge
  rw [hsol] at hexec
  obtain ⟨hsw, hlate, htime, hframe⟩ := hm.sampleLate (r := r) (p := f.pos) (e := e) (kind := 6) (low := sampleLow f.payload)
    (payload := keptSample f f.payload)
  exact ⟨_, hexec, hsw, hlate, htime, hframe.settle⟩

theorem groupSummaryReceived_late (hring : s.cfg.ringOn r = true) (hon : (s.setNow t).portOn e = true) (hpick : s.pick.armed = false)
    (hp : 1 ≤ f.pos) (hcount : f.pos ≤ s.cfg.nodeCount r) (hstarted : s.sw.started = true) (hsol : f.solicited = false)
    (hlow : (s.setNow t).Overdue (summaryLow f.payload)) : ∃ n, exec (.groupSummaryReceived t r e f) s = .next n ∧
      n.sw = { s.sw with late := satAdd 16 s.sw.late 1 } ∧ (n.ring r).late = satAdd 16 (s.ring r).late 1 ∧
      n.time.lateTotal = satAdd 32 s.time.lateTotal 1 ∧ Frame (ringParts ++ [.sweep, .time]) s n := by
  have hjudge : (s.setNow t).judgeSample r e f.pos f.seq f.solicited (summaryLow f.payload) = 2 := by
    rw [hsol]
    exact judgeSample_late hp hcount hstarted hlow
  obtain ⟨m, hm, hexec⟩ := exec_groupSummaryReceived hring hon hpick hp hcount hjudge
  rw [hsol] at hexec
  obtain ⟨hsw, hlate, htime, hframe⟩ := hm.sampleLate (r := r) (p := f.pos) (e := e) (kind := 0x0B) (low := summaryLow f.payload)
    (payload := f.payload)
  exact ⟨_, hexec, hsw, hlate, htime, hframe.settle⟩

end

/-- The cells that an alarm of a channel names. -/
theorem mem_alarmCells {c : Cfg} {r p k : Nat} {f : AlarmFrame} (hk : k ∈ c.nodeCells r p) (hchan : f.chan = 0xFF ∨ (c.cell k).chan = f.chan) :
    k ∈ c.alarmCells r p f := List.mem_filter.mpr ⟨hk, by simpa using hchan⟩

/-- Settles O42: a sample and a summary by their judgement, an alarm by what is remembered of it, a re-request instant by its requests. -/
theorem samplesCollected : Obligations.SamplesCollected := by
  unfold Obligations.SamplesCollected
  intro t ring e s hring
  refine ⟨fun f hon hpick hp hcount hsol => ⟨fun hcollect huse => ⟨fun hlow => ?_, fun hlow => ?_⟩, fun hstarted hunsol => ⟨fun hlow => ?_, fun hlow => ?_⟩⟩,
    fun f hon hpick hawake hp hcount hcause hchan hvalue hbootLt hboot => ?_, fun hphase hdone hdue => ?_⟩
  · exact sampleRspReceived_joins hring hon hpick hp hcount hsol hcollect huse hlow
  · exact groupSummaryReceived_joins hring hon hpick hp hcount hsol hcollect huse hlow
  · exact sampleRspReceived_late hring hon hpick hp hcount hstarted hunsol hlow
  · exact groupSummaryReceived_late hring hon hpick hp hcount hstarted hunsol hlow
  · obtain ⟨m, hm, hexec⟩ := exec_alarmReceived hring hon hpick hp hcount hcause hchan hvalue hbootLt
    have hkept : m.alarmsKept = (s.setNow t).alarmsKept := hm.alarmsKept
    have hframe : Frame ringParts (s.setNow t) m := hm.frame.mono (by decide)
    refine ⟨fun hcopy => ?_, fun hnew => ?_⟩
    · rw [deliverAlarm_copy (by rw [hkept]; exact hcopy)] at hexec
      have hheard := hframe.trans (alarmHeard_frame (l := m.alarmsKept) (r := ring) (p := f.src))
      exact ⟨_, hexec, alarmHeard_alarms.trans hkept, hheard .prot (by decide), hheard.settle⟩
    · have hmboot : (m.node ring f.src).boot = f.boot := (hm.boot ring f.src).trans hboot
      have hmawake : m.sleep.st = 0 := (congrArg Sleep.st (hm.frame .sleep (by decide)) :).trans hawake
      have hmquar : (m.node ring f.src).quar = (s.node ring f.src).quar := hm.quar ring f.src
      obtain ⟨halarms, hquar, hidle, hcells⟩ := deliverAlarm_new_spec (e := e) (by rw [hkept]; exact hnew) hmboot hmawake
      rw [hmquar] at hquar hidle hcells
      rw [hkept, hm.time] at halarms
      rw [hm.cfg, hm.time] at hcells
      exact ⟨_, hexec, halarms, fun h => (hframe.trans (hquar h)).settle, fun h hc => ((hframe.mono (by decide)).trans (hidle h hc)).settle,
        fun h k hk hname => hcells h k (mem_alarmCells hk hname)⟩
  · obtain ⟨ha, hb, hframe⟩ := rereqRun_spec (s := s.setNow t) (r := ring) (e := e)
    exact ⟨_, exec_rerequestInstant_due hring hphase hdone hdue, ha, hb,
      fun hfits p hp x hon => any_of_asks (rereqRun_queued hfits hp hon), hframe.settle⟩

end Sys2Proof.Machine

namespace Sys2Proof.Machine

/-! ### What a Deadbolt leaves of its record and of the currents (R440, R452) -/

/-- The records of the current inputs and the record of a Deadbolt. -/
structure Bolt where
  cur : KMap CurSt
  latch : Bool
  cause : Nat
  source : Nat
  hold : Bool

/-- What a state shows of the current inputs and of the Deadbolt. -/
def State.bolt (s : State) : Bolt := ⟨s.cur, s.aon.dbLatch, s.aon.dbCause, s.aon.dbSource, s.aon.holdDb⟩

theorem bolt_of_eq {s n : State} (hcur : n.cur = s.cur) (haon : n.aon = s.aon) : n.bolt = s.bolt := by
  rw [State.bolt, hcur, haon]
  rfl

theorem Logs.bolt {s n : State} (h : Logs s n) : n.bolt = s.bolt := bolt_of_eq h.cur h.aon

theorem Ends.bolt {s n : State} (h : Ends s n) : n.bolt = s.bolt := by
  have haon := congrArg (fun a : Aon => Bolt.mk s.cur a.dbLatch a.dbCause a.dbSource a.holdDb) h.aon
  rw [State.bolt, h.cur]
  exact haon

/-- A frame that holds the current inputs and the AON domain leaves both records. -/
theorem Frame.bolt {ps : List Part} {s n : State} (h : Frame ps s n) (hcur : .cur ∉ ps) (haon : .aon ∉ ps) : n.bolt = s.bolt := by
  have hkept := congrArg (fun a : Aon => Bolt.mk s.cur a.dbLatch a.dbCause a.dbSource a.holdDb) (h .aon haon :)
  have hinputs : n.cur = s.cur := h .cur hcur
  rw [State.bolt, hinputs]
  exact hkept

theorem ite_bolt {s t n : State} (c : Prop) [Decidable c] (h : t.bolt = s.bolt) (k : n.bolt = s.bolt) : (if c then t else n).bolt = s.bolt := by
  split
  · exact h
  · exact k

theorem each_bolt {α : Type} {u : α → State → State} (h : ∀ x s, (u x s).bolt = s.bolt) (l : List α) (s : State) :
    (s.each l u).bolt = s.bolt := by
  induction l generalizing s with
  | nil => rfl
  | cons x r ih => exact (ih (u x s)).trans (h x s)

theorem when_bolt {u : State → State} (s : State) (b : Bool) (h : ∀ s, (u s).bolt = s.bolt) : (s.when b u).bolt = s.bolt := ite_bolt _ (h s) rfl

theorem settle_bolt (o n : State) : (settle o n).bolt = n.bolt := rfl

/-! Units for MRAM -/

theorem modLeaf_bolt (s : State) (l : Leaf) (f : LeafRec → LeafRec) : (s.modLeaf l f).bolt = s.bolt := (Ends.modLeaf s l f).bolt

theorem fence_bolt (s : State) (l : Leaf) (cause : Nat) : (s.fence l cause).bolt = s.bolt := (Ends.fence s l cause).bolt

theorem refuseUnits_bolt (s : State) (l : Leaf) (n : Nat) : (s.refuseUnits l n).bolt = s.bolt := by
  unfold State.refuseUnits
  exact ite_bolt _ rfl rfl

theorem dropUnit_bolt (s : State) (l : Leaf) {u : MUnit} (h : ∀ c e, u ≠ .learn c e) : (s.dropUnit l u).bolt = s.bolt := by
  cases u with
  | learn c e => exact absurd rfl (h c e)
  | opens | latched | segs => exact (Logs.evA _ _ _ _).bolt

theorem mramPut_bolt (s : State) {u : MUnit} (h : ∀ c e, u ≠ .learn c e) : (s.mramPut u).bolt = s.bolt := by
  unfold State.mramPut
  refine (each_bolt (fun l t => ?_) _ _).trans ?_
  · exact ite_bolt _ rfl (ite_bolt _ (dropUnit_bolt t l h) ((refuseUnits_bolt _ l 1).trans (modLeaf_bolt t l _)))
  · exact ite_bolt _ (ite_bolt _ (fence_bolt s _ _) (ite_bolt _ (fence_bolt s _ _) (ite_bolt _ (fence_bolt s _ _) rfl))) rfl

/-! Openings -/

theorem chanFollow_bolt (s : State) (k : Nat) : (s.chanFollow k).bolt = s.bolt := by
  unfold State.chanFollow
  exact ite_bolt _ rfl (ite_bolt _ rfl rfl)

theorem chanSet_bolt (s : State) (k : Nat) (on : Bool) : (s.chanSet k on).bolt = s.bolt := ite_bolt _ (chanFollow_bolt _ k) rfl

theorem request'_bolt (s : State) (r : Nat) (e : Leaf) (p : Nat) (x : Req) : (s.request' r e p x).bolt = s.bolt :=
  (Asks.request' s r e p x).frame.bolt (by decide) (by decide)

theorem sendAct_bolt (s : State) (i code : Nat) (em : Bool) : (s.sendAct i code em).bolt = s.bolt := by
  unfold State.sendAct
  split
  · rfl
  next r p _ => exact ite_bolt _ rfl (ite_bolt _ (each_bolt (fun e s => request'_bolt s r e p _) _ _) (request'_bolt _ r _ p _))

/-- A contactor's channel is set where its command asks for it. -/
theorem putChan_bolt (s : State) (o : Option Bool) (k : Nat) : (match o with | some b => s.chanSet k b | none => s).bolt = s.bolt := by
  cases o with
  | none => rfl
  | some b => exact chanSet_bolt s k b

/-- A contactor's ACT_CMD is sent where its command asks for it. -/
theorem putAct_bolt (s : State) (i : Nat) (o : Option Bool) (close opens : Nat) (em : Bool) :
    (match o with | some true => s.sendAct i close em | some false => s.sendAct i opens em | none => s).bolt = s.bolt := by
  cases o with
  | none => rfl
  | some b => cases b <;> exact sendAct_bolt s i _ em

theorem countOpen_bolt (s : State) (i : Nat) (pos : Bool) : (s.countOpen i pos).bolt = s.bolt := mramPut_bolt _ fun _ _ h => nomatch h

theorem drive_bolt (s : State) (i : Nat) (d : Drive) (em : Bool) : (s.drive i d em).bolt = s.bolt := by
  unfold State.drive
  refine ite_bolt _ rfl ?_
  obtain ⟨u, hu⟩ : ∃ u : State, u = ((s.when (d.pos == some false && (s.hs i).cmdPos) (fun s => s.countOpen i true)).when
    (d.neg == some false && (s.hs i).cmdNeg) (fun s => s.countOpen i false)) := ⟨_, rfl⟩
  have hcounted : u.bolt = s.bolt := hu ▸ (when_bolt _ _ fun s => countOpen_bolt s i false).trans (when_bolt s _ fun s => countOpen_bolt s i true)
  dsimp only
  rw [← hu]
  refine Eq.trans ?_ hcounted
  refine ite_bolt _ ?_ (ite_bolt _ (sendAct_bolt _ i 0 em) ?_)
  · exact (putChan_bolt _ d.pc _).trans ((putChan_bolt _ d.neg _).trans (putChan_bolt _ d.pos _))
  · exact (putAct_bolt _ i d.pc 2 4 em).trans ((putAct_bolt _ i d.pos 3 5 em).trans (putAct_bolt _ i d.neg 1 6 em))

theorem beginOpen_bolt (s : State) (i : Nat) (em ramp : Bool) (c : OpenCause) : (s.beginOpen i em ramp c).bolt = s.bolt := by
  unfold State.beginOpen
  exact ite_bolt _ (drive_bolt _ i _ _) (ite_bolt _ rfl (drive_bolt _ i _ _))

theorem abortClose_bolt (s : State) (i reason : Nat) (em : Bool) (c : OpenCause) : (s.abortClose i reason em c).bolt = s.bolt := by
  unfold State.abortClose
  refine (beginOpen_bolt _ i _ _ c).trans ((Logs.ev _ _ _ _).bolt.trans ?_)
  exact when_bolt _ _ fun s => (Logs.ev s _ _ _).bolt

theorem unqueue_bolt (s : State) (i reason : Nat) : (s.unqueue i reason).bolt = s.bolt := by
  unfold State.unqueue
  exact ite_bolt _ (Logs.ev _ _ _ _).bolt rfl

theorem openStr_bolt (s : State) (i : Nat) (em : Bool) (c : OpenCause) : (s.openStr i em c).bolt = s.bolt := by
  unfold State.openStr
  refine ite_bolt _ rfl ?_
  split
  · exact unqueue_bolt s i _
  · exact abortClose_bolt s i _ em c
  · exact abortClose_bolt s i _ em c
  · exact beginOpen_bolt s i em true c
  · exact ite_bolt _ (drive_bolt _ i _ _) rfl
  · rfl

theorem openAll_bolt (s : State) (em : Nat → Bool) (c : OpenCause) : (s.openAll em c).bolt = s.bolt := each_bolt (fun i s => openStr_bolt s i _ c) _ s

/-! A wake, and what follows a trip -/

theorem sendRate_bolt (s : State) (code : Nat) : (s.sendRate code).bolt = s.bolt := by
  unfold State.sendRate
  refine each_bolt (fun r s => each_bolt (fun e s => ?_) _ s) _ s
  exact ite_bolt _ rfl rfl

theorem wake_bolt (s : State) (bits : Nat) : (s.wake bits).bolt = s.bolt := by
  unfold State.wake
  refine ite_bolt _ rfl (ite_bolt _ rfl ((Logs.evAon _ _ _ _).bolt.trans ?_))
  exact (sendRate_bolt _ 0).trans (ite_bolt _ rfl rfl)

theorem pickDisarm_bolt (s : State) (cause : Nat) : (s.pickDisarm cause).bolt = s.bolt := (Ends.pickDisarm s cause).bolt

theorem levels_bolt (s : State) : s.levels.bolt = s.bolt := by
  simp only [State.levels, State.bolt]

theorem zeroLeaseNow_bolt (s : State) : s.zeroLeaseNow.bolt = s.bolt := (zeroLeaseNow_frame s).bolt (by decide) (by decide)

theorem setLatched_bolt (s : State) (i v : Nat) : (s.setLatched i v).bolt = s.bolt := by
  unfold State.setLatched
  exact ite_bolt _ rfl (mramPut_bolt _ fun _ _ h => nomatch h)

/-! ### The Deadbolt is thrown (R438, R440, R442) -/

/-- The record of a Deadbolt after a throw: its first cause stays. -/
def Bolt.thrown (b : Bolt) (cause source : Nat) : Bolt :=
  if b.latch then b else { b with latch := true, cause := cause, source := source, hold := true }

theorem Bolt.thrown_cur (b : Bolt) (cause source : Nat) : (b.thrown cause source).cur = b.cur := by
  unfold Bolt.thrown
  split <;> rfl

theorem Bolt.thrown_latch (b : Bolt) (cause source : Nat) : (b.thrown cause source).latch = true := by
  unfold Bolt.thrown
  split
  · assumption
  · rfl

theorem dbThrow_bolt (s : State) (cause source inputs : Nat) : (s.dbThrow cause source inputs).bolt = s.bolt.thrown cause source := by
  unfold State.dbThrow
  refine (Logs.evAon _ _ _ _).bolt.trans ?_
  unfold Bolt.thrown
  exact apply_ite State.bolt _ _ _

/-- The strings' own records, which then show the throw, are none of these. -/
theorem throwDb_bolt (s : State) (cause source inputs : Nat) : (s.throwDb cause source inputs).bolt = s.bolt.thrown cause source := by
  unfold State.throwDb
  split
  next h => exact (if_pos h.1).symm
  · refine (each_bolt (fun i s => ?_) _ _).trans (dbThrow_bolt s cause source inputs)
    exact (setLatched_bolt _ i _).trans rfl

theorem permissive_of_latch {s : State} (h : s.aon.dbLatch = true) (l : Leaf) : s.permissive l = false := by
  simp [State.permissive, h]

theorem permissive_of_rq {s : State} {l : Leaf} (h : (s.leaf l).rq = false) : s.permissive l = false := by
  simp [State.permissive, h]

/-! ### A fast comparator trips (R271, R272, R281, R438) -/

/-- The record of an input whose comparator tripped. -/
def CurSt.tripped (x : CurSt) (l : Leaf) (dis : Bool) : CurSt :=
  { x.setAbove l dis true with trips := satAdd 16 x.trips 1, tripChg := x.tripChg || !dis, tripDis := x.tripDis || dis }

/-- What a comparator that trips sets going. -/
def State.compTripped (s : State) (l : Leaf) (input : Nat) (dis : Bool) : State :=
  let s := { s with cur := kmod {} s.cur input (fun x => x.tripped l dis) }
  let s := s.raiseO Ev.currentFastTrip input l.num [p1 (Config.caseCode Ev.currentFastTrip (b2n dis)), p1 l.num]
  let s := (s.wake 0x40).throwDb (if dis then 2 else 1) input (2 ^ l.num)
  ((s.openAll (fun _ => true) .protection).pickDisarm 3).levels.zeroLeaseNow

theorem compTripped_bolt (s : State) (l : Leaf) (input : Nat) (dis : Bool) : (s.compTripped l input dis).bolt =
    ({ s.bolt with cur := kmod {} s.cur input (fun x => x.tripped l dis) } : Bolt).thrown (if dis then 2 else 1) input := by
  unfold State.compTripped
  dsimp only
  rw [zeroLeaseNow_bolt, levels_bolt, pickDisarm_bolt, openAll_bolt, throwDb_bolt, wake_bolt, (Logs.raiseO _ _ _ _ _).bolt]
  rfl

section
variable {t input : Nat} {l : Leaf} {dis : Bool} {mod : List Bool} {s : State}

theorem compTrip_dead (hdead : (s.setNow t).alive l = false) : ∃ n, exec (.compTrip t l input ⟨dis, mod⟩) s = .next n ∧ Frame [] s n := by
  refine ⟨settle s (s.setNow t), ?_, (Frame.refl [] _).settle⟩
  change execCompTrip t l input ⟨dis, mod⟩ s = _
  unfold execCompTrip
  exact at'_eq (if_pos (by simp [hdead]))

theorem exec_compTrip (halive : (s.setNow t).alive l = true) (hon : s.cfg.compOn input dis = true) (hdev : s.aon.dev ≠ .off)
    (htrips : s.cfg.cur input 0 ≠ 1 ∨ s.cfg.compAbove input dis (compMean mod) = true) :
    exec (.compTrip t l input ⟨dis, mod⟩) s = .next (settle s ((s.setNow t).compTripped l input dis)) := by
  change execCompTrip t l input ⟨dis, mod⟩ s = _
  unfold execCompTrip
  refine at'_eq ((if_neg ?_).trans rfl)
  simpa [halive, hon, hdev, imp_iff_not_or] using htrips

theorem compTrip_throws (halive : (s.setNow t).alive l = true) (hon : s.cfg.compOn input dis = true) (hdev : s.aon.dev ≠ .off)
    (htrips : s.cfg.cur input 0 ≠ 1 ∨ s.cfg.compAbove input dis (compMean mod) = true) :
    ∃ n, exec (.compTrip t l input ⟨dis, mod⟩) s = .next n ∧ n.aon.dbLatch = true ∧ (∀ x, n.permissive x = false) ∧
      (kget {} n.cur input).trips = satAdd 16 (kget {} s.cur input).trips 1 ∧
      (s.aon.dbLatch = false → n.aon.dbCause = (if dis then 2 else 1) ∧ n.aon.dbSource = input ∧ n.aon.holdDb = true) := by
  obtain ⟨n, hn⟩ : ∃ n, n = settle s ((s.setNow t).compTripped l input dis) := ⟨_, rfl⟩
  have hbolt : n.bolt = ({ s.bolt with cur := kmod {} s.cur input (fun x => x.tripped l dis) } : Bolt).thrown (if dis then 2 else 1)
      input := by
    rw [hn, settle_bolt, compTripped_bolt]
    rfl
  have hlatch : n.aon.dbLatch = true := (congrArg Bolt.latch hbolt).trans (Bolt.thrown_latch _ _ _)
  have hcur : n.cur = kmod {} s.cur input (fun x => x.tripped l dis) := (congrArg Bolt.cur hbolt).trans (Bolt.thrown_cur _ _ _)
  refine ⟨n, hn ▸ exec_compTrip halive hon hdev htrips, hlatch, permissive_of_latch hlatch, ?_, fun hfirst => ?_⟩
  · rw [hcur, kget_kmod_same]
    rfl
  · rw [Bolt.thrown, if_neg (by simp [State.bolt, hfirst])] at hbolt
    exact ⟨congrArg Bolt.cause hbolt, congrArg Bolt.source hbolt, congrArg Bolt.hold hbolt⟩

theorem rqLapse_effect : ∃ n, exec (.rqLapse t l) s = .next n ∧ n.leaf l = { s.leaf l with rq := false } ∧
    n.leaf l.other = s.leaf l.other ∧ n.permissive l = false ∧ Frame [.leafA, .leafB] s n := by
  obtain ⟨n, hn⟩ : ∃ n, n = settle s ((s.setNow t).modLeaf l (fun x => { x with rq := false })) := ⟨_, rfl⟩
  have hleaf : n.leaf l = { s.leaf l with rq := false } := by rw [hn, settle_leaf, modLeaf_leaf, setNow_leaf]
  refine ⟨n, hn ▸ rfl, hleaf, by rw [hn, settle_leaf, modLeaf_leaf_other, setNow_leaf], permissive_of_rq (by rw [hleaf]), ?_⟩
  exact hn ▸ (Frame.modLeaf _ l _ (by rfl)).settle

end

end Sys2Proof.Machine

namespace Sys2Proof.Machine

/-! ### TRIP_CLEAR and DEADBOLT_CLEAR (R447 to R449) -/

theorem Frame.prot (s : State) (x : Prot) : Frame [.prot] s { s with prot := x } := by
  rintro ⟨⟩ hp <;> simp [Part.same] at hp ⊢

/-- The AON domain with DEADBOLT_CLEAR armed by a session. -/
def Aon.armed (a : Aon) (sess time now : Nat) : Aon := { a with clearState := max 1 a.clearState, armSlot := sess, armTime := time, armNow := now }

/-- A confirmed DEADBOLT_CLEAR that waits for the protection pass. -/
def State.confirming (s : State) (q : HReq) : State :=
  { s with aon := { s.aon with clearState := 2 }, prot := { s.prot with confirm := some (q.sess, q.tag) } }

section
variable {q : HReq} {s : State}

theorem deadboltClear_arms (hphase : arg q 0 1 = 0) (hlatch : s.aon.dbLatch = true) (hth : s.aon.thermal = false) (hdev : s.aon.dev ≠ .sleep)
    (hst : s.sleep.st ≠ 1) : s.deadboltClear q =
      ({ s with aon := s.aon.armed q.sess s.devTime s.time.now } : State).ansOk [byteOf s.aon.clearResult] := by
  unfold State.deadboltClear
  rw [hphase]
  simp [hlatch, hth, hdev, hst, Aon.armed]

theorem deadboltClear_unthrown (hphase : arg q 0 1 = 0) (hlatch : s.aon.dbLatch = false) : s.deadboltClear q =
    ({ s with aon := { s.aon with clearResult := 6 } }, some (St.denied, [byteOf 6])) := by
  unfold State.deadboltClear
  rw [hphase]
  simp [hlatch]

theorem deadboltClear_confirms (hphase : arg q 0 1 = 1) (hst : s.aon.clearState = 1) (hslot : s.aon.armSlot = q.sess)
    (hintime : s.time.now ≤ s.aon.armNow + 5000000000) : s.deadboltClear q = (s.confirming q).later := by
  unfold State.deadboltClear
  rw [hphase]
  simp [hst, hslot, Nat.not_lt.mpr hintime, State.confirming]

theorem deadboltClear_unarmed (hphase : arg q 0 1 = 1) (hst : s.aon.clearState = 0) : s.deadboltClear q =
    ({ s with aon := { s.aon with clearResult := 2 } }, some (St.denied, [byteOf 2])) := by
  unfold State.deadboltClear
  rw [hphase]
  simp [hst]

theorem confirming_frame : Frame [.aon, .prot] s (s.confirming q) := by
  rintro ⟨⟩ hp <;> simp [Part.same, State.confirming] at hp ⊢

end

section
variable {t : Nat} {q : HReq} {s : State}

theorem tripClear_effect (hlets : (s.setNow t).lets q 0x0A01 Perm.clear = true) (hlen : q.args.length = 4)
    (hstr : arg q 0 1 < 64 ∨ arg q 0 1 = 0xFF) : ∃ n, exec (.tripClear t q) s = .next n ∧
      n.prot = { s.prot with clears := s.prot.clears ++ [(q.sess, q.tag, arg q 0 1)] } ∧ Waits n q 3 0x0A01 ∧ Frame (hostParts ++ [.prot]) s n := by
  obtain ⟨hexec, hwaits, hframe⟩ := command_waits (c := .tripClear t q) rfl (lets_opens hlets) (taken_may_of_lets hlets) (by simp [hlen])
    (if_neg (by omega)) (Frame.prot _ _) (by decide)
  refine ⟨_, hexec, ?_, hwaits, hframe⟩
  show ({ ((s.setNow t).taken q 3 0x0A01).prot with
    clears := ((s.setNow t).taken q 3 0x0A01).prot.clears ++ [(q.sess, q.tag, arg q 0 1)] } : Prot) = _
  rw [taken_prot, setNow_prot]

/-- A phase of DEADBOLT_CLEAR that is answered at once. -/
theorem deadboltClear_answered {c : Instr} {a : Aon} {st : Nat} {body : List Byte} (hc : exec c s = execDeadboltClearArm t q s)
    (hlets : (s.setNow t).lets q 0x0A02 Perm.clear = true) (hlen : q.args.length = 4)
    (hrule : ((s.setNow t).taken q 3 0x0A02).deadboltClear q = ({ (s.setNow t).taken q 3 0x0A02 with aon := a }, some (st, body))) :
    ∃ n, exec c s = .next n ∧ n.aon = { a with ready := n.aon.ready, faultN := n.aon.faultN, thermal := s.aon.thermal || a.thermal } ∧
      Answered (s.setNow t) n q 3 0x0A02 st body ∧ Frame (hostParts ++ [.aon]) s n := by
  obtain ⟨hexec, hans, hframe⟩ := command_answered hc (lets_opens hlets) (taken_may_of_lets hlets)
    (by simp [hlen]) hrule (Frame.aon _ a) (by decide) (taken_now (s.setNow t) q 3 0x0A02)
  refine ⟨_, hexec, ?_, hans, hframe⟩
  rw [settle_aon, answer_aon]

theorem deadboltClearArm_effect (hlets : (s.setNow t).lets q 0x0A02 Perm.clear = true) (hlen : q.args.length = 4) (hphase : arg q 0 1 = 0) :
    (s.aon.dbLatch = true → s.aon.thermal = false → s.aon.dev ≠ .sleep → s.sleep.st ≠ 1 → ∃ n, exec (.deadboltClearArm t q) s = .next n ∧
      n.aon.clearState = max 1 s.aon.clearState ∧ n.aon.armSlot = q.sess ∧ n.aon.armNow = (s.setNow t).time.now ∧ n.aon.dbLatch = true ∧
      AnsweredOk (s.setNow t) n q 0x0A02 [byteOf s.aon.clearResult] ∧ Frame (hostParts ++ [.aon]) s n) ∧
    (s.aon.dbLatch = false → ∃ n, exec (.deadboltClearArm t q) s = .next n ∧ n.aon.clearResult = 6 ∧ n.aon.clearState = s.aon.clearState ∧
      Answered (s.setNow t) n q 3 0x0A02 St.denied [byteOf 6] ∧ Frame (hostParts ++ [.aon]) s n) := by
  have haon : ((s.setNow t).taken q 3 0x0A02).aon = s.aon := taken_aon _ q 3 0x0A02
  refine ⟨fun hlatch hth hdev hst => ?_, fun hlatch => ?_⟩
  · have hrule := deadboltClear_arms (s := (s.setNow t).taken q 3 0x0A02) hphase (by rw [haon]; exact hlatch) (by rw [haon]; exact hth)
      (by rw [haon]; exact hdev) hst
    rw [haon, taken_now] at hrule
    obtain ⟨n, hexec, hn, hans, hframe⟩ := deadboltClear_answered (c := .deadboltClearArm t q) rfl hlets hlen hrule
    refine ⟨n, hexec, ?_⟩
    rw [hn]
    exact ⟨rfl, rfl, rfl, hlatch, hans, hframe⟩
  · have hrule := deadboltClear_unthrown (s := (s.setNow t).taken q 3 0x0A02) hphase (by rw [haon]; exact hlatch)
    rw [haon] at hrule
    obtain ⟨n, hexec, hn, hans, hframe⟩ := deadboltClear_answered (c := .deadboltClearArm t q) rfl hlets hlen hrule
    refine ⟨n, hexec, ?_⟩
    rw [hn]
    exact ⟨rfl, rfl, hans, hframe⟩

theorem deadboltClearConfirm_effect (hlets : (s.setNow t).lets q 0x0A02 Perm.clear = true) (hlen : q.args.length = 4) (hphase : arg q 0 1 = 1) :
    (s.aon.clearState = 1 → s.aon.armSlot = q.sess → (s.setNow t).time.now ≤ s.aon.armNow + 5000000000 →
      ∃ n, exec (.deadboltClearConfirm t q) s = .next n ∧ n.aon.clearState = 2 ∧ n.prot = { s.prot with confirm := some (q.sess, q.tag) } ∧
      n.aon.dbLatch = s.aon.dbLatch ∧ Waits n q 3 0x0A02 ∧ Frame (hostParts ++ [.aon, .prot]) s n) ∧
    (s.aon.clearState = 0 → ∃ n, exec (.deadboltClearConfirm t q) s = .next n ∧ n.aon.clearResult = 2 ∧ n.aon.dbLatch = s.aon.dbLatch ∧
      Answered (s.setNow t) n q 3 0x0A02 St.denied [byteOf 2] ∧ Frame (hostParts ++ [.aon]) s n) := by
  have haon : ((s.setNow t).taken q 3 0x0A02).aon = s.aon := taken_aon _ q 3 0x0A02
  have hprot : ((s.setNow t).taken q 3 0x0A02).prot = s.prot := taken_prot _ q 3 0x0A02
  refine ⟨fun hst hslot hintime => ?_, fun hst => ?_⟩
  · obtain ⟨hexec, hwaits, hframe⟩ := command_waits (c := .deadboltClearConfirm t q) rfl (lets_opens hlets) (taken_may_of_lets hlets)
      (by simp [hlen]) (deadboltClear_confirms hphase (by rw [haon]; exact hst) (by rw [haon]; exact hslot)
        (by rw [haon, taken_now]; exact hintime)) confirming_frame (by decide)
    exact ⟨_, hexec, rfl, congrArg (fun x : Prot => { x with confirm := some (q.sess, q.tag) }) hprot, (congrArg Aon.dbLatch haon :), hwaits, hframe⟩
  · have hrule := deadboltClear_unarmed (s := (s.setNow t).taken q 3 0x0A02) hphase (by rw [haon]; exact hst)
    rw [haon] at hrule
    obtain ⟨n, hexec, hn, hans, hframe⟩ := deadboltClear_answered (c := .deadboltClearConfirm t q) rfl hlets hlen hrule
    refine ⟨n, hexec, ?_⟩
    rw [hn]
    exact ⟨rfl, rfl, hans, hframe⟩

end

/-- Settles O48: a trip by what it leaves of the Deadbolt's record, which nothing after the throw changes; each command by its rule. -/
theorem deadboltAndTrips : Obligations.DeadboltAndTrips := by
  unfold Obligations.DeadboltAndTrips
  intro t s
  refine ⟨fun l input dis mod => compTrip_dead, fun l input dis mod => compTrip_throws, fun l => rqLapse_effect, fun q hlen => ⟨?_, ?_, ?_⟩⟩
  · exact fun hlets => tripClear_effect hlets hlen
  · exact fun hlets => deadboltClearArm_effect hlets hlen
  · exact fun hlets => deadboltClearConfirm_effect hlets hlen

end Sys2Proof.Machine

namespace Sys2Proof.Machine

/-! ### A request of any KIND, from its rule to its answer (R612, R614) -/

theorem accepts_awake {s : State} {q : HReq} (h : s.accepts q = true) : s.aon.dev ≠ .safe := by
  intro hsafe
  simp [State.accepts, State.up, hsafe] at h

section Request

variable {t kind op st : Nat} {q : HReq} {s m : State} {a : Ans} {rd : Bool} {h : State → HR} {body : List Byte} {ps : List Part}

/-- An accepted request whose rule answers at once and leaves the links: its answer leaves, and the parts that the rule reaches change,
and with them those of a request. -/
theorem accepted_answered (hexec : a = at' t (fun s => s.request q kind op rd h) s) (hacc : (s.setNow t).accepts q = true)
    (hrule : h ((s.setNow t).taken q kind op) = (m, some (st, body))) (hframe : Frame ps ((s.setNow t).taken q kind op) m)
    (hlinks : .links ∉ ps) (hnow : m.time.now = (s.setNow t).time.now) :
    a = .next (settle s (m.answer q.sess q.tag st body)) ∧
      Answered (s.setNow t) (settle s (m.answer q.sess q.tag st body)) q kind op st body ∧
      Frame (hostParts ++ ps) s (settle s (m.answer q.sess q.tag st body)) :=
  ⟨hexec.trans (at'_eq ((request_accepted _ _ _ _ _ _ hacc).trans (serve_now _ _ _ _ _ _ _ _ hrule))),
    settle_answered (taken_answered st body hacc (hframe.links_eq hlinks) hnow), (answered_frame hframe).settle⟩

/-- An accepted request whose rule answers at once and does nothing else. -/
theorem accepted_answered_only (hexec : a = at' t (fun s => s.request q kind op rd h) s) (hacc : (s.setNow t).accepts q = true)
    (hrule : h ((s.setNow t).taken q kind op) = ((s.setNow t).taken q kind op, some (st, body))) :
    ∃ n, a = .next n ∧ Answered (s.setNow t) n q kind op st body ∧ Frame hostParts s n :=
  ⟨_, accepted_answered hexec hacc hrule (Frame.refl [] _) (by decide) (taken_now _ _ _ _)⟩

end Request

end Sys2Proof.Machine

namespace Sys2Proof.Machine

/-! ### What sending and answering leave (R611, R614) -/

theorem emit_sess (s : State) (o : Out) (i : Nat) : (s.emit o).sess i = s.sess i := rfl

/-- Sending puts out at most, and changes no session but its own, which stays in its state. -/
theorem send_spec (s : State) (j kind status tag : Nat) (body : List Byte) :
    s.out <:+ (s.send j kind status tag body).out ∧ ((s.send j kind status tag body).sess j).st = (s.sess j).st ∧
      ∀ i, i ≠ j → (s.send j kind status tag body).sess i = s.sess i := by
  unfold State.send
  split
  · exact ⟨List.suffix_refl _, rfl, fun _ _ => rfl⟩
  split
  · exact ⟨List.suffix_refl _, rfl, fun _ _ => rfl⟩
  dsimp only
  split
  · exact ⟨List.suffix_refl _, rfl, fun _ _ => rfl⟩
  · exact ⟨List.suffix_cons _ s.out, by rw [emit_sess, sess_setSess_same], fun i hi => by rw [emit_sess, sess_setSess_other _ _ _ _ hi]⟩

/-- A session's record in links that hold it in place of the one before. -/
theorem sess_of_replaced {s m : State} {k : Nat} {x : Sess} (h : m.links.sess = (s.setSess k x).links.sess) :
    m.sess k = x ∧ ∀ j, j ≠ k → m.sess j = s.sess j := by
  have hsess : ∀ j, m.sess j = (s.setSess k x).sess j := fun j => by simp only [State.sess, h]
  exact ⟨(hsess k).trans (sess_setSess_same s k x), fun j hj => (hsess j).trans (sess_setSess_other s k j x hj)⟩

/-- An answer is noted in the links, then sent; its session stays in its state, and the other sessions as they are. -/
theorem answer_sends (s : State) (k tag st : Nat) (body : List Byte) : s.answer k tag st body = s ∨
    ∃ (m : State) (kind : Nat), s.answer k tag st body = m.send k kind st tag body ∧ Frame [.links] s m ∧
      (m.sess k).st = (s.sess k).st ∧ ∀ j, j ≠ k → m.sess j = s.sess j := by
  suffices h : s.answer k tag st body = s ∨ ∃ (m : State) (kind : Nat), s.answer k tag st body = m.send k kind st tag body ∧
      Frame [.links] s m ∧ ∃ x : Sess, m.links.sess = (s.setSess k x).links.sess ∧ x.st = (s.sess k).st by
    refine h.imp_right fun ⟨m, kind, hsend, hframe, x, hx, hst⟩ => ?_
    obtain ⟨hsame, hother⟩ := sess_of_replaced hx
    exact ⟨m, kind, hsend, hframe, by rw [hsame, hst], hother⟩
  unfold State.answer
  dsimp only
  split
  · exact .inl rfl
  · refine .inr ⟨_, _, rfl, ?_⟩
    split <;> exact ⟨Frame.links s _, _, rfl, rfl⟩

theorem answer_spec (s : State) (j tag st : Nat) (body : List Byte) :
    s.out <:+ (s.answer j tag st body).out ∧ ((s.answer j tag st body).sess j).st = (s.sess j).st ∧
      ∀ i, i ≠ j → (s.answer j tag st body).sess i = s.sess i := by
  rcases answer_sends s j tag st body with h | ⟨m, kind, h, hframe, hst, hother⟩ <;> rw [h]
  · exact ⟨List.suffix_refl _, rfl, fun _ _ => rfl⟩
  · obtain ⟨hout, hst', hother'⟩ := send_spec m j kind st tag body
    have hsame : m.out = s.out := hframe .out (by decide)
    exact ⟨hsame ▸ hout, hst'.trans hst, fun i hi => (hother' i hi).trans (hother i hi)⟩

/-- Where nothing is outstanding no answer leaves (R611). -/
theorem answer_idle {s : State} {j : Nat} (tag st : Nat) (body : List Byte) (h : (s.sess j).outst = []) : s.answer j tag st body = s := by
  simp only [State.answer, h, List.find?_nil]

/-- What is answered over SPI stands in the links alone. -/
theorem answer_spi_frame (s : State) (tag st : Nat) (body : List Byte) : Frame [.links] s (s.answer sSpi tag st body) := by
  rcases answer_sends s sSpi tag st body with h | ⟨m, kind, h, hframe, -⟩ <;> rw [h]
  · exact Frame.refl _ s
  · refine hframe.trans ?_
    unfold State.send
    exact Frame.ite _ (Frame.refl _ _) (Frame.links _ _)

end Sys2Proof.Machine

namespace Sys2Proof.Machine

/-! ### READ (R321, R602, R617) -/

@[simp] theorem taken_ready (s : State) (q : HReq) (kind op : Nat) : (s.taken q kind op).ready = s.ready := by
  simp only [State.ready, State.committed, taken_sw]

section Read

variable {s : State} {k : Nat} {body : List Byte}

/-- A READ of readable bytes of one block answers with the object map. -/
theorem readReq_object (hlen : body.length = 8) (hlow : 1 ≤ leAt body 4 2) (hhigh : leAt body 4 2 ≤ 1024) (hdev : s.aon.dev ≠ .safe)
    (hmay : s.may k Perm.read = true) (hblock : inOneBlock (leAt body 0 4) (leAt body 4 2) = true)
    (hstream : inStreamData (leAt body 0 4) (leAt body 4 2) = false)
    (hready : k = sSpi ∨ inCells (leAt body 0 4) (leAt body 4 2) = false ∨ s.ready = true) :
    s.readReq k body = s.ansOk (s.obj (leAt body 0 4) (leAt body 4 2)) := by
  have hfits : ¬ (body.length ≠ 8 ∨ leAt body 4 2 = 0 ∨ 1024 < leAt body 4 2) := by omega
  have hnow : ¬ (k ≠ sSpi ∧ inCells (leAt body 0 4) (leAt body 4 2) ∧ !s.ready) := by
    rintro ⟨hspi, hcells, hlate⟩
    rcases hready with h | h | h
    · exact hspi h
    · simp [h] at hcells
    · simp [h] at hlate
  simp only [State.readReq, if_neg hfits, if_neg hdev, hmay, hblock, hstream, if_neg hnow, Bool.not_true, Bool.false_eq_true, if_false]

/-- A READ in SAFE of what the AON domain keeps. -/
theorem readReq_safe (hlen : body.length = 8) (hlow : 1 ≤ leAt body 4 2) (hhigh : leAt body 4 2 ≤ 1024) (hdev : s.aon.dev = .safe)
    (hread : safeReadable (leAt body 0 4) (leAt body 4 2) = true) :
    s.readReq k body = s.ansOk (s.obj (leAt body 0 4) (leAt body 4 2)) := by
  have hfits : ¬ (body.length ≠ 8 ∨ leAt body 4 2 = 0 ∨ 1024 < leAt body 4 2) := by omega
  simp only [State.readReq, if_neg hfits, if_pos hdev, hread, if_true]

end Read

theorem read_effect {t : Nat} {q : HReq} {s : State} (hacc : (s.setNow t).accepts q = true) (hlen : q.args.length = 8)
    (hlow : 1 ≤ arg q 4 2) (hhigh : arg q 4 2 ≤ 1024) (hmay : (s.setNow t).may q.sess Perm.read = true)
    (hblock : inOneBlock (arg q 0 4) (arg q 4 2) = true) (hstream : inStreamData (arg q 0 4) (arg q 4 2) = false)
    (hready : q.sess = sSpi ∨ inCells (arg q 0 4) (arg q 4 2) = false ∨ s.ready = true) :
    ∃ n, exec (.read t q) s = .next n ∧
      Answered (s.setNow t) n q 1 0 St.ok (((s.setNow t).taken q 1 0).obj (arg q 0 4) (arg q 4 2)) ∧ Frame hostParts s n := by
  refine accepted_answered_only (h := fun s => s.readReq q.sess q.args) (rd := true) rfl hacc ?_
  refine readReq_object hlen hlow hhigh ?_ ((taken_may ..).trans hmay) hblock hstream ?_
  · rw [taken_aon]
    exact accepts_awake hacc
  · rw [taken_ready]
    exact hready

/-! READ in SAFE, over SPI -/

theorem accept_outst {s : State} {q : HReq} (kind op : Nat) (hnew : (s.sess q.sess).outst.all (fun o => o.1 != q.tag) = true) :
    ((s.accept q kind op).sess q.sess).outst.find? (fun o => o.1 == q.tag) = some (q.tag, kind, op) := by
  have hnone : (s.sess q.sess).outst.find? (fun o => o.1 == q.tag) = none := by
    rw [List.find?_eq_none]
    intro o ho
    simpa using List.all_eq_true.mp hnew o ho
  rw [State.accept, sess_modSess_same]
  simp [hnone]

theorem accept_tx (s : State) (q : HReq) (kind op : Nat) : ((s.accept q kind op).sess q.sess).tx = (s.sess q.sess).tx ∧
    ((s.accept q kind op).sess q.sess).gen = (s.sess q.sess).gen := by
  rw [State.accept, sess_modSess_same]
  exact ⟨rfl, rfl⟩

/-- In SAFE the AON domain serves a READ over SPI. -/
theorem request_safe {s : State} {q : HReq} {op : Nat} {rd : Bool} {h : State → HR} (hdev : s.aon.dev = .safe) (hspi : q.sess = sSpi)
    (hon : s.spiOn = true) : s.request q 1 op rd h = s.serve q 1 op h := by
  simp only [State.request, if_pos hdev, if_pos (And.intro hspi hon), if_true]

theorem read_safe_effect {t : Nat} {q : HReq} {s : State} (hdev : s.aon.dev = .safe) (hspi : q.sess = sSpi)
    (hon : (s.setNow t).spiOn = true) (hnew : (s.sess sSpi).outst.all (fun o => o.1 != q.tag) = true) (hlen : q.args.length = 8)
    (hlow : 1 ≤ arg q 4 2) (hhigh : arg q 4 2 ≤ 1024) (hread : safeReadable (arg q 0 4) (arg q 4 2) = true) :
    ∃ n, exec (.read t q) s = .next n ∧
      Answered (s.setNow t) n q 1 0 St.ok (((s.setNow t).accept q 1 0).obj (arg q 0 4) (arg q 4 2)) ∧ Frame [.links] s n := by
  have hrule := readReq_safe (s := (s.setNow t).accept q 1 0) (k := q.sess) hlen hlow hhigh hdev hread
  have hexec : exec (.read t q) s = .next (settle s (((s.setNow t).accept q 1 0).answer q.sess q.tag St.ok
      (((s.setNow t).accept q 1 0).obj (arg q 0 4) (arg q 4 2)))) := by
    change execRead t q s = _
    unfold execRead
    exact at'_eq ((request_safe (s := s.setNow t) hdev hspi hon).trans (serve_now _ _ _ _ _ _ _ _ hrule))
  refine ⟨_, hexec, settle_answered ?_, Frame.settle (t := t) ?_⟩
  · refine answer_answered _ _ q 1 0 _ _ (accept_outst 1 0 (by rw [hspi]; exact hnew)) ?_ (accept_tx _ q 1 0) rfl
    rw [hspi, State.sessOpen, if_pos rfl]
    exact hon
  · rw [hspi]
    exact (Frame.links (s.setNow t) _).trans (answer_spi_frame ((s.setNow t).accept q 1 0) _ _ _)

end Sys2Proof.Machine

namespace Sys2Proof.Machine

/-! ### WRITE (R628, R631, R634, R635, R637) -/

/-- A WRITE is judged by the image in force and the values accepted before it. -/
theorem judgeWrite_congr {s n : State} (h : n.cfg = s.cfg) (k : Nat) (pend : List OvVal) (body : List Byte) :
    n.judgeWrite k pend body = s.judgeWrite k pend body := by
  simp only [State.judgeWrite, State.writable, State.may, State.perms, h]

/-- The parts that a judged WRITE reaches. -/
def WAct.parts : WAct → List Part
  | .refuse _ => []
  | .overlay _ _ => [.overlay]
  | .sticky _ => [.log]
  | .note _ => logParts

theorem WAct.mem_of_mem_parts {w : WAct} (p : Part) (h : p ∈ w.parts) : p ∈ [Part.overlay, .log, .fifos] := by
  cases w <;> simp [WAct.parts] at h <;> simp [h]

theorem WAct.links_notMem_parts (w : WAct) : .links ∉ w.parts := fun h => absurd (WAct.mem_of_mem_parts _ h) (by decide)

theorem Frame.ovl (s : State) (x : Overlay) : Frame [.overlay] s { s with ovl := x } := by
  rintro ⟨⟩ hp <;> simp [Part.same] at hp ⊢

theorem Frame.lg (s : State) (x : Recorder) : Frame [.log] s { s with lg := x } := by
  rintro ⟨⟩ hp <;> simp [Part.same] at hp ⊢

theorem applyWrite_frame (s : State) (k : Nat) (w : WAct) : Frame w.parts s (s.applyWrite k w) := by
  cases w with
  | refuse st => exact Frame.refl _ s
  | overlay e v => exact Frame.ovl s _
  | sticky m => exact Frame.lg s _
  | note b => exact (Logs.evA s _ _ _).frame

theorem applyWrite_time (s : State) (k : Nat) (w : WAct) : (s.applyWrite k w).time = s.time := by
  cases w with
  | refuse st => rfl
  | overlay e v => rfl
  | sticky m => rfl
  | note b => exact evA_time _ _ _ _

/-- What a WRITE makes of the overlay rests on the overlay alone. -/
theorem applyWrite_ovl_congr {s n : State} (h : n.ovl = s.ovl) (k : Nat) (w : WAct) : (n.applyWrite k w).ovl = (s.applyWrite k w).ovl := by
  cases w with
  | refuse st => exact h
  | overlay e v => simp only [State.applyWrite, h]
  | sticky m => exact h
  | note b => exact (evA_ovl _ _ _ _).trans (h.trans (evA_ovl _ _ _ _).symm)

/-- An accepted WRITE is judged, done and answered, whichever row it comes by. -/
theorem write_effect {t : Nat} {q : HReq} {s : State} {a : Ans} {w : WAct}
    (hexec : a = at' t (fun s => s.request q 2 0 false (fun s => s.writeReq q.sess q.args)) s) (hacc : (s.setNow t).accepts q = true)
    (hw : (s.setNow t).judgeWrite q.sess s.ovl.pend q.args = w) :
    let n := settle s ((((s.setNow t).taken q 2 0).applyWrite q.sess w).answer q.sess q.tag w.status [])
    a = .next n ∧ Answered (s.setNow t) n q 2 0 w.status [] ∧ Frame (hostParts ++ w.parts) s n := by
  refine accepted_answered hexec hacc ?_ (applyWrite_frame _ _ w) w.links_notMem_parts ?_
  · have hjudged : ((s.setNow t).taken q 2 0).judgeWrite q.sess ((s.setNow t).taken q 2 0).ovl.pend q.args = w := by
      rw [judgeWrite_congr (taken_cfg (s.setNow t) q 2 0), taken_ovl]
      exact hw
    simp only [State.writeReq, hjudged]
    rfl
  · rw [applyWrite_time, taken_time]

end Sys2Proof.Machine

namespace Sys2Proof.Machine

/-! ### BATCH (R618) -/

/-- A state that differs in the FIFOs alone. -/
def FifosOnly (s n : State) : Prop := ∃ x, n = { s with fifos := x }

theorem FifosOnly.refl (s : State) : FifosOnly s s := ⟨s.fifos, rfl⟩

theorem FifosOnly.trans {s t n : State} (h : FifosOnly s t) (k : FifosOnly t n) : FifosOnly s n := by
  obtain ⟨x, rfl⟩ := h
  obtain ⟨y, rfl⟩ := k
  exact ⟨y, rfl⟩

theorem FifosOnly.frame {s n : State} (h : FifosOnly s n) : Frame [.fifos] s n := by
  obtain ⟨x, rfl⟩ := h
  rintro ⟨⟩ hp <;> simp [Part.same] at hp ⊢

theorem FifosOnly.time {s n : State} (h : FifosOnly s n) : n.time = s.time := by
  obtain ⟨x, rfl⟩ := h
  rfl

/-- A READ consumes words of a stream at most. -/
theorem FifosOnly.readReq (s : State) (k : Nat) (body : List Byte) : FifosOnly s (s.readReq k body).1 := by
  unfold State.readReq State.streamRead
  dsimp only
  repeat' split
  all_goals exact ⟨_, rfl⟩

/-- One READ item of a BATCH. -/
def readItem (k : Nat) (acc : State × List Byte) (it : Nat × List Byte) : State × List Byte :=
  let r := acc.1.readReq k it.2
  let a := r.2.getD (0, [])
  (r.1, acc.2 ++ itemAnswer 1 a.1 a.2)

theorem batchRead_eq (s : State) (k : Nat) (items : List (Nat × List Byte)) : s.batchRead k items = items.foldl (readItem k) (s, []) := rfl

theorem FifosOnly.readItems (k : Nat) (items : List (Nat × List Byte)) (acc : State × List Byte) :
    FifosOnly acc.1 (items.foldl (readItem k) acc).1 := by
  induction items generalizing acc with
  | nil => exact FifosOnly.refl _
  | cons it r ih => exact (FifosOnly.readReq acc.1 k it.2).trans (ih (readItem k acc it))

theorem FifosOnly.batchRead (s : State) (k : Nat) (items : List (Nat × List Byte)) : FifosOnly s (s.batchRead k items).1 := by
  rw [batchRead_eq]
  exact FifosOnly.readItems k items (s, [])

/-- One WRITE item of a BATCH, judged beside those before it. -/
def State.judgeItem (s : State) (k : Nat) (acc : List OvVal × List WAct) (it : Nat × List Byte) : List OvVal × List WAct :=
  let w := s.judgeWrite k acc.1 it.2
  (match w with | .overlay e v => putOv acc.1 e v | _ => acc.1, acc.2 ++ [w])

theorem batchJudge_eq (s : State) (k : Nat) (items : List (Nat × List Byte)) :
    s.batchJudge k items = (items.foldl (s.judgeItem k) (s.ovl.pend, [])).2 := rfl

theorem judgeItems_length (s : State) (k : Nat) (items : List (Nat × List Byte)) (acc : List OvVal × List WAct) :
    (items.foldl (s.judgeItem k) acc).2.length = acc.2.length + items.length := by
  induction items generalizing acc with
  | nil => rfl
  | cons it r ih =>
    simp only [List.foldl_cons, ih, State.judgeItem, List.length_append, List.length_cons, List.length_nil]
    omega

theorem batchJudge_length (s : State) (k : Nat) (items : List (Nat × List Byte)) : (s.batchJudge k items).length = items.length := by
  rw [batchJudge_eq, judgeItems_length]
  exact Nat.zero_add _

theorem batchJudge_congr {s n : State} (hcfg : n.cfg = s.cfg) (hovl : n.ovl = s.ovl) (k : Nat) (items : List (Nat × List Byte)) :
    n.batchJudge k items = s.batchJudge k items := by
  simp only [State.batchJudge, judgeWrite_congr hcfg, hovl]

/-- The WRITE items of a BATCH, done. -/
def State.applyWrites (s : State) (k : Nat) (ws : List WAct) : State := ws.foldl (fun s w => s.applyWrite k w) s

section Writes

variable (k : Nat) (ws : List WAct)

theorem applyWrites_frame (s : State) : Frame [.overlay, .log, .fifos] s (s.applyWrites k ws) := by
  induction ws generalizing s with
  | nil => exact Frame.refl _ s
  | cons w r ih => exact ((applyWrite_frame s k w).mono WAct.mem_of_mem_parts).trans (ih _)

theorem applyWrites_time (s : State) : (s.applyWrites k ws).time = s.time := by
  induction ws generalizing s with
  | nil => rfl
  | cons w r ih => exact (ih _).trans (applyWrite_time s k w)

theorem applyWrites_ovl_congr {s n : State} (h : n.ovl = s.ovl) : (n.applyWrites k ws).ovl = (s.applyWrites k ws).ovl := by
  induction ws generalizing s n with
  | nil => exact h
  | cons w r ih => exact ih (applyWrite_ovl_congr h k w)

end Writes

/-- The items' answers of a BATCH of WRITEs that took effect. -/
theorem itemAnswers_ok (s : State) (k : Nat) (items : List (Nat × List Byte)) :
    ((s.batchJudge k items).map (fun _ => itemAnswer 2 St.ok [])).flatten = (items.map (fun _ => itemAnswer 2 St.ok [])).flatten := by
  rw [List.map_const', List.map_const', batchJudge_length]

section Batch

variable {t : Nat} {q : HReq} {s : State} {l : List (Nat × List Byte)} {st : Nat} {body : List Byte} {m : State} {ps : List Part}

theorem batchReads_items (hl : batchItems (arg q 0 1) (q.args.drop 4) = some l) : batchReads q.args = l.all (fun i => i.1 == 1) := by
  simp only [batchReads, show batchItems (leAt q.args 0 1) (q.args.drop 4) = some l from hl]

/-- A BATCH whose items fit goes by their KINDs. -/
theorem batchReq_items (k : Nat) (hlen : 4 ≤ q.args.length) (hlow : 1 ≤ arg q 0 1) (hhigh : arg q 0 1 ≤ 16)
    (hl : batchItems (arg q 0 1) (q.args.drop 4) = some l) : s.batchReq k q.args =
      if l.all (fun i => i.1 == 1) then (s.batchRead k l).1.ansOk (s.batchRead k l).2
      else if l.all (fun i => i.1 == 2) then (s.batchWrite k l).1.ansOk (s.batchWrite k l).2
      else s.ans St.badKind := by
  have hfits : ¬ (q.args.length < 4 ∨ leAt q.args 0 1 = 0 ∨ 16 < leAt q.args 0 1) := by
    simp only [arg] at hlow hhigh
    omega
  simp only [State.batchReq, if_neg hfits, show batchItems (leAt q.args 0 1) (q.args.drop 4) = some l from hl]

/-- A BATCH of READs alone is marked, for its answer is not held. -/
theorem exec_batch (reads : Bool) (hl : batchItems (arg q 0 1) (q.args.drop 4) = some l) (hreads : l.all (fun i => i.1 == 1) = reads) :
    exec (.batch t q) s = at' t (fun s => s.request q 5 (b2n reads) reads (fun s => s.batchReq q.sess q.args)) s := by
  rw [← hreads, ← batchReads_items hl]
  rfl

variable (hacc : (s.setNow t).accepts q = true) (hlen : 4 ≤ q.args.length) (hlow : 1 ≤ arg q 0 1) (hhigh : arg q 0 1 ≤ 16)
  (hl : batchItems (arg q 0 1) (q.args.drop 4) = some l)

include hacc hlen hlow hhigh hl

theorem batch_reads_effect (hreads : l.all (fun i => i.1 == 1) = true) : ∃ n body, exec (.batch t q) s = .next n ∧
    Answered (s.setNow t) n q 5 1 St.ok body ∧ Frame (hostParts ++ [.fifos]) s n := by
  have hrule := (batchReq_items (s := (s.setNow t).taken q 5 1) q.sess hlen hlow hhigh hl).trans (if_pos hreads)
  have hfifos := FifosOnly.batchRead ((s.setNow t).taken q 5 1) q.sess l
  exact ⟨_, _, accepted_answered (exec_batch true hl hreads) hacc hrule hfifos.frame (by decide) (by rw [hfifos.time, taken_time])⟩

section NotReads

variable (hreads : l.all (fun i => i.1 == 1) = false)

include hreads

theorem batch_writes_effect (hwrites : l.all (fun i => i.1 == 2) = true)
    (hok : ((s.setNow t).batchJudge q.sess l).all (fun w => w.status == St.ok) = true) : ∃ n, exec (.batch t q) s = .next n ∧
    n.ovl = (((s.setNow t).batchJudge q.sess l).foldl (fun s w => s.applyWrite q.sess w) s).ovl ∧
    Answered (s.setNow t) n q 5 0 St.ok (l.map (fun _ => itemAnswer 2 St.ok [])).flatten ∧
    Frame (hostParts ++ [.overlay, .log, .fifos]) s n := by
  have hjudge : ((s.setNow t).taken q 5 0).batchJudge q.sess l = (s.setNow t).batchJudge q.sess l :=
    batchJudge_congr (taken_cfg ..) (taken_ovl ..) q.sess l
  have hrule : ((s.setNow t).taken q 5 0).batchReq q.sess q.args =
      (((s.setNow t).taken q 5 0).applyWrites q.sess ((s.setNow t).batchJudge q.sess l)).ansOk
        (l.map (fun _ => itemAnswer 2 St.ok [])).flatten := by
    rw [batchReq_items q.sess hlen hlow hhigh hl, if_neg (by simp [hreads]), if_pos hwrites, State.batchWrite, hjudge]
    rw [if_pos hok, itemAnswers_ok, State.applyWrites]
  obtain ⟨hexec, hans, hframe⟩ := accepted_answered (exec_batch false hl hreads) hacc hrule (applyWrites_frame _ _ _) (by decide)
    (by rw [applyWrites_time, taken_time])
  refine ⟨_, hexec, ?_, hans, hframe⟩
  rw [settle_ovl, answer_ovl]
  exact applyWrites_ovl_congr q.sess _ (s := s) (taken_ovl (s.setNow t) q 5 0)

theorem batch_refused_effect (hwrites : l.all (fun i => i.1 == 2) = true)
    (hbad : ((s.setNow t).batchJudge q.sess l).all (fun w => w.status == St.ok) = false) : ∃ n body, exec (.batch t q) s = .next n ∧
    Answered (s.setNow t) n q 5 0 St.ok body ∧ Frame hostParts s n := by
  have hjudge : ((s.setNow t).taken q 5 0).batchJudge q.sess l = (s.setNow t).batchJudge q.sess l :=
    batchJudge_congr (taken_cfg ..) (taken_ovl ..) q.sess l
  have hrule : ∃ body, ((s.setNow t).taken q 5 0).batchReq q.sess q.args = ((s.setNow t).taken q 5 0).ansOk body := by
    rw [batchReq_items q.sess hlen hlow hhigh hl, if_neg (by simp [hreads]), if_pos hwrites, State.batchWrite, hjudge]
    rw [if_neg (by simp [hbad])]
    exact ⟨_, rfl⟩
  obtain ⟨body, hrule⟩ := hrule
  obtain ⟨n, h⟩ := accepted_answered_only (exec_batch false hl hreads) hacc hrule
  exact ⟨n, body, h⟩

theorem batch_mixed_effect (hwrites : l.all (fun i => i.1 == 2) = false) : ∃ n, exec (.batch t q) s = .next n ∧
    Answered (s.setNow t) n q 5 0 St.badKind [] ∧ Frame hostParts s n := by
  refine accepted_answered_only (exec_batch false hl hreads) hacc ?_
  rw [batchReq_items q.sess hlen hlow hhigh hl, if_neg (by simp [hreads]), if_neg (by simp [hwrites])]
  rfl

end NotReads

end Batch

end Sys2Proof.Machine

namespace Sys2Proof.Machine

/-! ### How a session closes (R611) -/

/-- What the end of what a session bound leaves: its record, once nothing of it is outstanding, and all that was put out. -/
structure Unbinds (k : Nat) (s n : State) : Prop where
  frame : Frame closeParts s n
  out : s.out <:+ n.out
  sess : (s.sess k).outst = [] → n.sess k = s.sess k

section

variable {k : Nat}

theorem Unbinds.refl (s : State) : Unbinds k s s := ⟨Frame.refl _ s, List.suffix_refl _, fun _ => rfl⟩

theorem Unbinds.trans {s t n : State} (h : Unbinds k s t) (g : Unbinds k t n) : Unbinds k s n :=
  ⟨h.frame.trans g.frame, h.out.trans g.out, fun hs => by rw [g.sess (by rw [h.sess hs]; exact hs), h.sess hs]⟩

theorem Unbinds.ite {s t n : State} (c : Prop) [Decidable c] (h : Unbinds k s t) (g : Unbinds k s n) : Unbinds k s (if c then t else n) := by
  split
  · exact h
  · exact g

theorem Unbinds.step {f : State → State} {s t : State} (c : Prop) [Decidable c] (h : Unbinds k s t) (hf : ∀ u, Unbinds k u (f u)) :
    Unbinds k s (if c then f t else t) := Unbinds.ite c (h.trans (hf t)) h

/-- What leaves the links and the outputs alone. -/
theorem Unbinds.of_frame {ps : List Part} {s n : State} (h : Frame ps s n) (hps : ∀ p, p ∈ ps → p ∈ closeParts) (hlinks : .links ∉ ps)
    (hout : .out ∉ ps) : Unbinds k s n :=
  ⟨h.mono hps, (h .out hout : n.out = s.out) ▸ List.suffix_refl _, fun _ => by simp only [State.sess, h.links_eq hlinks]⟩

theorem Unbinds.of_logs {s n : State} (h : Logs s n) : Unbinds k s n := Unbinds.of_frame h.frame (by decide) (by decide) (by decide)

theorem Unbinds.emit (s : State) (o : Out) : Unbinds k s (s.emit o) := by
  refine ⟨?_, List.suffix_cons o s.out, fun _ => rfl⟩
  rintro ⟨⟩ hp <;> simp [Part.same, State.emit] at hp ⊢

theorem Unbinds.each {α : Type} {f : α → State → State} (h : ∀ x s, Unbinds k s (f x s)) (l : List α) (s : State) :
    Unbinds k s (s.each l f) := by
  induction l generalizing s with
  | nil => exact Unbinds.refl s
  | cons x r ih => exact (h x s).trans (ih (f x s))

theorem Unbinds.answerOpt (s : State) (w : Option (Nat × Nat)) (status : Nat) (body : List Byte) : Unbinds k s (s.answerOpt w status body) := by
  cases w with
  | none => exact Unbinds.refl s
  | some w =>
    obtain ⟨hout, -, hother⟩ := answer_spec s w.1 w.2 status body
    refine ⟨(answer_frame s w.1 w.2 status body).mono (by decide), hout, fun hs => ?_⟩
    by_cases hk : k = w.1
    · subst hk
      exact congrArg (fun n => n.sess w.1) (answer_idle w.2 status body hs)
    · exact hother k hk

theorem Unbinds.stageAbandon (s : State) (j : Nat) : Unbinds k s (s.stageAbandon j) := by
  unfold State.stageAbandon
  refine Unbinds.ite _ ?_ (Unbinds.refl s)
  refine Unbinds.trans ?_ (Unbinds.of_logs (Logs.evA _ _ _ _))
  refine Unbinds.trans ?_ (Unbinds.of_frame (Frame.stage _ _) (by decide) (by decide) (by decide))
  refine Unbinds.trans ?_ (Unbinds.of_frame (stageIdle_frame _) (by decide) (by decide) (by decide))
  refine Unbinds.trans ?_ (Unbinds.answerOpt _ _ _ _)
  exact Unbinds.ite _ (Unbinds.of_frame (withdraw_frame s _) (by decide) (by decide) (by decide)) (Unbinds.refl s)

theorem Unbinds.release (s : State) (l : List Out) : Unbinds k s (s.release l) := by
  refine Unbinds.each (fun o s => ?_) l s
  dsimp only
  split
  · exact (Unbinds.emit s _).trans (Unbinds.of_logs (Logs.withPick _ _ _ (fun t => Logs.traceFrame t _ _ _ _ _)))
  · exact Unbinds.emit s _

theorem Frame.pick (s : State) (x : Pick) : Frame [.pick] s { s with pick := x } := by
  rintro ⟨⟩ hp <;> simp [Part.same] at hp ⊢

theorem Unbinds.pickDisarm (s : State) (cause : Nat) : Unbinds k s (s.pickDisarm cause) := by
  unfold State.pickDisarm
  refine Unbinds.ite _ (Unbinds.refl s) ?_
  refine Unbinds.trans ?_ (Unbinds.of_logs (Logs.evA _ _ _ _))
  exact (Unbinds.release s _).trans (Unbinds.of_frame (Frame.pick _ _) (by decide) (by decide) (by decide))

theorem armEnd_frame (s : State) : Frame [.aon, .prot] s s.armEnd := by
  rintro ⟨⟩ hp <;> simp [Part.same, State.armEnd] at hp ⊢

theorem Unbinds.armEnd (s : State) : Unbinds k s s.armEnd :=
  Unbinds.of_frame (armEnd_frame s) (by decide) (by decide) (by decide)

theorem unsubscribe_logs (s : State) (j : Nat) : Logs s (s.unsubscribe j) := Logs.fold _ (fun s n => Logs.setFifo s n _) _ s

end

/-- A session's record as closing leaves it. -/
def Sess.closed (x : Sess) (cause : Nat) : Sess :=
  { x with st := if x.hs.isSome then 2 else 1, cause := cause, subs := 0, outst := [], held := [] }

theorem Sess.closed_st (x : Sess) (cause : Nat) : (x.closed cause).st ≠ 3 := by
  unfold Sess.closed
  dsimp only
  split <;> decide

/-- An open session closes: its record is closed, and what it bound ends. -/
theorem closeSession_unbinds {s : State} {k : Nat} (cause : Nat) (hopen : (s.sess k).st = 3) :
    Unbinds k (s.setSess k ((s.sess k).closed cause)) (s.closeSession k cause) := by
  unfold State.closeSession
  dsimp only
  rw [if_neg (by simp [hopen])]
  refine Unbinds.step (f := fun t => t.freeMarks k) _ ?_ fun t => Unbinds.of_logs (Logs.lg t _)
  refine Unbinds.step (f := State.armEnd) _ ?_ Unbinds.armEnd
  refine Unbinds.step (f := fun t => t.pickDisarm 6) _ ?_ fun t => Unbinds.pickDisarm t 6
  refine Unbinds.step (f := fun t => t.stageAbandon 0) _ ?_ fun t => Unbinds.stageAbandon t 0
  exact (Unbinds.of_logs (unsubscribe_logs _ k)).trans (Unbinds.of_logs (Logs.evA _ _ _ _))

theorem closeSession_spec {s : State} {k : Nat} (cause : Nat) (hopen : (s.sess k).st = 3) :
    (s.closeSession k cause).sess k = (s.sess k).closed cause ∧ s.out <:+ (s.closeSession k cause).out ∧
      Frame closeParts s (s.closeSession k cause) := by
  obtain ⟨hframe, hout, hsess⟩ := closeSession_unbinds cause hopen
  rw [sess_setSess_same] at hsess
  exact ⟨hsess rfl, hout, ((Frame.links s _).mono (by decide)).trans hframe⟩

/-! ### CLOSE and KEEPALIVE -/

theorem close_ward_effect {t : Nat} {q : HReq} {s : State} (hacc : (s.setNow t).accepts q = true) (hargs : q.args = []) (hward : q.sess ≠ sSpi) :
    ∃ n, exec (.close t q) s = .next n ∧ (n.sess q.sess).st ≠ 3 ∧ (n.sess q.sess).cause = 1 ∧ (n.sess q.sess).outst = [] ∧
      ((s.sess q.sess).tx + 1 < 2 ^ 48 → Out.ward q.sess ((s.setNow t).dataHeader q.sess 0) 0x86 0 q.tag [] ∈ n.out) ∧
      Frame (.sleep :: closeParts) s n := by
  obtain ⟨u, hu⟩ : ∃ u, u = ((s.setNow t).taken q 6 0).answer q.sess q.tag St.ok [] := ⟨_, rfl⟩
  have hanswered : Answered (s.setNow t) u q 6 0 St.ok [] :=
    hu ▸ taken_answered (m := (s.setNow t).taken q 6 0) St.ok [] hacc rfl (taken_now (s.setNow t) q 6 0)
  have hopen : (u.sess q.sess).st = 3 := by
    have h := taken_open (s.setNow t) q 6 0 (accepts_open hacc)
    rw [State.sessOpen, if_neg hward] at h
    obtain ⟨-, hst, -⟩ := answer_spec ((s.setNow t).taken q 6 0) q.sess q.tag St.ok []
    rw [hu, hst]
    exact beq_iff_eq.mp h
  obtain ⟨hsess, hout, hframe⟩ := closeSession_spec Cc.close hopen
  have hexec : exec (.close t q) s = .next (settle s (u.closeSession q.sess Cc.close)) := by
    change execClose t q s = _
    unfold execClose
    refine at'_eq ((request_accepted _ _ _ _ _ _ hacc).trans (serve_later _ _ _ _ _ _ ?_))
    rw [hu, hargs, if_neg (by decide), if_neg hward]
    rfl
  have hanswer : Frame (.sleep :: closeParts) (s.setNow t) u := hu ▸
    ((taken_frame _ q 6 0).mono (by decide)).trans ((answer_frame _ q.sess q.tag _ _).mono (by decide))
  obtain ⟨-, hsent, -⟩ := hanswered
  have hrecord : (settle s (u.closeSession q.sess Cc.close)).sess q.sess = (u.sess q.sess).closed Cc.close := by
    rw [State.sess, settle_links, ← State.sess, hsess]
  refine ⟨_, hexec, ?_⟩
  rw [hrecord]
  exact ⟨Sess.closed_st _ _, rfl, rfl, fun htx => hout.subset (List.mem_of_mem_head? (hsent hward htx)),
    Frame.settle (t := t) (hanswer.trans (hframe.mono (by decide)))⟩

theorem close_spi_effect {t : Nat} {q : HReq} {s : State} (hacc : (s.setNow t).accepts q = true) (hargs : q.args = []) (hspi : q.sess = sSpi) :
    ∃ n, exec (.close t q) s = .next n ∧ Answered (s.setNow t) n q 6 0 St.ok [] ∧ Frame hostParts s n := by
  refine accepted_answered_only rfl hacc ?_
  simp only [hargs, List.isEmpty_nil, Bool.not_true, Bool.false_eq_true, if_false, if_pos hspi]
  rfl

theorem keepalive_effect {t : Nat} {q : HReq} {s : State} (hacc : (s.setNow t).accepts q = true) (hargs : q.args = []) :
    ∃ n, exec (.keepalive t q) s = .next n ∧ Answered (s.setNow t) n q 7 0 St.ok [] ∧ Frame hostParts s n := by
  refine accepted_answered_only rfl hacc ?_
  simp only [hargs, List.isEmpty_nil, if_true]
  rfl

/-! ### Commands while UNKEYED (R646, R648) -/

/-- Every opcode's row is a command under its own opcode, but SLEEP_ENTER and PICK_ARM, which answer UNKEYED with a reason of their own. -/
theorem opRow_cmd {op t : Nat} {q : HReq} {s : State} {a : Ans} (hrow : opRow op t q s = some a) (hsleep : op ≠ 0x0003) (harm : op ≠ 0x1301) :
    ∃ ok lenOk h, a = at' t (fun s => s.cmd q op ok lenOk h) s := by
  unfold opRow at hrow
  split at hrow
  case h_3 => exact absurd rfl hsleep -- SLEEP_ENTER
  case h_35 => exact absurd rfl harm -- PICK_ARM
  case h_37 => exact nomatch hrow -- an unknown opcode
  all_goals exact ⟨_, _, _, (Option.some.inj hrow).symm⟩

theorem unkeyed_denied {op t : Nat} {q : HReq} {s : State} {a : Ans} (hacc : (s.setNow t).accepts q = true) (hrow : opRow op t q s = some a)
    (hunkeyed : s.aon.unkeyed = true) (hlist : unkeyedOp op = false) (hsleep : op ≠ 0x0003) (harm : op ≠ 0x1301) :
    ∃ n, a = .next n ∧ Answered (s.setNow t) n q 3 op St.denied [] ∧ Frame hostParts s n := by
  obtain ⟨ok, lenOk, h, ha⟩ := opRow_cmd hrow hsleep harm
  refine accepted_answered_only ha hacc ?_
  have hoff : (((s.setNow t).taken q 3 op).aon.unkeyed && !unkeyedOp op) = true := by
    rw [taken_aon, hlist, show (s.setNow t).aon.unkeyed = true from hunkeyed]
    rfl
  rw [if_pos hoff, ite_self]
  rfl

/-- Settles O55: each request by its rule; a WRITE, by whichever row it comes, by what it is judged to be; a BATCH by the KINDs of its
items; a command while UNKEYED by the gate that every row but two shares. -/
theorem requestsAnswered : Obligations.RequestsAnswered := by
  unfold Obligations.RequestsAnswered
  intro t q s
  refine ⟨fun hacc => ⟨?_, fun e v hw => ?_, fun m hw => ?_, fun b hw => ?_, fun st hw => ?_, ?_, fun hargs => ⟨?_, ?_, ?_⟩, ?_⟩, ?_⟩
  · exact read_effect hacc
  · obtain ⟨hexec, hans, hframe⟩ := write_effect (a := exec (.overlayValueWrite t q) s) rfl hacc hw
    refine ⟨_, hexec, ?_, hans, hframe⟩
    rw [settle_ovl, answer_ovl]
    exact applyWrite_ovl_congr (s := s) (taken_ovl (s.setNow t) q 2 0) q.sess (.overlay e v)
  · obtain ⟨hexec, hans, hframe⟩ := write_effect (a := exec (.stickyClear t q) s) rfl hacc hw
    refine ⟨_, hexec, ?_, hans, hframe⟩
    rw [settle_lg, answer_lg, State.applyWrite, taken_lg]
    rfl
  · exact ⟨_, write_effect (a := exec (.hostNote t q) s) rfl hacc hw⟩
  · exact ⟨_, write_effect (a := exec (.writeOther t q) s) rfl hacc hw⟩
  · intro l hlen hlow hhigh hl
    exact ⟨batch_reads_effect hacc hlen hlow hhigh hl,
      fun hwrites hreads => ⟨batch_writes_effect hacc hlen hlow hhigh hl hreads hwrites,
        batch_refused_effect hacc hlen hlow hhigh hl hreads hwrites⟩,
      batch_mixed_effect hacc hlen hlow hhigh hl⟩
  · exact close_ward_effect hacc hargs
  · exact close_spi_effect hacc hargs
  · exact keepalive_effect hacc hargs
  · exact fun op a => unkeyed_denied hacc
  · exact read_safe_effect

end Sys2Proof.Machine

namespace Sys2Proof.Machine

/-! ### Raising an event counts no media fault (R671, R684) -/

/-- A state that only logs, and in which no media fault is counted. -/
def Raises (s n : State) : Prop := Logs s n ∧ n.lg.mediaFaults = s.lg.mediaFaults

theorem Raises.refl (s : State) : Raises s s := ⟨Logs.refl s, rfl⟩

theorem Raises.trans {s t n : State} (h : Raises s t) (k : Raises t n) : Raises s n := ⟨h.1.trans k.1, k.2.trans h.2⟩

theorem Raises.ite {s t n : State} (c : Prop) [Decidable c] (h : Raises s t) (k : Raises s n) : Raises s (if c then t else n) := by
  split
  · exact h
  · exact k

theorem Raises.lg (s : State) {g : Recorder} (h : g.mediaFaults = s.lg.mediaFaults) : Raises s { s with lg := g } := ⟨Logs.lg s g, h⟩

theorem Raises.emergency (s : State) (r : EventRec) : Raises s { s with lg := s.lg.keepEmergency r } := Raises.lg s rfl

theorem Raises.fold {α : Type} {f : State → α → State} (h : ∀ s x, Raises s (f s x)) (l : List α) (s : State) : Raises s (l.foldl f s) :=
  List.foldlRecOn l f (Raises.refl s) fun t ht x _ => ht.trans (h t x)

theorem Raises.offerTo (s : State) (ns : List Nat) (ty : Nat) (picked : Bool) (p : List Byte) : Raises s (s.offerTo ns ty picked p).1 :=
  List.foldlRecOn (motive := fun a : State × List Nat => Raises s a.1) ns _ (Raises.refl s)
    fun _ ha _ _ => ha.trans ⟨Logs.setFifo _ _ _, rfl⟩

theorem Raises.enqueue (s : State) (l : Leaf) (r : EventRec) : Raises s (s.enqueue l r) := by
  refine ⟨Logs.enqueue s l r, ?_⟩
  unfold State.enqueue
  dsimp only
  split
  · rfl
  · split
    · rw [modLeaf_lg]
    · rfl

theorem Raises.raiseN (k code src org : Nat) (picked : Bool) (ps : List Param) (s : State) :
    Raises s (State.raiseN k code src org picked ps s) := by
  induction k generalizing code src org picked ps s with
  | zero => exact Raises.refl s
  | succ k ih =>
    have streams : ∀ (ns : List Nat) (picked : Bool) (p : List Byte) (t : State), Raises t ((t.offerTo ns 2 picked p).2.foldl
        (fun s n => State.raiseN k Ev.streamLoss n s.act.num false [p4 (s.fifo n).lossPend] s) (t.offerTo ns 2 picked p).1) :=
      fun ns pk p t => (Raises.offerTo t ns 2 pk p).trans (Raises.fold (fun s n => ih _ _ _ _ _ s) _ _)
    have queues : ∀ (ls : List Leaf) (r : EventRec) (t : State), Raises t (ls.foldl (fun s l => s.enqueue l r) t) :=
      fun ls r t => Raises.fold (fun s l => Raises.enqueue s l r) _ _
    unfold State.raiseN
    dsimp only
    split
    all_goals
      refine Raises.ite _ ?_ (Raises.ite _ ((Raises.lg _ ?_).trans (streams _ _ _ _)) (Raises.ite _ (Raises.lg _ ?_) (Raises.ite _
        (Raises.ite _ ((Raises.lg _ ?_).trans ((queues _ _ _).trans ((streams _ _ _ _).trans (Raises.emergency _ _))))
          ((Raises.lg _ ?_).trans ((queues _ _ _).trans (streams _ _ _ _)))) (Raises.lg _ ?_))))
    case h_1.refine_1 => exact Raises.lg s rfl -- a STICKY bit is set while the device is off
    case h_2.refine_1 => exact Raises.refl s
    all_goals dsimp only

theorem Raises.raiseO (s : State) (code src org : Nat) (ps : List Param) : Raises s (s.raiseO code src org ps) := Raises.raiseN _ _ _ _ _ _ s

theorem Raises.evA (s : State) (code src : Nat) (ps : List Param) : Raises s (s.evA code src ps) := Raises.raiseN _ _ _ _ _ _ s

theorem Raises.queueLoss (s : State) : Raises s s.queueLoss := by
  unfold State.queueLoss
  refine Raises.ite _ (Raises.refl s) ?_
  exact (Raises.lg s rfl).trans (Raises.evA _ _ _ _)

theorem queueLoss_eq_self {s : State} (hlow : s.lg.dropLow = 0) (hhigh : s.lg.dropHigh = 0) : s.queueLoss = s := if_pos (.inl ⟨hlow, hhigh⟩)

/-- Of a leaf's log, logging changes the queue alone. -/
theorem Logs.leaf_log {s n : State} (h : Logs s n) (l : Leaf) : ∃ q, (n.leaf l).log = { (s.leaf l).log with queue := q } := by
  obtain ⟨g, fs, qa, qb, rfl⟩ := h
  cases l
  · exact ⟨qa, rfl⟩
  · exact ⟨qb, rfl⟩

end Sys2Proof.Machine

namespace Sys2Proof.Machine

/-! ### The head of a leaf's queue is written (R676, R680 to R684) -/

/-- A leaf's record changes with its queue of event records. -/
theorem Frame.setLeaf_queue (s : State) (l : Leaf) (x : LeafRec) : Frame [.leafA, .leafB, .log] s (s.setLeaf l x) := by
  cases l <;> rintro ⟨⟩ hp <;> simp [Part.same, State.setLeaf] at hp ⊢

@[simp] theorem LogCopy.put_spares (c : LogCopy) (r : EventRec) : (c.put r).spares = c.spares := by
  unfold LogCopy.put
  split <;> rfl

/-- The queue has no part in where a record enters. -/
theorem LogCopy.put_of_queue (c : LogCopy) (q : List EventRec) (r : EventRec) :
    ({ c with queue := q } : LogCopy).put r = { c.put r with queue := q } := by
  unfold LogCopy.put
  dsimp only
  split <;> rfl

/-- OVERRUN changes nothing of the recorder but its marks. -/
theorem Recorder.overrun_eq (g : Recorder) (o : Option Nat) : ∃ ms, g.overrun o = { g with marks := ms } := by
  cases o with
  | none => exact ⟨g.marks, rfl⟩
  | some q => exact ⟨_, rfl⟩

/-- Writing a record marks what it overwrites, then puts it into its region. -/
theorem logPut_eq (s : State) (l : Leaf) (r : EventRec) : ∃ ms, s.logPut l r =
    ({ s with lg := { s.lg with marks := ms } } : State).setLeaf l { s.leaf l with log := (s.leaf l).log.put r } := by
  unfold State.logPut
  dsimp only
  split
  · obtain ⟨ms, hms⟩ := s.lg.overrun_eq ((s.leaf l).log.overwritten r)
    refine ⟨ms, ?_⟩
    rw [hms]
    cases l <;> rfl
  · exact ⟨s.lg.marks, rfl⟩

@[simp] theorem logPut_leaf (s : State) (l : Leaf) (r : EventRec) :
    (s.logPut l r).leaf l = { s.leaf l with log := (s.leaf l).log.put r } := by
  obtain ⟨ms, h⟩ := logPut_eq s l r
  rw [h, leaf_setLeaf]

/-- Of the recorder, writing a record reaches the marks alone. -/
theorem logPut_lg (s : State) (l : Leaf) (r : EventRec) : ∃ ms, (s.logPut l r).lg = { s.lg with marks := ms } := by
  obtain ⟨ms, h⟩ := logPut_eq s l r
  exact ⟨ms, by rw [h, setLeaf_lg]⟩

theorem logPut_frame (s : State) (l : Leaf) (r : EventRec) : Frame [.leafA, .leafB, .log] s (s.logPut l r) := by
  obtain ⟨ms, h⟩ := logPut_eq s l r
  rw [h]
  exact ((Frame.lg s _).mono (by decide)).trans (Frame.setLeaf_queue _ l _)

/-- A leaf's queue without its head. -/
def State.dequeued (s : State) (l : Leaf) (rest : List EventRec) : State :=
  s.setLeaf l { s.leaf l with log := { (s.leaf l).log with queue := rest } }

/-- A media fault of a leaf's log is counted. -/
def State.faulted (s : State) (l : Leaf) : State :=
  { s with lg := { s.lg with mediaFaults := satAdd 16 s.lg.mediaFaults 1, logDegraded := setBit s.lg.logDegraded l.num true } }

/-- A copy whose lowest free spare takes a block's readable records. -/
def LogCopy.spared (c : LogCopy) (r : EventRec) (lost : List Nat) : LogCopy :=
  { c with spares := c.spares + 1, remap := c.remap ++ [((c.block r).1 * 32 + (c.block r).2, c.spares)], lost := c.lost ++ lost
           keep := c.keep.filter (fun x => !lost.contains x.seq), ring := c.ring.filter (fun x => !lost.contains x.seq) }

/-- A bad read-back with a spare left: the record enters the spare, and the event follows. -/
theorem mediaFault_spares {s : State} {l : Leaf} (r : EventRec) (lost : List Nat) (h : (s.leaf l).log.spares < 64) :
    Raises (((s.faulted l).modLeaf l (fun x => { x with log := (s.leaf l).log.spared r lost })).logPut l r) (s.mediaFault l r lost) := by
  unfold State.mediaFault
  rw [if_neg (Nat.not_le.mpr h)]
  exact Raises.raiseO _ _ _ _ _

/-- A bad read-back with no spare left: the log has failed, and the event follows. -/
theorem mediaFault_full {s : State} {l : Leaf} (r : EventRec) (lost : List Nat) (h : 64 ≤ (s.leaf l).log.spares) :
    Raises ((s.faulted l).modLeaf l (fun x => { x with log := { x.log with failed := true, queue := [] } })) (s.mediaFault l r lost) := by
  unfold State.mediaFault
  rw [if_pos h]
  exact Raises.raiseO _ _ _ _ _

theorem faulted_frame (s : State) (l : Leaf) : Frame [.log] s (s.faulted l) := Frame.lg s _

theorem modLeaf_frame_log (s : State) (l : Leaf) (f : LeafRec → LeafRec) : Frame [.leafA, .leafB, .log] s (s.modLeaf l f) :=
  Frame.setLeaf_queue s l _

/-- What a bad read-back leaves: one media fault more, one spare fewer or a failed log. -/
theorem mediaFault_spec (s : State) (l : Leaf) (r : EventRec) (lost : List Nat) :
    (s.mediaFault l r lost).lg.mediaFaults = satAdd 16 s.lg.mediaFaults 1 ∧
      ((s.leaf l).log.spares < 64 → ((s.mediaFault l r lost).leaf l).log.spares = (s.leaf l).log.spares + 1) ∧
      (64 ≤ (s.leaf l).log.spares → ((s.mediaFault l r lost).leaf l).log.failed = true) ∧
      Frame [.leafA, .leafB, .log, .fifos] s (s.mediaFault l r lost) := by
  have hcounted := (faulted_frame s l).mono (qs := [.leafA, .leafB, .log, .fifos]) (by decide)
  obtain hfree | hfull := lt_or_ge (s.leaf l).log.spares 64
  · obtain ⟨hlogs, hfaults⟩ := mediaFault_spares r lost hfree
    refine ⟨hfaults.trans ?_, fun _ => ?_, fun hfull => absurd hfull (Nat.not_le.mpr hfree), ?_⟩
    · obtain ⟨ms, hms⟩ := logPut_lg ((s.faulted l).modLeaf l (fun x => { x with log := (s.leaf l).log.spared r lost })) l r
      rw [hms, modLeaf_lg]
      rfl
    · obtain ⟨q, hq⟩ := hlogs.leaf_log l
      rw [hq, logPut_leaf, leaf_modLeaf]
      exact LogCopy.put_spares _ r
    · exact hcounted.trans (((modLeaf_frame_log _ l _).mono (by decide)).trans
        (((logPut_frame _ l r).mono (by decide)).trans (hlogs.frame_of_mem (by decide) (by decide))))
  · obtain ⟨hlogs, hfaults⟩ := mediaFault_full r lost hfull
    refine ⟨hfaults.trans ?_, fun hfree => absurd hfree (Nat.not_lt.mpr hfull), fun _ => ?_, ?_⟩
    · rw [modLeaf_lg]
      rfl
    · obtain ⟨q, hq⟩ := hlogs.leaf_log l
      rw [hq, leaf_modLeaf]
    · exact hcounted.trans (((modLeaf_frame_log _ l _).mono (by decide)).trans (hlogs.frame_of_mem (by decide) (by decide)))

section
variable {t : Nat} {s : State} {l : Leaf} {r : EventRec} {rest : List EventRec} (lost : List Nat)
  (hqueue : (s.leaf l).log.queue = r :: rest) (hsupplied : (s.leaf l).supplied = true) (hfenced : (s.setNow t).fencedL l = false)
  (hfailed : (s.leaf l).log.failed = false) (hdev : s.aon.dev ≠ .safe)
  (hwrites : (s.leaf l).writeOk = true ∨ (s.setNow t).time.now ≤ (s.leaf l).refuseNow + 30000)
include hqueue hsupplied hfenced hfailed hdev hwrites

/-- Where the leaf may write, the head of its queue leaves it for the log, or for a spare. -/
theorem exec_eventRecordWritten (ok : Bool) : exec (.eventRecordWritten t l ok lost) s =
    .next (settle s (if ok then ((s.setNow t).dequeued l rest).logPut l r
      else ((s.setNow t).dequeued l rest).mediaFault l r lost).queueLoss) := by
  change execEventRecordWritten t l ok lost s = _
  unfold execEventRecordWritten
  refine at'_eq ?_
  dsimp only
  rw [setNow_leaf, hqueue]
  refine (if_neg ?_).trans ?_
  · simp only [hsupplied, hfenced, hfailed, setNow_aon]
    simpa [hdev, imp_iff_not_or] using hwrites
  · rfl

theorem eventRecordWritten_puts : ∃ n, exec (.eventRecordWritten t l true lost) s = .next n ∧
    (n.leaf l).log.keep = ((s.leaf l).log.put r).keep ∧ (n.leaf l).log.ring = ((s.leaf l).log.put r).ring ∧
    (s.lg.dropLow = 0 → s.lg.dropHigh = 0 → (n.leaf l).log.queue = rest) ∧ Frame [.leafA, .leafB, .log, .fifos] s n := by
  obtain ⟨m, hm⟩ : ∃ m, m = ((s.setNow t).dequeued l rest).logPut l r := ⟨_, rfl⟩
  have hexec := exec_eventRecordWritten lost hqueue hsupplied hfenced hfailed hdev hwrites true
  rw [if_pos rfl, ← hm] at hexec
  have hput : (m.leaf l).log = { (s.leaf l).log.put r with queue := rest } := by
    rw [hm, logPut_leaf, State.dequeued, leaf_setLeaf, setNow_leaf, LogCopy.put_of_queue]
  obtain ⟨q, hq⟩ := (Raises.queueLoss m).1.leaf_log l
  refine ⟨_, hexec, ?_, ?_, fun hlow hhigh => ?_, Frame.settle (t := t) ?_⟩
  · rw [settle_leaf, hq, hput]
  · rw [settle_leaf, hq, hput]
  · obtain ⟨ms, hms⟩ := logPut_lg ((s.setNow t).dequeued l rest) l r
    have hlg : m.lg = { s.lg with marks := ms } := by rw [hm, hms, State.dequeued, setLeaf_lg, setNow_lg]
    rw [settle_leaf, queueLoss_eq_self (by rw [hlg]; exact hlow) (by rw [hlg]; exact hhigh), hput]
  · have hframe : Frame [.leafA, .leafB, .log] (s.setNow t) m := hm ▸ (Frame.setLeaf_queue _ l _).trans (logPut_frame _ l r)
    exact (hframe.mono (by decide)).trans ((Raises.queueLoss m).1.frame_of_mem (by decide) (by decide))

theorem eventRecordWritten_spares : ∃ n, exec (.eventRecordWritten t l false lost) s = .next n ∧
    n.lg.mediaFaults = satAdd 16 s.lg.mediaFaults 1 ∧
    ((s.leaf l).log.spares < 64 → (n.leaf l).log.spares = (s.leaf l).log.spares + 1) ∧
    (64 ≤ (s.leaf l).log.spares → (n.leaf l).log.failed = true) ∧ Frame [.leafA, .leafB, .log, .fifos] s n := by
  obtain ⟨u, hu⟩ : ∃ u, u = (s.setNow t).dequeued l rest := ⟨_, rfl⟩
  have hexec := exec_eventRecordWritten lost hqueue hsupplied hfenced hfailed hdev hwrites false
  rw [if_neg Bool.false_ne_true, ← hu] at hexec
  have hleaf : (u.leaf l).log = { (s.leaf l).log with queue := rest } := by rw [hu, State.dequeued, leaf_setLeaf, setNow_leaf]
  obtain ⟨hfaults, hfree, hfull, hframe⟩ := mediaFault_spec u l r lost
  rw [hleaf] at hfree hfull
  obtain ⟨hlogs, hkept⟩ := Raises.queueLoss (u.mediaFault l r lost)
  obtain ⟨q, hq⟩ := hlogs.leaf_log l
  refine ⟨_, hexec, ?_, fun h => ?_, fun h => ?_, Frame.settle (t := t) ?_⟩
  · rw [settle_lg, hkept, hfaults, hu, State.dequeued, setLeaf_lg, setNow_lg]
  · rw [settle_leaf, hq]
    exact hfree h
  · rw [settle_leaf, hq]
    exact hfull h
  · have hdequeued : Frame [.leafA, .leafB, .log] (s.setNow t) u := hu ▸ Frame.setLeaf_queue _ l _
    exact (hdequeued.mono (by decide)).trans (hframe.trans (hlogs.frame_of_mem (by decide) (by decide)))

end

end Sys2Proof.Machine

namespace Sys2Proof.Machine

/-! ### Marks and the read window (R686 to R691) -/

@[simp] theorem mark_setMark_same (s : State) (m : Nat) (x : Mark) : (s.setMark m x).mark m = x := kget_kset_same _ _ _ _

theorem mark_setMark_other {s : State} {m k : Nat} (x : Mark) (h : k ≠ m) : (s.setMark m x).mark k = s.mark k := kget_kset_other _ _ _ _ _ h

@[simp] theorem taken_mark (s : State) (q : HReq) (kind op m : Nat) : (s.taken q kind op).mark m = s.mark m := by
  simp only [State.mark, taken_lg]

@[simp] theorem setNow_mark (s : State) (t m : Nat) : (s.setNow t).mark m = s.mark m := rfl

/-- Answering and settling leave the marks. -/
theorem settle_answer_mark (s n : State) (k tag st : Nat) (body : List Byte) (m : Nat) :
    (settle s (n.answer k tag st body)).mark m = n.mark m := by
  simp only [State.mark, settle_lg, answer_lg]

theorem setMark_frame (s : State) (m : Nat) (x : Mark) : Frame [.log] s (s.setMark m x) := Frame.lg s _

/-- A command that replaces one mark and is answered at once. -/
theorem setMark_effect {t op st m : Nat} {q : HReq} {s : State} {c : Instr} {lenOk : Nat → Bool} {h : State → HR} {x : Mark} {body : List Byte}
    (hexec : exec c s = at' t (fun s => s.cmd q op (fun s => s.may q.sess Perm.mark) lenOk h) s)
    (hlets : (s.setNow t).lets q op Perm.mark = true) (hlen : lenOk q.args.length = true)
    (hrule : h ((s.setNow t).taken q 3 op) = (((s.setNow t).taken q 3 op).setMark m x, some (st, body))) :
    ∃ n, exec c s = .next n ∧ n.mark m = x ∧ (∀ k, k ≠ m → n.mark k = s.mark k) ∧ Answered (s.setNow t) n q 3 op st body ∧
      Frame (hostParts ++ [.log]) s n := by
  obtain ⟨hnext, hans, hframe⟩ := command_answered hexec (lets_opens hlets) (taken_may_of_lets hlets) hlen hrule (setMark_frame _ m x)
    (by decide) (taken_now (s.setNow t) q 3 op)
  refine ⟨_, hnext, ?_, fun k hk => ?_, hans, hframe⟩
  · rw [settle_answer_mark, mark_setMark_same]
  · rw [settle_answer_mark, mark_setMark_other x hk, taken_mark, setNow_mark]

/-- Where MARK_ALLOC puts a mark: the oldest record held, the next one, or the record asked for. -/
def State.allocSeq (s : State) (q : HReq) : Nat :=
  if arg q 0 1 = 0 then (s.leaf s.act).log.oldest.getD s.lg.nextSeq else if arg q 0 1 = 1 then s.lg.nextSeq else arg q 4 4

@[simp] theorem taken_running (s : State) (q : HReq) (kind op : Nat) (l : Leaf) : (s.taken q kind op).running l = s.running l := by
  simp only [State.running, taken_leaf, taken_aon]

@[simp] theorem taken_act (s : State) (q : HReq) (kind op : Nat) : (s.taken q kind op).act = s.act := by
  unfold State.act
  rw [taken_kn, taken_running]

@[simp] theorem taken_allocSeq (s : State) (q p : HReq) (kind op : Nat) : (s.taken q kind op).allocSeq p = s.allocSeq p := by
  simp only [State.allocSeq, taken_leaf, taken_act, taken_lg]

/-- MARK_ALLOC takes the lowest free mark where its WHERE stands for a record. -/
theorem markAlloc_allocs {s : State} {q : HReq} {m : Nat} (hm : (upto 16).find? (fun m => !(s.mark m).alloc) = some m)
    (hwhere : arg q 0 1 = 0 ∨ arg q 0 1 = 1 ∨
      (arg q 0 1 = 2 ∧ (arg q 4 4 = s.lg.nextSeq ∨ ((s.leaf s.act).log.find (arg q 4 4)).isSome = true))) :
    s.markAlloc q = (s.setMark m { alloc := true, owner := q.sess, seq := s.allocSeq q, allocTime := s.devTime }).ansOk [byteOf m] := by
  unfold State.markAlloc
  dsimp only
  rw [if_neg (by omega), hm]
  refine if_neg ?_
  rintro ⟨htwo, hnext, hnone⟩
  simp only [htwo, OfNat.ofNat_ne_zero, OfNat.ofNat_ne_one, if_false, true_and, false_or] at hnext hnone hwhere
  obtain h | h := hwhere
  · exact hnext h
  · simp [Option.isNone_iff_eq_none.mp hnone] at h

/-- MARK_FREE frees a mark of the session. -/
theorem markFree_frees {s : State} {q : HReq} (hm : arg q 0 1 ≤ 15) (halloc : (s.mark (arg q 0 1)).alloc = true)
    (howner : (s.mark (arg q 0 1)).owner = q.sess) : s.markFree q = (s.setMark (arg q 0 1) {}).ansOk [] := by
  unfold State.markFree
  dsimp only
  rw [if_neg (Nat.not_lt.mpr hm)]
  exact if_neg (by simp [halloc, howner])

theorem markAlloc_effect {t m : Nat} {q : HReq} {s : State} (hlets : (s.setNow t).lets q 0x0010 Perm.mark = true) (hlen : q.args.length = 8)
    (hm : (upto 16).find? (fun m => !(s.mark m).alloc) = some m) (hwhere : arg q 0 1 = 0 ∨ arg q 0 1 = 1 ∨
      (arg q 0 1 = 2 ∧ (arg q 4 4 = s.lg.nextSeq ∨ ((s.leaf s.act).log.find (arg q 4 4)).isSome = true))) :
    ∃ n, exec (.markAlloc t q) s = .next n ∧ (n.mark m).alloc = true ∧ (n.mark m).owner = q.sess ∧ (n.mark m).seq = s.allocSeq q ∧
      (∀ k, k ≠ m → n.mark k = s.mark k) ∧ AnsweredOk (s.setNow t) n q 0x0010 [byteOf m] ∧ Frame (hostParts ++ [.log]) s n := by
  obtain ⟨n, hexec, hmark, hothers, hans, hframe⟩ := setMark_effect (c := .markAlloc t q) rfl hlets (by simp [hlen])
    (markAlloc_allocs (s := (s.setNow t).taken q 3 0x0010) (q := q) (by simpa only [taken_mark, setNow_mark] using hm)
      (by rw [taken_leaf, taken_act, taken_lg]; exact hwhere))
  refine ⟨n, hexec, ?_, ?_, ?_, hothers, hans, hframe⟩ <;> rw [hmark]
  rw [taken_allocSeq]
  rfl

/-- A read places no more records than its COUNT. -/
theorem markWalk_recs_length {c : LogCopy} {next old count : Nat} (fuel : Nat) {w : MarkWalk} (hw : w.recs.length ≤ count) :
    (markWalk c next old count fuel w).recs.length ≤ count := by
  induction fuel generalizing w with
  | zero => exact hw
  | succ k ih =>
    unfold markWalk
    split
    · exact hw
    split
    · exact hw
    next hroom =>
    split
    · dsimp only
      split
      · exact ih (Nat.lt_of_le_of_ne hw hroom) -- one record more is placed
      · exact ih hw
    · split
      · exact hw
      split
      · exact ih hw
      · exact hw

/-- The window filled with what a read gathered, for the session and from the copy that its request names; the mark moves on. -/
def State.windowed (s : State) (q : HReq) (w : MarkWalk) (status first : Nat) : State :=
  let x := s.mark (arg q 0 1)
  let s := s.setMark (arg q 0 1) { x with seq := w.seq, readTime := s.devTime, lostTotal := satAdd 32 x.lostTotal w.lost }
  { s with lg := { s.lg with winOwner := q.sess, winGen := (s.lg.winGen + 1) % 4294967296, winCopy := arg q 1 1, winStatus := status
                             winFirst := first, winLost := w.lost, winRecs := w.recs.reverse, winHeld := true, winTime := s.time.now } }

theorem windowed_frame (s : State) (q : HReq) (w : MarkWalk) (status first : Nat) : Frame [.log] s (s.windowed q w status first) :=
  (setMark_frame _ _ _).trans (Frame.lg _ _)

theorem windowed_mark (s : State) (q : HReq) (w : MarkWalk) (status first : Nat) :
    ((s.windowed q w status first).mark (arg q 0 1)).readTime = s.devTime :=
  congrArg Mark.readTime (mark_setMark_same s (arg q 0 1) _)

theorem windowed_mark_other (s : State) {q : HReq} {k : Nat} (w : MarkWalk) (status first : Nat) (h : k ≠ arg q 0 1) :
    (s.windowed q w status first).mark k = s.mark k := mark_setMark_other (s := s) _ h

/-- The leaf whose copy a MARK_READ names: the ACTIVE leaf's, Leaf A's or Leaf B's. -/
def State.copyLeaf (s : State) (q : HReq) : Leaf := if arg q 1 1 = 0 then s.act else if arg q 1 1 = 1 then .a else .b

@[simp] theorem taken_copyLeaf (s : State) (q p : HReq) (kind op : Nat) : (s.taken q kind op).copyLeaf p = s.copyLeaf p := by
  simp only [State.copyLeaf, taken_act]

/-- The window is free to a session: not held, its own, or held for a second already. -/
def State.windowFree (s : State) (k : Nat) : Prop :=
  s.lg.winHeld = false ∨ s.lg.winOwner = k ∨ s.lg.winTime + 1000000000 ≤ s.time.now

/-- MARK_READ by the owner of a mark, with the window free to it, fills the window with what the read gathered; a free value is drawn
where it gathered nothing. -/
theorem markRead_windowed {s : State} {q : HReq} (hm : arg q 0 1 ≤ 15) (hcopy : arg q 1 1 ≤ 2) (hlow : 1 ≤ arg q 2 1) (hhigh : arg q 2 1 ≤ 127)
    (halloc : (s.mark (arg q 0 1)).alloc = true) (howner : (s.mark (arg q 0 1)).owner = q.sess) (hrunning : s.running (s.copyLeaf q) = true)
    (hfailed : (s.leaf (s.copyLeaf q)).log.failed = false) (hfree : s.windowFree q.sess) :
    ∃ u w status first body, (u = s ∨ u = s.draw) ∧ w.recs.length ≤ arg q 2 1 ∧
      s.markRead q = (u.windowed q w status first).ansOk body := by
  have hbusy : ¬(s.lg.winHeld = true ∧ s.lg.winOwner ≠ q.sess ∧ s.time.now < s.lg.winTime + 1000000000) := by
    rintro ⟨hheld, hother, hrecent⟩
    obtain h | h | h := hfree
    · simp [h] at hheld
    · exact hother h
    · omega
  unfold State.markRead
  dsimp only
  rw [← State.copyLeaf, if_neg (by omega), if_neg (by simp [halloc, howner, hrunning, hfailed]), if_neg hbusy]
  generalize hw : markWalk _ _ _ _ _ _ = w
  generalize hu : (if w.recs.reverse.isEmpty = true then s.draw else s) = u
  have hdrawn : u = s ∨ u = s.draw := by
    rw [← hu]
    split
    · exact .inr rfl
    · exact .inl rfl
  have hmark : s.mark (arg q 0 1) = u.mark (arg q 0 1) := by obtain rfl | rfl := hdrawn <;> rfl
  rw [hmark]
  exact ⟨u, w, _, _, _, hdrawn, hw ▸ markWalk_recs_length 70000 (Nat.zero_le _), rfl⟩

theorem markRead_effect {t : Nat} {q : HReq} {s : State} (hlets : (s.setNow t).lets q 0x0012 Perm.mark = true) (hlen : q.args.length = 4)
    (hm : arg q 0 1 ≤ 15) (hcopy : arg q 1 1 ≤ 2) (hlow : 1 ≤ arg q 2 1) (hhigh : arg q 2 1 ≤ 127)
    (halloc : (s.mark (arg q 0 1)).alloc = true) (howner : (s.mark (arg q 0 1)).owner = q.sess)
    (hrunning : (s.setNow t).running (s.copyLeaf q) = true) (hfailed : (s.leaf (s.copyLeaf q)).log.failed = false)
    (hfree : (s.setNow t).windowFree q.sess) : ∃ n body, exec (.markRead t q) s = .next n ∧ n.lg.winOwner = q.sess ∧ n.lg.winHeld = true ∧
      n.lg.winTime = (s.setNow t).time.now ∧ n.lg.winGen = (s.lg.winGen + 1) % 4294967296 ∧ n.lg.winRecs.length ≤ arg q 2 1 ∧
      (n.mark (arg q 0 1)).readTime = (s.setNow t).devTime ∧ (∀ k, k ≠ arg q 0 1 → n.mark k = s.mark k) ∧
      AnsweredOk (s.setNow t) n q 0x0012 body ∧ Frame (hostParts ++ [.log, .free]) s n := by
  obtain ⟨v, hv⟩ : ∃ v, v = (s.setNow t).taken q 3 0x0012 := ⟨_, rfl⟩
  have hvlg : v.lg = s.lg := by rw [hv, taken_lg, setNow_lg]
  have hvtime : v.time = (s.setNow t).time := by rw [hv, taken_time]
  have hvmark : ∀ k, v.mark k = s.mark k := fun k => by rw [hv, taken_mark, setNow_mark]
  have hvleaf : v.copyLeaf q = s.copyLeaf q := by rw [hv, taken_copyLeaf]; rfl
  obtain ⟨u, w, status, first, body, hu, hcount, hread⟩ := markRead_windowed (s := v) hm hcopy hlow hhigh (by rw [hvmark]; exact halloc)
    (by rw [hvmark]; exact howner) (by rw [hvleaf, hv, taken_running]; exact hrunning) (by rw [hvleaf, hv, taken_leaf]; exact hfailed)
    (by rw [State.windowFree, hvlg, hvtime]; exact hfree)
  have hulg : u.lg = s.lg := by obtain rfl | rfl := hu <;> exact hvlg
  have hutime : u.time = (s.setNow t).time := by obtain rfl | rfl := hu <;> exact hvtime
  have humark : ∀ k, u.mark k = s.mark k := by obtain rfl | rfl := hu <;> exact hvmark
  have hframe : Frame [.log, .free] v (u.windowed q w status first) := by
    refine Frame.trans ?_ ((windowed_frame u q w status first).mono (by decide))
    obtain rfl | rfl := hu
    · exact Frame.refl _ _
    · exact (Frame.draw v).mono (by decide)
  have hnow : (u.windowed q w status first).time.now = (s.setNow t).time.now := congrArg TimeU.now hutime
  obtain ⟨hexec, hans, hparts⟩ := command_answered (c := .markRead t q) rfl (lets_opens hlets) (taken_may_of_lets hlets) (by simp [hlen])
    (hv ▸ hread) (hv ▸ hframe) (by decide) hnow
  refine ⟨_, body, hexec, ?_⟩
  simp only [settle_answer_mark, settle_lg, answer_lg, windowed_mark]
  refine ⟨rfl, rfl, hnow, ?_, ?_, ?_, fun k hk => ?_, hans, hparts⟩
  · rw [← hulg]
    rfl
  · exact (List.length_reverse ..).trans_le hcount
  · rw [State.devTime, hutime, State.devTime]
  · rw [windowed_mark_other u w status first hk, humark]

/-- READ_WINDOW_HOLD_END: a window held for a second is held no more. -/
theorem readWindowHoldEnd_effect {t : Nat} {s : State} (hheld : s.lg.winHeld = true)
    (htime : s.lg.winTime + 1000000000 ≤ (s.setNow t).time.now) :
    ∃ n, exec (.readWindowHoldEnd t) s = .next n ∧ n.lg = { s.lg with winHeld := false } ∧ Frame [.log] s n := by
  exact ⟨_, at'_eq (if_pos ⟨hheld, htime⟩), rfl, (Frame.lg (s.setNow t) _).settle⟩

end Sys2Proof.Machine

namespace Sys2Proof.Machine

/-! ### Token buckets (R673, R674) -/

theorem tokenRefill_effect {t code : Nat} {s : State} (hlimited : refillNs (s.cfg.evClass code).2 ≠ 0) (hstarted : s.sw.started = true)
    (hafter : s.sw.firstSample < (s.setNow t).time.now)
    (hinstant : ((s.setNow t).time.now - s.sw.firstSample) / 10 % (refillNs (s.cfg.evClass code).2 / 10) = 0)
    (hnew : (kget {} s.lg.buckets code).refill < (s.setNow t).time.now) : ∃ n, exec (.tokenRefill t code) s = .next n ∧
      kget {} n.lg.buckets code = { kget {} s.lg.buckets code with
        used := (kget {} s.lg.buckets code).used - 1, supp := 0, first := 0, refill := (s.setNow t).time.now } ∧ Frame [.log, .fifos] s n := by
  have hraised := Logs.suppRaise (s.setNow t) code
  have hexec : exec (.tokenRefill t code) s = .next (settle s { (s.setNow t).suppRaise code with lg := {
      ((s.setNow t).suppRaise code).lg with buckets := kset {} ((s.setNow t).suppRaise code).lg.buckets code {
        kget {} s.lg.buckets code with used := (kget {} s.lg.buckets code).used - 1, supp := 0, first := 0
                                       refill := ((s.setNow t).suppRaise code).time.now } } }) := by
    change execTokenRefill t code s = _
    unfold execTokenRefill
    refine at'_eq (if_neg ?_)
    simp only [setNow_cfg, setNow_sw, setNow_lg, hstarted, hinstant]
    simp only [Bool.not_true, Bool.false_eq_true, ne_eq, not_true_eq_false, false_or, not_or]
    exact ⟨hlimited, Nat.not_le.mpr hafter, Nat.not_le.mpr hnew⟩
  refine ⟨_, hexec, ?_, ((hraised.frame_of_mem (by decide) (by decide)).trans ((Frame.lg _ _).mono (by decide))).settle⟩
  rw [settle_lg, hraised.time]
  exact kget_kset_same _ _ _ _

end Sys2Proof.Machine

namespace Sys2Proof.Machine

/-! ### Snapshots (R344 to R346) -/

/-- A buffer with the units that are left written from the commit current now. -/
def State.snapFull (s : State) (x : LeafRec) (b : Snap) : Snap :=
  { b with cells := s.snapUnits b.cells x.snapIdx 4096, firstSweep := if x.snapIdx = 0 then s.sw.cSweep else b.firstSweep }

/-- A buffer complete, with its VALID descriptor. -/
def State.snapDone (s : State) (x : LeafRec) (b : Snap) : Snap :=
  { s.snapFull x b with st := 2, seq := x.snapSeq, lastSweep := s.sw.cSweep, crc := crc32 (s.snapFull x b).bytes }

theorem modSnap_snapA (x : LeafRec) (f : Snap → Snap) : (x.modSnap f).snapA = if x.nextSnap then x.snapA else f x.snapA := by
  unfold LeafRec.modSnap
  split <;> rfl

theorem modSnap_snapB (x : LeafRec) (f : Snap → Snap) : (x.modSnap f).snapB = if x.nextSnap then f x.snapB else x.snapB := by
  unfold LeafRec.modSnap
  split <;> rfl

theorem modSnap_log (x : LeafRec) (f : Snap → Snap) : (x.modSnap f).log = x.log := by
  unfold LeafRec.modSnap
  split <;> rfl

theorem setSnap_setLeaf (s : State) (l : Leaf) (x : LeafRec) (b : Bool) :
    (s.setLeaf l x).setSnap l b = s.setLeaf l { x with snapOwed := b } := by cases l <;> rfl

/-- A leaf's record with its snapshot complete: nothing is owed any more. -/
def State.snapCompleted (s : State) (x : LeafRec) : LeafRec :=
  { x.modSnap (s.snapDone x) with snapGo := false, snapIdx := 0, snapOwed := false }

section
variable {t : Nat} {s : State} {l : Leaf}

theorem snapshotComplete_effect (howed : s.snapOwed l = true) (hgo : (s.leaf l).snapGo = true) (hwrites : (s.leaf l).writeOk = true)
    (hthermal : s.aon.thermal = false) (hrunning : (s.setNow t).running l = true) : ∃ n, exec (.snapshotComplete t l true) s = .next n ∧
      n.snapOwed l = false ∧ (n.leaf l).snapGo = false ∧
      (n.leaf l).snapA = (if (s.leaf l).nextSnap then (s.leaf l).snapA else s.snapDone (s.leaf l) (s.leaf l).snapA) ∧
      (n.leaf l).snapB = (if (s.leaf l).nextSnap then s.snapDone (s.leaf l) (s.leaf l).snapB else (s.leaf l).snapB) ∧
      Frame [.leafA, .leafB, .log, .fifos] s n := by
  obtain ⟨m, hm⟩ : ∃ m, m = (s.setNow t).setLeaf l (s.snapCompleted (s.leaf l)) := ⟨_, rfl⟩
  have hexec : exec (.snapshotComplete t l true) s =
      .next (settle s (m.raiseO Ev.snapshotWritten l.num l.num [p4 (s.leaf l).snapSeq, p4 s.sw.cSweep])) := by
    change execSnapshotComplete t l true s = _
    unfold execSnapshotComplete
    refine at'_eq ((if_neg ?_).trans ?_)
    · have howed' : (s.setNow t).snapOwed l = true := (congrArg LeafRec.snapOwed (setNow_leaf s t l)).trans howed
      simp [howed', setNow_leaf, hgo, hwrites, hthermal, hrunning]
    · dsimp only
      rw [setSnap_setLeaf, setNow_leaf, hm]
      rfl
  have hleaf : m.leaf l = s.snapCompleted (s.leaf l) := by rw [hm, leaf_setLeaf]
  refine ⟨_, hexec, ?_, ?_, ?_, ?_, Frame.settle (t := t) ?_⟩
  · rw [State.snapOwed, settle_leaf, raiseO_leaf_snapOwed, hleaf]
    rfl
  · rw [settle_leaf, raiseO_leaf_snapGo, hleaf]
    rfl
  · rw [settle_leaf, raiseO_leaf_snapA, hleaf]
    exact modSnap_snapA _ _
  · rw [settle_leaf, raiseO_leaf_snapB, hleaf]
    exact modSnap_snapB _ _
  · have hset : Frame [.leafA, .leafB] (s.setNow t) m := hm ▸ Frame.setLeaf _ l _ (by
      rw [setNow_leaf]
      exact congrArg LogCopy.queue (modSnap_log _ _))
    exact (hset.mono (by decide)).trans ((Logs.raiseO _ _ _ _ _).frame_of_mem (by decide) (by decide))

/-- A snapshot whose read-back failed is left as it is. -/
theorem snapshotComplete_fails : ∃ n, exec (.snapshotComplete t l false) s = .next n ∧ Frame [] s n := by
  refine ⟨settle s (s.setNow t), ?_, (Frame.refl [] (s.setNow t)).settle⟩
  change execSnapshotComplete t l false s = _
  unfold execSnapshotComplete
  exact at'_eq (if_pos (by simp))

end

end Sys2Proof.Machine

namespace Sys2Proof.Machine

/-! ### CELL_MINMAX_CLEAR and BAL_NODE_RESUME (R387, R647) -/

theorem Frame.est (s : State) (x : Estim) : Frame [.estim] s { s with est := x } := by
  rintro ⟨⟩ hp <;> simp [Part.same] at hp ⊢

section
variable {t : Nat} {q : HReq} {s : State}

theorem cellMinmaxClear_effect (hlets : (s.setNow t).lets q 0x0501 Perm.overlay = true) (hlen : q.args.length = 4) (hlow : 1 ≤ arg q 2 2)
    (hhigh : arg q 0 2 + arg q 2 2 ≤ 16384) : ∃ n, exec (.cellMinmaxClear t q) s = .next n ∧
      n.est = { s.est with clears := s.est.clears ++ [(arg q 0 2, arg q 2 2)] } ∧ AnsweredOk (s.setNow t) n q 0x0501 [] ∧
      Frame (hostParts ++ [.estim]) s n := by
  obtain ⟨hexec, hans, hframe⟩ := command_answered (c := .cellMinmaxClear t q) rfl (lets_opens hlets) (taken_may_of_lets hlets)
    (by simp [hlen]) (if_neg (by omega)) (Frame.est _ _) (by decide) (taken_now (s.setNow t) q 3 0x0501)
  refine ⟨_, hexec, ?_, hans, hframe⟩
  rw [settle_est, answer_est, taken_est, setNow_est]

@[simp] theorem taken_nb (s : State) (q : HReq) (kind op r p : Nat) : (s.taken q kind op).nb r p = s.nb r p := by
  simp only [State.nb, taken_bal]

theorem nb_modNb (s : State) (r p : Nat) (f : NodeBal → NodeBal) : (s.modNb r p f).nb r p = f (s.nb r p) := kget_kmod_same _ _ _ _

theorem balNodeResume_effect (hlets : (s.setNow t).lets q 0x0801 Perm.overlay = true) (hlen : q.args.length = 4) (hring : arg q 0 1 < 16)
    (hlow : 1 ≤ arg q 1 1) (hhigh : arg q 1 1 ≤ s.cfg.nodeCount (arg q 0 1)) :
    ((s.nb (arg q 0 1) (arg q 1 1)).st = 4 → ∃ n, exec (.balNodeResume t q) s = .next n ∧
      n.nb (arg q 0 1) (arg q 1 1) = { s.nb (arg q 0 1) (arg q 1 1) with st := 3, suspTicks := secTicks 60, backTicks := none } ∧
      AnsweredOk (s.setNow t) n q 0x0801 [] ∧ Frame (hostParts ++ [.bal]) s n) ∧
    ((s.nb (arg q 0 1) (arg q 1 1)).st ≠ 4 → ∃ n, exec (.balNodeResume t q) s = .next n ∧ AnsweredOk (s.setNow t) n q 0x0801 [] ∧
      Frame hostParts s n) := by
  have hin : ¬(arg q 0 1 ≥ 16 ∨ arg q 1 1 = 0 ∨ arg q 1 1 > ((s.setNow t).taken q 3 0x0801).cfg.nodeCount (arg q 0 1)) := by
    rw [taken_cfg, setNow_cfg]
    omega
  have hnb : ((s.setNow t).taken q 3 0x0801).nb (arg q 0 1) (arg q 1 1) = s.nb (arg q 0 1) (arg q 1 1) := taken_nb _ _ _ _ _ _
  refine ⟨fun hlocked => ?_, fun hother => ?_⟩
  · obtain ⟨hexec, hans, hframe⟩ := command_answered (c := .balNodeResume t q) rfl (lets_opens hlets) (taken_may_of_lets hlets)
      (by simp [hlen]) ((if_neg hin).trans (if_neg (by rw [hnb, hlocked]; simp))) (Frame.bal _ _) (by decide) (taken_now (s.setNow t) q 3 0x0801)
    refine ⟨_, hexec, ?_, hans, hframe⟩
    rw [State.nb, settle_bal, answer_bal]
    exact (nb_modNb _ _ _ _).trans (by rw [hnb])
  · exact command_refused (c := .balNodeResume t q) rfl (lets_opens hlets) (taken_may_of_lets hlets) (by simp [hlen])
      ((if_neg hin).trans (if_pos (by rw [hnb]; exact hother)))

end

/-- Settles O58: each command by its rule; the recorder's events reach the log and the FIFOs alone, and count no media fault. -/
theorem recordsAndMarks : Obligations.RecordsAndMarks := by
  unfold Obligations.RecordsAndMarks
  intro t s
  refine ⟨fun l r rest lost hqueue hsupplied hfenced hfailed hdev hwrites => ⟨?_, ?_⟩, fun q m hlets hlen hm hwhere => ?_,
    fun q hlen hm halloc howner => ⟨fun hlets => ?_, fun l hlets hcopy hlow hhigh hl hrunning hfailed hfree => ?_⟩,
    readWindowHoldEnd_effect, fun code => tokenRefill_effect,
    fun l howed hgo hwrites hthermal hrunning => ⟨snapshotComplete_effect howed hgo hwrites hthermal hrunning, snapshotComplete_fails⟩,
    fun q hlen => ⟨fun hlets => cellMinmaxClear_effect hlets hlen, fun hlets => balNodeResume_effect hlets hlen⟩⟩
  · exact eventRecordWritten_puts lost hqueue hsupplied hfenced hfailed hdev hwrites
  · exact eventRecordWritten_spares lost hqueue hsupplied hfenced hfailed hdev hwrites
  · exact markAlloc_effect hlets hlen hm hwhere
  · exact setMark_effect (c := .markFree t q) rfl hlets (by simp [hlen])
      (markFree_frees hm (by rw [taken_mark]; exact halloc) (by rw [taken_mark]; exact howner))
  · subst hl
    exact markRead_effect hlets hlen hm hcopy hlow hhigh halloc howner hrunning hfailed hfree

end Sys2Proof.Machine

namespace Sys2Proof.Machine

/-! ### A close request finds its place in the queue (R464) -/

/-- The state with another queue of closes. -/
def State.withQueue (s : State) (x : List (Nat × Nat)) : State := { s with hasp := { s.hasp with queue := x } }

/-- The row of R464 that applies to a string looks at the queue for this string alone, and at no session. -/
theorem closeRow_congr {s n : State} {i : Nat} (hcfg : n.cfg = s.cfg) (haon : n.aon = s.aon) (hsleep : n.sleep.st = s.sleep.st)
    (hprot : n.prot = s.prot) (hpick : n.pick = s.pick) (hch : n.ch = s.ch) (hstrs : n.hasp.strs = s.hasp.strs)
    (hqueue : n.hasp.queue.any (fun e => e.1 == i) = s.hasp.queue.any (fun e => e.1 == i)) (parent queued : Bool) :
    n.closeRow i parent queued = s.closeRow i parent queued := by
  simp only [State.closeRow, State.hs, State.inRun, State.tripHolds, State.dbState, State.silentArmed, State.delivered, State.ring,
    hcfg, haon, hsleep, hprot, hpick, hch, hstrs, hqueue]
  rfl

theorem taken_closeRow (s : State) (q : HReq) (kind op i : Nat) (parent queued : Bool) :
    (s.taken q kind op).closeRow i parent queued = s.closeRow i parent queued :=
  closeRow_congr (taken_cfg ..) (taken_aon ..) rfl (taken_prot ..) (taken_pick ..) (taken_ch ..) (by rw [taken_hasp]) (by rw [taken_hasp])
    parent queued

theorem withQueue_closeRow {s : State} {x : List (Nat × Nat)} {i : Nat}
    (h : x.any (fun e => e.1 == i) = s.hasp.queue.any (fun e => e.1 == i)) (parent queued : Bool) :
    (s.withQueue x).closeRow i parent queued = s.closeRow i parent queued :=
  closeRow_congr (s := s) (n := s.withQueue x) rfl rfl rfl rfl rfl rfl rfl h parent queued

/-- A string that no row refuses does not stand in the queue yet. -/
theorem queue_any_of_closeRow {s : State} {i : Nat} {parent : Bool} (h : s.closeRow i parent false = none) :
    s.hasp.queue.any (fun e => e.1 == i) = false := by
  by_contra hin
  rw [Bool.not_eq_false] at hin
  unfold State.closeRow at h
  simp only [hin, Bool.not_false, and_self, or_true, if_true] at h
  split_ifs at h

/-- The state after close requests for several strings, one after another. -/
def State.closeEach (s : State) (parent : Bool) (l : List Nat) : State := s.each l (fun i s => (s.closeOne i parent).1)

theorem closeOne_queues {s : State} {i : Nat} {parent : Bool} (h : s.closeRow i parent false = none) :
    s.closeOne i parent = (s.withQueue (s.hasp.queue ++ [(i, s.time.now)]), St.ok) := by
  unfold State.closeOne
  rw [h]
  rfl

theorem closeOne_refuses {s : State} {i st : Nat} {parent : Bool} (h : s.closeRow i parent false = some st) :
    s.closeOne i parent = (s, st) := by
  unfold State.closeOne
  rw [h]

/-- A close request appends to the queue, or leaves the state. -/
theorem closeOne_appends (s : State) (i : Nat) (parent : Bool) : ∃ x, (s.closeOne i parent).1 = s.withQueue (s.hasp.queue ++ x) := by
  cases h : s.closeRow i parent false with
  | none => exact ⟨_, congrArg Prod.fst (closeOne_queues h)⟩
  | some st => exact ⟨[], by rw [closeOne_refuses h, List.append_nil]; rfl⟩

theorem closeEach_appends (s : State) (parent : Bool) (l : List Nat) : ∃ x, s.closeEach parent l = s.withQueue (s.hasp.queue ++ x) := by
  induction l generalizing s with
  | nil => exact ⟨[], by rw [List.append_nil]; rfl⟩
  | cons i r ih =>
    obtain ⟨x, hx⟩ := closeOne_appends s i parent
    obtain ⟨y, hy⟩ := ih (s.closeOne i parent).1
    refine ⟨x ++ y, hy.trans ?_⟩
    rw [hx, ← List.append_assoc]
    rfl

/-- What stands in the queue stays there under further close requests. -/
theorem closeEach_any {s : State} {i : Nat} (parent : Bool) (l : List Nat) (h : s.hasp.queue.any (fun e => e.1 == i) = true) :
    (s.closeEach parent l).hasp.queue.any (fun e => e.1 == i) = true := by
  obtain ⟨x, hx⟩ := closeEach_appends s parent l
  rw [hx]
  exact (List.any_append ..).trans (by rw [h, Bool.true_or])

/-- A string that no row refuses at first stands in the queue after the requests, whatever the strings before it did. -/
theorem closeEach_queues {s : State} {i : Nat} {parent : Bool} {l : List Nat} (hi : i ∈ l) (h : s.closeRow i parent false = none) :
    (s.closeEach parent l).hasp.queue.any (fun e => e.1 == i) = true := by
  induction l generalizing s with
  | nil => exact absurd hi (List.not_mem_nil)
  | cons j r ih =>
    change ((s.closeOne j parent).1.closeEach parent r).hasp.queue.any (fun e => e.1 == i) = true
    by_cases hji : j = i
    · subst hji
      rw [closeOne_queues h]
      exact closeEach_any parent r (by simp [State.withQueue])
    · refine ih ((List.mem_cons.mp hi).resolve_left (Ne.symm hji)) ?_
      cases hrow : s.closeRow j parent false with
      | none =>
        rw [closeOne_queues hrow]
        exact (withQueue_closeRow (by simp [hji]) parent false).trans h
      | some st =>
        rw [closeOne_refuses hrow]
        exact h

/-! STRING_CLOSE -/

/-- The fold of STRING_CLOSE, which gathers each string's answer besides, leaves the state of the requests one after another. -/
theorem stringClose_fold (s : State) (parent : Bool) (l : List Nat) (st : List Nat) :
    (l.foldl (fun (a : State × List Nat) i => let x := a.1.closeOne i parent; (x.1, a.2 ++ [x.2])) (s, st)).1 = s.closeEach parent l := by
  induction l generalizing s st with
  | nil => rfl
  | cons i r ih => exact ih _ _

theorem stringClose_one {s : State} {k : Nat} (parent : Bool) (hk : k < 64) : s.stringClose k parent = s.closeOne k parent := by
  have hnamed : s.named k = [k] := if_neg (by omega)
  unfold State.stringClose
  rw [if_neg (by omega), hnamed]
  cases h : s.closeRow k parent false with
  | none => simp [closeOne_queues h, State.withQueue]
  | some st => simp [closeOne_refuses h]

theorem stringClose_all {s : State} {i : Nat} {parent : Bool} (hi : i ∈ s.cfg.strings) (h : s.closeRow i parent false = none) :
    s.stringClose 0xFF parent = (s.closeEach parent s.cfg.strings, St.ok) := by
  have hgrown : (s.closeEach parent s.cfg.strings).hasp.queue.length > s.hasp.queue.length := by
    obtain ⟨x, hx⟩ := closeEach_appends s parent s.cfg.strings
    have hin := closeEach_queues hi h
    rw [hx] at hin ⊢
    change (s.hasp.queue ++ x).any _ = true at hin
    change (s.hasp.queue ++ x).length > _
    rw [List.any_append, queue_any_of_closeRow h, Bool.false_or] at hin
    have hx : x ≠ [] := fun he => by simp [he] at hin
    rw [List.length_append]
    have := List.length_pos_iff.mpr hx
    omega
  unfold State.stringClose State.named
  rw [if_neg (by omega), if_pos rfl]
  dsimp only
  rw [stringClose_fold, if_pos hgrown]

/-- The rule of STRING_CLOSE, from what the request makes of the queue. -/
theorem stringClose_rule {s m : State} {k st : Nat} {parent : Bool} (h : s.stringClose k parent = (m, st)) :
    (let r := s.stringClose k parent; r.1.ans r.2) = (m, some (st, [])) := by
  rw [h]
  rfl

section
variable {t : Nat} {q : HReq} {s : State}

theorem withQueue_frame (s : State) (x : List (Nat × Nat)) : Frame [.hasp] s (s.withQueue x) := Frame.hasp s _

theorem stringClose_queues (hlets : (s.setNow t).lets q 0x0B01 Perm.strings = true) (hlen : q.args.length = 4) (hk : arg q 0 1 < 64)
    (hrow : (s.setNow t).closeRow (arg q 0 1) false false = none) : ∃ n, exec (.stringClose t q) s = .next n ∧
      n.hasp = { s.hasp with queue := s.hasp.queue ++ [(arg q 0 1, (s.setNow t).time.now)] } ∧ AnsweredOk (s.setNow t) n q 0x0B01 [] ∧
      Frame (hostParts ++ [.hasp]) s n := by
  have hrule := (stringClose_one false hk).trans (closeOne_queues ((taken_closeRow (s.setNow t) q 3 0x0B01 _ _ _).trans hrow))
  obtain ⟨hexec, hans, hframe⟩ := command_answered (c := .stringClose t q) rfl (lets_opens hlets) (taken_may_of_lets hlets)
    (by simp [hlen]) (stringClose_rule hrule) (withQueue_frame _ _) (by decide) (taken_now (s.setNow t) q 3 0x0B01)
  refine ⟨_, hexec, ?_, hans, hframe⟩
  rw [settle_hasp, answer_hasp]
  simp only [State.withQueue, taken_hasp, taken_time, setNow_hasp]

theorem stringClose_refused {st : Nat} (hlets : (s.setNow t).lets q 0x0B01 Perm.strings = true) (hlen : q.args.length = 4)
    (hk : arg q 0 1 < 64) (hrow : (s.setNow t).closeRow (arg q 0 1) false false = some st) : ∃ n, exec (.stringClose t q) s = .next n ∧
      Answered (s.setNow t) n q 3 0x0B01 st [] ∧ Frame hostParts s n := by
  have hrule := (stringClose_one false hk).trans (closeOne_refuses ((taken_closeRow (s.setNow t) q 3 0x0B01 _ _ _).trans hrow))
  exact command_refused (c := .stringClose t q) rfl (lets_opens hlets) (taken_may_of_lets hlets) (by simp [hlen])
    (stringClose_rule hrule)

theorem stringClose_queuesAll (hlets : (s.setNow t).lets q 0x0B01 Perm.strings = true) (hlen : q.args.length = 4) (hk : arg q 0 1 = 0xFF)
    (hsome : ∃ i ∈ s.cfg.strings, (s.setNow t).closeRow i false false = none) : ∃ n, exec (.stringClose t q) s = .next n ∧
      AnsweredOk (s.setNow t) n q 0x0B01 [] ∧
      (∀ i ∈ s.cfg.strings, (s.setNow t).closeRow i false false = none → n.hasp.queue.any (fun e => e.1 == i) = true) ∧
      n.hasp.strs = s.hasp.strs ∧ Frame (hostParts ++ [.hasp]) s n := by
  obtain ⟨u, hu⟩ : ∃ u, u = (s.setNow t).taken q 3 0x0B01 := ⟨_, rfl⟩
  have hstrings : u.cfg.strings = s.cfg.strings := by rw [hu, taken_cfg, setNow_cfg]
  have hrow : ∀ i, u.closeRow i false false = (s.setNow t).closeRow i false false := fun i => hu ▸ taken_closeRow ..
  obtain ⟨i, hi, hnone⟩ := hsome
  have hrule : u.stringClose (arg q 0 1) false = (u.closeEach false u.cfg.strings, St.ok) := by
    rw [hk]
    exact stringClose_all (hstrings.symm ▸ hi) ((hrow i).trans hnone)
  obtain ⟨m, hm⟩ : ∃ m, m = u.closeEach false u.cfg.strings := ⟨_, rfl⟩
  obtain ⟨x, hx⟩ := closeEach_appends u false u.cfg.strings
  rw [← hm] at hrule hx
  rw [hu] at hrule
  obtain ⟨hexec, hans, hframe⟩ := command_answered (c := .stringClose t q) (m := m) rfl (lets_opens hlets) (taken_may_of_lets hlets)
    (by simp [hlen]) (stringClose_rule hrule) (by rw [hx, ← hu]; exact withQueue_frame u _) (by decide)
    (by rw [hx, hu]; exact taken_now (s.setNow t) q 3 0x0B01)
  refine ⟨_, hexec, hans, fun j hj hopen => ?_, ?_, hframe⟩
  · rw [settle_hasp, answer_hasp, hm]
    exact closeEach_queues (hstrings.symm ▸ hj) ((hrow j).trans hopen)
  · rw [settle_hasp, answer_hasp, hx, hu]
    exact (congrArg Hasp.strs ((taken_hasp (s.setNow t) q 3 0x0B01).trans (setNow_hasp s t)) :)

end

end Sys2Proof.Machine

namespace Sys2Proof.Machine

/-! ### STRING_OPEN and STRING_UNLOCK (R466, R483) -/

theorem hs_modHs_other (s : State) {i k : Nat} (u : HaspStr → HaspStr) (h : k ≠ i) : (s.modHs i u).hs k = s.hs k :=
  kget_kset_other _ _ _ _ _ h

theorem hs_of_hasp {s n : State} (h : n.hasp = s.hasp) (i : Nat) : n.hs i = s.hs i := congrArg (fun x : Hasp => kget ({} : HaspStr) x.strs i) h

/-- What STRING_OPEN does for one string: its queued close goes, an opening is asked for. -/
def State.openAsked (s : State) (i : Nat) (em : Bool) : State :=
  { s.unqueue i 0x0A with hasp := { (s.unqueue i 0x0A).hasp with reqs := (s.unqueue i 0x0A).hasp.reqs ++ [(i, em)] } }

theorem unqueue_queued {s : State} {i : Nat} (reason : Nat) (h : s.hasp.queue.any (fun e => e.1 == i) = true) : s.unqueue i reason =
    ((s.withQueue (s.hasp.queue.filter (fun e => e.1 != i))).modHs i (fun x => { x with reason := reason })).ev Ev.closeAborted i
      [p1 reason] := if_pos h

theorem unqueue_absent {s : State} {i : Nat} (reason : Nat) (h : s.hasp.queue.any (fun e => e.1 == i) = false) : s.unqueue i reason = s :=
  if_neg (by simp [h])

/-- A string's queued close goes: the queue loses its entries, and no string changes its state. -/
theorem unqueue_effect (s : State) (i reason : Nat) : (s.unqueue i reason).hasp.reqs = s.hasp.reqs ∧
    (s.unqueue i reason).hasp.queue = s.hasp.queue.filter (fun e => e.1 != i) ∧ (∀ k, ((s.unqueue i reason).hs k).st = (s.hs k).st) ∧
    (s.unqueue i reason).time = s.time ∧ Frame [.hasp, .log, .fifos] s (s.unqueue i reason) := by
  cases h : s.hasp.queue.any (fun e => e.1 == i) with
  | true =>
    rw [unqueue_queued reason h, ev_hasp, ev_time]
    refine ⟨rfl, rfl, fun k => ?_, rfl, ?_⟩
    · rw [hs_of_hasp (ev_hasp _ _ _ _)]
      by_cases hk : k = i
      · rw [hk, hs_modHs_same]
        rfl
      · rw [hs_modHs_other _ _ hk]
        rfl
    · exact ((Frame.hasp s _).mono (by decide)).trans ((Logs.ev _ _ _ _).frame_of_mem (by decide) (by decide))
  | false =>
    rw [unqueue_absent reason h]
    refine ⟨rfl, (List.filter_eq_self.mpr fun e he => ?_).symm, fun _ => rfl, rfl, Frame.refl _ s⟩
    simpa using List.any_eq_false.mp h e he

/-- What STRING_OPEN does string by string. -/
theorem openEach_effect (em : Bool) (l : List Nat) (s : State) :
    (s.each l (fun i s => s.openAsked i em)).hasp.reqs = s.hasp.reqs ++ l.map (fun i => (i, em)) ∧
    (s.each l (fun i s => s.openAsked i em)).hasp.queue = s.hasp.queue.filter (fun e => decide (e.1 ∉ l)) ∧
    (∀ k, ((s.each l (fun i s => s.openAsked i em)).hs k).st = (s.hs k).st) ∧
    (s.each l (fun i s => s.openAsked i em)).time = s.time ∧ Frame [.hasp, .log, .fifos] s (s.each l (fun i s => s.openAsked i em)) := by
  induction l generalizing s with
  | nil => exact ⟨(List.append_nil _).symm, (List.filter_eq_self.mpr (by simp)).symm, fun _ => rfl, rfl, Frame.refl _ s⟩
  | cons i r ih =>
    obtain ⟨hreqs, hqueue, hst, htime, hframe⟩ := unqueue_effect s i 0x0A
    obtain ⟨hreqs', hqueue', hst', htime', hframe'⟩ := ih (s.openAsked i em)
    refine ⟨hreqs'.trans ?_, hqueue'.trans ?_, fun k => (hst' k).trans (hst k), htime'.trans htime,
      (hframe.trans ((Frame.hasp _ _).mono (by decide))).trans hframe'⟩
    · change (s.unqueue i 0x0A).hasp.reqs ++ [(i, em)] ++ _ = _
      rw [hreqs, List.append_assoc]
      rfl
    · change (s.unqueue i 0x0A).hasp.queue.filter _ = _
      rw [hqueue, List.filter_filter]
      refine List.filter_congr fun e _ => ?_
      simp [bne, beq_eq_decide, Bool.and_comm]

theorem stringOpen_eq (s : State) (k : Nat) (em : Bool) : s.stringOpen k em = s.each (s.named k) (fun i s => s.openAsked i em) := rfl

/-- A contactor record whose unlock waits for the test of the next sweep. -/
def HaspStr.unlocking (x : HaspStr) (sess tag : Nat) : HaspStr := { x with unlock := some (sess, tag), step := 11 }

theorem stringUnlock_waits {s : State} {q : HReq} (hk : arg q 0 1 < 64) (hst : (s.hs (arg q 0 1)).st = 6)
    (hfree : (s.hs (arg q 0 1)).unlock = none) : s.stringUnlock q = (s.modHs (arg q 0 1) (·.unlocking q.sess q.tag)).later := by
  unfold State.stringUnlock
  exact (if_neg (by omega)).trans (if_neg (by simp [hst, hfree]))

theorem modHs_frame (s : State) (i : Nat) (u : HaspStr → HaspStr) : Frame [.hasp] s (s.modHs i u) := Frame.hasp s _

section
variable {t : Nat} {q : HReq} {s : State}

theorem stringOpen_effect (hlets : (s.setNow t).lets q 0x0B02 Perm.strings = true) (hlen : q.args.length = 4)
    (hk : arg q 0 1 < 64 ∨ arg q 0 1 = 0xFF) : ∃ n, exec (.stringOpen t q) s = .next n ∧
      n.hasp.reqs = s.hasp.reqs ++ ((s.named (arg q 0 1)).map (fun i => (i, bit (arg q 1 1) 0))) ∧
      (∀ i ∈ s.named (arg q 0 1), n.hasp.queue.any (fun e => e.1 == i) = false) ∧ (∀ i, (n.hs i).st = (s.hs i).st) ∧
      AnsweredOk (s.setNow t) n q 0x0B02 [] ∧ Frame (hostParts ++ [.hasp, .log, .fifos]) s n := by
  obtain ⟨u, hu⟩ : ∃ u, u = (s.setNow t).taken q 3 0x0B02 := ⟨_, rfl⟩
  have hhasp : u.hasp = s.hasp := by rw [hu, taken_hasp, setNow_hasp]
  have hnamed : u.named (arg q 0 1) = s.named (arg q 0 1) := by rw [State.named, State.named, hu, taken_cfg, setNow_cfg]
  obtain ⟨hreqs, hqueue, hst, htime, hparts⟩ := openEach_effect (bit (arg q 1 1) 0) (u.named (arg q 0 1)) u
  rw [← stringOpen_eq] at hreqs hqueue hst htime hparts
  have hrule : (if arg q 0 1 ≥ 64 ∧ arg q 0 1 ≠ 0xFF then u.ans St.bounds
      else (u.stringOpen (arg q 0 1) (bit (arg q 1 1) 0)).ans St.ok) = (u.stringOpen (arg q 0 1) (bit (arg q 1 1) 0), some (St.ok, [])) :=
    if_neg (by omega)
  obtain ⟨hexec, hans, hframe⟩ := command_answered (c := .stringOpen t q) rfl (lets_opens hlets) (taken_may_of_lets hlets)
    (by simp [hlen]) (hu ▸ hrule) (hu ▸ hparts) (by decide) (by rw [← hu, htime, hu]; exact taken_now _ q 3 0x0B02)
  refine ⟨_, hexec, ?_, fun i hi => ?_, fun i => ?_, hans, hframe⟩
  · rw [settle_hasp, answer_hasp, ← hu, hreqs, hhasp, hnamed]
  · rw [settle_hasp, answer_hasp, ← hu, hqueue, List.any_eq_false]
    intro e he heq
    refine of_decide_eq_true (List.mem_filter.mp he).2 ?_
    rw [hnamed, eq_of_beq heq]
    exact hi
  · rw [hs_of_hasp ((settle_hasp _ _).trans (answer_hasp _ _ _ _ _)), ← hu, hst, hs_of_hasp hhasp]

theorem stringUnlock_effect (hlets : (s.setNow t).lets q 0x0B03 Perm.strings = true) (hmay : (s.setNow t).may q.sess Perm.clear = true)
    (hlen : q.args.length = 4) (hk : arg q 0 1 < 64) (hst : (s.hs (arg q 0 1)).st = 6) (hfree : (s.hs (arg q 0 1)).unlock = none) :
    ∃ n, exec (.stringUnlock t q) s = .next n ∧
      n.hs (arg q 0 1) = { s.hs (arg q 0 1) with unlock := some (q.sess, q.tag), step := 11 } ∧ (∀ i, i ≠ arg q 0 1 → n.hs i = s.hs i) ∧
      Waits n q 3 0x0B03 ∧ Frame (hostParts ++ [.hasp]) s n := by
  have hhs : ∀ i, ((s.setNow t).taken q 3 0x0B03).hs i = s.hs i := fun i => taken_hs ..
  obtain ⟨hexec, hwaits, hframe⟩ := command_waits (c := .stringUnlock t q) rfl (lets_opens hlets)
    (Bool.and_eq_true_iff.mpr ⟨taken_may_of_lets hlets, (taken_may ..).trans hmay⟩) (by simp [hlen])
    (stringUnlock_waits hk (by rw [hhs]; exact hst) (by rw [hhs]; exact hfree)) (modHs_frame _ _ _) (by decide)
  refine ⟨_, hexec, ?_, fun i hi => ?_, hwaits, hframe⟩
  · rw [hs_of_hasp (settle_hasp _ _), hs_modHs_same, hhs]
    rfl
  · rw [hs_of_hasp (settle_hasp _ _), hs_modHs_other _ _ hi, hhs]

end

end Sys2Proof.Machine

namespace Sys2Proof.Machine

/-! ### WELD_RETEST (R477, R482) -/

/-- A contactor record but for the openings that it counts. -/
def HaspStr.uncounted (x : HaspStr) : HaspStr := { x with opensPos := 0, loadPos := 0, opensNeg := 0, loadNeg := 0, iLast := 0, iMax := 0 }

/-- Work that counts openings of one string, whose unit for MRAM may fence a leaf. -/
structure Counts (i : Nat) (s n : State) : Prop where
  here : (n.hs i).uncounted = (s.hs i).uncounted
  others : ∀ k, k ≠ i → n.hs k = s.hs k
  time : n.time = s.time
  frame : Frame (fenceParts ++ [.hasp, .thermal]) s n

theorem Counts.refl (i : Nat) (s : State) : Counts i s s := ⟨rfl, fun _ _ => rfl, rfl, Frame.refl _ s⟩

theorem Counts.trans {i : Nat} {s t n : State} (h : Counts i s t) (k : Counts i t n) : Counts i s n :=
  ⟨k.here.trans h.here, fun j hj => (k.others j hj).trans (h.others j hj), k.time.trans h.time, h.frame.trans k.frame⟩

theorem Counts.when {i : Nat} {u : State → State} (s : State) (b : Bool) (h : ∀ s, Counts i s (u s)) : Counts i s (s.when b u) := by
  cases b
  · exact Counts.refl i s
  · exact h s

theorem ite_time {s t n : State} (c : Prop) [Decidable c] (h : t.time = s.time) (k : n.time = s.time) : (if c then t else n).time = s.time := by
  split
  · exact h
  · exact k

theorem each_time {α : Type} {u : α → State → State} (h : ∀ x s, (u x s).time = s.time) (l : List α) (s : State) :
    (s.each l u).time = s.time := by
  induction l generalizing s with
  | nil => rfl
  | cons x r ih => exact (ih (u x s)).trans (h x s)

theorem refuseUnits_time (s : State) (l : Leaf) (k : Nat) : (s.refuseUnits l k).time = s.time := ite_time _ rfl rfl

theorem mramPut_opens_time (s : State) (i : Nat) (x : Opens) : (s.mramPut (.opens i x)).time = s.time := by
  have hfence : ∀ l cause, (s.fence l cause).time = s.time := fun l cause => (Ends.fence s l cause).time
  unfold State.mramPut
  refine (each_time (fun l t => ?_) _ _).trans ?_
  · refine ite_time _ rfl (ite_time _ (Logs.evA _ _ _ _).time ((refuseUnits_time _ l 1).trans (Ends.modLeaf t l _).time))
  · exact ite_time _ (ite_time _ (hfence _ _) (ite_time _ (hfence _ _) (ite_time _ (hfence _ _) rfl))) rfl

/-- The record of a string with one opening of a main contactor more. -/
def State.openCounted (s : State) (i : Nat) (pos : Bool) : HaspStr :=
  let x := s.hs i
  let h := b2n (s.heavy i)
  let x := if pos then { x with opensPos := satAdd 32 x.opensPos 1, loadPos := satAdd 32 x.loadPos h }
    else { x with opensNeg := satAdd 32 x.opensNeg 1, loadNeg := satAdd 32 x.loadNeg h }
  { x with iLast := s.iProt i, iMax := max x.iMax (s.iProt i).natAbs }

theorem Counts.countOpen (s : State) (i : Nat) (pos : Bool) : Counts i s (s.countOpen i pos) := by
  obtain ⟨u, hu⟩ : ∃ u, u = s.modHs i (fun _ => s.openCounted i pos) := ⟨_, rfl⟩
  have hcount : s.countOpen i pos = u.opensPut i := hu ▸ rfl
  have hput : Stores u (u.opensPut i) := Stores.mramPut u fun _ _ h => nomatch h
  have hhasp : (u.opensPut i).hasp = u.hasp := hput.frame .hasp (by decide)
  rw [hcount]
  refine ⟨?_, fun k hk => ?_, (mramPut_opens_time u i _).trans (hu ▸ rfl), ?_⟩
  · rw [hs_of_hasp hhasp, hu, hs_modHs_same]
    cases pos <;> rfl
  · rw [hs_of_hasp hhasp, hu, hs_modHs_other _ _ hk]
  · exact (hu ▸ (modHs_frame s i _).mono (by decide)).trans (hput.frame.mono (by decide))

/-! The command on its way to the contactors -/

/-- The parts that a command to contactors reaches on its way: the channels of the power die, or the rings. -/
abbrev driveParts : List Part := ringParts ++ [.power]

theorem Frame.power (s : State) (x : Power) : Frame [.power] s { s with power := x } := by
  rintro ⟨⟩ hp <;> simp [Part.same] at hp ⊢

theorem chanFollow_frame (s : State) (k : Nat) : Frame [.power] s (s.chanFollow k) := by
  unfold State.chanFollow
  exact Frame.ite _ (Frame.refl _ s) (Frame.ite _ (Frame.power s _) (Frame.power s _))

theorem chanSet_frame (s : State) (k : Nat) (on : Bool) : Frame driveParts s (s.chanSet k on) :=
  Frame.ite _ (((Frame.power s _).trans (chanFollow_frame _ k)).mono (by decide)) (Frame.refl _ s)

theorem sendAct_frame (s : State) (i code : Nat) (em : Bool) : Frame driveParts s (s.sendAct i code em) := by
  have hrequest : ∀ (s : State) r e p x, Frame driveParts s (s.request' r e p x) := fun s r e p x =>
    (Asks.request' s r e p x).frame.mono (by decide)
  unfold State.sendAct
  split
  · exact Frame.refl _ s
  next r p _ =>
    refine Frame.ite _ (Frame.refl _ s) (((Frame.ch s { s.ch with actTok := s.ch.actTok + 1 }).mono (by decide)).trans ?_)
    exact Frame.ite _ (Frame.each (fun e s => hrequest s r e p _) _ _) (hrequest _ r _ p _)

/-- A contactor's channel is set where its command asks for it. -/
theorem putChan_frame (s : State) (o : Option Bool) (k : Nat) :
    Frame driveParts s (match o with | some b => s.chanSet k b | none => s) := by
  cases o with
  | none => exact Frame.refl _ s
  | some b => exact chanSet_frame s k b

/-- A contactor's ACT_CMD is sent where its command asks for it. -/
theorem putAct_frame (s : State) (i : Nat) (o : Option Bool) (close opens : Nat) (em : Bool) :
    Frame driveParts s (match o with | some true => s.sendAct i close em | some false => s.sendAct i opens em | none => s) := by
  cases o with
  | none => exact Frame.refl _ s
  | some b => cases b <;> exact sendAct_frame s i _ em

/-- The state in which the openings that a command asks for are counted. -/
def State.driveCounted (s : State) (i : Nat) (d : Drive) : State :=
  (s.when (d.pos == some false && (s.hs i).cmdPos) (fun s => s.countOpen i true)).when
    (d.neg == some false && (s.hs i).cmdNeg) (fun s => s.countOpen i false)

/-- A contactor record with a command noted. -/
def HaspStr.commanded (x : HaspStr) (d : Drive) (now time : Nat) : HaspStr :=
  { x with cmdPos := d.pos.getD x.cmdPos, cmdNeg := d.neg.getD x.cmdNeg, cmdPc := d.pc.getD x.cmdPc, cmdNow := now, stepTime := time }

/-- The state in which a command to contactors is noted, before it is on its way. -/
def State.driveNoted (s : State) (i : Nat) (d : Drive) : State :=
  (s.driveCounted i d).modHs i (·.commanded d (s.driveCounted i d).time.now (s.driveCounted i d).devTime)

theorem driveCounted_counts (s : State) (i : Nat) (d : Drive) : Counts i s (s.driveCounted i d) :=
  (Counts.when s _ fun s => Counts.countOpen s i true).trans (Counts.when _ _ fun s => Counts.countOpen s i false)

/-- With an ACTIVE leaf, a command is noted, then goes to the channels or the string's node. -/
theorem drive_frame {s : State} (i : Nat) (d : Drive) (em : Bool) (hactive : s.kn.active ≠ none) :
    Frame driveParts (s.driveNoted i d) (s.drive i d em) := by
  unfold State.drive
  rw [if_neg (by simpa using hactive)]
  change Frame driveParts (s.driveNoted i d) (if _ then _ else if _ then _ else _)
  refine Frame.ite _ ?_ (Frame.ite _ (sendAct_frame _ i 0 em) ?_)
  · exact ((putChan_frame _ d.pos _).trans (putChan_frame _ d.neg _)).trans (putChan_frame _ d.pc _)
  · exact ((putAct_frame _ i d.neg 1 6 em).trans (putAct_frame _ i d.pos 3 5 em)).trans (putAct_frame _ i d.pc 2 4 em)

/-- A command with an ACTIVE leaf is noted in its string's record alone. -/
theorem drive_effect {s : State} (i : Nat) (d : Drive) (em : Bool) (hactive : s.kn.active ≠ none) :
    ((s.drive i d em).hs i).uncounted = ((s.hs i).commanded d s.time.now s.devTime).uncounted ∧
      (∀ k, k ≠ i → (s.drive i d em).hs k = s.hs k) ∧ Frame (fenceParts ++ [.hasp, .thermal]) s (s.drive i d em) := by
  have hcounts := driveCounted_counts s i d
  have hway := drive_frame i d em hactive
  have hhs : ∀ k, (s.drive i d em).hs k = (s.driveNoted i d).hs k := hs_of_hasp (hway .hasp (by decide))
  refine ⟨?_, fun k hk => ?_, (hcounts.frame.trans ((modHs_frame _ i _).mono (by decide))).trans (hway.mono (by decide))⟩
  · rw [hhs, State.driveNoted, hs_modHs_same, hcounts.time, State.devTime, hcounts.time]
    exact congrArg (fun x : HaspStr => x.commanded d s.time.now s.devTime) hcounts.here
  · rw [hhs, State.driveNoted, hs_modHs_other _ _ hk, hcounts.others k hk]

section
variable {t i : Nat} {s : State}

theorem weldRetest_idle (hactive : s.kn.active = none) : ∃ n, exec (.weldRetest t i) s = .next n ∧ Frame [] s n := by
  refine ⟨settle s (s.setNow t), ?_, (Frame.refl [] _).settle⟩
  change execWeldRetest t i s = _
  unfold execWeldRetest
  exact at'_eq (if_neg (by simp [hactive]))

/-- The EMERGENCY opening is commanded again, and a weld test with it. -/
theorem weldRetest_effect (hactive : s.kn.active ≠ none) (hst : (s.hs i).st = 5) (htesting : (s.hs i).testing = false)
    (hdue : (s.hs i).cmdNow + 1000000000 ≤ (s.setNow t).time.now) :
    ∃ n, exec (.weldRetest t i) s = .next n ∧ (n.hs i).testing = true ∧ (n.hs i).cmdNow = (s.setNow t).time.now ∧ (n.hs i).st = 5 ∧
      (n.hs i).cmdPos = false ∧ (n.hs i).cmdNeg = false ∧ (n.hs i).cmdPc = false ∧ (∀ k, k ≠ i → n.hs k = s.hs k) ∧
      Frame (fenceParts ++ [.hasp, .thermal]) s n := by
  obtain ⟨u, hu⟩ : ∃ u, u = (s.setNow t).modHs i (fun x => { x with testing := true }) := ⟨_, rfl⟩
  have hexec : exec (.weldRetest t i) s = .next (settle s (u.drive i Drive.allOpen true)) := by
    change execWeldRetest t i s = _
    unfold execWeldRetest
    have hhs : (s.setNow t).hs i = s.hs i := rfl
    refine at'_eq ((if_pos ?_).trans (hu ▸ rfl))
    rw [hhs, hst, htesting]
    exact ⟨Option.isSome_iff_ne_none.mpr hactive, rfl, rfl, hdue⟩
  obtain ⟨hhere, hothers, hframe⟩ := drive_effect (s := u) i Drive.allOpen true (hu ▸ hactive)
  have hrecord : (u.hs i) = { s.hs i with testing := true } := by rw [hu, hs_modHs_same]; rfl
  rw [hrecord] at hhere
  have hhs : ∀ k, (settle s (u.drive i Drive.allOpen true)).hs k = (u.drive i Drive.allOpen true).hs k := hs_of_hasp (settle_hasp _ _)
  refine ⟨_, hexec, ?_⟩
  simp only [hhs]
  refine ⟨(congrArg HaspStr.testing hhere :), (congrArg HaspStr.cmdNow hhere).trans (hu ▸ rfl), (congrArg HaspStr.st hhere).trans hst,
    (congrArg HaspStr.cmdPos hhere :), (congrArg HaspStr.cmdNeg hhere :), (congrArg HaspStr.cmdPc hhere :),
    fun k hk => ?_, Frame.settle (t := t) ?_⟩
  · rw [hothers k hk, hu, hs_modHs_other _ _ hk]
    rfl
  · exact (hu ▸ (modHs_frame (s.setNow t) i _).mono (by decide) : Frame _ (s.setNow t) u).trans hframe

end

/-- Settles O49: each command of a host by its rule, WELD_RETEST by what a command to contactors notes. -/
theorem contactorCommands : Obligations.ContactorCommands := by
  unfold Obligations.ContactorCommands
  intro t s
  refine ⟨fun q hlen => ⟨fun hlets => ⟨?_, fun st => ?_, ?_⟩, ?_, ?_⟩, fun i => weldRetest_idle, fun i => weldRetest_effect⟩
  · exact stringClose_queues hlets hlen
  · exact stringClose_refused hlets hlen
  · exact stringClose_queuesAll hlets hlen
  · exact fun hlets => stringOpen_effect hlets hlen
  · exact fun hlets hmay => stringUnlock_effect hlets hmay hlen

end Sys2Proof.Machine

namespace Sys2Proof.Machine

/-! ### An ACTIVE leaf through a fence (R548, R558) -/

/-- An ACTIVE leaf has an ACTIVE leaf after it. -/
def Serves (s n : State) : Prop := s.kn.active.isSome = true → n.kn.active.isSome = true

theorem Serves.refl (s : State) : Serves s s := id

theorem Serves.trans {s t n : State} (h : Serves s t) (k : Serves t n) : Serves s n := k ∘ h

theorem Serves.ite {s t n : State} (c : Prop) [Decidable c] (h : Serves s t) (k : Serves s n) : Serves s (if c then t else n) := by
  split
  · exact h
  · exact k

theorem Serves.of_active {s n : State} (h : n.kn.active = s.kn.active) : Serves s n := fun hs => h ▸ hs

theorem Serves.of_calm {s n : State} (h : Calm s n) : Serves s n := Serves.of_active h.active

theorem Serves.setLeaf (s : State) (l : Leaf) (x : LeafRec) : Serves s (s.setLeaf l x) := Serves.of_active (by rw [setLeaf_kn])

theorem Serves.survivor (s : State) (l : Leaf) : Serves s (s.survivor l) := by
  unfold State.survivor
  refine Serves.ite _ ?_ (Serves.ite _ (Serves.setLeaf s _ _) (Serves.refl s))
  exact (Serves.setLeaf s l.other _).trans (Serves.of_active rfl)

/-- A leaf that takes over is ACTIVE. -/
theorem Serves.failover (s : State) (l : Leaf) : Serves s (s.failover l) := by
  unfold State.failover
  refine (Serves.survivor s l).trans (Serves.ite _ (fun _ => ?_) (Serves.refl _))
  rw [(Logs.evA _ _ _ _).kn, (Calm.canFollow _).active, (Calm.fifosOver _).active, (Calm.nextBlocks _).active]
  rfl

theorem Serves.rejoinFail (s : State) (l : Leaf) : Serves s (s.rejoinFail l) := by
  unfold State.rejoinFail
  refine Serves.trans ?_ (Serves.of_calm (Calm.of_logs (Logs.evAon _ _ _ _)))
  exact (Serves.setLeaf s l _).trans (Serves.of_active rfl)

/-- An ACTIVE leaf has an ACTIVE leaf after it, or SAFE is entered. -/
def ServesOrSafe (s n : State) : Prop := Serves s n ∨ n.aon.dev = .safe

theorem Serves.orSafe {s t n : State} (h : Serves s t) (k : ServesOrSafe t n) : ServesOrSafe s n := k.imp_left h.trans

theorem enterSafe_servesOrSafe (s : State) : ServesOrSafe s s.enterSafe := by
  unfold State.enterSafe
  split
  · exact .inl (Serves.refl s)
  · exact .inr rfl

theorem fence_servesOrSafe (s : State) (l : Leaf) (cause : Nat) : ServesOrSafe s (s.fence l cause) := by
  have hend : ∀ t : State, ServesOrSafe t (if !t.running l.other then
      (if (t.leaf l.other).st = .rejoining ∨ (t.leaf l.other).st = .resyncing then
        t.setLeaf l.other { t.leaf l.other with st := .fenced, rejoin := 0 } else t).enterSafe
      else t.canFollow) := fun t => by
    split
    · exact Serves.orSafe (Serves.ite _ (Serves.setLeaf t _ _) (Serves.refl t)) (enterSafe_servesOrSafe _)
    · exact .inl (Serves.of_calm (Calm.canFollow t))
  unfold State.fence
  split
  · exact .inl (Serves.refl s)
  split
  · exact .inl (Serves.rejoinFail s l)
  refine Serves.orSafe ?_ (hend _)
  refine Serves.trans ?_ (Serves.of_calm (Calm.pickDisarm _ 5))
  refine Serves.trans ?_ (Serves.ite _ (Serves.of_calm (Calm.applyAbandon _ _)) (Serves.refl _))
  refine Serves.trans ?_ (Serves.of_calm ((Calm.knuckleCancel _).trans (Calm.stageAbandon _ 4)))
  refine Serves.trans ?_ (Serves.ite _ (Serves.failover _ l) (Serves.refl _))
  refine Serves.trans ?_ (Serves.of_calm (((Calm.snapCut _ l).trans (Calm.of_logs (Logs.evAon _ _ _ _))).trans (Calm.fenceRings _ l)))
  exact Serves.setLeaf s l _

end Sys2Proof.Machine

namespace Sys2Proof.Machine

/-! ### A device that leases goes on leasing (R491, R493) -/

/-- A device that leases leases after it. -/
def Leases (s n : State) : Prop := s.leasing = true → n.leasing = true

theorem Leases.refl (s : State) : Leases s s := id

theorem Leases.trans {s t n : State} (h : Leases s t) (k : Leases t n) : Leases s n := k ∘ h

theorem Leases.ite {s t n : State} (c : Prop) [Decidable c] (h : Leases s t) (k : Leases s n) : Leases s (if c then t else n) := by
  split
  · exact h
  · exact k

theorem leasing_iff (s : State) : s.leasing = true ↔
    s.sweeping = true ∧ s.aon.unkeyed = false ∧ s.kn.active.isSome = true ∧ s.sw.everValidated = true := by
  simp [State.leasing, and_assoc]

theorem Leases.of_serves {s n : State} (haon : { n.aon with ready := false, faultN := false } = { s.aon with ready := false, faultN := false })
    (hactive : Serves s n) (hsw : n.sw.everValidated = s.sw.everValidated) : Leases s n := by
  have hdev : n.aon.dev = s.aon.dev := (congrArg Aon.dev haon :)
  have hkeyed : n.aon.unkeyed = s.aon.unkeyed := (congrArg Aon.unkeyed haon :)
  intro hs
  obtain ⟨hsweep, hkey, hleaf, hvalid⟩ := (leasing_iff s).mp hs
  rw [State.sweeping, ← hdev] at hsweep
  exact (leasing_iff n).mpr ⟨hsweep, hkeyed.trans hkey, hactive hleaf, hsw.trans hvalid⟩

theorem Leases.of_frame {ps : List Part} {s n : State} (h : Frame ps s n) (haon : .aon ∉ ps) (hkn : .knuckle ∉ ps) (hsw : .sweep ∉ ps) :
    Leases s n :=
  Leases.of_serves (h .aon haon) (Serves.of_active (congrArg Knuckle.active (h .knuckle hkn))) (congrArg Sweep.everValidated (h .sweep hsw))

theorem Leases.of_logs {s n : State} (h : Logs s n) : Leases s n := Leases.of_frame h.frame (by decide) (by decide) (by decide)

/-- A fence while the other leaf runs leaves a device that leases leasing. -/
theorem Leases.fence {s : State} {l : Leaf} (cause : Nat) (hr : s.running l.other = true) : Leases s (s.fence l cause) := by
  have haon := (fence_steady cause hr).aon
  obtain hserves | hsafe := fence_servesOrSafe s l cause
  · exact Leases.of_serves (by rw [haon]) hserves (congrArg Sweep.everValidated (Ends.fence s l cause).sw :)
  · intro hs
    obtain ⟨hsweep, -⟩ := (leasing_iff s).mp hs
    rw [State.sweeping, ← haon, hsafe] at hsweep
    exact absurd hsweep (by decide)

end Sys2Proof.Machine

namespace Sys2Proof.Machine

/-! ### Openings while a device leases (R463, R466, R499, R553) -/

/-- A unit for MRAM fences a leaf only while the other one runs. -/
theorem Leases.mramPut (s : State) {u : MUnit} (h : ∀ c e, u ≠ .learn c e) : Leases s (s.mramPut u) := by
  have hdrop : ∀ (t : State) (l : Leaf), Leases t (t.dropUnit l u) := fun t l => by
    cases u with
    | learn c e => exact absurd rfl (h c e)
    | opens | latched | segs => exact Leases.of_logs (Logs.evA _ _ _ _)
  have hput : ∀ (t : State) (l : Leaf) (f : LeafRec → LeafRec), Leases t ((t.modLeaf l f).refuseUnits l 1) := fun t l f => by
    refine Leases.trans ?_ (Leases.ite _ (Leases.refl _) (Leases.refl _))
    cases l <;> exact Leases.refl t
  have hleaf : ∀ (l : Leaf) (t : State), Leases t (if !t.running l then t
      else if t.full l then t.dropUnit l u
      else (t.modLeaf l (fun x => { x with mramQ := x.mramQ ++ [u] })).refuseUnits l 1) := fun l t =>
    Leases.ite _ (Leases.refl t) (Leases.ite _ (hdrop t l) (hput t l _))
  have hfull : Leases s (if s.bothRun then
      if s.full .a ∧ s.full .b then s.fence s.act.other Fc.queue
      else if s.full .a then s.fence .a Fc.queue else if s.full .b then s.fence .b Fc.queue else s
    else s) := by
    split
    case isTrue hboth =>
      have hrun : ∀ l, s.running l = true := fun l => by
        obtain ⟨ha, hb⟩ := Bool.and_eq_true_iff.mp hboth
        cases l
        · exact ha
        · exact hb
      have hfence : ∀ l, Leases s (s.fence l Fc.queue) := fun l => Leases.fence _ (hrun _)
      exact Leases.ite _ (hfence _) (Leases.ite _ (hfence _) (Leases.ite _ (hfence _) (Leases.refl s)))
    case isFalse => exact Leases.refl s
  exact (hfull.trans (hleaf .a _)).trans (hleaf .b _)

/-- Work at the contactors: a device that leases goes on leasing, the clock stands, and no part changes but those of the contactors and
of a fence. -/
structure Tends (s n : State) : Prop where
  time : n.time = s.time
  leases : Leases s n
  frame : Frame (fenceParts ++ [.hasp, .thermal]) s n

theorem Tends.refl (s : State) : Tends s s := ⟨rfl, Leases.refl s, Frame.refl _ s⟩

theorem Tends.trans {s t n : State} (h : Tends s t) (k : Tends t n) : Tends s n :=
  ⟨k.time.trans h.time, h.leases.trans k.leases, h.frame.trans k.frame⟩

theorem Tends.ite {s t n : State} (c : Prop) [Decidable c] (h : Tends s t) (k : Tends s n) : Tends s (if c then t else n) := by
  split
  · exact h
  · exact k

theorem Tends.when {u : State → State} (s : State) (b : Bool) (h : ∀ s, Tends s (u s)) : Tends s (s.when b u) :=
  Tends.ite _ (h s) (Tends.refl s)

theorem Tends.each {α : Type} {u : α → State → State} (h : ∀ x s, Tends s (u x s)) (l : List α) (s : State) : Tends s (s.each l u) := by
  induction l generalizing s with
  | nil => exact Tends.refl s
  | cons x r ih => exact (h x s).trans (ih (u x s))

theorem Tends.of_logs {s n : State} (h : Logs s n) : Tends s n :=
  ⟨h.time, Leases.of_logs h, h.frame_of_mem (by decide) (by decide)⟩

theorem Tends.hasp (s : State) (x : Hasp) : Tends s { s with hasp := x } := ⟨rfl, Leases.refl s, (Frame.hasp s x).mono (by decide)⟩

theorem Tends.modHs (s : State) (i : Nat) (u : HaspStr → HaspStr) : Tends s (s.modHs i u) := Tends.hasp s _

theorem Tends.countOpen (s : State) (i : Nat) (pos : Bool) : Tends s (s.countOpen i pos) := by
  have hcounts := Counts.countOpen s i pos
  refine ⟨hcounts.time, ?_, hcounts.frame⟩
  exact Leases.trans (t := s.modHs i fun _ => s.openCounted i pos) (Leases.refl s) (Leases.mramPut _ fun _ _ h => nomatch h)

/-! The clock while a command is on its way -/

theorem chanSet_time (s : State) (k : Nat) (on : Bool) : (s.chanSet k on).time = s.time := by
  have hfollow : ∀ t : State, (t.chanFollow k).time = t.time := fun t => ite_time _ rfl (ite_time _ rfl rfl)
  exact ite_time _ (hfollow _) rfl

theorem sendAct_time (s : State) (i code : Nat) (em : Bool) : (s.sendAct i code em).time = s.time := by
  unfold State.sendAct
  split
  · rfl
  next r p _ =>
    exact ite_time _ rfl (ite_time _ (each_time (fun e s => (Requests.request' s r e p _).time) _ _) (Requests.request' _ r _ p _).time)

/-- A contactor's channel is set where its command asks for it. -/
theorem putChan_time (s : State) (o : Option Bool) (k : Nat) : (match o with | some b => s.chanSet k b | none => s).time = s.time := by
  cases o with
  | none => rfl
  | some b => exact chanSet_time s k b

/-- A contactor's ACT_CMD is sent where its command asks for it. -/
theorem putAct_time (s : State) (i : Nat) (o : Option Bool) (close opens : Nat) (em : Bool) :
    (match o with | some true => s.sendAct i close em | some false => s.sendAct i opens em | none => s).time = s.time := by
  cases o with
  | none => rfl
  | some b => cases b <;> exact sendAct_time s i _ em

theorem drive_time {s : State} (i : Nat) (d : Drive) (em : Bool) (hactive : s.kn.active ≠ none) :
    (s.drive i d em).time = (s.driveNoted i d).time := by
  unfold State.drive
  rw [if_neg (by simpa using hactive)]
  refine ite_time (s := s.driveNoted i d) _ ?_ (ite_time _ (sendAct_time _ i 0 em) ?_)
  · exact (putChan_time _ d.pc _).trans ((putChan_time _ d.neg _).trans (putChan_time _ d.pos _))
  · exact (putAct_time _ i d.pc 2 4 em).trans ((putAct_time _ i d.pos 3 5 em).trans (putAct_time _ i d.neg 1 6 em))

/-! Openings -/

theorem Tends.drive (s : State) (i : Nat) (d : Drive) (em : Bool) : Tends s (s.drive i d em) := by
  by_cases hactive : s.kn.active = none
  · unfold State.drive
    rw [if_pos (by simp [hactive])]
    exact Tends.refl s
  · have hnoted : Tends s (s.driveNoted i d) :=
      ((Tends.when s _ fun s => Tends.countOpen s i true).trans (Tends.when _ _ fun s => Tends.countOpen s i false)).trans
        (Tends.modHs _ i _)
    have hway := drive_frame i d em hactive
    exact hnoted.trans ⟨drive_time i d em hactive, Leases.of_frame hway (by decide) (by decide) (by decide), hway.mono (by decide)⟩

theorem Tends.beginOpen (s : State) (i : Nat) (em ramp : Bool) (c : OpenCause) : Tends s (s.beginOpen i em ramp c) := by
  unfold State.beginOpen
  refine (Tends.modHs s i _).trans (Tends.ite _ ?_ (Tends.ite _ (Tends.modHs _ i _) ?_))
  · exact (Tends.modHs _ i _).trans (Tends.drive _ i _ _)
  · exact (Tends.modHs _ i _).trans (Tends.drive _ i _ _)

theorem Tends.abortClose (s : State) (i reason : Nat) (em : Bool) (c : OpenCause) : Tends s (s.abortClose i reason em c) := by
  unfold State.abortClose
  refine Tends.trans (Tends.trans ?_ (Tends.of_logs (Logs.ev _ _ _ _))) (Tends.beginOpen _ i _ _ c)
  exact (Tends.modHs s i _).trans (Tends.when _ _ fun s => Tends.of_logs (Logs.ev _ _ _ _))

theorem Tends.unqueue (s : State) (i reason : Nat) : Tends s (s.unqueue i reason) := by
  obtain ⟨-, -, -, htime, hframe⟩ := unqueue_effect s i reason
  exact ⟨htime, Leases.of_frame hframe (by decide) (by decide) (by decide), hframe.mono (by decide)⟩

theorem Tends.openStr (s : State) (i : Nat) (em : Bool) (c : OpenCause) : Tends s (s.openStr i em c) := by
  unfold State.openStr
  refine Tends.ite _ (Tends.refl s) ?_
  split
  · exact Tends.unqueue s i _
  · exact Tends.abortClose s i _ em c
  · exact Tends.abortClose s i _ em c
  · exact Tends.beginOpen s i em true c
  · exact Tends.ite _ ((Tends.modHs s i _).trans (Tends.drive _ i _ _)) (Tends.refl s)
  · exact Tends.refl s

end Sys2Proof.Machine

namespace Sys2Proof.Machine

/-! ### Publication (R491, R493, R498, R499) -/

/-- The number of the last lease, and how many have left. -/
def Lease.issued (x : Lease) : Nat × Nat := (x.no, x.published)

/-- A judgement of the PCS's silence: a device that leases goes on leasing, no lease leaves, and strings may open. -/
structure Judges (s n : State) : Prop where
  time : n.time = s.time
  leases : Leases s n
  issued : n.lease.issued = s.lease.issued
  frame : Frame (fenceParts ++ [.lease, .hasp, .thermal]) s n

theorem Judges.refl (s : State) : Judges s s := ⟨rfl, Leases.refl s, rfl, Frame.refl _ s⟩

theorem Judges.trans {s t n : State} (h : Judges s t) (k : Judges t n) : Judges s n :=
  ⟨k.time.trans h.time, h.leases.trans k.leases, k.issued.trans h.issued, h.frame.trans k.frame⟩

theorem Judges.ite {s t n : State} (c : Prop) [Decidable c] (h : Judges s t) (k : Judges s n) : Judges s (if c then t else n) := by
  split
  · exact h
  · exact k

theorem Judges.of_tends {s n : State} (h : Tends s n) : Judges s n :=
  ⟨h.time, h.leases, congrArg Lease.issued (h.frame .lease (by decide) :), h.frame.mono (by decide)⟩

theorem Judges.lease {s : State} {x : Lease} (h : x.issued = s.lease.issued) : Judges s { s with lease := x } :=
  ⟨rfl, Leases.refl s, h, (Frame.lease s x).mono (by decide)⟩

theorem Judges.silenceEval (s : State) (ticks : Nat) : Judges s (s.silenceEval ticks) := by
  have hlog : ∀ (t : State) (code src : Nat) (ps : List Param), Judges t (t.ev code src ps) := fun t code src ps =>
    Judges.of_tends (Tends.of_logs (Logs.ev t code src ps))
  unfold State.silenceEval
  obtain ⟨u, hu⟩ : ∃ u, u = if s.lease.st = 1 ∧ ticks ≥ 3 * msTicks (s.cfg.lease 0) then
      ({ s with lease := { s.lease with st := 2, silBase := ticks } } : State).ceilZero.ev Ev.leaseSilence srcD
        [p4 s.lease.a, p4 s.lease.no, p4 (ticks / 100000)]
    else s := ⟨_, rfl⟩
  have hsilent : Judges s u := hu ▸ Judges.ite _ ((Judges.lease (by rfl)).trans (hlog _ _ _ _)) (Judges.refl s)
  dsimp only
  rw [← hu]
  refine hsilent.trans (Judges.ite _ ?_ (Judges.refl u))
  refine Judges.trans ?_ (Judges.of_tends (Tends.each (fun i s => Tends.openStr s i _ _) _ _))
  refine Judges.trans ?_ (hlog _ _ _ _)
  exact Judges.lease (by rfl)

/-- The parts that a lease reaches as it leaves, but for the lease's own. -/
abbrev sentParts : List Part := [.links, .pick, .out, .log, .fifos]

/-- A lease that leaves becomes the last one, at the instant. -/
theorem putLease_published (s : State) (m : LeaseMsg) : (s.putLease m).lease.no = m.no ∧ (s.putLease m).lease.last = m ∧
    (s.putLease m).lease.lastPub = s.time.now ∧ (s.putLease m).lease.published = satAdd 32 s.lease.published 1 ∧
    (s.putLease m).lease.due = s.lease.due := by
  have hcan : ∀ t : State, Frame sentParts t (t.sendCan 0 m.bytes) := fun t => (Sends.sendCan t 0 m.bytes).frame.mono (by decide)
  have hsent : ∀ t : State, Frame sentParts t (t.leaseSent m) := fun t =>
    Frame.ite _ ((hcan t).trans (Frame.each (fun k s => (send_frame s k _ _ _ _).mono (by decide)) _ _)) (hcan t)
  have hlease : (s.putLease m).lease = _ := (Logs.produce _ _ _ _ _).lease.trans (hsent _ .lease (by decide))
  rw [hlease]
  exact ⟨rfl, rfl, rfl, rfl, rfl⟩

/-- The state after a lease of the next number has left at the instant. -/
structure Publishes (s n : State) : Prop where
  no : n.lease.no = nextNo s.lease.no
  last : n.lease.last.no = nextNo s.lease.no
  now : n.lease.lastPub = s.time.now
  count : n.lease.published = satAdd 32 s.lease.published 1
  due : n.lease.due = s.lease.due
  frame : Frame putParts s n

theorem Publishes.putLease (s : State) (zero : Bool) (flags : Nat) : Publishes s (s.putLease (s.leaseNow zero flags)) := by
  obtain ⟨hno, hlast, hnow, hcount, hdue⟩ := putLease_published s (s.leaseNow zero flags)
  exact ⟨hno, congrArg LeaseMsg.no hlast, hnow, hcount, hdue, putLease_frame s _⟩

theorem publish_publishes {s : State} (h : s.leasing = true) : Publishes s s.publish := by
  unfold State.publish
  rw [if_pos h]
  exact Publishes.putLease s _ _

/-- After a commit point a device that leases publishes a lease, asleep or not. -/
theorem leaseAfter_publishes {s : State} (h : s.leasing = true) : Publishes s s.leaseAfter := by
  unfold State.leaseAfter
  rw [if_pos h]
  split
  · exact Publishes.putLease s _ _
  · exact publish_publishes h

theorem leaseAfter_idle {s : State} (h : s.leasing = false) : s.leaseAfter = s := by
  simp [State.leaseAfter, State.publish, h]

/-- What follows the lease: HEARTBEAT, the bank's status on CAN, the items of the commit point. -/
def State.leaseFollowed (s : State) : State := s.sendHeartbeats.canStatus.commitItems

theorem Sends.commitItems (s : State) : Sends s s.commitItems := by
  refine (Sends.of_logs (Logs.produce s _ _ _ _)).trans (Sends.each (fun n s => ?_) _ _)
  split
  · exact Sends.of_logs (Logs.produce s _ _ _ _)
  · exact Sends.refl s

theorem Sends.leaseFollowed (s : State) : Sends s s.leaseFollowed :=
  ((Sends.each (fun r s => Sends.each (fun e s => Sends.sendFrame s r e _ _ _ _ _) _ s) _ s).trans (Sends.sendCan _ _ _)).trans
    (Sends.commitItems _)

/-- The state whose due lease is taken up. -/
def State.leaseTaken (s : State) : State := { s with lease := { s.lease with due := false } }

section
variable {t : Nat} {s : State}

theorem exec_leasePublish_due {u : State} (hdue : s.lease.due = true) (htime : s.sw.commitNow + 50000 ≤ (s.setNow t).time.now)
    (hsweep : (s.setNow t).sweeping = true) (hu : u = (s.setNow t).leaseTaken) :
    exec (.leasePublish t) s = .next (settle s u.leaseAfter.leaseFollowed) := by
  change execLeasePublish t s = _
  rw [hu]
  exact at'_eq (if_pos ⟨hdue, htime, hsweep⟩)

/-- The due lease is taken up, and leaves if the device leases. -/
theorem leasePublish_effect (hdue : s.lease.due = true) (htime : s.sw.commitNow + 50000 ≤ (s.setNow t).time.now)
    (hsweep : (s.setNow t).sweeping = true) : ∃ n, exec (.leasePublish t) s = .next n ∧
      n.lease.due = false ∧ ((s.setNow t).leasing = true → n.lease.no = nextNo s.lease.no ∧ n.lease.last.no = nextNo s.lease.no ∧
        n.lease.lastPub = (s.setNow t).time.now ∧ n.lease.published = satAdd 32 s.lease.published 1) ∧
      ((s.setNow t).leasing = false → n.lease = { s.lease with due := false }) ∧ Frame [.lease, .links, .log, .fifos, .pick, .out] s n := by
  obtain ⟨u, hu⟩ : ∃ u, u = (s.setNow t).leaseTaken := ⟨_, rfl⟩
  have hexec := exec_leasePublish_due hdue htime hsweep hu
  have hleasing : u.leasing = (s.setNow t).leasing := by rw [hu]; rfl
  have hnow : u.time.now = (s.setNow t).time.now := by rw [hu]; rfl
  have hlease : u.lease = { s.lease with due := false } := by rw [hu]; rfl
  have htaken : Frame putParts (s.setNow t) u := hu ▸ (Frame.lease _ _).mono (by decide)
  have hfollowed := (Sends.leaseFollowed u.leaseAfter).frame
  have hn : (settle s u.leaseAfter.leaseFollowed).lease = u.leaseAfter.lease :=
    (settle_lease _ _).trans (hfollowed .lease (by decide))
  refine ⟨_, hexec, ?_⟩
  rw [hn]
  cases h : (s.setNow t).leasing with
  | true =>
    have hpub := leaseAfter_publishes (hleasing.trans h)
    refine ⟨by rw [hpub.due, hlease], fun _ => ⟨by rw [hpub.no, hlease], by rw [hpub.last, hlease], hpub.now.trans hnow,
      by rw [hpub.count, hlease]⟩, nofun, Frame.settle (t := t) (Frame.mono (ps := putParts) ?_ (by decide))⟩
    exact (htaken.trans hpub.frame).trans (hfollowed.mono (by decide))
  | false =>
    rw [leaseAfter_idle (hleasing.trans h)] at hfollowed ⊢
    refine ⟨by rw [hlease], nofun, fun _ => hlease, Frame.settle (t := t) (Frame.mono (ps := putParts) ?_ (by decide))⟩
    exact htaken.trans (hfollowed.mono (by decide))

/-- The silence that an interim lease judges, in ticks. -/
def State.silenceTicks (s : State) : Nat := s.lease.silence + min ((s.time.now - s.lease.silFrom) / 10) s.periodTicks

theorem exec_interimLease_due (hlease : (s.setNow t).leasing = true) (hst : s.lease.st ≠ 0)
    (hdue : s.lease.lastPub + 500000 * s.cfg.lease 0 ≤ (s.setNow t).time.now) :
    exec (.interimLease t) s = .next (settle s ((s.setNow t).silenceEval (s.setNow t).silenceTicks).publish) := by
  change execInterimLease t s = _
  exact at'_eq (if_pos ⟨hlease, hst, hdue⟩)

/-- Silence is judged, which leaves the device leasing, then the next lease leaves. -/
theorem interimLease_effect (hlease : (s.setNow t).leasing = true) (hst : s.lease.st ≠ 0)
    (hdue : s.lease.lastPub + 500000 * s.cfg.lease 0 ≤ (s.setNow t).time.now) :
    ∃ n, exec (.interimLease t) s = .next n ∧ n.lease.no = nextNo s.lease.no ∧ n.lease.lastPub = (s.setNow t).time.now ∧
      n.lease.published = satAdd 32 s.lease.published 1 ∧ Frame (fenceParts ++ [.lease, .com, .hasp, .thermal]) s n := by
  have hjudged := Judges.silenceEval (s.setNow t) (s.setNow t).silenceTicks
  have hpub := publish_publishes (hjudged.leases hlease)
  refine ⟨_, exec_interimLease_due hlease hst hdue, ?_⟩
  rw [settle_lease, hpub.no, hpub.now, hpub.count, hjudged.time]
  refine ⟨congrArg (nextNo ·.1) hjudged.issued, rfl, congrArg (satAdd 32 ·.2 1) hjudged.issued, ?_⟩
  exact ((hjudged.frame.mono (by decide)).trans (hpub.frame.mono (by decide))).settle

end

end Sys2Proof.Machine

namespace Sys2Proof.Machine

/-! ### Acknowledgements (R496, R497, R505, R620) -/

theorem takeAck_frame (s : State) (via : Nat) (payload : List Byte) : Frame [.lease] s (s.takeAck via payload) := Frame.lease s _

/-- The state in which a protocol error of an acknowledgement is counted. -/
def State.ackErrorCounted (s : State) : State := { s with lease := { s.lease with errors := satAdd 32 s.lease.errors 1 } }

theorem ackError_logs (s : State) (cause no : Nat) : Logs s.ackErrorCounted (s.ackError cause no) := Logs.ev _ _ _ _

section
variable {t : Nat} {s : State}

theorem leaseAck_effect {q : HReq} (hlets : (s.setNow t).lets q 0x0C01 Perm.lease = true) (hlen : q.args.length = 24) :
    ∃ n, exec (.leaseAck t q) s = .next n ∧
      n.lease = { s.lease with acks := s.lease.acks ++ [{ time := (s.setNow t).devTime, via := 1, picked := s.lg.picked, payload := q.args }] } ∧
      AnsweredOk (s.setNow t) n q 0x0C01 [] ∧ Frame (hostParts ++ [.lease]) s n := by
  obtain ⟨hexec, hans, hframe⟩ := command_answered (c := .leaseAck t q) (m := ((s.setNow t).taken q 3 0x0C01).takeAck 1 q.args) rfl
    (lets_opens hlets) (taken_may_of_lets hlets) (by simp [hlen]) rfl (takeAck_frame _ _ _) (by decide) (taken_now (s.setNow t) q 3 0x0C01)
  refine ⟨_, hexec, ?_, hans, hframe⟩
  rw [settle_lease, answer_lease]
  simp only [State.takeAck, taken_lease, taken_lg, taken_devTime, setNow_lease, setNow_lg]

/-- A frame on one of the device's identifiers that a controller hears, where CAN is used. -/
structure CanHeard (s : State) (f : CanFrame) : Prop where
  hears : (f.ctl ≠ 1 ∧ canHears s.links.can0 = true) ∨ (f.ctl ≠ 0 ∧ canHears s.links.can1 = true)
  ident : f.ident ≤ 3
  used : bit (s.cfg.lease 0x0E) 0 = true

theorem exec_canAckFrame_unpicked {f : CanFrame} {m : State} (hheard : CanHeard s f) (hpick : s.pick.armed = false)
    (htake : (s.setNow t).canTake f.ident f.data = m) : exec (.canAckFrame t f) s = .next (settle s m) := by
  obtain ⟨hhears, hident, hused⟩ := hheard
  change execCanAckFrame t f s = _
  refine at'_eq (Eq.trans ?_ htake)
  unfold State.canRx
  refine (if_neg ?_).trans ?_
  · rintro (h | h | h)
    · exact h hhears
    · omega
    · simp [hused] at h
  · simp [State.pickJudge, hpick]

theorem canAckFrame_taken {f : CanFrame} (hheard : CanHeard s f) (hpick : s.pick.armed = false) (hident : f.ident = 1)
    (hlen : f.data.length = 24) : ∃ n, exec (.canAckFrame t f) s = .next n ∧
      n.lease = { s.lease with acks := s.lease.acks ++ [{ time := (s.setNow t).devTime, via := 0, picked := s.lg.picked, payload := f.data }] } ∧
      Frame [.lease] s n :=
  ⟨_, exec_canAckFrame_unpicked hheard hpick (if_pos ⟨hident, hlen⟩), rfl, (takeAck_frame (s.setNow t) _ _).settle⟩

theorem canAckFrame_error {f : CanFrame} (hheard : CanHeard s f) (hpick : s.pick.armed = false)
    (hother : f.ident ≠ 1 ∨ f.data.length ≠ 24) : ∃ n, exec (.canAckFrame t f) s = .next n ∧
      n.lease = { s.lease with errors := satAdd 32 s.lease.errors 1 } ∧ Frame [.lease, .log, .fifos] s n := by
  have hlogs := ackError_logs (s.setNow t) 5 (leAt f.data 0 4)
  refine ⟨_, exec_canAckFrame_unpicked hheard hpick (if_neg (by tauto)), (settle_lease _ _).trans hlogs.lease, Frame.settle (t := t) ?_⟩
  exact ((Frame.lease (s.setNow t) _).mono (by decide)).trans (hlogs.frame_of_mem (by decide) (by decide))

end

end Sys2Proof.Machine

namespace Sys2Proof.Machine

/-! ### CAN frames and controllers (R505, R599) -/

/-- With Pick neither armed nor holding frames, a frame leaves as it is. -/
theorem sendCan_unpicked {s : State} {k : Nat} (ident : Nat) (data : List Byte) (htx : s.canTx = some k)
    (hused : bit (s.cfg.lease 0x0E) 0 = true) (hpick : s.pick.armed = false) (hheld : s.pick.held = []) :
    s.sendCan ident data = s.emit (.can k ident data true) := by
  have hrelease : ∀ u : State, u.pick.held = [] → u.pickRelease = u := fun u hu => by
    have hpick : u.pick = { u.pick with held := [] } := by rw [← hu]
    simp only [State.pickRelease, hu, List.filter_nil, List.filterMap_nil, State.release, State.each, List.foldl_nil]
    exact congrArg (fun p => ({ u with pick := p } : State)) hpick.symm
  unfold State.sendCan
  rw [htx]
  simp only [hused, State.pickJudge, hpick]
  exact hrelease _ hheld

theorem emit_frame (s : State) (o : Out) : Frame [.out] s (s.emit o) := by
  rintro ⟨⟩ hp <;> simp [Part.same] at hp ⊢

section
variable {t : Nat} {s : State}

/-- The state whose time frame of the second is taken up. -/
def State.canTimed (s : State) : State := { s with lease := { s.lease with canTime := s.time.now } }

theorem canTimeFrame_effect {k : Nat} (htx : s.canTx = some k) (hused : bit (s.cfg.lease 0x0E) 0 = true) (hpick : s.pick.armed = false)
    (hheld : s.pick.held = []) (hdue : s.lease.canTime = 0 ∨ s.lease.canTime + 1000000000 ≤ (s.setNow t).time.now) :
    ∃ n, exec (.canTimeFrame t) s = .next n ∧
      n.out = .can k 3 (toLe 8 (s.setNow t).devTime ++ toLe 4 s.lease.no ++ [0, 0, 0, 0]) true :: s.out ∧
      n.lease = { s.lease with canTime := (s.setNow t).time.now } ∧ Frame [.lease, .out] s n := by
  have hgo : ((s.setNow t).canTx.isSome && ((s.setNow t).lease.canTime == 0 ||
      decide ((s.setNow t).lease.canTime + 1000000000 ≤ (s.setNow t).time.now))) = true := by
    have hsome : (s.setNow t).canTx = some k := htx
    rw [hsome]
    simpa using hdue
  have hsend := sendCan_unpicked (s := (s.setNow t).canTimed) (k := k) 3
    (toLe 8 (s.setNow t).devTime ++ toLe 4 s.lease.no ++ [0, 0, 0, 0]) htx hused hpick hheld
  refine ⟨settle s ((s.setNow t).canTimed.emit _), ?_, rfl, rfl, Frame.settle (t := t) ?_⟩
  · change execCanTimeFrame t s = _
    exact at'_eq ((if_pos hgo).trans hsend)
  · exact ((Frame.lease (s.setNow t) _).mono (by decide)).trans ((emit_frame (s.setNow t).canTimed _).mono (by decide))

/-- The record of the controller of CAN0 or of CAN1. -/
def Links.setCan (x : Links) (ctl v : Nat) : Links := if ctl = 0 then { x with can0 := v } else { x with can1 := v }

/-- The state of a leaf's controller. -/
def Links.can (x : Links) (ctl : Nat) : Nat := if ctl = 0 then x.can0 else x.can1

section
variable {ctl : Nat} (hctl : ctl ≤ 1)
include hctl

/-- A controller that is not off the bus goes there, with an event. -/
theorem canBusOff_leaves (hon : s.links.can ctl ≠ 0) (hbus : s.links.can ctl ≠ 4) :
    ∃ n, exec (.canBusOff t ctl false) s = .next n ∧ n.links = s.links.setCan ctl 4 ∧ Frame [.links, .log, .fifos] s n := by
  have hlogs := Logs.raiseO { s.setNow t with links := s.links.setCan ctl 4 } Ev.canBusOff ctl ctl []
  refine ⟨_, ?_, (settle_links _ _).trans hlogs.links, Frame.settle (t := t) ?_⟩
  · change execCanBusOff t ctl false s = _
    refine at'_eq ((if_neg ?_).trans ((if_neg (by decide)).trans (if_neg hbus)))
    exact fun h => h.elim (by omega) hon
  · exact ((Frame.links (s.setNow t) _).mono (by decide)).trans (hlogs.frame_of_mem (by decide) (by decide))

/-- A controller that has recovered takes the state that its leaf wants. -/
theorem canBusOff_returns (hbus : s.links.can ctl = 4) : ∃ n, exec (.canBusOff t ctl true) s = .next n ∧
    n.links = s.links.setCan ctl ((s.setNow t).canWant (if ctl = 0 then .a else .b) 0) ∧ Frame [.links] s n := by
  refine ⟨_, ?_, rfl, Frame.settle (t := t) (Frame.links (s.setNow t) _)⟩
  change execCanBusOff t ctl true s = _
  refine at'_eq ((if_neg ?_).trans ((if_pos rfl).trans (if_pos hbus)))
  exact fun h => h.elim (by omega) fun h0 => absurd (hbus.symm.trans h0) (by decide)

end

end

/-- Settles O50: a publication by the lease that leaves, an interim lease by the silence that it judges first, an acknowledgement by its
way in, a CAN frame and a controller by themselves. -/
theorem leasesAndCan : Obligations.LeasesAndCan := by
  unfold Obligations.LeasesAndCan
  intro t s
  refine ⟨leasePublish_effect, interimLease_effect, fun q => leaseAck_effect, fun f hhears hident hused hpick => ?_,
    fun k => canTimeFrame_effect, ⟨?_, ?_⟩, ?_, ?_⟩
  · have hheard : CanHeard s f := ⟨hhears, hident, hused⟩
    exact ⟨canAckFrame_taken hheard hpick, canAckFrame_error hheard hpick⟩
  · exact canBusOff_leaves (ctl := 0) (by decide)
  · exact canBusOff_leaves (ctl := 1) (by decide)
  · exact canBusOff_returns (ctl := 0) (by decide)
  · exact canBusOff_returns (ctl := 1) (by decide)

end Sys2Proof.Machine

namespace Sys2Proof.Machine

/-! ### Steps and the queue (00_scope.md) -/

/-- Settles O1: with a command in front of the queue a step is that command on the queue's rest. -/
theorem stepRunsFront : Obligations.StepRunsFront := by
  unfold Obligations.StepRunsFront
  intro c rest s
  rfl

/-- Settles O2: a step looks at the front of the queue first, and an empty queue has none. -/
theorem emptyQueueIdles : Obligations.EmptyQueueIdles := by
  unfold Obligations.EmptyQueueIdles
  intro s hempty
  rw [step, hempty]

/-- Settles O4: the balls follow the state after every command, and READY stands for exactly three states of the device. -/
theorem readyFollowsState : Obligations.ReadyFollowsState := by
  unfold Obligations.ReadyFollowsState
  intro c s n h
  have hballs := exec_ballsFollow h
  simp only [State.ballsFollow, Bool.and_eq_true, beq_iff_eq] at hballs
  obtain ⟨hready, -⟩ := hballs
  constructor <;> rintro (hdev | hdev | hdev) <;> simp [hready, hdev]

end Sys2Proof.Machine

namespace Sys2Proof.Machine

/-! ### A wake (R700, R703) -/

/-- A frame that holds both leaves leaves them but for their queues of event records. -/
theorem Frame.leaf_core {ps : List Part} {s n : State} (h : Frame ps s n) (ha : .leafA ∉ ps) (hb : .leafB ∉ ps) (l : Leaf) :
    (n.leaf l).core = (s.leaf l).core := by
  cases l
  · exact (congrArg LeafRec.core (h .leafA ha) :)
  · exact (congrArg LeafRec.core (h .leafB hb) :)

/-- The state of a device that a source wakes from SLEEP, before the rings, the ports and the log follow. -/
def State.woken (s : State) (bits : Nat) : State :=
  let n := { s.draw with
    sleep := { s.sleep with
      st := 0, wakeCause := bits, wakeTime := s.devTime, total := satAdd 32 s.sleep.total ((s.time.now - s.sleep.entryNow) / 1000000000)
      latency := min 180 (Config.freeNat s.free), wakePend := 0, fresh := true, ret := bits != 0 && (bits &&& 0b1100) == bits
      idle := 0, refused := false, want := 0 }
    aon := { s.aon with dev := if s.aon.thermal then .halt else .run }
    links := { s.links with sess := s.links.sess.map (fun (e : Nat × Sess) =>
      (e.1, { e.2 with lastAuth := e.2.lastAuth + (s.time.now - s.sleep.entryNow) })) }
    sw := { s.sw with next := gridAfter s.sleep.gridTs (periodNs s.sw.period) (s.time.now + 1000000), phase := .idle }
    ch := { s.ch with low := false } }
  if s.aon.thermal then n.holdSet 3 else n

theorem Frame.sw (s : State) (x : Sweep) : Frame [.sweep] s { s with sw := x } := by
  rintro ⟨⟩ hp <;> simp [Part.same] at hp ⊢

theorem Frame.sleep (s : State) (x : Sleep) : Frame [.sleep] s { s with sleep := x } := by
  rintro ⟨⟩ hp <;> simp [Part.same] at hp ⊢

theorem sendRate_frame (s : State) (code : Nat) : Frame [.out] s (s.sendRate code) :=
  Frame.each (fun _ s => Frame.each (fun _ s => Frame.ite _ (emit_frame s _) (Frame.refl _ s)) _ s) _ s

theorem setLpi_frame (s : State) (on : Bool) : Frame [.links] s (s.setLpi on) := Frame.links s _

theorem canFollow_frame (s : State) : Frame [.links] s s.canFollow := Frame.links s _

/-- What follows a wake at the rings, the ports and the log. -/
theorem wake_asleep {s : State} (h : s.sleep.st = 2) (bits : Nat) : Frame [.out, .links, .log, .fifos] (s.woken bits) (s.wake bits) := by
  unfold State.wake
  rw [if_neg (by omega), if_neg (by omega)]
  refine Frame.trans ?_ ((Logs.evAon _ _ _ _).frame_of_mem (by decide) (by decide))
  refine Frame.trans ?_ ((canFollow_frame _).mono (by decide))
  refine Frame.trans ?_ ((setLpi_frame _ false).mono (by decide))
  exact (sendRate_frame _ 0).mono (by decide)

theorem woken_frame (s : State) (bits : Nat) : Frame wakeParts s (s.woken bits) := by
  unfold State.woken
  cases s.aon.thermal <;> rintro ⟨⟩ hp <;> simp [Part.same, State.holdSet] at hp ⊢

theorem wake_frame (s : State) (bits : Nat) : Frame wakeParts s (s.wake bits) := by
  by_cases h1 : s.sleep.st = 1
  · unfold State.wake
    rw [if_pos h1]
    exact (Frame.sleep s _).mono (by decide)
  by_cases h2 : s.sleep.st = 2
  · exact (woken_frame s bits).trans ((wake_asleep h2 bits).mono (by decide))
  · unfold State.wake
    rw [if_neg h1, if_pos h2]
    exact Frame.refl _ s

/-- The AON domain but for the device's state and HOLD. -/
def Aon.besides (x : Aon) : Aon :=
  { x with dev := .off, hold := false, holdCause := 0, clearState := 0, armSlot := 0xFF, ready := false, faultN := false }

theorem Frame.aon_besides {ps : List Part} {s n : State} (h : Frame ps s n) (hp : .aon ∉ ps) : n.aon.besides = s.aon.besides :=
  (congrArg Aon.besides (h .aon hp) :)

theorem woken_besides (s : State) (bits : Nat) : (s.woken bits).aon.besides = s.aon.besides := by
  unfold State.woken
  cases h : s.aon.thermal <;> rfl

/-- A wake moves of the AON domain the device's state and HOLD alone. -/
theorem wake_besides (s : State) (bits : Nat) : (s.wake bits).aon.besides = s.aon.besides := by
  by_cases h2 : s.sleep.st = 2
  · exact ((wake_asleep h2 bits).aon_besides (by decide)).trans (woken_besides s bits)
  · unfold State.wake
    split <;> rfl

theorem Frame.dev_eq {ps : List Part} {s n : State} (h : Frame ps s n) (hp : .aon ∉ ps) : n.aon.dev = s.aon.dev :=
  (congrArg Aon.dev (h .aon hp) :)

/-- A wake source leaves the device's state, or wakes it to RUN or, with the thermal latch, HALT. -/
theorem wake_dev (s : State) (bits : Nat) : (s.wake bits).aon.dev = if s.sleep.st = 2 then if s.aon.thermal then .halt else .run else s.aon.dev := by
  split
  next h =>
    rw [(wake_asleep h bits).dev_eq (by decide)]
    unfold State.woken
    cases s.aon.thermal <;> rfl
  next h =>
    unfold State.wake
    split <;> rfl

end Sys2Proof.Machine


namespace Sys2Proof.Machine

/-! ### A fence in its stages (R546 to R551, R725) -/

/-- The leaf is FENCED, is logged so, and its ring ends fall silent (R224, R546, R547). -/
def State.cutOff (s : State) (l : Leaf) (cause : Nat) : State :=
  let m := (s.modLeaf l (fun x => { x with
    st := .fenced, cause := if x.cause = 0 then cause else x.cause, fenceTime := s.devTime, rejoin := 0
    rq := false, dbReq := false, mramQ := [], log := { x.log with queue := [] } })).snapCut l
  (m.evAon Ev.leafFenced l.num [p1 (m.leaf l).cause, p4 m.sw.num]).fenceRings l

/-- The episodes that a fence puts an end to (R81, R91, R719). -/
def State.episodesEnd (s : State) : State :=
  let s := s.knuckleCancel.stageAbandon 4
  (if s.cfg.dual then s.applyAbandon (Config.caseCode Ev.imageApplyAbandoned 1) else s).pickDisarm 5

/-- How a fence ends: in SAFE where no other leaf runs (R725). -/
def State.fenceEnd (s : State) (l : Leaf) : State :=
  if !s.running l.other then
    (if (s.leaf l.other).st = .rejoining ∨ (s.leaf l.other).st = .resyncing then
      s.setLeaf l.other { s.leaf l.other with st := .fenced, rejoin := 0 } else s).enterSafe
  else s.canFollow

theorem fencedL_of_fenceLine {s : State} {l : Leaf} (h : s.fenceLine l = false) : s.fencedL l = false := by
  unfold State.fenceLine at h
  unfold State.fencedL
  cases hst : (s.leaf l).st <;> simp [hst] at h ⊢

/-- A leaf whose FENCE line is not set is cut off; the other takes over from an ACTIVE one; then the episodes end. -/
theorem fence_stages {s : State} {l : Leaf} (cause : Nat) (h : s.fenceLine l = false) : s.fence l cause =
    (if s.kn.active == some l then (s.cutOff l cause).failover l else s.cutOff l cause).episodesEnd.fenceEnd l := by
  unfold State.fence
  rw [if_neg (by simp [fencedL_of_fenceLine h]), if_neg (by simp [h])]
  rfl

/-! Frames of the stages -/

theorem fenceNodes_frame (s : State) (l : Leaf) (r : Nat) : Frame [.chains] s (s.fenceNodes l r) := by
  unfold State.fenceNodes
  split
  · exact Frame.ch s _
  · exact Frame.refl _ s

theorem fenceRings_frame (s : State) (l : Leaf) : Frame [.chains] s (s.fenceRings l) :=
  Frame.each (f := fun r t => (t.fenceNodes l r).modRing r (fun x => x.fenceEnd l (t.cfg.nodeCount r)))
    (fun r t => (fenceNodes_frame t l r).trans (modRing_frame _ r _)) s.cfg.rings s

theorem cutOff_frame (s : State) (l : Leaf) (cause : Nat) : Frame [.leafA, .leafB, .log, .fifos, .chains] s (s.cutOff l cause) := by
  unfold State.cutOff
  refine Frame.trans ?_ ((fenceRings_frame _ l).mono (by decide))
  refine Frame.trans ?_ ((Logs.evAon _ _ _ _).frame_of_mem (by decide) (by decide))
  exact ((Frame.setLeaf_queue s l _).mono (by decide)).trans ((Frame.modLeaf _ l _ rfl).mono (by decide))

theorem applyAbandon_frame (s : State) (reason : Nat) : Frame [.stage, .log, .fifos] s (s.applyAbandon reason) := by
  unfold State.applyAbandon
  refine Frame.ite _ ?_ (Frame.refl _ s)
  exact ((Frame.stage s _).mono (by decide)).trans ((Logs.evA _ _ _ _).frame_of_mem (by decide) (by decide))

theorem stageAbandon_frame (s : State) (k : Nat) : Frame closeParts s (s.stageAbandon k) := (Unbinds.stageAbandon (k := 0) s k).frame

theorem pickDisarm_frame (s : State) (cause : Nat) : Frame closeParts s (s.pickDisarm cause) := (Unbinds.pickDisarm (k := 0) s cause).frame

/-- What a cancelled Knuckle keeps (R541, R556). -/
def Knuckle.cancelled (k : Knuckle) : Knuckle :=
  { k with arb := 0, differ := false, handover := none, handoverAsked := false, rolling := 0, selftest := none, selftestWait := false }

theorem knuckleCancel_kn (s : State) : s.knuckleCancel.kn = s.kn.cancelled := by
  have hanswers : ((s.answerOpt s.kn.handover St.denied []).answerOpt s.kn.selftest St.denied [byteOf s.kn.kat]).kn = s.kn :=
    ((answerOpt_frame _ _ _ _) .knuckle (by decide)).trans ((answerOpt_frame s _ _ _) .knuckle (by decide))
  exact congrArg Knuckle.cancelled hanswers

theorem knuckleCancel_frame (s : State) : Frame [.knuckle, .links, .out] s s.knuckleCancel := by
  unfold State.knuckleCancel
  refine Frame.trans ?_ ((Frame.kn _ _).mono (by decide))
  exact ((answerOpt_frame s _ _ _).mono (by decide)).trans ((answerOpt_frame _ _ _ _).mono (by decide))

/-- After the Knuckle is cancelled the end of the episodes reaches what closing a session does. -/
theorem episodesEnd_frame (s : State) : Frame closeParts s.knuckleCancel s.episodesEnd := by
  unfold State.episodesEnd
  refine Frame.trans ?_ (pickDisarm_frame _ 5)
  exact (stageAbandon_frame _ 4).trans (Frame.ite _ ((applyAbandon_frame _ _).mono (by decide)) (Frame.refl _ _))

theorem episodesEnd_kn (s : State) : s.episodesEnd.kn = s.kn.cancelled :=
  (episodesEnd_frame s .knuckle (by decide)).trans (knuckleCancel_kn s)

theorem episodesEnd_calm (s : State) : Calm s s.episodesEnd := by
  unfold State.episodesEnd
  refine Calm.trans ?_ (Calm.pickDisarm _ 5)
  exact ((Calm.knuckleCancel s).trans (Calm.stageAbandon _ 4)).trans (Calm.ite _ (Calm.applyAbandon _ _) (Calm.refl _))

theorem nextBlocks_frame (s : State) : Frame [.links] s s.nextBlocks :=
  Frame.each (f := fun k t => t.modSess k (fun x => if x.st = 3 then { x with tx := x.txReserved, txReserved := x.txReserved + 4096 } else x))
    (fun _ t => Frame.links t _) _ s

theorem Frame.fifos (s : State) (x : KMap Fifo) : Frame [.fifos] s { s with fifos := x } := by
  rintro ⟨⟩ hp <;> simp [Part.same] at hp ⊢

theorem fifosOver_frame (s : State) : Frame [.fifos, .free] s s.fifosOver := by
  unfold State.fifosOver
  refine Frame.each (f := fun (e : Nat × Fifo) t => (t.setFifo e.1 (e.2.handOver (Config.freeNat t.free % 3))).draw) (fun e t => ?_) _ s
  exact ((Frame.fifos t _).mono (by decide)).trans ((Frame.draw (t.setFifo e.1 _)).mono (by decide))

/-! The failover (R548, R551) -/

/-- The surviving leaf with every duty, before sessions, FIFOs, CAN and log follow. -/
def State.takenOver (s : State) (l : Leaf) : State :=
  let n := s.draw.draw
  { n with
    kn := { s.kn with
      active := some l.other, failovers := satAdd 16 s.kn.failovers 1, lastFailover := s.devTime - min 50000 (Config.freeNat s.free)
      lastInterrupt := min 400 (Config.freeNat (s.free + 1)), roleDiffers := s.cfg.roleActive != l.other }
    power := { s.power with kaPath := l.other.num } }

theorem survivor_running {s : State} {l : Leaf} (h : s.running l.other = true) : s.survivor l = s := by
  simp only [State.running, Bool.and_eq_true, beq_iff_eq] at h
  simp [State.survivor, h.1.2]

theorem takenOver_follows (s : State) (l : Leaf) : Frame [.links, .log, .fifos, .free] (s.takenOver l)
    ((s.takenOver l).nextBlocks.fifosOver.canFollow.evA Ev.failover l.other.num [p2 (min 400 (Config.freeNat (s.free + 1)))]) := by
  refine Frame.trans ?_ ((Logs.evA _ _ _ _).frame_of_mem (by decide) (by decide))
  refine Frame.trans ?_ ((canFollow_frame _).mono (by decide))
  exact ((nextBlocks_frame _).mono (by decide)).trans ((fifosOver_frame _).mono (by decide))

/-- What follows where the surviving leaf runs. -/
theorem failover_runs {s : State} {l : Leaf} (h : (s.survivor l).running l.other = true) :
    Frame [.links, .log, .fifos, .free] ((s.survivor l).takenOver l) (s.failover l) := by
  unfold State.failover
  rw [if_pos h]
  exact takenOver_follows (s.survivor l) l

/-! SAFE (R725) -/

/-- The device in SAFE, its sessions closed and Pick disarmed before. -/
def State.safed (s : State) : State :=
  { s with aon := { s.aon with dev := .safe }, kn := { s.kn with active := none }
           power := { s.power with kaPath := 0xFF }, sw := { s.sw with phase := .idle }
           sleep := { s.sleep with st := 0, wakePend := 0 } }

theorem enterSafe_awake {s : State} (hsafe : s.aon.dev ≠ .safe) (hoff : s.aon.dev ≠ .off) :
    s.enterSafe = ((((s.closeAll Cc.safe).pickDisarm 8).safed).holdSet 4).canFollow := by
  unfold State.enterSafe
  rw [if_neg (by simp [hsafe, hoff])]
  rfl

theorem closeSession_frame (s : State) (k cause : Nat) : Frame closeParts s (s.closeSession k cause) := by
  by_cases hopen : (s.sess k).st = 3
  · obtain ⟨-, -, hframe⟩ := closeSession_spec cause hopen
    exact hframe
  · unfold State.closeSession
    rw [if_pos (by simpa using hopen)]
    exact Frame.refl _ s

theorem closeAll_frame (s : State) (cause : Nat) : Frame closeParts s (s.closeAll cause) :=
  Frame.each (f := fun k s => s.closeSession k cause) (fun k s => closeSession_frame s k cause) _ s

/-! ### What a fence keeps (R546, R558) -/

/-- The Knuckle's counts and outcomes that no fence touches, the supplies, and a device that is awake. -/
structure Cuts (s n : State) : Prop where
  hbMisses : n.kn.hbMisses = s.kn.hbMisses
  linkLost : n.kn.linkLost = s.kn.linkLost
  kat : n.kn.kat = s.kn.kat
  supplied : ∀ k, (n.leaf k).supplied = (s.leaf k).supplied
  awake : s.sleep.st = 0 → n.sleep.st = 0

theorem Cuts.refl (s : State) : Cuts s s := ⟨rfl, rfl, rfl, fun _ => rfl, id⟩

theorem Cuts.trans {s t n : State} (h : Cuts s t) (k : Cuts t n) : Cuts s n :=
  ⟨k.hbMisses.trans h.hbMisses, k.linkLost.trans h.linkLost, k.kat.trans h.kat, fun l => (k.supplied l).trans (h.supplied l), k.awake ∘ h.awake⟩

theorem Cuts.ite {s t n : State} (c : Prop) [Decidable c] (h : Cuts s t) (k : Cuts s n) : Cuts s (if c then t else n) := by
  split
  · exact h
  · exact k

/-- What leaves the Knuckle, the sleep and the leaves' supplies. -/
theorem Cuts.of_frame {ps : List Part} {s n : State} (h : Frame ps s n) (hkn : .knuckle ∉ ps) (hsleep : .sleep ∉ ps)
    (hsup : ∀ k, (n.leaf k).supplied = (s.leaf k).supplied) : Cuts s n := by
  have hk : n.kn = s.kn := h .knuckle hkn
  have hz : n.sleep = s.sleep := h .sleep hsleep
  exact ⟨by rw [hk], by rw [hk], by rw [hk], hsup, fun hs => by rw [hz, hs]⟩

theorem Calm.supplied {s n : State} (h : Calm s n) (k : Leaf) : (n.leaf k).supplied = (s.leaf k).supplied := LeafRec.core_supplied (h.leaf k)

theorem Cuts.setLeaf (s : State) (l : Leaf) {x : LeafRec} (h : x.supplied = (s.leaf l).supplied) : Cuts s (s.setLeaf l x) := by
  refine ⟨by rw [setLeaf_kn], by rw [setLeaf_kn], by rw [setLeaf_kn], fun k => ?_, fun hs => by rw [setLeaf_sleep, hs]⟩
  cases l <;> cases k <;> first | rfl | exact h

theorem Cuts.cutOff (s : State) (l : Leaf) (cause : Nat) : Cuts s (s.cutOff l cause) := by
  unfold State.cutOff
  refine Cuts.trans ?_ (Cuts.of_frame (fenceRings_frame _ l) (by decide) (by decide) (Calm.fenceRings _ l).supplied)
  refine Cuts.trans ?_ (Cuts.of_frame (Logs.evAon _ _ _ _).frame (by decide) (by decide) (Logs.evAon _ _ _ _).leaf_supplied)
  refine Cuts.trans ?_ (Cuts.setLeaf _ l ?_)
  · refine Cuts.setLeaf s l ?_
    rfl
  · rfl

theorem Cuts.survivor (s : State) (l : Leaf) : Cuts s (s.survivor l) := by
  unfold State.survivor
  have hserves : Cuts s (s.setLeaf l.other { s.leaf l.other with st := .running, rq := true }) := Cuts.setLeaf s l.other rfl
  refine Cuts.ite _ (hserves.trans ⟨rfl, rfl, rfl, fun k => by cases k <;> rfl, fun hs => hs⟩) (Cuts.ite _ ?_ (Cuts.refl s))
  exact Cuts.setLeaf s l.other rfl

theorem Cuts.takenOver (s : State) (l : Leaf) : Cuts s (s.takenOver l) := ⟨rfl, rfl, rfl, fun k => by cases k <;> rfl, id⟩

theorem Cuts.failover (s : State) (l : Leaf) : Cuts s (s.failover l) := by
  by_cases h : (s.survivor l).running l.other = true
  · have hframe := failover_runs h
    refine ((Cuts.survivor s l).trans (Cuts.takenOver _ l)).trans (Cuts.of_frame hframe (by decide) (by decide) fun k => ?_)
    exact LeafRec.core_supplied (hframe.leaf_core (by decide) (by decide) k)
  · unfold State.failover
    rw [if_neg h]
    exact Cuts.survivor s l

theorem Cuts.episodesEnd (s : State) : Cuts s s.episodesEnd :=
  have hkn := episodesEnd_kn s
  have hsleep : s.episodesEnd.sleep = s.sleep := (episodesEnd_frame s .sleep (by decide)).trans (knuckleCancel_frame s .sleep (by decide))
  ⟨by rw [hkn]; rfl, by rw [hkn]; rfl, by rw [hkn]; rfl, (episodesEnd_calm s).supplied, fun hs => by rw [hsleep, hs]⟩

theorem Cuts.enterSafe (s : State) : Cuts s s.enterSafe := by
  by_cases h : s.aon.dev = .safe ∨ s.aon.dev = .off
  · unfold State.enterSafe
    rw [if_pos h]
    exact Cuts.refl s
  rw [enterSafe_awake (fun hs => h (.inl hs)) (fun hs => h (.inr hs))]
  have hclosed : Cuts s ((s.closeAll Cc.safe).pickDisarm 8) :=
    Cuts.of_frame ((closeAll_frame s Cc.safe).trans (pickDisarm_frame _ 8)) (by decide) (by decide)
      ((Calm.closeAll s Cc.safe).trans (Calm.pickDisarm _ 8)).supplied
  exact hclosed.trans ⟨rfl, rfl, rfl, fun k => by cases k <;> rfl, fun _ => rfl⟩

theorem Cuts.fenceEnd (s : State) (l : Leaf) : Cuts s (s.fenceEnd l) := by
  unfold State.fenceEnd
  refine Cuts.ite _ ?_ (Cuts.of_frame (canFollow_frame s) (by decide) (by decide) (Calm.canFollow s).supplied)
  refine Cuts.trans (Cuts.ite _ ?_ (Cuts.refl s)) (Cuts.enterSafe _)
  exact Cuts.setLeaf s l.other rfl

theorem fence_cuts {s : State} {l : Leaf} (cause : Nat) (h : s.fenceLine l = false) : Cuts s (s.fence l cause) := by
  rw [fence_stages cause h]
  refine Cuts.trans ?_ (Cuts.fenceEnd _ l)
  refine Cuts.trans ?_ (Cuts.episodesEnd _)
  exact (Cuts.cutOff s l cause).trans (Cuts.ite _ (Cuts.failover _ l) (Cuts.refl _))

end Sys2Proof.Machine


namespace Sys2Proof.Machine

/-! ### A leaf that is lost (R24, R53, R54, R438, R439, R538, R546, R552) -/

/-- The leaf is FENCED with its first cause; the supplies, the Knuckle's counts and the AON domain besides the device's state stay. -/
structure Lost (l : Leaf) (cause : Nat) (s n : State) : Prop where
  leaf : (n.leaf l).core = ((s.leaf l).fenced cause s.devTime).core
  cuts : Cuts s n
  besides : n.aon.besides = s.aon.besides
  frame : Frame fenceParts s n

theorem Lost.of_logs {l : Leaf} {cause : Nat} {s t n : State} (h : Lost l cause s t) (k : Logs t n) : Lost l cause s n where
  leaf := ((Calm.of_logs k).leaf l).trans h.leaf
  cuts := h.cuts.trans (Cuts.of_frame k.frame (by decide) (by decide) k.leaf_supplied)
  besides := (k.frame.aon_besides (by decide)).trans h.besides
  frame := h.frame.trans (k.frame_of_mem (by decide) (by decide))

theorem Lost.st {l : Leaf} {cause : Nat} {s n : State} (h : Lost l cause s n) : (n.leaf l).st = .fenced := LeafRec.core_st h.leaf

theorem Lost.rq {l : Leaf} {cause : Nat} {s n : State} (h : Lost l cause s n) : (n.leaf l).rq = false := LeafRec.core_rq h.leaf

theorem Lost.cause {l : Leaf} {c : Nat} {s n : State} (h : Lost l c s n) :
    (n.leaf l).cause = if (s.leaf l).cause = 0 then c else (s.leaf l).cause := LeafRec.core_cause h.leaf

theorem fence_besides (s : State) (l : Leaf) (cause : Nat) : (s.fence l cause).aon.besides = s.aon.besides :=
  (congrArg (fun x : Aon => { x with ready := false, faultN := false }) (Ends.fence s l cause).aon :)

theorem fence_lost {s : State} {l : Leaf} (cause : Nat) (h : s.fenceLine l = false) : Lost l cause s (s.fence l cause) :=
  ⟨fence_leaf s l cause h, fence_cuts cause h, fence_besides s l cause, (Ends.fence s l cause).frame⟩

theorem wake_cuts (s : State) (bits : Nat) : Cuts s (s.wake bits) := by
  have hframe := wake_frame s bits
  have hkn : (s.wake bits).kn = s.kn := hframe .knuckle (by decide)
  refine ⟨by rw [hkn], by rw [hkn], by rw [hkn], fun k => LeafRec.core_supplied (hframe.leaf_core (by decide) (by decide) k), fun hs => ?_⟩
  rw [wake_awake hs, hs]

/-- A fence that wakes a sleeping device (R558, R700). -/
theorem fenceWake_lost {s : State} {l : Leaf} (cause : Nat) (h : s.fenceLine l = false) : Lost l cause s (s.fenceWake l cause) := by
  have hfence := fence_lost cause h
  have hwake := wake_frame (s.fence l cause) 0x100
  exact ⟨(hwake.leaf_core (by decide) (by decide) l).trans hfence.leaf, hfence.cuts.trans (wake_cuts _ _),
    (wake_besides _ _).trans hfence.besides, hfence.frame.trans (hwake.mono (by decide))⟩

theorem logCarried_logs (s : State) : Logs s s.logCarried := Logs.ite _ (Logs.evAon _ _ _ _) (Logs.refl s)

section

variable {t : Nat} {l : Leaf} {s : State} (hwork : (s.setNow t).fenceable l = true) (hline : (s.setNow t).fenceLine l = false)
include hwork hline

theorem watchdogExpiry_lost : ∃ n, exec (.watchdogExpiry t l) s = .next (settle s n) ∧ Lost l Fc.watchdog (s.setNow t) n := by
  refine ⟨_, ?_, (fenceWake_lost Fc.watchdog hline).of_logs (logCarried_logs _)⟩
  change execWatchdogExpiry t l s = _
  exact at'_eq (if_pos hwork)

theorem sramUncorrectable_lost (word : Nat) :
    ∃ n, exec (.sramUncorrectable t l word) s = .next (settle s n) ∧ Lost l Fc.sram (s.setNow t) n := by
  refine ⟨_, (show execSramUncorrectable t l word s = _ from at'_eq (if_pos hwork)), ?_⟩
  exact (fenceWake_lost Fc.sram hline).of_logs (Logs.evAon _ _ _ _)

/-- Five missed heartbeats are counted before the fence (R538). -/
def State.missed (s : State) : State := { s with kn := { s.kn with hbMisses := satAdd 16 s.kn.hbMisses 5 } }

theorem heartbeatLoss_lost : exec (.heartbeatLoss t l) s = .next (settle s ((s.setNow t).missed.fenceWake l Fc.heartbeat)) ∧
    Lost l Fc.heartbeat (s.setNow t).missed ((s.setNow t).missed.fenceWake l Fc.heartbeat) := by
  refine ⟨?_, fenceWake_lost Fc.heartbeat hline⟩
  change execHeartbeatLoss t l s = _
  exact at'_eq (if_pos hwork)

/-- With Leaf A's clock the crystal XA is lost (R9). -/
def State.xaLost (s : State) (l : Leaf) : State := { s with aon := { s.aon with xaGood := s.aon.xaGood && l != Leaf.a } }

theorem clockFault_lost (offFreq : Bool) :
    ∃ n, exec (.clockFault t l offFreq) s = .next (settle s n) ∧ Lost l Fc.clock ((s.setNow t).xaLost l) n := by
  simp only [State.fenceable, Bool.and_eq_true, Bool.not_eq_true', bne_iff_ne, ne_eq] at hwork
  obtain ⟨⟨⟨hsup, hfree⟩, hoff⟩, -⟩ := hwork
  have hon : s.aon.dev ≠ .off := hoff
  refine ⟨_, (show execClockFault t l offFreq s = _ from at'_eq (if_neg (by simp [hsup, hfree, hon]))), ?_⟩
  exact (fenceWake_lost (s := (s.setNow t).xaLost l) Fc.clock hline).of_logs (Logs.evAon _ _ _ _)

/-! The supply of a leaf (R9, R53) -/

/-- A rail that is lost is counted; with Leaf A's rails the crystal XA is lost. -/
def State.railLost (s : State) (l : Leaf) (rail : Nat) : State :=
  { s with aon := { s.aon with
      supplyEvents := satAdd 16 s.aon.supplyEvents 1, xaGood := s.aon.xaGood && l != Leaf.a
      rails := setBit s.aon.rails (railBit l rail) false } }

/-- Without a supplied leaf PPS_OUT falls. -/
def State.ppsFall (s : State) (l : Leaf) : State :=
  if (s.leaf l.other).supplied then s else { s with time := { s.time with ppsOut := false } }

/-- A leaf without its supply. -/
def State.unsupplied (s : State) (l : Leaf) : State :=
  s.modLeaf l (fun x => { x with supplied := false, pllOk := false, mramOk := false, sramOk := false, rejoin := 0, regulated := false })

omit hline in
theorem leafSupplyLoss_exec (rail : Nat) : ∃ n, exec (.leafSupplyLoss t l rail) s = .next (settle s n) ∧
    Logs (((((s.setNow t).railLost l rail).fenceWake l Fc.supply).ppsFall l).unsupplied l) n := by
  have hon : ((s.setNow t).leaf l).supplied = true ∧ s.aon.dev ≠ .off := by
    simp only [State.fenceable, Bool.and_eq_true, bne_iff_ne] at hwork
    obtain ⟨⟨⟨hsup, -⟩, hoff⟩, -⟩ := hwork
    exact ⟨hsup, hoff⟩
  obtain ⟨hsup, hoff⟩ := hon
  have hrail : ((s.setNow t).railLost l rail).fenceable l = true := hwork
  have hfenced : (if ((s.setNow t).railLost l rail).fenceable l then ((s.setNow t).railLost l rail).fenceWake l Fc.supply
      else (s.setNow t).railLost l rail) = ((s.setNow t).railLost l rail).fenceWake l Fc.supply := if_pos hrail
  refine ⟨_, (show execLeafSupplyLoss t l rail s = _ from at'_eq (if_neg (by simp [hsup, hoff]))), ?_⟩
  rw [← hfenced]
  exact (Logs.evAon _ _ _ _).trans (logCarried_logs _)

end

theorem ppsFall_frame (s : State) (l : Leaf) : Frame [.time] s (s.ppsFall l) := Frame.ite _ (Frame.refl _ s) (Frame.time s _)

theorem unsupplied_frame (s : State) (l : Leaf) : Frame [.leafA, .leafB] s (s.unsupplied l) := Frame.modLeaf s l _ rfl

theorem ppsFall_ppsOut (s : State) (l : Leaf) : (s.ppsFall l).time.ppsOut = (s.time.ppsOut && (s.leaf l.other).supplied) := by
  unfold State.ppsFall
  split <;> simp_all

theorem bit_setBit_clear (n k : Nat) : bit (setBit n k false) k = false := by
  rw [bit, setBit, if_neg (by decide)]
  cases h : n.testBit k
  · simpa using h
  · rw [Nat.testBit_eq_decide_div_mod_eq] at h ⊢
    have hdiv : (n - 2 ^ k) / 2 ^ k = n / 2 ^ k - 1 := by simpa using Nat.sub_mul_div n (2 ^ k) 1
    simp only [if_true, hdiv, decide_eq_true_eq, decide_eq_false_iff_not] at h ⊢
    omega

end Sys2Proof.Machine


namespace Sys2Proof.Machine

/-! ### Each fault of a leaf (R546, R552) -/

section

variable {t : Nat} {l : Leaf} {s : State} (hwork : (s.setNow t).fenceable l = true) (hline : (s.setNow t).fenceLine l = false)
include hwork hline

theorem heartbeatLoss_effect : ∃ n, exec (.heartbeatLoss t l) s = .next n ∧ (n.leaf l).st = .fenced ∧ (n.leaf l).rq = false ∧
    (n.leaf l).cause = (if (s.leaf l).cause = 0 then Fc.heartbeat else (s.leaf l).cause) ∧ n.kn.hbMisses = satAdd 16 s.kn.hbMisses 5 ∧
    Frame fenceParts s n := by
  obtain ⟨hexec, hlost⟩ := heartbeatLoss_lost hwork hline
  refine ⟨_, hexec, ?_, ?_, ?_, hlost.cuts.hbMisses,
    Frame.settle (t := t) (((Frame.kn (s.setNow t) _).mono (by decide)).trans hlost.frame)⟩ <;> rw [settle_leaf]
  · exact hlost.st
  · exact hlost.rq
  · exact hlost.cause

theorem clockFault_effect (offFreq : Bool) : ∃ n, exec (.clockFault t l offFreq) s = .next n ∧ (n.leaf l).st = .fenced ∧
    (n.leaf l).rq = false ∧ (n.leaf l).cause = (if (s.leaf l).cause = 0 then Fc.clock else (s.leaf l).cause) ∧
    (l = .a → n.aon.xaGood = false) ∧ Frame fenceParts s n := by
  obtain ⟨n, hexec, hlost⟩ := clockFault_lost hwork hline offFreq
  refine ⟨_, hexec, ?_, ?_, ?_, ?_, Frame.settle (t := t) (((Frame.aon (s.setNow t) _).mono (by decide)).trans hlost.frame)⟩
  · rw [settle_leaf]
    exact hlost.st
  · rw [settle_leaf]
    exact hlost.rq
  · rw [settle_leaf]
    exact hlost.cause
  · intro hl
    have hxa : n.aon.xaGood = (s.aon.xaGood && l != Leaf.a) := congrArg Aon.xaGood hlost.besides
    rw [settle_aon_xaGood, hxa, hl]
    exact Bool.and_false _

theorem leafSupplyLoss_effect (rail : Nat) : ∃ n, exec (.leafSupplyLoss t l rail) s = .next n ∧ (n.leaf l).st = .fenced ∧
    (n.leaf l).rq = false ∧ (n.leaf l).cause = (if (s.leaf l).cause = 0 then Fc.supply else (s.leaf l).cause) ∧
    (n.leaf l).supplied = false ∧ n.aon.supplyEvents = satAdd 16 s.aon.supplyEvents 1 ∧ (l = .a → n.aon.xaGood = false) ∧
    bit n.aon.rails (4 * l.num + rail % 4) = false ∧ n.time.ppsOut = (s.time.ppsOut && (s.leaf l.other).supplied) ∧
    Frame (.time :: fenceParts) s n := by
  obtain ⟨n, hexec, hlogs⟩ := leafSupplyLoss_exec hwork rail
  obtain ⟨u, hu⟩ : ∃ u, u = ((s.setNow t).railLost l rail).fenceWake l Fc.supply := ⟨_, rfl⟩
  have hlost : Lost l Fc.supply ((s.setNow t).railLost l rail) u := hu ▸ fenceWake_lost Fc.supply hline
  rw [← hu] at hlogs
  have hfall := ppsFall_frame u l
  have hoff := unsupplied_frame (u.ppsFall l) l
  have hleaf : ((u.ppsFall l).unsupplied l).leaf l =
      { u.leaf l with supplied := false, pllOk := false, mramOk := false, sramOk := false, rejoin := 0, regulated := false } := by
    rw [State.unsupplied, modLeaf_leaf]
    unfold State.ppsFall
    split <;> rfl
  have haon : n.aon.besides = ((s.setNow t).railLost l rail).aon.besides := by
    rw [hlogs.frame.aon_besides (by decide), hoff.aon_besides (by decide), hfall.aon_besides (by decide), hlost.besides]
  refine ⟨_, hexec, ?_, ?_, ?_, ?_, ?_, ?_, ?_, ?_, Frame.settle (t := t) ?_⟩
  · rw [settle_leaf, hlogs.leaf_st, hleaf]
    exact hlost.st
  · rw [settle_leaf, hlogs.leaf_rq, hleaf]
    exact hlost.rq
  · rw [settle_leaf, hlogs.leaf_cause, hleaf]
    exact hlost.cause
  · rw [settle_leaf, hlogs.leaf_supplied, hleaf]
  · exact (congrArg Aon.supplyEvents haon :)
  · intro hl
    have hxa : n.aon.xaGood = (s.aon.xaGood && l != Leaf.a) := congrArg Aon.xaGood haon
    rw [settle_aon_xaGood, hxa, hl]
    exact Bool.and_false _
  · have hrails : n.aon.rails = setBit s.aon.rails (railBit l rail) false := congrArg Aon.rails haon
    rw [settle_aon_rails, hrails]
    exact bit_setBit_clear _ _
  · have htime : ({ u.time with now := 0 } : TimeU) = { s.time with now := 0 } := hlost.frame .time (by decide)
    have hout : u.time.ppsOut = s.time.ppsOut := (congrArg TimeU.ppsOut htime :)
    have hsup : (u.leaf l.other).supplied = (s.leaf l.other).supplied := (hlost.cuts.supplied l.other).trans (by cases l <;> rfl)
    have hkept : ((u.ppsFall l).unsupplied l).time = (u.ppsFall l).time := modLeaf_time _ _ _
    rw [settle_time_ppsOut, hlogs.time, hkept, ppsFall_ppsOut, hout, hsup]
  · refine Frame.trans ?_ (hlogs.frame_of_mem (by decide) (by decide))
    refine Frame.trans ?_ (hoff.mono (by decide))
    refine Frame.trans ?_ (hfall.mono (by decide))
    exact ((Frame.aon (s.setNow t) _).mono (by decide)).trans (hlost.frame.mono (by decide))

end

/-- Settles O17: each fault is one fence with the fault's cause, followed by a wake and events; a lost supply takes the leaf's rails after
it. -/
theorem leafFaultsFence : Obligations.LeafFaultsFence := by
  unfold Obligations.LeafFaultsFence
  intro t l s hwork hline
  have hfenced : ∀ {c : Instr} {cause : Nat}, (∃ n, exec c s = .next (settle s n) ∧ Lost l cause (s.setNow t) n) →
      ∃ n, exec c s = .next n ∧ (n.leaf l).st = .fenced ∧ (n.leaf l).rq = false ∧
        (n.leaf l).cause = (if (s.leaf l).cause = 0 then cause else (s.leaf l).cause) ∧ True ∧ Frame fenceParts s n := by
    rintro c cause ⟨n, hexec, hlost⟩
    refine ⟨_, hexec, ?_, ?_, ?_, trivial, hlost.frame.settle⟩ <;> rw [settle_leaf]
    · exact hlost.st
    · exact hlost.rq
    · rw [hlost.cause, setNow_leaf]
  refine ⟨hfenced (watchdogExpiry_lost hwork hline), heartbeatLoss_effect hwork hline, clockFault_effect hwork hline,
    fun word => hfenced (sramUncorrectable_lost hwork hline word), leafSupplyLoss_effect hwork hline⟩

/-! KNUCKLE_LINK_LOSS (R552) -/

theorem other_other (l : Leaf) : l.other.other = l := by cases l <;> rfl

theorem other_running {s : State} {l : Leaf} (h : s.running l = true) : s.running l.other.other = true := by rw [other_other, h]

/-- The loss of the link is noted before the fence. -/
def State.linkLoss (s : State) : State := { s with kn := { s.kn with linkLost := true } }

/-- Settles O18: the HOT STANDBY is fenced with the link noted lost; a fence while the other leaf runs leaves that leaf and the device. -/
theorem knuckleLinkLossFences : Obligations.KnuckleLinkLossFences := by
  unfold Obligations.KnuckleLinkLossFences
  intro t s hstandby hactive hline
  have hlost : Lost s.act.other Fc.link (s.setNow t).linkLoss ((s.setNow t).linkLoss.fenceWake s.act.other Fc.link) :=
    fenceWake_lost Fc.link hline
  obtain ⟨n, hexec, hlogs⟩ : ∃ n, exec (.knuckleLinkLoss t) s = .next (settle s n) ∧
      Logs ((s.setNow t).linkLoss.fenceWake s.act.other Fc.link) n := by
    have hboth : ((s.setNow t).fenceable (s.setNow t).act.other && (s.setNow t).fenceable (s.setNow t).act) = true :=
      Bool.and_eq_true_iff.mpr ⟨hstandby, hactive⟩
    refine ⟨_, (show execKnuckleLinkLoss t s = _ from at'_eq (if_pos hboth)), ?_⟩
    exact Logs.evA _ _ _ _
  have hn := hlost.of_logs hlogs
  refine ⟨_, hexec, ?_, hn.cuts.linkLost, ?_, fun hrun => ?_,
    Frame.settle (t := t) (((Frame.kn (s.setNow t) _).mono (by decide)).trans hn.frame)⟩
  · rw [settle_leaf]
    exact hn.st
  · rw [settle_leaf]
    exact hn.cause
  · obtain ⟨hdev, hleaf⟩ := fence_running (s.setNow t).linkLoss s.act.other Fc.link (other_running hrun)
    have hwake := wake_frame ((s.setNow t).linkLoss.fence s.act.other Fc.link) 0x100
    rw [other_other] at hleaf
    constructor
    · have hst : ((s.setNow t).linkLoss.leaf s.act).st = .running := by
        simp only [State.running, Bool.and_eq_true, beq_iff_eq] at hrun
        exact hrun.1.2
      rw [settle_leaf, hlogs.leaf_st]
      exact (LeafRec.core_st (hwake.leaf_core (by decide) (by decide) s.act)).trans ((LeafRec.core_st hleaf).trans hst)
    · intro hawake
      have hfence := (fence_cuts (s := (s.setNow t).linkLoss) Fc.link hline).awake hawake
      rw [settle_aon_dev, hlogs.aon, State.fenceWake, wake_awake hfence, hdev]
      rfl

end Sys2Proof.Machine


namespace Sys2Proof.Machine

/-! ### Pick disarms (R719) -/

theorem release_frame (s : State) (l : List Out) : Frame [.out, .log, .fifos] s (s.release l) := by
  refine Frame.each (fun o s => ?_) l s
  have hput : Frame [.out, .log, .fifos] s (s.emit o) := (emit_frame s o).mono (by decide)
  dsimp only
  split
  · exact hput.trans ((Logs.withPick _ _ _ (fun t => Logs.traceFrame t _ _ _ _ _)).frame_of_mem (by decide) (by decide))
  · exact hput

/-- Pick's record as disarming leaves it: what it received is due at once, what it sent has gone. -/
def Pick.disarmed (x : Pick) (cause now : Nat) : Pick :=
  { x with armed := false, lastDisarm := cause
           held := (x.held.filter (fun (h : PickHeld) => h.rx.isSome)).map (fun (h : PickHeld) => ({ h with after := 0, due := now } : PickHeld)) }

theorem pickDisarm_pick {s : State} (cause : Nat) (h : s.pick.armed = true) :
    (s.pickDisarm cause).pick = s.pick.disarmed cause s.time.now := by
  unfold State.pickDisarm
  rw [if_neg (by simp [h])]
  refine ((Logs.evA _ _ _ _).pick).trans ?_
  have hpick : (s.release (s.pick.held.filterMap (·.tx))).pick = s.pick := release_frame s _ .pick (by decide)
  exact congrArg (fun x : Pick => { x with
    armed := false, lastDisarm := cause
    held := (s.pick.held.filter (fun (h : PickHeld) => h.rx.isSome)).map
      (fun (h : PickHeld) => ({ h with after := 0, due := s.time.now } : PickHeld)) }) hpick

theorem pickDisarm_unarmed {s : State} (cause : Nat) (h : s.pick.armed = false) : s.pickDisarm cause = s := by
  unfold State.pickDisarm
  rw [if_pos (by simp [h])]

theorem pickDisarm_armed (s : State) (cause : Nat) : (s.pickDisarm cause).pick.armed = false := by
  cases h : s.pick.armed
  · rw [pickDisarm_unarmed cause h, h]
  · rw [pickDisarm_pick cause h]
    rfl

theorem pickDisarm_reaches (s : State) (cause : Nat) : Frame [.pick, .out, .log, .fifos] s (s.pickDisarm cause) := by
  unfold State.pickDisarm
  refine Frame.ite _ (Frame.refl _ s) ?_
  refine Frame.trans ?_ ((Logs.evA _ _ _ _).frame_of_mem (by decide) (by decide))
  exact ((release_frame s _).mono (by decide)).trans ((Frame.pick _ _).mono (by decide))

/-! ### Sessions that close stay closed (R611) -/

/-- No session opens. -/
def Shuts (s n : State) : Prop := ∀ i, (n.sess i).st = 3 → (s.sess i).st = 3

theorem Shuts.refl (s : State) : Shuts s s := fun _ => id

theorem Shuts.trans {s t n : State} (h : Shuts s t) (k : Shuts t n) : Shuts s n := fun i => h i ∘ k i

theorem Shuts.ite {s t n : State} (c : Prop) [Decidable c] (h : Shuts s t) (k : Shuts s n) : Shuts s (if c then t else n) := by
  split
  · exact h
  · exact k

theorem Shuts.step {s t : State} {f : State → State} (c : Prop) [Decidable c] (h : Shuts s t) (hf : ∀ t, Shuts t (f t)) :
    Shuts s (if c then f t else t) := Shuts.ite c (h.trans (hf t)) h

theorem Shuts.of_frame {ps : List Part} {s n : State} (h : Frame ps s n) (hp : .links ∉ ps) : Shuts s n := fun i hi => by
  rwa [State.sess, h.links_eq hp, ← State.sess] at hi

theorem Shuts.of_logs {s n : State} (h : Logs s n) : Shuts s n := Shuts.of_frame h.frame (by decide)

/-- An answer leaves every session in its state. -/
theorem Shuts.answerOpt (s : State) (w : Option (Nat × Nat)) (status : Nat) (body : List Byte) : Shuts s (s.answerOpt w status body) := by
  cases w with
  | none => exact Shuts.refl s
  | some w =>
    obtain ⟨-, hst, hother⟩ := answer_spec s w.1 w.2 status body
    intro i hi
    by_cases h : i = w.1
    · subst h
      exact hst ▸ hi
    · exact hother i h ▸ hi

theorem Shuts.stageAbandon (s : State) (k : Nat) : Shuts s (s.stageAbandon k) := by
  unfold State.stageAbandon
  refine Shuts.ite _ ?_ (Shuts.refl s)
  refine Shuts.trans ?_ (Shuts.of_logs (Logs.evA _ _ _ _))
  refine Shuts.trans ?_ (Shuts.of_frame (Frame.stage _ _) (by decide))
  refine Shuts.trans ?_ (Shuts.of_frame (stageIdle_frame _) (by decide))
  refine Shuts.trans ?_ (Shuts.answerOpt _ _ _ _)
  exact Shuts.ite _ (Shuts.of_frame (withdraw_frame s _) (by decide)) (Shuts.refl s)

/-- What ends with a session opens none. -/
theorem closeSession_shuts {s : State} {k : Nat} (cause : Nat) (hopen : (s.sess k).st = 3) :
    Shuts (s.setSess k ((s.sess k).closed cause)) (s.closeSession k cause) := by
  unfold State.closeSession
  dsimp only
  rw [if_neg (by simp [hopen])]
  refine Shuts.step (f := fun t => t.freeMarks k) _ ?_ fun t => Shuts.of_logs (Logs.lg t _)
  refine Shuts.step (f := State.armEnd) _ ?_ fun t => Shuts.of_frame (armEnd_frame t) (by decide)
  refine Shuts.step (f := fun t => t.pickDisarm 6) _ ?_ fun t => Shuts.of_frame (pickDisarm_reaches t 6) (by decide)
  refine Shuts.step (f := fun t => t.stageAbandon 0) _ ?_ fun t => Shuts.stageAbandon t 0
  exact Shuts.of_logs ((unsubscribe_logs _ k).trans (Logs.evA _ _ _ _))

/-- After a session closes, what is open was open before and is another one. -/
theorem closeSession_open {s : State} {k i : Nat} (cause : Nat) (h : ((s.closeSession k cause).sess i).st = 3) : (s.sess i).st = 3 ∧ i ≠ k := by
  by_cases hopen : (s.sess k).st = 3
  · have hset := closeSession_shuts cause hopen i h
    by_cases hi : i = k
    · subst hi
      rw [sess_setSess_same] at hset
      exact absurd hset (Sess.closed_st _ _)
    · rw [sess_setSess_other _ _ _ _ hi] at hset
      exact ⟨hset, hi⟩
  · unfold State.closeSession at h
    rw [if_pos (by simpa using hopen)] at h
    exact ⟨h, fun hi => hopen (hi ▸ h)⟩

theorem closeSessions_open {cause i : Nat} (l : List Nat) {s : State} (h : ((l.foldl (fun s k => s.closeSession k cause) s).sess i).st = 3) :
    (s.sess i).st = 3 ∧ i ∉ l := by
  induction l generalizing s with
  | nil => exact ⟨h, List.not_mem_nil⟩
  | cons k r ih =>
    obtain ⟨hrest, hr⟩ := ih h
    obtain ⟨hopen, hk⟩ := closeSession_open cause hrest
    exact ⟨hopen, by simp [hk, hr]⟩

/-- A session without a record is not open. -/
theorem sess_listed {s : State} {i : Nat} (h : (s.sess i).st = 3) : i ∈ s.links.sess.map (·.1) := by
  by_contra hi
  suffices hnone : ∀ m : KMap Sess, i ∉ m.map (·.1) → kget ({} : Sess) m i = {} by
    rw [State.sess, hnone _ hi] at h
    exact absurd h (by decide)
  intro m hm
  induction m with
  | nil => rfl
  | cons e r ih =>
    simp only [List.map_cons, List.mem_cons, not_or] at hm
    rw [kget, if_neg (fun he => hm.1 he.symm)]
    exact ih hm.2

theorem closeAll_shut (s : State) (cause i : Nat) : ((s.closeAll cause).sess i).st ≠ 3 := fun h => by
  obtain ⟨hopen, hlisted⟩ := closeSessions_open _ h
  exact hlisted (sess_listed hopen)

/-! ### The failover, and SAFE without another leaf (R548, R551, R725) -/

theorem running_congr {s n : State} {k : Leaf} (hleaf : (n.leaf k).core = (s.leaf k).core) (hmode : n.aon.mode = s.aon.mode) :
    n.running k = s.running k := by
  simp only [State.running, LeafRec.core_supplied hleaf, LeafRec.core_st hleaf, Aon.mode_testEn hmode]

theorem Frame.mode_eq {ps : List Part} {s n : State} (h : Frame ps s n) (hp : .aon ∉ ps) : n.aon.mode = s.aon.mode :=
  (congrArg Aon.mode (h .aon hp) :)

theorem cutOff_other (s : State) (l : Leaf) (cause : Nat) : ((s.cutOff l cause).leaf l.other).core = (s.leaf l.other).core := by
  unfold State.cutOff
  refine ((Calm.fenceRings _ l).leaf l.other).trans (((Calm.of_logs (Logs.evAon _ _ _ _)).leaf l.other).trans ?_)
  rw [((Calm.snapCut _ l).leaf l.other), modLeaf_leaf_other]

/-- A leaf that is cut off leaves the device's state and the other leaf. -/
theorem cutOff_keeps (s : State) (l : Leaf) (cause : Nat) :
    (s.cutOff l cause).aon.mode = s.aon.mode ∧ (s.cutOff l cause).running l.other = s.running l.other := by
  have hmode := (cutOff_frame s l cause).mode_eq (by decide)
  exact ⟨hmode, running_congr (cutOff_other s l cause) hmode⟩

section

variable {s : State} {l : Leaf} (cause : Nat) (hline : s.fenceLine l = false)
include hline

/-- The ACTIVE leaf is fenced while the other runs: the other takes over, and the episodes end. -/
theorem fence_takesOver (hactive : s.kn.active = some l) (hrun : s.running l.other = true) :
    (s.fence l cause).kn = ((s.cutOff l cause).takenOver l).kn.cancelled ∧ (s.fence l cause).power = ((s.cutOff l cause).takenOver l).power := by
  obtain ⟨hmode, hother⟩ := cutOff_keeps s l cause
  obtain ⟨u, hu⟩ : ∃ u, u = (s.cutOff l cause).failover l := ⟨_, rfl⟩
  have hruns : (s.cutOff l cause).running l.other = true := hother.trans hrun
  have hsame := survivor_running hruns
  have hframe := failover_runs (s := s.cutOff l cause) (by rw [hsame]; exact hruns)
  rw [hsame, ← hu] at hframe
  obtain ⟨hleaf, hmode'⟩ := failover_other (s.cutOff l cause) l hruns
  rw [← hu] at hleaf hmode'
  have hend : u.episodesEnd.fenceEnd l = u.episodesEnd.canFollow := by
    have hcalm := episodesEnd_calm u
    have hrun' : u.episodesEnd.running l.other = true :=
      (running_congr ((hcalm.leaf l.other).trans hleaf) (hcalm.dev.trans hmode')).trans hruns
    unfold State.fenceEnd
    rw [hrun']
    rfl
  rw [fence_stages cause hline, hactive, if_pos (by simp), ← hu, hend]
  constructor
  · rw [← hframe .knuckle (by decide), ← episodesEnd_kn]
    rfl
  · rw [← hframe .power (by decide)]
    exact (episodesEnd_frame u .power (by decide)).trans (knuckleCancel_frame u .power (by decide))

/-- A leaf is fenced while the other is FENCED: nobody takes over, and the episodes end in SAFE. -/
theorem fence_alone (hother : (s.leaf l.other).st = .fenced) : s.fence l cause = (s.cutOff l cause).episodesEnd.enterSafe := by
  have hst : ((s.cutOff l cause).leaf l.other).st = .fenced := (LeafRec.core_st (cutOff_other s l cause)).trans hother
  have hfail : (s.cutOff l cause).failover l = s.cutOff l cause := by
    have hsame : (s.cutOff l cause).survivor l = s.cutOff l cause := by simp [State.survivor, hst]
    unfold State.failover
    rw [hsame]
    exact if_neg (by simp [State.running, hst])
  have hst' : ((s.cutOff l cause).episodesEnd.leaf l.other).st = .fenced := (LeafRec.core_st ((episodesEnd_calm _).leaf l.other)).trans hst
  rw [fence_stages cause hline, hfail, ite_self, State.fenceEnd, if_pos (by simp [State.running, hst']), if_neg (by simp [hst'])]

end

/-- What SAFE leaves: no open session, Pick disarmed, no sweep, no sleep, no ACTIVE leaf, HOLD with its cause. -/
theorem enterSafe_spec {s : State} (hsafe : s.aon.dev ≠ .safe) (hoff : s.aon.dev ≠ .off) :
    s.enterSafe.aon.dev = .safe ∧ s.enterSafe.aon.hold = true ∧ bit s.enterSafe.aon.holdCause 4 = true ∧
      (∀ k, (s.enterSafe.sess k).st ≠ 3) ∧ s.enterSafe.pick.armed = false ∧ s.enterSafe.sw.phase = .idle ∧ s.enterSafe.sleep.st = 0 ∧
      s.enterSafe.kn.active = none := by
  rw [enterSafe_awake hsafe hoff]
  have hclosed : ∀ k, (((s.closeAll Cc.safe).pickDisarm 8).sess k).st ≠ 3 := fun k h =>
    closeAll_shut s Cc.safe k (Shuts.of_frame (pickDisarm_reaches (s.closeAll Cc.safe) 8) (by decide) k h)
  exact ⟨rfl, rfl, bit_setBit_same _ _, hclosed, pickDisarm_armed _ _, rfl, rfl, rfl⟩

section

variable {t : Nat} {l : Leaf} {s : State} (hwork : (s.setNow t).fenceable l = true) (hline : (s.setNow t).fenceLine l = false)
include hwork hline

omit hline in
theorem watchdogExpiry_exec :
    exec (.watchdogExpiry t l) s = .next (settle s ((s.setNow t).fenceWake l Fc.watchdog).logCarried) := by
  change execWatchdogExpiry t l s = _
  exact at'_eq (if_pos hwork)

omit hline in
theorem fenceable_dev : s.aon.dev ≠ .off ∧ s.aon.dev ≠ .safe := by
  simp only [State.fenceable, Bool.and_eq_true, bne_iff_ne] at hwork
  obtain ⟨⟨-, hoff⟩, hsafe⟩ := hwork
  exact ⟨hoff, hsafe⟩

theorem watchdogExpiry_failover (hactive : s.kn.active = some l) (hrun : (s.setNow t).running l.other = true) :
    ∃ n, exec (.watchdogExpiry t l) s = .next n ∧ n.kn.active = some l.other ∧ n.kn.failovers = satAdd 16 s.kn.failovers 1 ∧
      n.kn.lastInterrupt ≤ 400 ∧ n.power.kaPath = l.other.num ∧ n.aon.dev ≠ .safe := by
  obtain ⟨u, hu⟩ : ∃ u, u = (s.setNow t).fence l Fc.watchdog := ⟨_, rfl⟩
  obtain ⟨hkn, hpower⟩ := fence_takesOver (s := s.setNow t) Fc.watchdog hline hactive hrun
  have hwake := wake_frame u 0x100
  have hlogs := logCarried_logs (u.wake 0x100)
  have hcut : ((s.setNow t).cutOff l Fc.watchdog).kn = s.kn := cutOff_frame _ _ _ .knuckle (by decide)
  have hk : (settle s (u.wake 0x100).logCarried).kn = (((s.setNow t).cutOff l Fc.watchdog).takenOver l).kn.cancelled := by
    rw [settle_kn, hlogs.kn, hwake .knuckle (by decide), hu, hkn]
  have hp : (settle s (u.wake 0x100).logCarried).power = (((s.setNow t).cutOff l Fc.watchdog).takenOver l).power := by
    rw [settle_power, hlogs.power, hwake .power (by decide), hu, hpower]
  refine ⟨settle s (u.wake 0x100).logCarried, hu ▸ watchdogExpiry_exec hwork, ?_, ?_, ?_, ?_, ?_⟩
  · rw [hk]
    rfl
  · rw [hk, ← hcut]
    rfl
  · rw [hk]
    exact Nat.min_le_left _ _
  · rw [hp]
    rfl
  · obtain ⟨hdev, -⟩ := fence_running (s.setNow t) l Fc.watchdog hrun
    have hne : u.aon.dev ≠ .safe := by
      rw [hu, hdev]
      exact (fenceable_dev hwork).2
    rw [settle_aon_dev, hlogs.aon, wake_dev]
    split
    · split <;> decide
    · exact hne

theorem watchdogExpiry_safe (hother : (s.leaf l.other).st = .fenced) :
    ∃ n, exec (.watchdogExpiry t l) s = .next n ∧ n.aon.dev = .safe ∧ n.aon.hold = true ∧ bit n.aon.holdCause 4 = true ∧
      (∀ k, (n.sess k).st ≠ 3) ∧ n.pick.armed = false ∧ n.sw.phase = .idle ∧ n.sleep.st = 0 ∧ n.kn.active = none := by
  obtain ⟨u, hu⟩ : ∃ u, u = ((s.setNow t).cutOff l Fc.watchdog).episodesEnd := ⟨_, rfl⟩
  have hfence : (s.setNow t).fence l Fc.watchdog = u.enterSafe := hu ▸ fence_alone Fc.watchdog hline hother
  have hdev : u.aon.dev = s.aon.dev := hu ▸
    (Aon.mode_dev (episodesEnd_calm _).dev).trans (Aon.mode_dev (cutOff_keeps (s.setNow t) l Fc.watchdog).1)
  obtain ⟨hoff, hsafe⟩ := fenceable_dev hwork
  obtain ⟨h1, h2, h3, h4, h5, h6, h7, h8⟩ := enterSafe_spec (s := u) (hdev ▸ hsafe) (hdev ▸ hoff)
  have hlogs := logCarried_logs u.enterSafe
  refine ⟨settle s u.enterSafe.logCarried, ?_, ?_⟩
  · rw [watchdogExpiry_exec hwork, State.fenceWake, hfence, wake_awake h7]
  · simp only [State.sess, settle_aon_dev, settle_aon_hold, settle_aon_holdCause, settle_links, settle_pick, settle_sw, settle_sleep, settle_kn,
      hlogs.aon, hlogs.links, hlogs.pick, hlogs.sw, hlogs.sleep, hlogs.kn]
    exact ⟨h1, h2, h3, h4, h5, h6, h7, h8⟩

end

/-- Settles O19: the fence of an ACTIVE leaf hands every duty to a leaf that runs; with the other leaf FENCED it ends in SAFE. -/
theorem failoverOrSafe : Obligations.FailoverOrSafe := by
  unfold Obligations.FailoverOrSafe
  intro t l s hwork hline
  exact ⟨watchdogExpiry_failover hwork hline, watchdogExpiry_safe hwork hline⟩

end Sys2Proof.Machine


namespace Sys2Proof.Machine

/-! ### The commands on leaves (R554, R556) -/

@[simp] theorem taken_bothRun (s : State) (q : HReq) (kind op : Nat) : (s.taken q kind op).bothRun = s.bothRun := by
  simp only [State.bothRun, taken_running]

@[simp] theorem taken_fenceLine (s : State) (q : HReq) (kind op : Nat) (l : Leaf) : (s.taken q kind op).fenceLine l = s.fenceLine l := by
  simp only [State.fenceLine, taken_leaf]

section

variable {t : Nat} {q : HReq} {s : State}

theorem leafRejoin_effect (hlets : (s.setNow t).lets q 0x0E01 Perm.restart = true) (hlen : q.args.length = 4) (hleaf : arg q 0 1 ≤ 1)
    (hfenced : (s.leaf (leafArg (arg q 0 1))).st = .fenced) (hrole : (s.leaf (leafArg (arg q 0 1))).cause ≠ Fc.role) :
    ∃ n, exec (.leafRejoin t q) s = .next n ∧ (n.leaf (leafArg (arg q 0 1))).st = .rejoining ∧ (n.leaf (leafArg (arg q 0 1))).rejoin = 2 ∧
      AnsweredOk (s.setNow t) n q 0x0E01 [] ∧ Frame (hostParts ++ [.aon, .leafA, .leafB]) s n := by
  obtain ⟨v, hv⟩ : ∃ v, v = (s.setNow t).taken q 3 0x0E01 := ⟨_, rfl⟩
  have hvleaf : v.leaf (leafArg (arg q 0 1)) = s.leaf (leafArg (arg q 0 1)) := by rw [hv, taken_leaf, setNow_leaf]
  obtain ⟨cause, hrule⟩ : ∃ cause, v.leafRejoin (arg q 0 1) = (v.rejoinBegin (leafArg (arg q 0 1)) cause).ansOk [] := by
    refine ⟨_, (if_neg (by omega)).trans (if_neg ?_)⟩
    rw [hvleaf]
    exact not_or.mpr ⟨not_not.mpr hfenced, hrole⟩
  obtain ⟨hrec, -, hframe⟩ := rejoinBegin_spec v (leafArg (arg q 0 1)) cause
  obtain ⟨hexec, hans, hends⟩ := command_answered (c := .leafRejoin t q) (h := fun s => s.leafRejoin (arg q 0 1)) (lenOk := (· == 4)) rfl
    (lets_opens hlets) (taken_may_of_lets hlets) (by simpa using hlen) (hv ▸ hrule) (hv ▸ hframe) (by decide)
    (by simp [State.rejoinBegin])
  refine ⟨_, hexec, ?_, ?_, hans, hends⟩ <;> rw [settle_leaf, answer_leaf, ← hv, hrec]

theorem leafFence_effect (hlets : (s.setNow t).lets q 0x0E02 Perm.restart = true) (hmaint : s.role q.sess = 3) (hlen : q.args.length = 4)
    (hleaf : arg q 0 1 ≤ 1) (hrun : (s.setNow t).running (leafArg (arg q 0 1)).other = true) (hmid : (s.setNow t).midway = false)
    (hline : (s.setNow t).fenceLine (leafArg (arg q 0 1)) = false) :
    ∃ n, exec (.leafFence t q) s = .next n ∧ (n.leaf (leafArg (arg q 0 1))).st = .fenced ∧ (n.leaf (leafArg (arg q 0 1))).cause =
      (if (s.leaf (leafArg (arg q 0 1))).cause = 0 then Fc.command else (s.leaf (leafArg (arg q 0 1))).cause) ∧ Frame fenceParts s n := by
  obtain ⟨v, hv⟩ : ∃ v, v = (s.setNow t).taken q 3 0x0E02 := ⟨_, rfl⟩
  have hlost : Lost (leafArg (arg q 0 1)) Fc.command v (v.fenceWake (leafArg (arg q 0 1)) Fc.command) :=
    fenceWake_lost Fc.command (by rw [hv, taken_fenceLine, hline])
  have hrule : v.leafFence (arg q 0 1) = (v.fenceWake (leafArg (arg q 0 1)) Fc.command).ansOk [] := by
    refine (if_neg (by omega)).trans ((if_neg ?_).trans (if_neg ?_))
    · simp [hv, hrun]
    · simp [hv, taken_midway, hmid]
  have hexec : exec (.leafFence t q) s =
      .next (settle s ((v.fenceWake (leafArg (arg q 0 1)) Fc.command).answer q.sess q.tag St.ok [])) := by
    change execLeafFence t q s = _
    refine at'_eq (cmd_now (lets_opens hlets) ?_ (by simpa using hlen) (hv ▸ hrule))
    exact Bool.and_eq_true_iff.mpr ⟨taken_maint hmaint t _, taken_may_of_lets hlets⟩
  refine ⟨_, hexec, ?_, ?_, Frame.settle (t := t) ?_⟩
  · rw [settle_leaf, answer_leaf]
    exact hlost.st
  · rw [settle_leaf, answer_leaf, hlost.cause, hv, taken_leaf, setNow_leaf]
  · refine Frame.trans ?_ ((answer_frame _ q.sess q.tag St.ok []).mono (by decide))
    exact ((hv ▸ taken_frame (s.setNow t) q 3 0x0E02 : Frame [.links, .sleep] (s.setNow t) v).mono (by decide)).trans hlost.frame

theorem handover_effect (hlets : (s.setNow t).lets q 0x0E03 Perm.restart = true) (hlen : q.args.length = 0)
    (hboth : (s.setNow t).bothRun = true) (hmid : (s.setNow t).midway = false) (hasked : s.kn.handoverAsked = false) :
    ∃ n, exec (.handover t q) s = .next n ∧ n.kn.handoverAsked = true ∧ n.kn.handover = some (q.sess, q.tag) ∧ Waits n q 3 0x0E03 ∧
      Frame (hostParts ++ [.knuckle]) s n := by
  obtain ⟨v, hv⟩ : ∃ v, v = (s.setNow t).taken q 3 0x0E03 := ⟨_, rfl⟩
  have hrule : v.handoverAsk q =
      (({ v with kn := { v.kn with handoverAsked := true, handover := some (q.sess, q.tag) } } : State), none) := by
    refine (if_neg ?_).trans ((if_neg ?_).trans rfl)
    · simp [hv, hboth]
    · simp [hv, taken_midway, hmid, hasked]
  obtain ⟨hexec, hwaits, hframe⟩ := command_waits (c := .handover t q) (h := fun s => s.handoverAsk q) (lenOk := (· == 0)) rfl
    (lets_opens hlets) (taken_may_of_lets hlets) (by simpa using hlen) (hv ▸ hrule) (hv ▸ Frame.kn v _) (by decide)
  exact ⟨_, hexec, rfl, rfl, hwaits, hframe⟩

/-- A self-test asked for: its tests run at once while UNKEYED, else after the next commit point (R556). -/
def State.selftestAsked (s : State) (q : HReq) : State :=
  let k := { s.kn with selftest := some (q.sess, q.tag) }
  { s with kn := if s.aon.unkeyed then { k with arb := 2 } else { k with selftestWait := true } }

theorem leafSelftest_effect (hlets : (s.setNow t).lets q 0x0E04 Perm.read = true) (hlen : q.args.length = 0) (harb : s.kn.arb = 0)
    (hwait : s.kn.selftestWait = false) (hdev : s.aon.dev ≠ .sleep) (ha : s.la.st ≠ .resyncing) (hb : s.lb.st ≠ .resyncing) :
    ∃ n, exec (.leafSelftest t q) s = .next n ∧ n.kn.selftest = some (q.sess, q.tag) ∧ (s.aon.unkeyed = true → n.kn.arb = 2) ∧
      (s.aon.unkeyed = false → n.kn.selftestWait = true) ∧ Waits n q 3 0x0E04 ∧ Frame (hostParts ++ [.knuckle]) s n := by
  obtain ⟨v, hv⟩ : ∃ v, v = (s.setNow t).taken q 3 0x0E04 := ⟨_, rfl⟩
  have hrule : v.selftestAsk q = (v.selftestAsked q, none) := by
    refine (if_neg ?_).trans rfl
    simp [hv, harb, hwait, hdev, ha, hb]
  obtain ⟨hexec, hwaits, hframe⟩ := command_waits (c := .leafSelftest t q) (h := fun s => s.selftestAsk q) (lenOk := (· == 0)) rfl
    (lets_opens hlets) (taken_may_of_lets hlets) (by simpa using hlen) (hv ▸ hrule) (hv ▸ Frame.kn v _) (by decide)
  have hunkeyed : v.aon.unkeyed = s.aon.unkeyed := by rw [hv, taken_aon, setNow_aon]
  have hkn : (settle s (v.selftestAsked q)).kn = if s.aon.unkeyed then { v.kn with selftest := some (q.sess, q.tag), arb := 2 }
      else { v.kn with selftest := some (q.sess, q.tag), selftestWait := true } := hunkeyed ▸ rfl
  refine ⟨settle s (v.selftestAsked q), hv ▸ hexec, ?_, fun h => ?_, fun h => ?_, hv ▸ hwaits, hv ▸ hframe⟩
  · rw [hkn]
    split <;> rfl
  · rw [hkn, if_pos h]
  · rw [hkn, if_neg (by simp [h])]

end

/-- Settles O21: each of the four commands, let through, by its own rule. -/
theorem leafCommands : Obligations.LeafCommands := by
  unfold Obligations.LeafCommands
  intro t q s
  exact ⟨leafRejoin_effect, leafFence_effect, handover_effect, leafSelftest_effect⟩

/-! ### Arbitration (R542 to R545) -/

/-- The outcomes of the tests are noted and logged. -/
def State.katNoted (s : State) (passA passB : Bool) : State :=
  let k := packBits [s.running .a, s.running .a && passA, s.running .b, s.running .b && passB]
  ({ s with kn := { s.kn with kat := k, arb := 0 } } : State).evA Ev.katResult srcD [p1 k]

theorem katNoted_kn (s : State) (passA passB : Bool) : (s.katNoted passA passB).kn =
    { s.kn with kat := packBits [s.running .a, s.running .a && passA, s.running .b, s.running .b && passB], arb := 0 } := evA_kn _ _ _ _

theorem katNoted_frame (s : State) (passA passB : Bool) : Frame [.knuckle, .log, .fifos] s (s.katNoted passA passB) :=
  ((Frame.kn s _).mono (by decide)).trans ((Logs.evA _ _ _ _).frame_of_mem (by decide) (by decide))

theorem katNoted_calm (s : State) (passA passB : Bool) : Calm s (s.katNoted passA passB) := by
  refine Calm.trans ?_ (Calm.of_logs (Logs.evA _ _ _ _))
  exact Calm.of_eq rfl rfl rfl rfl rfl

theorem Calm.running_eq {s n : State} (h : Calm s n) (k : Leaf) : n.running k = s.running k := running_congr (h.leaf k) h.dev

theorem Calm.fenceLine_eq {s n : State} (h : Calm s n) (k : Leaf) : n.fenceLine k = s.fenceLine k := by
  have hr : (n.leaf k).rejoin = (s.leaf k).rejoin := (congrArg LeafRec.rejoin (h.leaf k) :)
  simp only [State.fenceLine, LeafRec.core_st (h.leaf k), hr]

theorem Calm.act_eq {s n : State} (h : Calm s n) : n.act = s.act := by
  simp only [State.act, h.active, h.running_eq]

theorem running_st {s : State} {k : Leaf} (h : s.running k = true) : (s.leaf k).st = .running := by
  simp only [State.running, Bool.and_eq_true, beq_iff_eq] at h
  exact h.1.2

theorem running_fenceLine {s : State} {k : Leaf} (h : s.running k = true) : s.fenceLine k = false := by
  simp [State.fenceLine, running_st h]

theorem bothRun_running {s : State} (h : s.bothRun = true) (k : Leaf) : s.running k = true := by
  simp only [State.bothRun, Bool.and_eq_true] at h
  cases k
  · exact h.1
  · exact h.2

section

variable {s : State} {t : Nat} (hboth : (s.setNow t).bothRun = true)
include hboth

/-- What a fence by the Knuckle leaves, where both leaves ran: one FENCED with its cause, the other running. -/
theorem fence_of_two {u : State} {ps : List Part} (l : Leaf) (cause : Nat) (hcalm : Calm (s.setNow t) u) (hframe : Frame ps (s.setNow t) u)
    (hps : ∀ p, p ∈ ps → p ∈ fenceParts) :
    ((u.fence l cause).leaf l).st = .fenced ∧ ((u.fence l cause).leaf l).cause = (if (s.leaf l).cause = 0 then cause else (s.leaf l).cause) ∧
      ((u.fence l cause).leaf l.other).st = .running ∧ (u.fence l cause).kn.kat = u.kn.kat ∧ Frame fenceParts (s.setNow t) (u.fence l cause) := by
  have hrun : ∀ k, u.running k = true := fun k => (hcalm.running_eq k).trans (bothRun_running hboth k)
  have hlost := fence_lost cause (running_fenceLine (hrun l))
  obtain ⟨-, hother⟩ := fence_running u l cause (hrun l.other)
  have hcause : (u.leaf l).cause = (s.leaf l).cause := by rw [LeafRec.core_cause (hcalm.leaf l), setNow_leaf]
  refine ⟨hlost.st, ?_, (LeafRec.core_st hother).trans (running_st (hrun l.other)), hlost.cuts.kat, (hframe.mono hps).trans hlost.frame⟩
  rw [hlost.cause, hcause]

theorem katComplete_fails_a (harb : s.kn.arb = 1) : exec (.katComplete t false true) s =
    .next (settle s (((s.setNow t).katNoted false true).fence .a Fc.kat)) := by
  change execKatComplete t false true s = _
  refine at'_eq ((if_pos (.inl harb)).trans ?_)
  simp [State.katFence, State.katNoted, harb, bothRun_running hboth]

theorem katComplete_fails_b (harb : s.kn.arb = 1) : exec (.katComplete t true false) s =
    .next (settle s (((s.setNow t).katNoted true false).fence .b Fc.kat)) := by
  change execKatComplete t true false s = _
  refine at'_eq ((if_pos (.inl harb)).trans ?_)
  simp [State.katFence, State.katNoted, harb, bothRun_running hboth]

theorem katComplete_passes (harb : s.kn.arb = 1) : exec (.katComplete t true true) s =
    .next (settle s ((s.setNow t).katNoted true true).divergence) := by
  have hboth' : ((s.setNow t).katNoted true true).bothRun = true := by
    simp only [State.bothRun, (katNoted_calm _ true true).running_eq]
    exact hboth
  change execKatComplete t true true s = _
  refine at'_eq ((if_pos (.inl harb)).trans ?_)
  have harb' : ¬ (s.setNow t).kn.arb = 2 := by
    rw [setNow_kn, harb]
    decide
  simp only [Bool.not_true, Bool.and_false, Bool.or_self, Bool.false_eq_true, if_false, if_neg harb']
  exact if_pos ⟨harb, hboth'⟩

end

end Sys2Proof.Machine


namespace Sys2Proof.Machine

/-! ### Divergence and resynchronisation (R542, R544, R545) -/

/-- A divergence is counted, timed and logged. -/
def State.diverged (s : State) : State :=
  ({ s with kn := { s.kn with divergences := satAdd 16 s.kn.divergences 1, lastDiv := some s.time.now } } : State).evA
    Ev.knuckleDivergence srcD [p4 s.sw.cSweep]

theorem diverged_kn (s : State) : s.diverged.kn = { s.kn with divergences := satAdd 16 s.kn.divergences 1, lastDiv := some s.time.now } :=
  evA_kn _ _ _ _

theorem diverged_frame (s : State) : Frame [.knuckle, .log, .fifos] s s.diverged :=
  ((Frame.kn s _).mono (by decide)).trans ((Logs.evA _ _ _ _).frame_of_mem (by decide) (by decide))

theorem diverged_calm (s : State) : Calm s s.diverged := by
  refine Calm.trans ?_ (Calm.of_logs (Logs.evA _ _ _ _))
  exact Calm.of_eq rfl rfl rfl rfl rfl

/-- A copy of the ACTIVE leaf begins. -/
def State.copying (s : State) (l : Leaf) : State :=
  ({ s with kn := { s.kn with arb := 3 } } : State).modLeaf l (fun x => { x with st := .resyncing, rejoin := 0 })

theorem divergence_first {s : State} (h : ∀ d, s.kn.lastDiv = some d → d + 3600000000000 ≤ s.time.now) :
    s.divergence = s.diverged.copying s.act.other := by
  unfold State.divergence
  cases hd : s.kn.lastDiv with
  | none => rfl
  | some d => exact if_neg (by simpa using h d hd)

theorem divergence_again {s : State} {d : Nat} (hd : s.kn.lastDiv = some d) (h : s.time.now < d + 3600000000000) :
    s.divergence = s.diverged.fence s.act.other Fc.divergence := by
  unfold State.divergence
  rw [hd]
  exact if_pos (by simpa using h)

section

variable {s : State} {t : Nat} (hboth : (s.setNow t).bothRun = true) (harb : s.kn.arb = 1)
include hboth harb

theorem katComplete_resyncs (h : ∀ d, s.kn.lastDiv = some d → d + 3600000000000 ≤ (s.setNow t).time.now) :
    ∃ n, exec (.katComplete t true true) s = .next n ∧ (n.leaf s.act.other).st = .resyncing ∧ (n.leaf s.act).st = .running ∧
      n.kn.divergences = satAdd 16 s.kn.divergences 1 ∧ n.kn.arb = 3 ∧ n.kn.lastDiv = some (s.setNow t).time.now ∧
      Frame [.leafA, .leafB, .knuckle, .log, .fifos] s n := by
  obtain ⟨u, hu⟩ : ∃ u, u = (s.setNow t).katNoted true true := ⟨_, rfl⟩
  have hcalm : Calm (s.setNow t) u := hu ▸ katNoted_calm _ _ _
  have hframe : Frame [.knuckle, .log, .fifos] (s.setNow t) u := hu ▸ katNoted_frame _ _ _
  have hkn : u.kn.divergences = s.kn.divergences ∧ u.kn.lastDiv = s.kn.lastDiv := by
    rw [hu, katNoted_kn]
    exact ⟨rfl, rfl⟩
  have hnow : u.time.now = (s.setNow t).time.now := by
    rw [hu, State.katNoted, evA_time]
  have hact : u.act = s.act := hcalm.act_eq
  have hdiv : u.divergence = u.diverged.copying s.act.other := by
    rw [divergence_first (by rw [hkn.2, hnow]; exact h), hact]
  have hcopy : (u.diverged.copying s.act.other).kn = { u.diverged.kn with arb := 3 } := modLeaf_kn _ _ _
  refine ⟨_, katComplete_passes hboth harb, ?_⟩
  rw [← hu, hdiv, settle_leaf, settle_leaf, settle_kn, hcopy, diverged_kn]
  refine ⟨?_, ?_, ?_, rfl, ?_, Frame.settle (t := t) ?_⟩
  · rw [State.copying, modLeaf_leaf]
  · have hother : (u.diverged.copying s.act.other).leaf s.act = u.diverged.leaf s.act := by
      cases s.act <;> rfl
    rw [hother, LeafRec.core_st ((diverged_calm u).leaf s.act), LeafRec.core_st (hcalm.leaf s.act)]
    exact running_st (bothRun_running hboth s.act)
  · rw [← hkn.1]
  · rw [← hnow]
  · refine (hframe.mono (by decide)).trans (((diverged_frame u).mono (by decide)).trans ?_)
    exact ((Frame.kn _ _).mono (by decide)).trans ((Frame.modLeaf _ s.act.other _ rfl).mono (by decide))

theorem katComplete_diverges {d : Nat} (hd : s.kn.lastDiv = some d) (h : (s.setNow t).time.now < d + 3600000000000) :
    ∃ n, exec (.katComplete t true true) s = .next n ∧ (n.leaf s.act.other).st = .fenced ∧ (n.leaf s.act.other).cause =
      (if (s.leaf s.act.other).cause = 0 then Fc.divergence else (s.leaf s.act.other).cause) ∧ Frame fenceParts s n := by
  obtain ⟨u, hu⟩ : ∃ u, u = (s.setNow t).katNoted true true := ⟨_, rfl⟩
  have hcalm : Calm (s.setNow t) u := hu ▸ katNoted_calm _ _ _
  have hframe : Frame [.knuckle, .log, .fifos] (s.setNow t) u := hu ▸ katNoted_frame _ _ _
  have hdiv : u.divergence = u.diverged.fence s.act.other Fc.divergence := by
    have hkept : u.kn.lastDiv = some d := by
      rw [hu, katNoted_kn]
      exact hd
    have hnow : u.time.now = (s.setNow t).time.now := by rw [hu, State.katNoted, evA_time]
    have hact : u.act = s.act := hcalm.act_eq
    rw [divergence_again hkept (hnow ▸ h), hact]
  obtain ⟨hst, hcause, -, -, hfence⟩ := fence_of_two hboth s.act.other Fc.divergence (hcalm.trans (diverged_calm u))
    (hframe.trans (diverged_frame u)) (by decide)
  refine ⟨_, katComplete_passes hboth harb, ?_⟩
  rw [← hu, hdiv, settle_leaf]
  exact ⟨hst, hcause, hfence.settle⟩

theorem katComplete_fenced_a : ∃ n, exec (.katComplete t false true) s = .next n ∧ n.la.st = .fenced ∧
    n.la.cause = (if s.la.cause = 0 then Fc.kat else s.la.cause) ∧ n.lb.st = .running ∧ n.kn.kat = packBits [true, false, true, true] ∧
    Frame fenceParts s n := by
  obtain ⟨hst, hcause, hother, hkat, hframe⟩ := fence_of_two hboth .a Fc.kat (katNoted_calm (s.setNow t) false true)
    (katNoted_frame _ _ _) (by decide)
  refine ⟨_, katComplete_fails_a hboth harb, hst, hcause, hother, ?_, hframe.settle⟩
  rw [settle_kn, hkat, katNoted_kn, bothRun_running hboth, bothRun_running hboth]
  rfl

theorem katComplete_fenced_b : ∃ n, exec (.katComplete t true false) s = .next n ∧ n.lb.st = .fenced ∧
    n.lb.cause = (if s.lb.cause = 0 then Fc.kat else s.lb.cause) ∧ n.la.st = .running ∧ n.kn.kat = packBits [true, true, true, false] ∧
    Frame fenceParts s n := by
  obtain ⟨hst, hcause, hother, hkat, hframe⟩ := fence_of_two hboth .b Fc.kat (katNoted_calm (s.setNow t) true false)
    (katNoted_frame _ _ _) (by decide)
  refine ⟨_, katComplete_fails_b hboth harb, hst, hcause, hother, ?_, hframe.settle⟩
  rw [settle_kn, hkat, katNoted_kn, bothRun_running hboth, bothRun_running hboth]
  rfl

end

/-- The end of a self-test that both leaves pass: its request is answered with the outcomes (R556). -/
theorem katComplete_selftest {s : State} {t : Nat} (hboth : (s.setNow t).bothRun = true) (harb : s.kn.arb = 2) :
    ∃ n, exec (.katComplete t true true) s = .next n ∧ n.kn.kat = packBits [true, true, true, true] ∧ n.kn.arb = 0 ∧ n.kn.selftest = none ∧
      Frame [.knuckle, .links, .out, .log, .fifos] s n := by
  obtain ⟨u, hu⟩ : ∃ u, u = (s.setNow t).katNoted true true := ⟨_, rfl⟩
  obtain ⟨v, hv⟩ : ∃ v, v = u.answerOpt u.kn.selftest St.ok
      [byteOf (packBits [(s.setNow t).running .a, (s.setNow t).running .a && true, (s.setNow t).running .b, (s.setNow t).running .b && true])] :=
    ⟨_, rfl⟩
  have hexec : exec (.katComplete t true true) s = .next (settle s { v with kn := { u.kn with selftest := none } }) := by
    change execKatComplete t true true s = _
    refine at'_eq ((if_pos (.inr harb)).trans ?_)
    have hwaits : (s.setNow t).kn.arb = 2 := harb
    have hone : (s.setNow t).kn.arb ≠ 1 := by rw [hwaits]; decide
    subst hv hu
    dsimp only
    rw [if_pos hwaits, if_neg (by simp)]
    exact if_neg (not_and_of_not_left _ hone)
  refine ⟨_, hexec, ?_, ?_, rfl, Frame.settle (t := t) ?_⟩
  · show u.kn.kat = _
    rw [hu, katNoted_kn, bothRun_running hboth, bothRun_running hboth]
    rfl
  · show u.kn.arb = _
    rw [hu, katNoted_kn]
  · have hnoted : Frame [.knuckle, .links, .out, .log, .fifos] (s.setNow t) u := hu ▸ (katNoted_frame _ _ _).mono (by decide)
    have hanswered : Frame [.knuckle, .links, .out, .log, .fifos] u v := hv ▸ (answerOpt_frame _ _ _ _).mono (by decide)
    exact hnoted.trans (hanswered.trans ((Frame.kn v _).mono (by decide)))

/-- Settles O37: the outcomes are noted; then the leaf that failed alone is fenced, or a divergence begins a copy or, within the hour,
fences the HOT STANDBY; after a self-test its answer leaves. -/
theorem arbitration : Obligations.Arbitration := by
  unfold Obligations.Arbitration
  intro t s hboth
  refine ⟨fun harb => ⟨katComplete_fenced_a hboth harb, katComplete_fenced_b hboth harb, katComplete_resyncs hboth harb, fun d => ?_⟩,
    katComplete_selftest hboth⟩
  exact katComplete_diverges hboth harb

/-- The copied leaf runs. -/
def State.resynced (s : State) (l : Leaf) : State :=
  let n := s.setLeaf l { s.leaf l with st := .running, rq := true }
  { n with kn := { n.kn with arb := 0 } }

theorem resynced_frame (s : State) (l : Leaf) : Frame [.leafA, .leafB, .knuckle] s (s.resynced l) := by
  have hset : Frame [.leafA, .leafB] s (s.setLeaf l { s.leaf l with st := .running, rq := true }) := Frame.setLeaf s l _ rfl
  exact (hset.mono (by decide)).trans ((Frame.kn _ _).mono (by decide))

/-- Settles O38: the copied leaf runs and requests; CAN, the requests of both leaves and the log follow, none of which touches a leaf's
state. -/
theorem resyncRuns : Obligations.ResyncRuns := by
  unfold Obligations.ResyncRuns
  intro t s hst hrejoin hactive
  obtain ⟨v, hv⟩ : ∃ v, v = ((s.setNow t).resynced s.act.other).canFollow := ⟨_, rfl⟩
  obtain ⟨n, hexec, hlogs⟩ : ∃ n, exec (.resyncComplete t) s = .next (settle s n) ∧ Logs v.rqFollow n := by
    have hcopied : ((s.setNow t).leaf (s.setNow t).act.other).st = .resyncing ∧ ((s.setNow t).leaf (s.setNow t).act.other).rejoin = 0 :=
      ⟨hst, hrejoin⟩
    subst hv
    refine ⟨_, (show execResyncComplete t s = _ from at'_eq (if_pos hcopied)), ?_⟩
    exact Logs.evA _ _ _ _
  have hleaf : v.leaf s.act.other = { s.leaf s.act.other with st := .running, rq := true } := by
    rw [hv]
    cases s.act <;> rfl
  have hother : v.leaf s.act = s.leaf s.act := by
    rw [hv]
    cases s.act <;> rfl
  have hkn : n.kn = { s.kn with arb := 0 } := by
    rw [hlogs.kn, rqFollow_frame v .knuckle (by decide), hv]
    cases s.act <;> rfl
  obtain ⟨hrun, -, -, hrq⟩ := rqFollow_spec v s.act.other
  obtain ⟨hkept, -⟩ := rqFollow_spec v s.act
  refine ⟨_, hexec, ?_, ?_, ?_, ?_, ?_, Frame.settle (t := t) ?_⟩
  · rw [settle_leaf, hlogs.leaf_st, hrun, hleaf]
  · rw [settle_leaf, hlogs.leaf_rq]
    exact hrq (by rw [hleaf])
  · rw [settle_kn, hkn]
  · rw [settle_leaf, hlogs.leaf_st, hkept, hother]
  · rw [settle_kn, hkn]
  · refine Frame.trans ?_ (hlogs.frame_of_mem (by decide) (by decide))
    refine Frame.trans ?_ ((rqFollow_frame v).mono (by decide))
    rw [hv]
    exact ((resynced_frame _ _).mono (by decide)).trans ((canFollow_frame _).mono (by decide))

end Sys2Proof.Machine


namespace Sys2Proof.Machine

/-! ### The comparison of the results (R539 to R543) -/

/-- The sweep is validated; FAULT_N's first hold ends unless a trip is active. -/
def State.validated (s : State) : State :=
  { s with
    sw := { s.sw with validated := true, everValidated := true }
    aon := { s.aon with faultHold := s.aon.faultHold && s.tripActive } }

theorem validated_frame (s : State) : Frame [.sweep, .aon] s s.validated :=
  ((Frame.sw s { s.sw with validated := true, everValidated := true }).mono (by decide)).trans ((Frame.aon _ _).mono (by decide))

theorem holdRelease_frame (s : State) : Frame [.aon, .log, .fifos] s s.holdRelease := by
  unfold State.holdRelease
  refine Frame.ite _ ?_ (Frame.refl _ s)
  exact ((Frame.aon s _).mono (by decide)).trans ((Logs.evAon _ _ _ _).frame_of_mem (by decide) (by decide))

/-- What follows at the rings, at HOLD and in the log. -/
theorem sweepValidated_follows (s : State) : Frame [.chains, .aon, .log, .fifos] s.validated s.sweepValidated := by
  obtain ⟨u, hu⟩ : ∃ u, u = s.validated.each s.validated.cfg.rings (fun r s =>
      if s.sw.sealed.nodes.any (fun e => e.1 / 64 == r && e.2.tag == 0) ∧ (s.ring r).st ≠ .lost
      then s.modRing r (fun x => { x with delivered := true }) else s) := ⟨_, rfl⟩
  have hrings : Frame [.chains] s.validated u := hu ▸
    Frame.each (fun r s => Frame.ite _ (modRing_frame s r _) (Frame.refl _ s)) s.validated.cfg.rings s.validated
  have hheld : Frame [.chains, .aon, .log, .fifos] u s.sweepValidated := by
    unfold State.sweepValidated
    subst hu
    exact Frame.ite _ ((holdRelease_frame _).mono (by decide)) (Frame.refl _ _)
  exact (hrings.mono (by decide)).trans hheld

/-- A comparison that is due looks at the committed results once. -/
def State.compared (s : State) (a b : Option ChunkFault) : State :=
  let n := s.setDigests a b
  { n with sw := { n.sw with fresh := false } }

theorem setDigests_frame (s : State) (a b : Option ChunkFault) : Frame [.leafA, .leafB] s (s.setDigests a b) := by
  rintro ⟨⟩ hp <;> simp [Part.same, State.setDigests] at hp ⊢

theorem compared_frame (s : State) (a b : Option ChunkFault) : Frame [.sweep, .leafA, .leafB] s (s.compared a b) :=
  ((setDigests_frame s a b).mono (by decide)).trans ((Frame.sw _ _).mono (by decide))

theorem Frame.la_digest {ps : List Part} {s n : State} (h : Frame ps s n) (hp : .leafA ∉ ps) : n.la.digest = s.la.digest :=
  (congrArg LeafRec.digest (h .leafA hp) :)

theorem Frame.lb_digest {ps : List Part} {s n : State} (h : Frame ps s n) (hp : .leafB ∉ ps) : n.lb.digest = s.lb.digest :=
  (congrArg LeafRec.digest (h .leafB hp) :)

section

variable {t : Nat} {a b : Option ChunkFault} {s : State} (hboth : (s.setNow t).bothRun = true)
include hboth

theorem resultCompare_same (hfresh : s.sw.fresh = true) (hdue : s.sw.commitNow + 20000 ≤ (s.setNow t).time.now)
    (hsame : (s.setNow t).digestsAgree a b = true) : ∃ n, exec (.resultCompare t a b) s = .next n ∧ n.kn.mismatchRun = 0 ∧
      n.sw.validated = true ∧ n.sw.fresh = false ∧ n.la.digest = (s.setNow t).resultDigest a ∧ n.lb.digest = (s.setNow t).resultDigest b ∧
      Frame [.sweep, .leafA, .leafB, .knuckle, .aon, .chains, .log, .fifos] s n := by
  obtain ⟨u, hu⟩ : ∃ u : State, u = { (s.setNow t).compared a b with kn := { s.kn with mismatchRun := 0 } } := ⟨_, rfl⟩
  have hexec : exec (.resultCompare t a b) s = .next (settle s u.sweepValidated) := by
    change execResultCompare t a b s = _
    subst hu
    exact at'_eq ((if_pos ⟨hfresh, hboth, hdue⟩).trans (if_pos hsame))
  have hafter := sweepValidated_follows u
  have hsw : u.sweepValidated.sw = u.validated.sw := hafter .sweep (by decide)
  have hkn : u.sweepValidated.kn = u.kn := hafter .knuckle (by decide)
  refine ⟨_, hexec, ?_, ?_, ?_, ?_, ?_, Frame.settle (t := t) ?_⟩
  · rw [settle_kn, hkn, hu]
  · rw [settle_sw, hsw]
    rfl
  · rw [settle_sw, hsw, hu]
    rfl
  · rw [settle_la, hafter.la_digest (by decide), hu]
    rfl
  · rw [settle_lb, hafter.lb_digest (by decide), hu]
    rfl
  · refine Frame.trans ?_ (((validated_frame u).mono (by decide)).trans (hafter.mono (by decide)))
    rw [hu]
    exact ((compared_frame _ a b).mono (by decide)).trans ((Frame.kn _ _).mono (by decide))

theorem resultCompare_differs (hfresh : s.sw.fresh = true) (hdue : s.sw.commitNow + 20000 ≤ (s.setNow t).time.now)
    (hdiffer : (s.setNow t).digestsAgree a b = false) : ∃ n, exec (.resultCompare t a b) s = .next n ∧ n.kn.differ = true ∧
      n.kn.differAt = (s.setNow t).firstChunk a b ∧ n.sw.validated = s.sw.validated ∧ n.sw.fresh = false ∧
      n.la.digest = (s.setNow t).resultDigest a ∧ n.lb.digest = (s.setNow t).resultDigest b ∧
      Frame [.sweep, .leafA, .leafB, .knuckle] s n := by
  obtain ⟨u, hu⟩ : ∃ u : State, u =
    { (s.setNow t).compared a b with kn := { s.kn with differ := true, differAt := (s.setNow t).firstChunk a b } } := ⟨_, rfl⟩
  have hexec : exec (.resultCompare t a b) s = .next (settle s u) := by
    change execResultCompare t a b s = _
    subst hu
    exact at'_eq ((if_pos ⟨hfresh, hboth, hdue⟩).trans (if_neg (by simp [hdiffer])))
  subst hu
  refine ⟨_, hexec, rfl, rfl, rfl, rfl, rfl, rfl, Frame.settle (t := t) ?_⟩
  exact ((compared_frame _ a b).mono (by decide)).trans ((Frame.kn _ _).mono (by decide))

/-- The second look shows the digests and ends the wait. -/
def State.recompared (s : State) (a b : Option ChunkFault) : State :=
  let n := s.setDigests a b
  { n with kn := { n.kn with differ := false } }

omit hboth in
theorem recompared_frame (s : State) (a b : Option ChunkFault) : Frame [.leafA, .leafB, .knuckle] s (s.recompared a b) :=
  ((setDigests_frame s a b).mono (by decide)).trans ((Frame.kn _ _).mono (by decide))

variable {chunk : Nat} {x y : Option (List Byte)} (ha : a = x.map (ChunkFault.mk chunk)) (hb : b = y.map (ChunkFault.mk chunk))
  (hwait : s.kn.differ = true) (hdue : s.sw.commitNow + 100000 ≤ (s.setNow t).time.now)
include ha hb hwait hdue

theorem resultRecompare_transient (hsame : (s.setNow t).digestsAgree a b = true) :
    ∃ n, exec (.resultRecompare t chunk x y) s = .next n ∧ n.kn.differ = false ∧ n.kn.transients = satAdd 32 s.kn.transients 1 ∧
      n.kn.mismatches = s.kn.mismatches ∧ n.sw.validated = true ∧
      Frame [.sweep, .leafA, .leafB, .knuckle, .aon, .chains, .log, .fifos] s n := by
  obtain ⟨v, hv⟩ : ∃ v : State, v =
    { (s.setNow t).recompared a b with kn := { s.kn with differ := false, transients := satAdd 32 s.kn.transients 1 } } := ⟨_, rfl⟩
  obtain ⟨u, hexec, hlogs⟩ : ∃ u, exec (.resultRecompare t chunk x y) s = .next (settle s u.sweepValidated) ∧ Logs v u := by
    subst ha hb hv
    refine ⟨_, (show execResultRecompare t chunk x y s = _ from at'_eq ((if_pos ⟨hwait, hboth, hdue⟩).trans (if_pos hsame))), ?_⟩
    exact Logs.evA _ _ _ _
  have hafter := sweepValidated_follows u
  have hsw : u.sweepValidated.sw = u.validated.sw := hafter .sweep (by decide)
  have hkn : u.sweepValidated.kn = v.kn := (hafter .knuckle (by decide)).trans hlogs.kn
  refine ⟨_, hexec, ?_, ?_, ?_, ?_, Frame.settle (t := t) ?_⟩
  · rw [settle_kn, hkn, hv]
  · rw [settle_kn, hkn, hv]
  · rw [settle_kn, hkn, hv]
  · rw [settle_sw, hsw]
    rfl
  · refine Frame.trans ?_ (((validated_frame u).mono (by decide)).trans (hafter.mono (by decide)))
    refine Frame.trans ?_ (hlogs.frame_of_mem (by decide) (by decide))
    rw [hv]
    exact ((recompared_frame _ a b).mono (by decide)).trans ((Frame.kn _ _).mono (by decide))

theorem resultRecompare_mismatch (hdiffer : (s.setNow t).digestsAgree a b = false) :
    ∃ n, exec (.resultRecompare t chunk x y) s = .next n ∧ n.kn.differ = false ∧ n.kn.mismatches = satAdd 32 s.kn.mismatches 1 ∧
      n.kn.mismatchRun = min 255 (s.kn.mismatchRun + 1) ∧ n.kn.lastMismatch = s.sw.cSweep ∧
      n.kn.arb = (if min 255 (s.kn.mismatchRun + 1) ≥ 2 ∧ s.kn.arb ≠ 3 then 1 else s.kn.arb) ∧
      Frame [.leafA, .leafB, .knuckle, .log, .fifos] s n := by
  obtain ⟨v, hv⟩ : ∃ v : State, v = { (s.setNow t).recompared a b with kn := { s.kn with
    differ := false, mismatches := satAdd 32 s.kn.mismatches 1, mismatchRun := min 255 (s.kn.mismatchRun + 1), lastMismatch := s.sw.cSweep } } :=
    ⟨_, rfl⟩
  obtain ⟨u, hexec, hlogs⟩ : ∃ u, exec (.resultRecompare t chunk x y) s = .next (settle s
      (if u.kn.mismatchRun ≥ 2 ∧ u.kn.arb ≠ 3 then { u with kn := { u.kn with arb := 1 } } else u)) ∧ Logs v u := by
    subst ha hb hv
    refine ⟨_, (show execResultRecompare t chunk x y s = _ from
      at'_eq ((if_pos ⟨hwait, hboth, hdue⟩).trans (if_neg (by simp [hdiffer])))), ?_⟩
    exact Logs.evA _ _ _ _
  have hkn : u.kn = v.kn := hlogs.kn
  have harb : (if u.kn.mismatchRun ≥ 2 ∧ u.kn.arb ≠ 3 then { u with kn := { u.kn with arb := 1 } } else u : State).kn = { v.kn with
      arb := if min 255 (s.kn.mismatchRun + 1) ≥ 2 ∧ s.kn.arb ≠ 3 then 1 else s.kn.arb } := by
    rw [← hkn]
    have hrun : u.kn.mismatchRun = min 255 (s.kn.mismatchRun + 1) ∧ u.kn.arb = s.kn.arb := by
      rw [hkn, hv]
      exact ⟨rfl, rfl⟩
    rw [hrun.1, hrun.2]
    split
    · rfl
    · rw [← hrun.2]
  refine ⟨_, hexec, ?_, ?_, ?_, ?_, ?_, Frame.settle (t := t) ?_⟩
  · rw [settle_kn, harb, hv]
  · rw [settle_kn, harb, hv]
  · rw [settle_kn, harb, hv]
  · rw [settle_kn, harb, hv]
  · rw [settle_kn, harb]
  · refine Frame.trans ?_ (Frame.ite _ ((Frame.kn u _).mono (by decide)) (Frame.refl _ u))
    refine Frame.trans ?_ (hlogs.frame_of_mem (by decide) (by decide))
    rw [hv]
    exact ((recompared_frame _ a b).mono (by decide)).trans ((Frame.kn _ _).mono (by decide))

end

/-- Settles O36: each look by whether the digests and the decisions agree. -/
theorem resultComparison : Obligations.ResultComparison := by
  unfold Obligations.ResultComparison
  intro t a b s hboth
  exact ⟨fun hfresh hdue => ⟨resultCompare_same hboth hfresh hdue, resultCompare_differs hboth hfresh hdue⟩,
    fun chunk x y ha hb hwait hdue =>
      ⟨resultRecompare_transient hboth ha hb hwait hdue, resultRecompare_mismatch hboth ha hb hwait hdue⟩⟩

end Sys2Proof.Machine


namespace Sys2Proof.Machine

/-! ### SLEEP_ENTER (R697) -/

theorem taken_sleep (s : State) (q : HReq) (kind op : Nat) :
    (s.taken q kind op).sleep = { s.sleep with busy := s.sleep.busy || (kind != 1 && kind != 7) } := rfl

@[simp] theorem taken_sleepBlock (s : State) (q : HReq) (kind op : Nat) : (s.taken q kind op).sleepBlock = s.sleepBlock := by
  simp only [State.sleepBlock, State.inRun, State.closedStrs, State.hs, taken_aon, taken_cfg, taken_hasp, taken_stage, taken_leaf, taken_kn,
    taken_la, taken_lb]
  rfl

section

variable {t : Nat} {q : HReq} {s m : State} {op p : Nat} {lenOk : Nat → Bool} {h : State → HR} {c : Instr} {st : Nat} {body : List Byte}
  {ps : List Part}

/-- A command whose own rule answers while UNKEYED too: its answer leaves, and the parts that the rule reaches change, and with them those
of a request (R646, R648). -/
theorem commandAny_answered (hexec : exec c s = at' t (fun s => s.cmdAny q op (fun s => s.may q.sess p) lenOk h) s)
    (hacc : (s.setNow t).accepts q = true) (hmay : (s.setNow t).may q.sess p = true) (hlen : lenOk q.args.length = true)
    (hrule : h ((s.setNow t).taken q 3 op) = (m, some (st, body))) (hframe : Frame ps ((s.setNow t).taken q 3 op) m)
    (hlinks : .links ∉ ps) (hnow : m.time.now = (s.setNow t).time.now) :
    exec c s = .next (settle s (m.answer q.sess q.tag st body)) ∧
      Answered (s.setNow t) (settle s (m.answer q.sess q.tag st body)) q 3 op st body ∧
      Frame (hostParts ++ ps) s (settle s (m.answer q.sess q.tag st body)) := by
  refine accepted_answered hexec hacc ?_ hframe hlinks hnow
  rw [if_neg (by simp [hmay]), if_neg (by simp [hlen])]
  exact hrule

end

section

variable {t : Nat} {q : HReq} {s : State} (hacc : (s.setNow t).accepts q = true) (hmay : (s.setNow t).may q.sess Perm.restart = true)
  (hargs : q.args = [])
include hacc hmay hargs

/-- SLEEP_ENTER by its rule, which reaches the sleep's record alone. -/
theorem sleepEnter_answered {v : State} {z : Sleep} {st : Nat} {body : List Byte} (hv : v = (s.setNow t).taken q 3 0x0003)
    (hrule : v.sleepCmd = (({ v with sleep := z } : State), some (st, body))) :
    ∃ n, exec (.sleepEnter t q) s = .next n ∧ n.sleep = z ∧ Answered (s.setNow t) n q 3 0x0003 st body ∧ Frame hostParts s n := by
  obtain ⟨m, hm⟩ : ∃ m : State, m = { v with sleep := z } := ⟨_, rfl⟩
  have hframe : Frame [.sleep] v m := hm ▸ Frame.sleep v z
  have hnow : m.time.now = (s.setNow t).time.now := by rw [hm, hv, taken_now]
  rw [← hm] at hrule
  obtain ⟨hexec, hans, hends⟩ := commandAny_answered (c := .sleepEnter t q) (h := State.sleepCmd) (lenOk := (· == 0)) rfl hacc hmay
    (by simp [hargs]) (hv ▸ hrule) (hv ▸ hframe) (by decide) hnow
  refine ⟨_, hexec, ?_, hans, hends.mono (by decide)⟩
  rw [settle_sleep, answer_sleep, hm]

theorem sleepEnter_noted (hawake : s.sleep.st = 0) (hfree : (s.setNow t).sleepBlock = none) :
    ∃ n, exec (.sleepEnter t q) s = .next n ∧ n.sleep.want = 1 ∧ n.sleep.st = 0 ∧ AnsweredOk (s.setNow t) n q 0x0003 [] ∧
      Frame hostParts s n := by
  obtain ⟨v, hv⟩ : ∃ v, v = (s.setNow t).taken q 3 0x0003 := ⟨_, rfl⟩
  have hst : v.sleep.st = 0 := by rw [hv, taken_sleep]; exact hawake
  have hrule : v.sleepCmd = (({ v with sleep := { v.sleep with want := 1 } } : State), some (St.ok, [])) := by
    unfold State.sleepCmd
    rw [if_neg (not_not.mpr hst), show v.sleepBlock = none by rw [hv, taken_sleepBlock, hfree]]
    rfl
  obtain ⟨n, hexec, hsleep, hans, hframe⟩ := sleepEnter_answered hacc hmay hargs hv hrule
  exact ⟨n, hexec, by rw [hsleep], by rw [hsleep, ← hst], hans, hframe⟩

theorem sleepEnter_refused {r st : Nat} (hawake : s.sleep.st = 0) (hblock : (s.setNow t).sleepBlock = some (r, st)) :
    ∃ n, exec (.sleepEnter t q) s = .next n ∧ n.sleep.refusal = r ∧ n.sleep.want = s.sleep.want ∧
      Answered (s.setNow t) n q 3 0x0003 st [byteOf r] ∧ Frame hostParts s n := by
  obtain ⟨v, hv⟩ : ∃ v, v = (s.setNow t).taken q 3 0x0003 := ⟨_, rfl⟩
  have hst : v.sleep.st = 0 := by rw [hv, taken_sleep]; exact hawake
  have hrule : v.sleepCmd = (({ v with sleep := { v.sleep with refusal := r } } : State), some (st, [byteOf r])) := by
    unfold State.sleepCmd
    rw [if_neg (not_not.mpr hst), show v.sleepBlock = some (r, st) by rw [hv, taken_sleepBlock, hblock]]
  obtain ⟨n, hexec, hsleep, hans, hframe⟩ := sleepEnter_answered hacc hmay hargs hv hrule
  exact ⟨n, hexec, by rw [hsleep], by rw [hsleep, hv, taken_sleep, setNow_sleep], hans, hframe⟩

theorem sleepEnter_onTheWay (hst : s.sleep.st ≠ 0) :
    ∃ n, exec (.sleepEnter t q) s = .next n ∧ n.sleep.want = s.sleep.want ∧ n.sleep.st = s.sleep.st ∧
      AnsweredOk (s.setNow t) n q 0x0003 [] ∧ Frame hostParts s n := by
  obtain ⟨v, hv⟩ : ∃ v, v = (s.setNow t).taken q 3 0x0003 := ⟨_, rfl⟩
  have hrule : v.sleepCmd = (({ v with sleep := v.sleep } : State), some (St.ok, [])) := if_pos (by rw [hv, taken_sleep]; exact hst)
  obtain ⟨n, hexec, hsleep, hans, hframe⟩ := sleepEnter_answered hacc hmay hargs hv hrule
  exact ⟨n, hexec, by rw [hsleep, hv, taken_sleep, setNow_sleep], by rw [hsleep, hv, taken_sleep, setNow_sleep], hans, hframe⟩

end

/-! ### The way into SLEEP (R698) -/

/-- A device that SLEEP wakes: awake again in RUN or, with the thermal latch, HALT, with its cause and the rings at FULL. -/
theorem wake_spec {s : State} (h : s.sleep.st = 2) (bits : Nat) :
    (s.wake bits).sleep.st = 0 ∧ (s.wake bits).sleep.wakeCause = bits ∧ (s.wake bits).sleep.blkFrom = s.sleep.blkFrom ∧
      (s.wake bits).aon.dev = (if s.aon.thermal then .halt else .run) ∧ (s.wake bits).ch.low = false ∧ (s.wake bits).sw.phase = .idle := by
  have hafter := wake_asleep h bits
  rw [wake_dev, if_pos h, show (s.wake bits).sleep = (s.woken bits).sleep from hafter .sleep (by decide),
    show (s.wake bits).ch = (s.woken bits).ch from hafter .chains (by decide),
    show (s.wake bits).sw = (s.woken bits).sw from hafter .sweep (by decide)]
  unfold State.woken
  cases s.aon.thermal <;> exact ⟨rfl, rfl, rfl, rfl, rfl, rfl⟩

/-- SLEEP as its entry leaves it, before the ports, CAN and the log follow. -/
def State.fallen (s : State) : State :=
  { s with
    ch := { s.ch with low := true }
    aon := { s.aon with dev := .sleep }
    sleep := { s.sleep with
      st := 2, sleeps := satAdd 32 s.sleep.sleeps 1, entryTime := s.devTime, entryNow := s.time.now
      hbNext := s.time.now + 100000000, convNext := s.time.now + 1000000000 } }

theorem fallen_frame (s : State) : Frame [.chains, .aon, .sleep] s s.fallen := by
  rintro ⟨⟩ hp <;> simp [Part.same, State.fallen] at hp ⊢

theorem dropPlans_frame (s : State) : Frame [.chains] s s.dropPlans := Frame.ch s _

/-- The rings are told and their plans dropped before. -/
def State.rateLow (s : State) : State := (s.sendRate 1).dropPlans

theorem rateLow_frame (s : State) : Frame [.out, .chains] s s.rateLow :=
  ((sendRate_frame s 1).mono (by decide)).trans ((dropPlans_frame _).mono (by decide))

/-- The entry: SLEEP, what follows it, and the wake by a source that arose meanwhile. -/
theorem asleep_enters (s : State) : ∃ u, s.asleep = (if s.sleep.wakePend ≠ 0 then u.wake s.sleep.wakePend else u) ∧
    Frame [.links, .log, .fifos] s.rateLow.fallen u := by
  have hsleep : s.rateLow.sleep = s.sleep := rateLow_frame s .sleep (by decide)
  refine ⟨((s.rateLow.fallen.setLpi true).canFollow).evA Ev.sleepEntered srcD [p1 s.sleep.entryCause, p4 s.rateLow.sw.cSweep], ?_, ?_⟩
  · rw [← hsleep]
    rfl
  · refine Frame.trans ?_ ((Logs.evA _ _ _ _).frame_of_mem (by decide) (by decide))
    exact ((setLpi_frame _ true).mono (by decide)).trans ((canFollow_frame _).mono (by decide))

section

variable {t : Nat} {s : State} (hentry : s.sleep.st = 1) (hdue : s.sleep.rateAt ≤ (s.setNow t).time.now)
include hentry hdue

theorem sleepRateLow_exec (hrun : (s.setNow t).inRun = true) : exec (.sleepRateLow t) s = .next (settle s (s.setNow t).asleep) := by
  change execSleepRateLow t s = _
  exact at'_eq ((if_pos ⟨hentry, hdue⟩).trans (if_pos hrun))

theorem sleepRateLow_sleeps (hrun : (s.setNow t).inRun = true) (hquiet : s.sleep.wakePend = 0) :
    ∃ n, exec (.sleepRateLow t) s = .next n ∧ n.aon.dev = .sleep ∧ n.sleep.st = 2 ∧ n.ch.low = true ∧
      n.sleep.sleeps = satAdd 32 s.sleep.sleeps 1 ∧ n.sleep.entryNow = (s.setNow t).time.now ∧
      n.sleep.hbNext = (s.setNow t).time.now + 100000000 ∧ Frame wakeParts s n := by
  obtain ⟨u, hasleep, hframe⟩ := asleep_enters (s.setNow t)
  have hlow := rateLow_frame (s.setNow t)
  have hpre : (s.setNow t).rateLow.sleep = s.sleep := hlow .sleep (by decide)
  have hnow : (s.setNow t).rateLow.time.now = (s.setNow t).time.now := by
    simp only [State.rateLow, State.dropPlans]
    exact congrArg TimeU.now (Sends.each (fun r s => Sends.each (fun e s => by
      split
      · exact Sends.out s _
      · exact Sends.refl s) _ s) _ (s.setNow t)).time
  have hsleep : u.sleep = (s.setNow t).rateLow.fallen.sleep := hframe .sleep (by decide)
  have hch : u.ch = (s.setNow t).rateLow.fallen.ch := hframe .chains (by decide)
  rw [if_neg (show ¬ (s.setNow t).sleep.wakePend ≠ 0 from not_not.mpr hquiet)] at hasleep
  refine ⟨_, sleepRateLow_exec hentry hdue hrun, ?_⟩
  rw [hasleep, settle_aon_dev, settle_sleep, settle_ch, hsleep, hch, hframe.dev_eq (by decide)]
  refine ⟨rfl, rfl, rfl, ?_, ?_, ?_, Frame.settle (t := t) ?_⟩
  · rw [← hpre]
    rfl
  · exact hnow
  · rw [← hnow]
    rfl
  · exact (hlow.mono (by decide)).trans (((fallen_frame _).mono (by decide)).trans (hframe.mono (by decide)))

theorem sleepRateLow_wakes (hrun : (s.setNow t).inRun = true) (hpend : s.sleep.wakePend ≠ 0) :
    ∃ n, exec (.sleepRateLow t) s = .next n ∧ n.aon.dev = (if s.aon.thermal then .halt else .run) ∧ n.sleep.st = 0 ∧
      n.sleep.wakeCause = s.sleep.wakePend ∧ n.ch.low = false ∧ Frame wakeParts s n := by
  obtain ⟨u, hasleep, hframe⟩ := asleep_enters (s.setNow t)
  have hlow := rateLow_frame (s.setNow t)
  have hst : u.sleep.st = 2 := congrArg Sleep.st (hframe .sleep (by decide))
  have hthermal : u.aon.thermal = s.aon.thermal :=
    (congrArg Aon.thermal (hframe .aon (by decide)) :).trans (congrArg Aon.thermal (hlow .aon (by decide)) :)
  obtain ⟨hend, hcause, -, hdev, hfull, -⟩ := wake_spec hst s.sleep.wakePend
  rw [if_pos (show (s.setNow t).sleep.wakePend ≠ 0 from hpend)] at hasleep
  refine ⟨_, sleepRateLow_exec hentry hdue hrun, ?_⟩
  rw [hasleep, settle_aon_dev, settle_sleep, settle_ch]
  refine ⟨by rw [← hthermal]; exact hdev, hend, hcause, hfull, Frame.settle (t := t) ?_⟩
  exact (hlow.mono (by decide)).trans
    (((fallen_frame _).mono (by decide)).trans ((hframe.mono (by decide)).trans (wake_frame _ _)))

theorem sleepRateLow_stays (hrun : (s.setNow t).inRun = false) :
    ∃ n, exec (.sleepRateLow t) s = .next n ∧ n.sleep = { s.sleep with st := 0, wakePend := 0 } ∧ Frame [.sleep] s n := by
  refine ⟨_, ?_, ?_, Frame.settle (t := t) (Frame.sleep (s.setNow t) { s.sleep with st := 0, wakePend := 0 })⟩
  · change execSleepRateLow t s = _
    exact at'_eq ((if_pos ⟨hentry, hdue⟩).trans (if_neg (by rw [hrun]; decide)))
  · rfl

end

/-! ### Asleep (R699, R700, R701, R703) -/

/-- A step that wakes a device asleep: what changed before it is the sleep's record, still asleep, and the wake gives the rest. -/
theorem wakes_spec {t : Nat} {s : State} {c : Instr} {z : Sleep} {bits : Nat}
    (hexec : exec c s = .next (settle s (({ s.setNow t with sleep := z } : State).wake bits))) (hz : z.st = 2) :
    ∃ n, exec c s = .next n ∧ n.sleep.st = 0 ∧ n.sleep.wakeCause = bits ∧ n.sleep.blkFrom = z.blkFrom ∧
      n.aon.dev = (if s.aon.thermal then .halt else .run) ∧ n.ch.low = false ∧ n.sw.phase = .idle ∧ Frame wakeParts s n := by
  obtain ⟨hend, hcause, hfrom, hdev, hfull, hidle⟩ := wake_spec (s := { s.setNow t with sleep := z }) hz bits
  refine ⟨_, hexec, ?_⟩
  rw [settle_sleep, settle_aon_dev, settle_ch, settle_sw]
  exact ⟨hend, hcause, hfrom, hdev, hfull, hidle,
    Frame.settle (t := t) (((Frame.sleep _ z).mono (by decide)).trans (wake_frame _ bits))⟩

section

variable {t : Nat} {s : State}

theorem sleepHeartbeat_recurs (hdev : s.aon.dev = .sleep) (hdue : s.sleep.hbNext ≤ (s.setNow t).time.now) :
    ∃ n, exec (.sleepHeartbeat t) s = .next n ∧ n.sleep = { s.sleep with hbNext := (s.setNow t).time.now + 100000000 } ∧
      n.aon.dev = .sleep ∧ Frame [.sleep, .log, .fifos, .pick, .out] s n := by
  obtain ⟨m, hm⟩ : ∃ m : State, m = { s.setNow t with sleep := { s.sleep with hbNext := (s.setNow t).time.now + 100000000 } } := ⟨_, rfl⟩
  have hsent : Frame [.log, .fifos, .pick, .out] m m.sendHeartbeats :=
    (Sends.each (fun r s => Sends.each (fun e s => Sends.sendFrame s r e 4 0xFFFF 0x0A 0 s.heartbeatP) _ s) _ m).frame
  have hexec : exec (.sleepHeartbeat t) s = .next (settle s m.sendHeartbeats) := by
    change execSleepHeartbeat t s = _
    rw [hm]
    exact at'_eq (if_pos ⟨hdev, hdue⟩)
  refine ⟨_, hexec, ?_⟩
  rw [settle_sleep, settle_aon_dev, hsent.dev_eq (by decide), show m.sendHeartbeats.sleep = m.sleep from hsent .sleep (by decide)]
  refine ⟨by rw [hm], by rw [hm]; exact hdev, Frame.settle (t := t) (Frame.trans ?_ (hsent.mono (by decide)))⟩
  exact hm ▸ (Frame.sleep _ _).mono (by decide)

/-- Whether a block of the inputs is above the wake limit (R699). -/
def State.blockLoud (s : State) (raw : List Int) : Bool :=
  (upto 16).any (fun k => match s.blockValue k raw with | some v => decide (v.natAbs > s.cfg.n Ty.sleep 0 4) | none => false)

theorem blockLoud_iff (s : State) (raw : List Int) :
    s.blockLoud raw = true ↔ ∃ k v, k < 16 ∧ s.blockValue k raw = some v ∧ s.cfg.n Ty.sleep 0 4 < v.natAbs := by
  simp only [State.blockLoud, List.any_eq_true, upto, List.mem_range]
  constructor
  · rintro ⟨k, hk, hloud⟩
    split at hloud
    · next v hv => exact ⟨k, v, hk, hv, of_decide_eq_true hloud⟩
    · exact absurd hloud (by decide)
  · rintro ⟨k, v, hk, hv, hloud⟩
    exact ⟨k, hk, by rw [hv]; exact decide_eq_true hloud⟩

/-- Asleep a block of 100 ms is counted and the next begins; a current above the limit wakes the device. -/
theorem sleepCurrentBlock_exec (raw : List Int) (hst : s.sleep.st = 2) (hdue : s.sleep.blkFrom + 100000000 ≤ (s.setNow t).time.now) :
    ∃ z : Sleep, z.st = 2 ∧ z.blkFrom = s.sleep.blkFrom + 100000000 ∧
      exec (.sleepCurrentBlock t raw) s = .next (settle s
        (if s.blockLoud raw then ({ s.setNow t with sleep := z } : State).wake 0x10 else { s.setNow t with sleep := z })) := by
  have hlen : min 100000000 ((s.setNow t).time.now - (s.setNow t).sleep.blkFrom) = 100000000 := by
    rw [setNow_sleep]
    omega
  refine ⟨_, ?_, ?_, (show execSleepCurrentBlock t raw s = _ from at'_eq (if_pos (.inl ⟨hst, hlen⟩)))⟩
  · exact hst
  · exact congrArg (s.sleep.blkFrom + ·) hlen

theorem sleepCurrentBlock_counts (raw : List Int) (hdev : s.aon.dev = .sleep) (hst : s.sleep.st = 2)
    (hdue : s.sleep.blkFrom + 100000000 ≤ (s.setNow t).time.now) :
    ∃ n, exec (.sleepCurrentBlock t raw) s = .next n ∧ n.sleep.blkFrom = s.sleep.blkFrom + 100000000 ∧ Frame wakeParts s n ∧
      ((∀ k v, k < 16 → s.blockValue k raw = some v → v.natAbs ≤ s.cfg.n Ty.sleep 0 4) →
        n.sleep.st = 2 ∧ n.aon.dev = .sleep ∧ Frame [.sleep] s n) ∧
      ((∃ k v, k < 16 ∧ s.blockValue k raw = some v ∧ s.cfg.n Ty.sleep 0 4 < v.natAbs) →
        n.sleep.st = 0 ∧ n.sleep.wakeCause = 0x10 ∧ n.aon.dev = (if s.aon.thermal then .halt else .run)) := by
  obtain ⟨z, hz, hfrom, hexec⟩ := sleepCurrentBlock_exec raw hst hdue
  by_cases hloud : s.blockLoud raw = true
  · rw [if_pos hloud] at hexec
    obtain ⟨n, hn, hend, hcause, hblk, hwake, -, -, hframe⟩ := wakes_spec hexec hz
    refine ⟨n, hn, hblk.trans hfrom, hframe, fun hquiet => ?_, fun _ => ⟨hend, hcause, hwake⟩⟩
    obtain ⟨k, v, hk, hv, habove⟩ := (blockLoud_iff s raw).mp hloud
    exact absurd (hquiet k v hk hv) (by omega)
  · rw [if_neg hloud] at hexec
    have hframe : Frame [.sleep] s (settle s ({ s.setNow t with sleep := z } : State)) := Frame.settle (t := t) (Frame.sleep _ z)
    exact ⟨_, hexec, hfrom, hframe.mono (by decide), fun _ => ⟨hz, hdev, hframe⟩,
      fun habove => absurd ((blockLoud_iff s raw).mpr habove) hloud⟩

theorem sleepSensorConversion_exec (d : DevIn) (hdev : s.aon.dev = .sleep) (hdue : s.sleep.convNext ≤ (s.setNow t).time.now) {m : State}
    (hm : m = { s.setNow t with sleep := { s.sleep with convNext := (s.setNow t).time.now + 1000000000 } }) :
    exec (.sleepSensorConversion t d) s = .next (settle s (if s.thermalWake d then m.wake 0x20 else m)) := by
  change execSleepSensorConversion t d s = _
  rw [hm]
  exact at'_eq (if_pos ⟨hdev, hdue⟩)

theorem sleepSensorConversion_recurs (d : DevIn) (hdev : s.aon.dev = .sleep) (hdue : s.sleep.convNext ≤ (s.setNow t).time.now)
    (hcool : s.thermalWake d = false) :
    ∃ n, exec (.sleepSensorConversion t d) s = .next n ∧ n.sleep = { s.sleep with convNext := (s.setNow t).time.now + 1000000000 } ∧
      n.aon.dev = .sleep ∧ Frame [.sleep] s n := by
  have hexec := sleepSensorConversion_exec d hdev hdue rfl
  rw [hcool] at hexec
  exact ⟨_, hexec, rfl, hdev, Frame.settle (t := t) (Frame.sleep _ _)⟩

theorem sleepSensorConversion_wakes (d : DevIn) (hdev : s.aon.dev = .sleep) (hst : s.sleep.st = 2)
    (hdue : s.sleep.convNext ≤ (s.setNow t).time.now) (hhot : s.thermalWake d = true) :
    ∃ n, exec (.sleepSensorConversion t d) s = .next n ∧ n.sleep.st = 0 ∧ n.sleep.wakeCause = 0x20 ∧
      n.aon.dev = (if s.aon.thermal then .halt else .run) ∧ n.ch.low = false ∧ Frame wakeParts s n := by
  have hexec := sleepSensorConversion_exec d hdev hdue rfl
  rw [hhot] at hexec
  obtain ⟨n, hn, hend, hcause, -, hwake, hfull, -, hframe⟩ := wakes_spec hexec hst
  exact ⟨n, hn, hend, hcause, hwake, hfull, hframe⟩

theorem wakeNAssert_wakes (hst : s.sleep.st = 2) (hbit : bit (s.cfg.n Ty.sleep 0 0x0C) 0 = true) :
    ∃ n, exec (.wakeNAssert t) s = .next n ∧ n.sleep.st = 0 ∧ n.sleep.wakeCause = 1 ∧
      n.aon.dev = (if s.aon.thermal then .halt else .run) ∧ n.sw.phase = .idle ∧ n.ch.low = false ∧ Frame wakeParts s n := by
  have hexec : exec (.wakeNAssert t) s = .next (settle s ((s.setNow t).wake 1)) := at'_eq (if_pos hbit)
  obtain ⟨n, hn, hend, hcause, -, hwake, hfull, hidle, hframe⟩ := wakes_spec (z := s.sleep) hexec hst
  exact ⟨n, hn, hend, hcause, hwake, hidle, hfull, hframe⟩

theorem wakeTimer_wakes (hdev : s.aon.dev = .sleep) (hst : s.sleep.st = 2) (hbit : bit (s.cfg.n Ty.sleep 0 0x0C) 2 = true)
    (hon : s.cfg.n Ty.sleep 0 8 ≠ 0) (hdue : s.sleep.entryNow + 1000000000 * s.cfg.n Ty.sleep 0 8 ≤ (s.setNow t).time.now) :
    ∃ n, exec (.wakeTimer t) s = .next n ∧ n.sleep.st = 0 ∧ n.sleep.wakeCause = 4 ∧
      n.aon.dev = (if s.aon.thermal then .halt else .run) ∧ Frame wakeParts s n := by
  have hexec : exec (.wakeTimer t) s = .next (settle s ((s.setNow t).wake 4)) := by
    change execWakeTimer t s = _
    exact at'_eq ((if_pos ⟨hdev, hon, hdue⟩).trans (if_pos hbit))
  obtain ⟨n, hn, hend, hcause, -, hwake, -, -, hframe⟩ := wakes_spec (z := s.sleep) hexec hst
  exact ⟨n, hn, hend, hcause, hwake, hframe⟩

theorem wakeNAssert_idle (hidle : bit (s.cfg.n Ty.sleep 0 0x0C) 0 = false ∨ s.sleep.st = 0) :
    ∃ n, exec (.wakeNAssert t) s = .next n ∧ Frame [] s n := by
  have hexec : exec (.wakeNAssert t) s = .next (settle s (s.setNow t)) := by
    refine at'_eq ?_
    obtain hoff | hawake := hidle
    · exact if_neg (by rw [setNow_cfg, hoff]; decide)
    · rw [wake_awake (s := s.setNow t) hawake, ite_self]
  exact ⟨_, hexec, Frame.settle (t := t) (Frame.refl _ _)⟩

end

/-- Settles O59: the command by its rule, the entry by the state it leaves before the ports, CAN and the log follow, and every wake source by
the one account of a wake from SLEEP. -/
theorem sleepAndWake : Obligations.SleepAndWake := by
  unfold Obligations.SleepAndWake
  refine fun t s => ⟨fun q hacc hmay hargs => ⟨?_, ?_, ?_⟩, fun hst hdue => ⟨?_, ?_, ?_⟩,
    fun hdev hst => ⟨?_, ?_, fun d hdue => ⟨?_, ?_⟩, ?_, ?_⟩, ?_⟩
  · exact sleepEnter_noted hacc hmay hargs
  · exact fun r st => sleepEnter_refused hacc hmay hargs
  · exact sleepEnter_onTheWay hacc hmay hargs
  · exact sleepRateLow_sleeps hst hdue
  · exact sleepRateLow_wakes hst hdue
  · exact sleepRateLow_stays hst hdue
  · exact sleepHeartbeat_recurs hdev
  · exact fun raw => sleepCurrentBlock_counts raw hdev hst
  · exact sleepSensorConversion_recurs d hdev hdue
  · exact sleepSensorConversion_wakes d hdev hst hdue
  · exact wakeNAssert_wakes hst
  · exact wakeTimer_wakes hdev hst
  · exact wakeNAssert_idle

end Sys2Proof.Machine

namespace Sys2Proof.Machine

/-! ### PICK_ARM (R711 to R713) -/

@[simp] theorem taken_pickDenied (s : State) (q : HReq) (kind op : Nat) (rs : List PickRule) :
    (s.taken q kind op).pickDenied rs = s.pickDenied rs := by
  simp only [State.pickDenied, taken_cfg]

@[simp] theorem taken_silentLive (s : State) (q : HReq) (kind op : Nat) (r : PickRule) : (s.taken q kind op).silentLive r = s.silentLive r := by
  simp only [State.silentLive, State.notOpen, taken_cfg, taken_hs]

@[simp] theorem taken_inRun (s : State) (q : HReq) (kind op : Nat) : (s.taken q kind op).inRun = s.inRun := by
  simp only [State.inRun, taken_aon]

/-- Nothing under way forbids that Pick is armed (R713). -/
def State.pickQuiet (s : State) : Prop :=
  s.inRun = true ∧ s.aon.unkeyed = false ∧ s.stage.st ≠ 5 ∧ s.kn.arb = 0 ∧ s.kn.handoverAsked = false ∧
    ∀ l, (s.leaf l).st ≠ .rejoining ∧ (s.leaf l).st ≠ .resyncing

/-- Rules that may be armed: permitted, in range, none a danger to a string that is not OPEN (R711 to R713). -/
def State.pickFit (s : State) (rs : List PickRule) : Prop :=
  s.pickDenied rs = 0 ∧ ∀ r ∈ rs, (r.fld 2 1 = 2 → r.fld 0 1 ≠ 16) ∧ s.silentLive r = false ∧ r.inRange = true

theorem taken_pickQuiet {s : State} {q : HReq} {kind op : Nat} (h : s.pickQuiet) : (s.taken q kind op).pickQuiet := by
  simpa only [State.pickQuiet, taken_inRun, taken_aon, taken_stage, taken_kn, taken_leaf] using h

theorem taken_pickFit {s : State} {q : HReq} {kind op : Nat} {rs : List PickRule} (h : s.pickFit rs) : (s.taken q kind op).pickFit rs := by
  simpa only [State.pickFit, taken_pickDenied, taken_silentLive] using h

/-- Pick armed with the rules of a request. -/
def State.pickArmed (s : State) (q : HReq) : State :=
  { s with pick := { s.pick with
    armed := true, owner := q.sess, count := arg q 2 1, armSeq := (s.pick.armSeq + 1) % 4294967296
    armTime := s.devTime, armNow := s.time.now, tArm := arg q 0 2, rules := armRules q.args } }

section

variable {s : State} {q : HReq} (hlen : q.args.length = 4 + 32 * arg q 2 1)
include hlen

theorem pickArm_arms (hidle : s.pick.armed = false) (hquiet : s.pickQuiet) (hfit : s.pickFit (armRules q.args))
    (hT : 1 ≤ arg q 0 2 ∧ arg q 0 2 ≤ s.cfg.n Ty.pick 0 6) (hcount : 1 ≤ arg q 2 1 ∧ arg q 2 1 ≤ 16) (hzero : arg q 3 1 = 0) :
    s.pickArm q = ((s.pickArmed q).evA Ev.pickArmed q.sess [p2 (arg q 0 2), p1 (arg q 2 1), p1 0, p1 0]).ansOk
      (toLe 4 ((s.pick.armSeq + 1) % 4294967296)) := by
  obtain ⟨hrun, hkeyed, hwriting, harb, hhandover, hleaves⟩ := hquiet
  obtain ⟨hpermitted, hrules⟩ := hfit
  have hbusy : (s.stage.st == 5 || s.kn.arb != 0 || s.kn.handoverAsked ||
      [Leaf.a, Leaf.b].any (fun l => (s.leaf l).st == .rejoining || (s.leaf l).st == .resyncing)) = false := by
    simpa [hwriting, harb, hhandover] using And.intro (hleaves .a) (hleaves .b)
  have hward : (armRules q.args).any (fun r => r.fld 2 1 == 2 && r.fld 0 1 == 16) = false := by
    simp only [List.any_eq_false, Bool.and_eq_true, beq_iff_eq, not_and]
    exact fun r hr => (hrules r hr).1
  have hlive : (armRules q.args).any s.silentLive = false := by
    simp only [List.any_eq_false, Bool.not_eq_true]
    exact fun r hr => (hrules r hr).2.1
  have hrange : (armRules q.args).any (fun r => !r.inRange) = false := by
    simp only [List.any_eq_false, Bool.not_eq_true', Bool.not_eq_false]
    exact fun r hr => (hrules r hr).2.2
  unfold State.pickArm
  dsimp only
  rw [if_neg (not_not.mpr hlen), if_neg (by simp [hidle]), if_neg (by simp [hrun, hkeyed]), if_neg (by rw [hbusy]; decide),
    if_neg (not_not.mpr hpermitted), if_neg (by rw [hward]; decide), if_neg (by rw [hlive]; decide),
    if_neg (by simp only [hrange, Bool.false_eq_true, or_false]; omega)]
  rfl

theorem pickArm_denied (harmed : s.pick.armed = true) : s.pickArm q = s.ansWhy 1 := by
  unfold State.pickArm
  dsimp only
  rw [if_neg (not_not.mpr hlen), if_pos harmed]

end

section

variable {t : Nat} {q : HReq} {s : State} (hacc : (s.setNow t).accepts q = true) (hmay : (s.setNow t).may q.sess Perm.pick = true)
  (hlen : q.args.length = 4 + 32 * arg q 2 1)
include hacc hmay hlen

theorem pickArm_effect (hidle : s.pick.armed = false) (hquiet : (s.setNow t).pickQuiet) (hfit : (s.setNow t).pickFit (armRules q.args))
    (hT : 1 ≤ arg q 0 2 ∧ arg q 0 2 ≤ s.cfg.n Ty.pick 0 6) (hcount : 1 ≤ arg q 2 1 ∧ arg q 2 1 ≤ 16) (hzero : arg q 3 1 = 0) :
    ∃ n, exec (.pickArm t q) s = .next n ∧
      n.pick = { s.pick with
        armed := true, owner := q.sess, count := arg q 2 1, armSeq := (s.pick.armSeq + 1) % 4294967296,
        armTime := (s.setNow t).devTime, armNow := (s.setNow t).time.now, tArm := arg q 0 2, rules := armRules q.args } ∧
      AnsweredOk (s.setNow t) n q 0x1301 (toLe 4 ((s.pick.armSeq + 1) % 4294967296)) ∧ Frame (hostParts ++ [.pick, .log, .fifos]) s n := by
  obtain ⟨v, hv⟩ : ∃ v, v = (s.setNow t).taken q 3 0x1301 := ⟨_, rfl⟩
  have hpick : v.pick = s.pick := by rw [hv, taken_pick, setNow_pick]
  have hrule := pickArm_arms (s := v) hlen (by rw [hpick, hidle]) (hv ▸ taken_pickQuiet hquiet) (hv ▸ taken_pickFit hfit)
    (by rw [hv, taken_cfg]; exact hT) hcount hzero
  obtain ⟨m, hm⟩ : ∃ m, m = (v.pickArmed q).evA Ev.pickArmed q.sess [p2 (arg q 0 2), p1 (arg q 2 1), p1 0, p1 0] := ⟨_, rfl⟩
  have hlogs : Logs (v.pickArmed q) m := hm ▸ Logs.evA _ _ _ _
  have hnow : m.time.now = (s.setNow t).time.now := by
    rw [hlogs.time, ← taken_now (s.setNow t) q 3 0x1301, ← hv]
    rfl
  have hframe : Frame [.pick, .log, .fifos] v m :=
    ((Frame.pick v _).mono (by decide)).trans (hlogs.frame_of_mem (by decide) (by decide))
  rw [← hm, State.ansOk, hpick] at hrule
  obtain ⟨hexec, hans, hends⟩ := commandAny_answered (c := .pickArm t q) (h := fun s => s.pickArm q) (lenOk := fun n => decide (4 ≤ n)) rfl
    hacc hmay (by simp [hlen]) (hv ▸ hrule) (hv ▸ hframe) (by decide) hnow
  refine ⟨_, hexec, ?_, hans, hends⟩
  rw [settle_pick, answer_pick, hlogs.pick, State.pickArmed, hpick, hv, taken_devTime, taken_now]

theorem pickArm_again (harmed : s.pick.armed = true) :
    ∃ n, exec (.pickArm t q) s = .next n ∧ Answered (s.setNow t) n q 3 0x1301 St.denied [byteOf 1] ∧ Frame hostParts s n := by
  have hrule : ((s.setNow t).taken q 3 0x1301).pickArm q = ((s.setNow t).taken q 3 0x1301).ansWhy 1 :=
    pickArm_denied hlen (by rw [taken_pick]; exact harmed)
  obtain ⟨hexec, hans, hends⟩ := commandAny_answered (c := .pickArm t q) (h := fun s => s.pickArm q) (lenOk := fun n => decide (4 ≤ n)) rfl
    hacc hmay (by simp [hlen]) hrule (Frame.refl [] _) (by decide) (taken_now _ _ _ _)
  exact ⟨_, hexec, hans, hends⟩

end

/-! ### PICK_DISARM and PICK_EXPIRY (R719) -/

theorem Sends.pickDisarm (s : State) (cause : Nat) : Sends s (s.pickDisarm cause) := by
  unfold State.pickDisarm
  split
  · exact Sends.refl s
  · exact ((Sends.release s _).trans (Sends.pick _ _)).trans (Sends.of_logs (Logs.evA _ _ _ _))

theorem pickDisarm_effect {t : Nat} {q : HReq} {s : State} (hlets : (s.setNow t).lets q 0x1302 Perm.pick = true) (hargs : q.args = []) :
    ∃ n, exec (.pickDisarm t q) s = .next n ∧ n.pick.armed = false ∧ (s.pick.armed = true → n.pick.lastDisarm = 1) ∧
      AnsweredOk (s.setNow t) n q 0x1302 [] ∧ Frame (hostParts ++ [.pick, .log, .fifos]) s n := by
  obtain ⟨v, hv⟩ : ∃ v, v = (s.setNow t).taken q 3 0x1302 := ⟨_, rfl⟩
  have hpick : v.pick = s.pick := by rw [hv, taken_pick, setNow_pick]
  have hnow : (v.pickDisarm 1).time.now = (s.setNow t).time.now := by
    rw [(Sends.pickDisarm v 1).time, hv, taken_now]
  obtain ⟨hexec, hans, hends⟩ := command_answered (c := .pickDisarm t q) (h := fun s => (s.pickDisarm 1).ans St.ok) (lenOk := (· == 0)) rfl
    (lets_opens hlets) (taken_may_of_lets hlets) (by simp [hargs]) rfl (pickDisarm_reaches _ 1) (by decide) (hv ▸ hnow)
  rw [← hv] at hexec hans hends
  refine ⟨_, hexec, ?_, fun harmed => ?_, hans, hends.mono (by decide)⟩
  · rw [settle_pick, answer_pick, pickDisarm_armed]
  · rw [settle_pick, answer_pick, pickDisarm_pick 1 (by rw [hpick, harmed])]
    rfl

theorem pickExpiry_disarms {t : Nat} {s : State} (harmed : s.pick.armed = true)
    (hdue : s.pick.armNow + 1000000000 * s.pick.tArm ≤ (s.setNow t).time.now) :
    ∃ n, exec (.pickExpiry t) s = .next n ∧ n.pick.armed = false ∧ n.pick.lastDisarm = 2 ∧ n.pick.rules = s.pick.rules ∧
      Frame [.pick, .out, .log, .fifos] s n := by
  have hexec : exec (.pickExpiry t) s = .next (settle s ((s.setNow t).pickDisarm 2)) := by
    change execPickExpiry t s = _
    exact at'_eq (if_pos ⟨harmed, hdue⟩)
  refine ⟨_, hexec, ?_⟩
  rw [settle_pick, pickDisarm_pick (s := s.setNow t) 2 harmed]
  exact ⟨rfl, rfl, rfl, Frame.settle (t := t) (pickDisarm_reaches _ 2)⟩

/-! ### A frame that Pick alters or held (R710, R716, R718) -/

/-- A rule acts on a frame that Pick does not pass: the action is counted and recorded. -/
theorem pickJudge_acts {s : State} {f : PickSeen} (h : (s.pickJudge f).2 ≠ .pass) :
    ∃ p : Pick, p.injections = satAdd 32 s.pick.injections 1 ∧ Logs { s with pick := p } (s.pickJudge f).1 := by
  unfold State.pickJudge at h ⊢
  split at h
  · exact absurd rfl h
  next hon =>
    rw [if_neg hon]
    dsimp only at h ⊢
    split at h
    · exact absurd rfl h
    next =>
      exact ⟨_, rfl, Logs.raiseN _ _ _ _ _ _ _⟩

section

variable {s : State} {r kind seq : Nat} {e : Leaf} {p : List Byte} {again : Instr} {judge : List Byte → State → Nat}
  {deliver : List Byte → Nat → State → State} (hon : s.portOn e = true)
include hon

/-- A frame of no position that Pick drops goes to no rule. -/
theorem rx_dropped (hdrop : (s.pickJudge { target := r, e := e.num, dir := 1, kindBit := kind, kind := kind, pos := 0, seq := seq }).2 = .drop) :
    s.rx r e 0 kind seq p again judge deliver =
      (s.pickJudge { target := r, e := e.num, dir := 1, kindBit := kind, kind := kind, pos := 0, seq := seq }).1 := by
  unfold State.rx
  rw [if_neg (by simp [hon])]
  dsimp only
  rw [hdrop]
  rfl

/-- A frame of no position that leaves Pick's hands is judged by no rule again, and goes to its own. -/
theorem rx_bypassed (hpick : s.pick.bypass = true) :
    s.rx r e 0 kind seq p again judge deliver =
      deliver p (judge p s) (s.traceFrame r e 1 (judge p s) (frameBytes 0 0 kind seq p)) := by
  have hpass : s.pickJudge { target := r, e := e.num, dir := 1, kindBit := kind, kind := kind, pos := 0, seq := seq } = (s, .pass) :=
    if_pos (by simp [hpick])
  unfold State.rx
  rw [if_neg (by simp [hon])]
  dsimp only
  rw [hpass]
  rfl

end

/-- A dropped broadcast reaches no rule: Pick counts it, the ring does not. -/
theorem broadcastReturned_dropped {t ring : Nat} {e : Leaf} {s : State} (hring : s.cfg.ringOn ring = true) (hon : (s.setNow t).portOn e = true)
    (hdrop : ((s.setNow t).pickJudge { target := ring, e := e.num, dir := 1, kindBit := 0x0A, kind := 0x0A, pos := 0, seq := 0 }).2 = .drop) :
    ∃ n, exec (.broadcastReturned t ring e) s = .next n ∧ n.ch = s.ch ∧ n.pick.injections = satAdd 32 s.pick.injections 1 ∧
      Frame [.pick, .log, .fifos] s n := by
  obtain ⟨p, hcount, hlogs⟩ := pickJudge_acts (by rw [hdrop]; decide)
  refine ⟨_, (show execBroadcastReturned t ring e s = _ from at'_eq ((if_neg (by simp [hring])).trans
    (rx_dropped hon hdrop))), hlogs.ch, ?_, Frame.settle (t := t) ?_⟩
  · rw [settle_pick, hlogs.pick, hcount, setNow_pick]
  · exact ((Frame.pick _ p).mono (by decide)).trans (hlogs.frame_of_mem (by decide) (by decide))

/-- What a released frame leaves besides what is traced. -/
theorem release_one (s : State) (o : Out) : Logs (s.emit o) (s.release [o]) := by
  change Logs (s.emit o) (match o with
    | .frame r e _ _ line => (s.emit o).withPick true (fun s => s.traceFrame r e 0 0 (line.take (line.length - 4)))
    | _ => s.emit o)
  split
  · exact Logs.withPick _ _ _ (fun t => Logs.traceFrame t _ _ _ _ _)
  · exact Logs.refl _

theorem setNow_same (s : State) : s.setNow s.time.now = s := by
  simp only [State.setNow, Nat.max_self]

/-- A returned broadcast that leaves Pick's hands is counted at its ring. -/
theorem redeliver_broadcast {s : State} {x ring : Nat} {e : Leaf} (hring : s.cfg.ringOn ring = true) (hon : s.portOn e = true)
    (hpick : s.pick.bypass = true) :
    ∃ m, Logs (s.modRing ring (fun x => { x with bcast := satAdd 32 x.bcast 1 })) m ∧
      s.redeliver (.broadcastReturned x ring e) = settle s m := by
  refine ⟨_, (Logs.traceFrame s ring e 1 0 (frameBytes 0 0 0x0A 0 s.heartbeatP)).modRing ring _, ?_⟩
  change settle s (if !(s.setNow s.time.now).cfg.ringOn ring then _ else _) = _
  rw [setNow_same, if_neg (by simp [hring])]
  exact congrArg (settle s) (rx_bypassed hon hpick)

/-- A held frame with Pick's record without it. -/
def State.heldWithout (s : State) (k : Nat) : State := { s with pick := { s.pick with held := s.pick.held.eraseIdx k } }

/-- The state in which a held frame is delivered: what is logged is altered traffic, and Pick leaves the frame alone. -/
def State.inHand (s : State) : State :=
  { s with pick := { s.pick with bypass := true }, lg := { s.lg with picked := s.lg.picked || true } }

/-- The state after the delivery. -/
def State.outOfHand (s : State) (picked : Bool) : State :=
  { s with pick := { s.pick with bypass := false }, lg := { s.lg with picked := picked } }

theorem inHand_frame (s : State) : Frame [.pick, .log] s s.inHand := by
  rintro ⟨⟩ hp <;> simp [Part.same, State.inHand] at hp ⊢

theorem outOfHand_frame (s : State) (picked : Bool) : Frame [.pick, .log] s (s.outOfHand picked) := by
  rintro ⟨⟩ hp <;> simp [Part.same, State.outOfHand] at hp ⊢

section

variable {t k : Nat} {h : PickHeld} {s : State} (hheld : s.pick.held[k]? = some h) (hdue : h.due ≤ (s.setNow t).time.now)
include hheld hdue

theorem pickHeldRelease_exec : exec (.pickHeldRelease t k) s = .next (settle s (((s.setNow t).heldWithout k).unhold h)) := by
  change execPickHeldRelease t k s = _
  refine at'_eq ?_
  rw [show (s.setNow t).pick.held[k]? = some h from hheld]
  exact if_pos hdue

theorem pickHeldRelease_sends {o : Out} (ho : h.tx = some o) :
    ∃ n, exec (.pickHeldRelease t k) s = .next n ∧ n.out = o :: s.out ∧ n.pick = { s.pick with held := s.pick.held.eraseIdx k } ∧
      Frame [.pick, .out, .log, .fifos] s n := by
  obtain ⟨u, hu⟩ : ∃ u, u = (s.setNow t).heldWithout k := ⟨_, rfl⟩
  have hexec := pickHeldRelease_exec hheld hdue
  have hlogs := release_one u o
  rw [State.unhold, ho, ← hu] at hexec
  refine ⟨_, hexec, ?_, ?_, Frame.settle (t := t) ?_⟩
  · rw [settle_out, hlogs.out, hu]
    rfl
  · rw [settle_pick, hlogs.pick, hu]
    rfl
  · have hout : Frame [.pick] (s.setNow t) u := hu ▸ Frame.pick (s.setNow t) _
    exact (hout.mono (by decide)).trans (((emit_frame u o).mono (by decide)).trans (hlogs.frame_of_mem (by decide) (by decide)))

theorem pickHeldRelease_delivers {ring x : Nat} {e : Leaf} (htx : h.tx = none) (hrx : h.rx = some (.broadcastReturned x ring e))
    (hring : s.cfg.ringOn ring = true) (hon : (s.setNow t).portOn e = true) :
    ∃ n, exec (.pickHeldRelease t k) s = .next n ∧ n.pick.held = s.pick.held.eraseIdx k ∧
      n.ring ring = { s.ring ring with bcast := satAdd 32 (s.ring ring).bcast 1 } ∧ Frame [.pick, .chains, .log, .fifos] s n := by
  obtain ⟨u, hu⟩ : ∃ u, u = (s.setNow t).heldWithout k := ⟨_, rfl⟩
  obtain ⟨w, hw⟩ : ∃ w, w = u.inHand := ⟨_, rfl⟩
  obtain ⟨m, hlogs, hrule⟩ := redeliver_broadcast (s := w) (x := x) (e := e) (by rw [hw, hu]; exact hring)
    (by rw [hw, hu]; exact hon) (by rw [hw]; rfl)
  have hexec := pickHeldRelease_exec hheld hdue
  have hunhold : u.unhold h = (settle w m).outOfHand u.lg.picked := by
    rw [← hrule, hw]
    simp only [State.unhold, htx, hrx]
    rfl
  have hout : Frame [.pick] (s.setNow t) u := hu ▸ Frame.pick (s.setNow t) _
  have hin : Frame [.pick, .log] u w := hw ▸ inHand_frame u
  have hcounted : Frame [.chains, .log, .fifos] w (settle w m) := by
    refine Frame.settle (t := w.time.now) ?_
    rw [setNow_same]
    exact ((modRing_frame w ring _).mono (by decide)).trans (hlogs.frame_of_mem (by decide) (by decide))
  rw [← hu, hunhold] at hexec
  refine ⟨_, hexec, ?_, ?_, Frame.settle (t := t) ?_⟩
  · refine (congrArg Pick.held hlogs.pick :).trans ?_
    rw [hw, hu]
    rfl
  · refine (ring_of_ch hlogs.ch ring).trans ?_
    rw [ring_modRing_same, hw, hu]
    rfl
  · exact (hout.mono (by decide)).trans ((hin.mono (by decide)).trans ((hcounted.mono (by decide)).trans
      ((outOfHand_frame _ _).mono (by decide))))

end

/-- Settles O60: arming by its rows in order, disarming by the record it leaves, a dropped frame by the judgement that counts it, and a held
one by what its release puts out or delivers. -/
theorem pickAltersTraffic : Obligations.PickAltersTraffic := by
  unfold Obligations.PickAltersTraffic
  refine fun t s => ⟨fun q hacc hmay hlen => ⟨?_, fun harmed => ?_⟩, fun q hlets hargs => ?_, ?_, fun ring e => ?_,
    fun k h hheld hdue => ⟨fun o => ?_, fun ring e x => ?_⟩⟩
  · intro hidle hrun hkeyed hwriting harb hhandover hleaves hpermitted hrules hT hTmax hcount hcountMax hzero
    have hquiet : (s.setNow t).pickQuiet := ⟨hrun, hkeyed, hwriting, harb, hhandover, fun l => by rw [setNow_leaf]; exact hleaves l⟩
    exact pickArm_effect hacc hmay hlen hidle hquiet ⟨hpermitted, hrules⟩ ⟨hT, hTmax⟩ ⟨hcount, hcountMax⟩ hzero
  · exact pickArm_again hacc hmay hlen harmed
  · exact pickDisarm_effect hlets hargs
  · exact pickExpiry_disarms
  · exact broadcastReturned_dropped
  · exact pickHeldRelease_sends hheld hdue
  · exact pickHeldRelease_delivers hheld hdue

end Sys2Proof.Machine

namespace Sys2Proof.Machine

/-! ### The FIFOs' records (R655, R658) -/

@[simp] theorem fifo_setFifo_same (s : State) (k : Nat) (f : Fifo) : (s.setFifo k f).fifo k = f := kget_kset_same _ _ _ _

theorem fifo_setFifo_other (s : State) {k j : Nat} (f : Fifo) (h : j ≠ k) : (s.setFifo k f).fifo j = s.fifo j := kget_kset_other _ _ _ _ _ h

theorem fifo_of_fifos {s n : State} (h : n.fifos = s.fifos) (k : Nat) : n.fifo k = s.fifo k := by
  simp only [State.fifo, h]

theorem setFifo_frame (s : State) (k : Nat) (f : Fifo) : Frame [.fifos] s (s.setFifo k f) := FifosOnly.frame ⟨_, rfl⟩

/-- No stream is flushed. -/
def Unflushed (s n : State) : Prop := ∀ k, (n.fifo k).flushes = (s.fifo k).flushes

theorem Unflushed.trans {s t n : State} (h : Unflushed s t) (k : Unflushed t n) : Unflushed s n := fun i => (k i).trans (h i)

theorem Unflushed.of_fifos {s n : State} (h : n.fifos = s.fifos) : Unflushed s n := fun k => by rw [fifo_of_fifos h]

theorem Unflushed.ite {s t n : State} (c : Prop) [Decidable c] (h : Unflushed s t) (k : Unflushed s n) : Unflushed s (if c then t else n) := by
  split
  · exact h
  · exact k

theorem Unflushed.fold {α : Type} (f : State → α → State) (h : ∀ s x, Unflushed s (f s x)) (l : List α) (s : State) :
    Unflushed s (l.foldl f s) := by
  induction l generalizing s with
  | nil => exact fun _ => rfl
  | cons x r ih => exact (h s x).trans (ih _)

theorem Unflushed.setFifo {s : State} {k : Nat} {f : Fifo} (h : f.flushes = (s.fifo k).flushes) : Unflushed s (s.setFifo k f) := fun j => by
  by_cases hj : j = k
  · rw [hj, fifo_setFifo_same, h]
  · rw [fifo_setFifo_other s f hj]

theorem offer_flushes (f : Fifo) (now ty : Nat) (picked : Bool) (p : List Byte) : (f.offer now ty picked p).1.flushes = f.flushes := by
  unfold Fifo.offer
  exact (apply_ite (fun x : Fifo × Bool => x.1.flushes) _ _ _).trans (ite_self _)

theorem Unflushed.offerTo (s : State) (ns : List Nat) (ty : Nat) (picked : Bool) (p : List Byte) : Unflushed s (s.offerTo ns ty picked p).1 := by
  unfold State.offerTo
  suffices h : ∀ a : State × List Nat, Unflushed s a.1 → Unflushed s (ns.foldl (fun a n =>
      let r := (a.1.fifo n).offer s.time.now ty picked p
      (a.1.setFifo n r.1, if r.2 then a.2 ++ [n] else a.2)) a).1 from h (s, []) (fun _ => rfl)
  induction ns with
  | nil => exact fun a h => h
  | cons n r ih => exact fun a h => ih _ (h.trans (Unflushed.setFifo (offer_flushes _ _ _ _ _)))

theorem enqueue_fifos (s : State) (l : Leaf) (r : EventRec) : (s.enqueue l r).fifos = s.fifos := by
  unfold State.enqueue
  dsimp only
  split
  · rfl
  · split
    · rw [modLeaf_fifos]
    · rfl

/-- A record goes to the streams of the log; a stream that begins to lose items raises an event of its own. -/
theorem Unflushed.raiseN (k code src org : Nat) (picked : Bool) (ps : List Param) (s : State) :
    Unflushed s (State.raiseN k code src org picked ps s) := by
  induction k generalizing code src org picked ps s with
  | zero => exact fun _ => rfl
  | succ k ih =>
    have streams (ns : List Nat) (picked : Bool) (p : List Byte) (t : State) : Unflushed t
        ((t.offerTo ns 2 picked p).2.foldl (fun s n => State.raiseN k Ev.streamLoss n s.act.num false [p4 (s.fifo n).lossPend] s)
          (t.offerTo ns 2 picked p).1) :=
      (Unflushed.offerTo t ns 2 picked p).trans (Unflushed.fold _ (fun s n => ih _ _ _ _ _ s) _ _)
    have queues (ls : List Leaf) (r : EventRec) (t : State) : Unflushed t (ls.foldl (fun s l => s.enqueue l r) t) :=
      Unflushed.fold _ (fun s l => Unflushed.of_fifos (enqueue_fifos s l r)) _ _
    have recorder (t : State) (g : Recorder) : Unflushed t { t with lg := g } := Unflushed.of_fifos rfl
    unfold State.raiseN
    dsimp only
    split
    all_goals
      refine Unflushed.ite _ (fun _ => rfl) (Unflushed.ite _ ((recorder _ _).trans (streams _ _ _ _)) ?_)
      refine Unflushed.ite _ (recorder _ _) (Unflushed.ite _ ?_ (recorder _ _))
      exact Unflushed.ite _ ((recorder _ _).trans ((queues _ _ _).trans ((streams _ _ _ _).trans (recorder _ _))))
        ((recorder _ _).trans ((queues _ _ _).trans (streams _ _ _ _)))

end Sys2Proof.Machine

namespace Sys2Proof.Machine

/-! ### SUBSCRIBE (R602, R619, R662) -/

@[simp] theorem taken_streamOk (s : State) (q : HReq) (kind op k n : Nat) : (s.taken q kind op).streamOk k n = s.streamOk k n := by
  simp only [State.streamOk, taken_cfg]

@[simp] theorem taken_fifo (s : State) (q : HReq) (kind op k : Nat) : (s.taken q kind op).fifo k = s.fifo k := fifo_of_fifos (taken_fifos ..) k

@[simp] theorem answer_fifo (s : State) (j tag st : Nat) (body : List Byte) (k : Nat) : (s.answer j tag st body).fifo k = s.fifo k :=
  fifo_of_fifos (answer_fifos ..) k

theorem setNow_fifo (s : State) (t k : Nat) : (s.setNow t).fifo k = s.fifo k := rfl

/-- Nothing differs, or one session's subscriptions and the FIFOs alone. -/
def Subscribes (j : Nat) (s n : State) : Prop :=
  n = s ∨ ∃ fs b, n = ({ s with fifos := fs } : State).modSess j (fun x => { x with subs := b })

theorem Subscribes.frame {j : Nat} {s n : State} (h : Subscribes j s n) : Frame [.links, .fifos] s n := by
  obtain rfl | ⟨fs, b, rfl⟩ := h
  · exact Frame.refl _ n
  · exact ((FifosOnly.frame ⟨fs, rfl⟩).mono (by decide)).trans ((Frame.links _ _).mono (by decide))

theorem Subscribes.spi {j : Nat} {s n : State} (h : Subscribes j s n) : n.links.spiQ = s.links.spiQ ∧ n.spiOn = s.spiOn := by
  obtain rfl | ⟨fs, b, rfl⟩ := h
  · exact ⟨rfl, rfl⟩
  · exact ⟨rfl, rfl⟩

theorem Subscribes.sess {j : Nat} {s n : State} (h : Subscribes j s n) : ∃ b, n.sess j = { s.sess j with subs := b } := by
  obtain rfl | ⟨fs, b, rfl⟩ := h
  · exact ⟨_, rfl⟩
  · exact ⟨b, sess_modSess_same ..⟩

/-- The answer to an accepted request whose rule left what answers go by as taken. -/
theorem taken_answered_of_sess {s v m : State} {q : HReq} {kind op : Nat} (st : Nat) (body : List Byte) (hacc : s.accepts q = true)
    (hv : v = s.taken q kind op) {b : Nat} (hsess : m.sess q.sess = { v.sess q.sess with subs := b })
    (hspi : m.links.spiQ = v.links.spiQ ∧ m.spiOn = v.spiOn) : Answered s (m.answer q.sess q.tag st body) q kind op st body := by
  have hout : (v.sess q.sess).outst.find? (fun o => o.1 == q.tag) = some (q.tag, kind, op) := hv ▸ taken_outst s q kind op hacc
  have htx : (v.sess q.sess).tx = (s.sess q.sess).tx ∧ (v.sess q.sess).gen = (s.sess q.sess).gen := hv ▸ taken_tx s q kind op
  have hopen : v.sessOpen q.sess = true := hv ▸ taken_open s q kind op (accepts_open hacc)
  have hqueue : v.links.spiQ = s.links.spiQ := hv ▸ taken_spiQ s q kind op
  refine answer_answered s m q kind op st body ?_ ?_ ?_ (hspi.1.trans hqueue)
  · rw [hsess]
    exact hout
  · unfold State.sessOpen at hopen ⊢
    rw [hsess, hspi.2]
    exact hopen
  · rw [hsess]
    exact htx

theorem send_subs (s : State) (j kind status tag : Nat) (body : List Byte) : ((s.send j kind status tag body).sess j).subs = (s.sess j).subs := by
  unfold State.send
  split
  · rfl
  split
  · rfl
  dsimp only
  split
  · rfl
  · rw [emit_sess, sess_setSess_same]

theorem answer_subs (s : State) (j tag st : Nat) (body : List Byte) : ((s.answer j tag st body).sess j).subs = (s.sess j).subs := by
  unfold State.answer
  dsimp only
  split
  · rfl
  · rw [send_subs]
    split <;> (change ((s.setSess j _).sess j).subs = _; rw [sess_setSess_same])

/-- What becoming a receiver changes. -/
theorem receive_spec (s : State) (j n : Nat) : Subscribes j s (s.receive j n) ∧
    (s.receive j n).fifo n = (if (s.fifo n).recv.contains j then s.fifo n else { s.fifo n with recv := (s.fifo n).recv ++ [j] }) ∧
    ∀ k, k ≠ n → (s.receive j n).fifo k = s.fifo k := by
  unfold State.receive
  dsimp only
  split
  · exact ⟨.inl rfl, rfl, fun _ _ => rfl⟩
  · exact ⟨.inr ⟨_, _, rfl⟩, fifo_setFifo_same .., fun k hk => fifo_setFifo_other s _ hk⟩

/-- What ceasing to be a receiver changes. -/
theorem unreceive_spec (s : State) (j n : Nat) : Subscribes j s (s.unreceive j n) ∧ bit ((s.unreceive j n).sess j).subs n = false ∧
    (s.unreceive j n).fifo n = { s.fifo n with recv := (s.fifo n).recv.filter (· != j) } ∧
    ∀ k, k ≠ n → (s.unreceive j n).fifo k = s.fifo k := by
  refine ⟨.inr ⟨_, _, rfl⟩, ?_, fifo_setFifo_same .., fun k hk => fifo_setFifo_other s _ hk⟩
  rw [State.unreceive, sess_modSess_same]
  exact bit_setBit_clear _ _

section

variable {t : Nat} {q : HReq} {s m : State} {c : Instr} {h : State → Nat → HR} {k : Nat}

/-- A SUBSCRIBE that passes every check of its request: its action's answer leaves. -/
theorem subscribe_answered (hexec : exec c s = at' t (fun s => s.subscribe q h) s) (hacc : (s.setNow t).accepts q = true)
    (hlen : q.args.length = 4) (hk : arg q 0 1 < 16) (hward : q.sess ≠ sSpi) (hmay : (s.setNow t).may q.sess Perm.subscribe = true)
    (hstream : (s.setNow t).streamOk q.sess (arg q 0 1) = true)
    (hrule : h ((s.setNow t).taken q 4 0) (arg q 0 1) = m.ans St.ok) (hsubs : Subscribes q.sess ((s.setNow t).taken q 4 0) m) :
    exec c s = .next (settle s (m.answer q.sess q.tag St.ok [])) ∧
      Answered (s.setNow t) (settle s (m.answer q.sess q.tag St.ok [])) q 4 0 St.ok [] ∧
      Frame (hostParts ++ [.fifos]) s (settle s (m.answer q.sess q.tag St.ok [])) := by
  obtain ⟨b, hb⟩ := hsubs.sess
  refine ⟨hexec.trans (at'_eq ?_), settle_answered (taken_answered_of_sess _ _ hacc rfl hb hsubs.spi), ?_⟩
  · refine (request_accepted _ _ _ _ _ _ hacc).trans (serve_now _ _ _ _ _ _ _ _ ?_)
    change (if q.sess = sSpi then _ else if q.args.length ≠ 4 then _ else if arg q 0 1 ≥ 16 then _ else
      if !((s.setNow t).taken q 4 0).may q.sess Perm.subscribe || !((s.setNow t).taken q 4 0).streamOk q.sess (arg q 0 1) then _ else
      h ((s.setNow t).taken q 4 0) (arg q 0 1)) = _
    rw [if_neg hward, if_neg (not_not.mpr hlen), if_neg (by omega), taken_may, taken_streamOk, hmay, hstream]
    exact hrule
  · exact ((answered_frame hsubs.frame).mono (by decide)).settle

end

section

variable {t : Nat} {q : HReq} {s : State} (hacc : (s.setNow t).accepts q = true)
    (hlen : q.args.length = 4) (hk : arg q 0 1 < 16) (hward : q.sess ≠ sSpi) (hmay : (s.setNow t).may q.sess Perm.subscribe = true)
    (hstream : (s.setNow t).streamOk q.sess (arg q 0 1) = true)
include hacc hlen hk hward hmay hstream

theorem subscribeStart_effect (hfits : s.cfg.wardFits (arg q 0 1) = true)
    (hroom : (s.fifo (arg q 0 1)).recv.length < 8 ∨ (s.fifo (arg q 0 1)).recv.contains q.sess = true) :
    ∃ n, exec (.subscribeStart t q) s = .next n ∧
      (n.fifo (arg q 0 1)).recv =
        (if (s.fifo (arg q 0 1)).recv.contains q.sess then (s.fifo (arg q 0 1)).recv else (s.fifo (arg q 0 1)).recv ++ [q.sess]) ∧
      (n.fifo (arg q 0 1)).words = (s.fifo (arg q 0 1)).words ∧ (∀ k, k ≠ arg q 0 1 → n.fifo k = s.fifo k) ∧
      Answered (s.setNow t) n q 4 0 St.ok [] ∧ Frame (hostParts ++ [.fifos]) s n := by
  obtain ⟨v, hv⟩ : ∃ v, v = (s.setNow t).taken q 4 0 := ⟨_, rfl⟩
  obtain ⟨m, hm⟩ : ∃ m, m = v.receive q.sess (arg q 0 1) := ⟨_, rfl⟩
  have hfifo (k : Nat) : v.fifo k = s.fifo k := by
    rw [hv, taken_fifo, setNow_fifo]
  have hroom' : ¬ ((s.fifo (arg q 0 1)).recv.length ≥ 8 ∧ (!(s.fifo (arg q 0 1)).recv.contains q.sess) = true) := by
    rintro ⟨hfull, hnew⟩
    obtain h | h := hroom
    · omega
    · rw [h] at hnew
      exact absurd hnew (by decide)
  have hrule : (if !v.cfg.wardFits (arg q 0 1) then v.ans St.denied
      else if (v.fifo (arg q 0 1)).recv.length ≥ 8 ∧ !(v.fifo (arg q 0 1)).recv.contains q.sess then v.ans St.busy
      else (v.receive q.sess (arg q 0 1)).ans St.ok) = m.ans St.ok := by
    rw [if_neg (by simp [hv, hfits]), hfifo, if_neg hroom', hm]
  obtain ⟨hsubs, hrecv, hother⟩ := receive_spec v q.sess (arg q 0 1)
  obtain ⟨hexec, hans, hframe⟩ := subscribe_answered (c := .subscribeStart t q) (h := fun s n =>
    let f := s.fifo n
    if !s.cfg.wardFits n then s.ans St.denied
    else if f.recv.length ≥ 8 ∧ !f.recv.contains q.sess then s.ans St.busy
    else (s.receive q.sess n).ans St.ok) rfl hacc hlen hk hward hmay hstream (hv ▸ hrule) (hv ▸ hm ▸ hsubs)
  rw [← hm] at hrecv hother
  have hn (k : Nat) : (settle s (m.answer q.sess q.tag St.ok [])).fifo k = m.fifo k := answer_fifo m q.sess q.tag St.ok [] k
  refine ⟨_, hexec, ?_, ?_, fun k hk' => ?_, hans, hframe⟩
  · rw [hn, hrecv, ← hfifo]
    split <;> rfl
  · rw [hn, hrecv, ← hfifo]
    split <;> rfl
  · rw [hn, hother k hk', hfifo]

theorem subscribeStop_effect :
    ∃ n, exec (.subscribeStop t q) s = .next n ∧ (n.fifo (arg q 0 1)).recv.contains q.sess = false ∧
      bit (n.sess q.sess).subs (arg q 0 1) = false ∧ (n.fifo (arg q 0 1)).words = (s.fifo (arg q 0 1)).words ∧
      (∀ k, k ≠ arg q 0 1 → n.fifo k = s.fifo k) ∧ Answered (s.setNow t) n q 4 0 St.ok [] ∧ Frame (hostParts ++ [.fifos]) s n := by
  obtain ⟨v, hv⟩ : ∃ v, v = (s.setNow t).taken q 4 0 := ⟨_, rfl⟩
  obtain ⟨m, hm⟩ : ∃ m, m = v.unreceive q.sess (arg q 0 1) := ⟨_, rfl⟩
  have hfifo (k : Nat) : v.fifo k = s.fifo k := by
    rw [hv, taken_fifo, setNow_fifo]
  obtain ⟨hsubs, hbit, hrecv, hother⟩ := unreceive_spec v q.sess (arg q 0 1)
  obtain ⟨hexec, hans, hframe⟩ := subscribe_answered (c := .subscribeStop t q) (h := fun s n => (s.unreceive q.sess n).ans St.ok)
    rfl hacc hlen hk hward hmay hstream (by rw [← hv, ← hm]) (hv ▸ hm ▸ hsubs)
  rw [← hm] at hbit hrecv hother
  have hn (k : Nat) : (settle s (m.answer q.sess q.tag St.ok [])).fifo k = m.fifo k := answer_fifo m q.sess q.tag St.ok [] k
  refine ⟨_, hexec, ?_, ?_, ?_, fun k hk' => ?_, hans, hframe⟩
  · rw [hn, hrecv]
    simp
  · exact (congrArg (bit · (arg q 0 1)) (answer_subs m q.sess q.tag St.ok [])).trans hbit
  · rw [hn, hrecv, ← hfifo]
  · rw [hn, hother k hk', hfifo]

end

end Sys2Proof.Machine

namespace Sys2Proof.Machine

/-! ### STREAM_FLUSH and LOSS (R658, R659) -/

theorem flushStream_spec (s : State) (n : Nat) : ((s.flushStream n).1.fifo n).flushes = satAdd 16 (s.fifo n).flushes 1 ∧
    (s.flushStream n).2 = satAdd 32 (itemCount (s.fifo n).words) (s.fifo n).lossPend ∧
    Frame [.log, .fifos] s (s.flushStream n).1 ∧ (s.flushStream n).1.time = s.time := by
  refine ⟨?_, rfl, ?_, (Logs.evA _ _ _ _).time⟩
  · refine (Unflushed.raiseN _ _ _ _ _ _ _ n).trans ?_
    rw [fifo_setFifo_same]
    rfl
  · exact ((setFifo_frame s n _).mono (by decide)).trans ((Logs.evA _ _ _ _).frame_of_mem (by decide) (by decide))

theorem streamFlush_effect {t : Nat} {q : HReq} {s : State} (hlets : (s.setNow t).lets q 0x1101 Perm.subscribe = true) (hlen : q.args.length = 4)
    (hk : arg q 0 1 < 16) (hstream : (s.setNow t).streamOk q.sess (arg q 0 1) = true) :
    ∃ n, exec (.streamFlush t q) s = .next n ∧ (n.fifo (arg q 0 1)).flushes = satAdd 16 (s.fifo (arg q 0 1)).flushes 1 ∧
      AnsweredOk (s.setNow t) n q 0x1101 (toLe 4 (satAdd 32 (itemCount (s.fifo (arg q 0 1)).words) (s.fifo (arg q 0 1)).lossPend)) ∧
      Frame (hostParts ++ [.log, .fifos]) s n := by
  obtain ⟨v, hv⟩ : ∃ v, v = (s.setNow t).taken q 3 0x1101 := ⟨_, rfl⟩
  have hfifo : v.fifo (arg q 0 1) = s.fifo (arg q 0 1) := by
    rw [hv, taken_fifo, setNow_fifo]
  obtain ⟨hflushes, hcount, hframe, htime⟩ := flushStream_spec v (arg q 0 1)
  obtain ⟨m, hm⟩ : ∃ m, m = (v.flushStream (arg q 0 1)).1 := ⟨_, rfl⟩
  rw [hfifo, ← hm] at hflushes
  rw [hfifo] at hcount
  rw [← hm] at hframe htime
  have hrule : (if arg q 0 1 ≥ 16 then v.ans St.bounds else if !v.streamOk q.sess (arg q 0 1) then v.ans St.denied
      else (v.flushStream (arg q 0 1)).1.ansOk (toLe 4 (v.flushStream (arg q 0 1)).2)) =
      (m, some (St.ok, toLe 4 (satAdd 32 (itemCount (s.fifo (arg q 0 1)).words) (s.fifo (arg q 0 1)).lossPend))) := by
    rw [if_neg (by omega), if_neg (by simp [hv, hstream]), hcount, hm]
    rfl
  have hnow : m.time.now = (s.setNow t).time.now := by rw [htime, hv, taken_now]
  obtain ⟨hexec, hans, hends⟩ := command_answered (c := .streamFlush t q) (h := fun s =>
    let n := arg q 0 1
    if n ≥ 16 then s.ans St.bounds
    else if !s.streamOk q.sess n then s.ans St.denied
    else let r := s.flushStream n; r.1.ansOk (toLe 4 r.2)) (lenOk := (· == 4)) rfl
    (lets_opens hlets) (taken_may_of_lets hlets) (by simp [hlen]) (hv ▸ hrule) (hv ▸ hframe) (by decide) hnow
  refine ⟨_, hexec, ?_, hans, hends⟩
  rw [← hflushes]
  exact congrArg Fifo.flushes (answer_fifo ..)

section

variable {t k : Nat} {s : State} (hk : k < 16)
include hk

theorem lossItemWrite_effect (hpend : (s.fifo k).lossPend ≠ 0) (hroom : (s.fifo k).words.length < 2048) :
    ∃ n, exec (.lossItemWrite t k) s = .next n ∧ (n.fifo k).lossPend = 0 ∧
      (n.fifo k).words = (s.fifo k).words ++ itemWords 8 (itemBytes 0xFE false (toLe 4 (s.fifo k).lossPend)) ∧
      (∀ j, j ≠ k → n.fifo j = s.fifo j) ∧ Frame [.fifos] s n := by
  refine ⟨_, (show execLossItemWrite t k s = _ from at'_eq (if_pos ⟨hk, hpend, hroom⟩)), ?_, ?_, fun j hj => ?_,
    Frame.settle (t := t) (setFifo_frame (s.setNow t) k _)⟩
  · exact congrArg Fifo.lossPend (fifo_setFifo_same (s.setNow t) k _)
  · exact congrArg Fifo.words (fifo_setFifo_same (s.setNow t) k _)
  · exact fifo_setFifo_other (s.setNow t) _ hj

/-! ### STREAM_SEND (R655, R662) -/

omit hk in
/-- A message sent to sessions in turn: each that is open over Ward gets it under its own next counter. -/
theorem sends_spec (l : List Nat) (kind : Nat) (body : List Byte) (s : State) :
    s.out <:+ (s.each l (fun j s => s.send j kind 0 0 body)).out ∧
    ∀ x ∈ l, x ≠ sSpi → (s.sess x).st = 3 → (s.sess x).tx + 1 < 2 ^ 48 →
      Out.ward x (s.dataHeader x body.length) kind 0 0 body ∈ (s.each l (fun j s => s.send j kind 0 0 body)).out := by
  induction l generalizing s with
  | nil => exact ⟨List.suffix_refl _, fun x hx => absurd hx List.not_mem_nil⟩
  | cons j r ih =>
    obtain ⟨hout, -, hother⟩ := send_spec s j kind 0 0 body
    obtain ⟨hrest, hsent⟩ := ih (s.send j kind 0 0 body)
    refine ⟨hout.trans hrest, fun x hx hward hopen htx => ?_⟩
    by_cases hj : x = j
    · subst hj
      refine hrest.subset ?_
      rw [(send_ward s x kind 0 0 body (by simp [State.sessOpen, hward, hopen]) hward htx).1]
      exact List.mem_cons_self
    · have hsess := hother x hj
      have hheader : s.dataHeader x body.length = (s.send j kind 0 0 body).dataHeader x body.length := by
        simp only [State.dataHeader, State.sidOf, hsess]
      rw [hheader]
      exact hsent x ((List.mem_cons.mp hx).resolve_left hj) hward (by rw [hsess, hopen]) (by rw [hsess]; exact htx)

theorem streamSend_effect (hsweep : (s.setNow t).sweeping = true) (hrecv : (s.fifo k).recv ≠ [])
    (hitems : (takeItems 176 [] [] (s.fifo k).words).1 ≠ [])
    (hdue : 176 ≤ (s.fifo k).words.length ∨ (s.fifo k).oldest + 10000000 ≤ (s.setNow t).time.now) :
    ∃ n, exec (.streamSend t k) s = .next n ∧
      n.fifo k = { s.fifo k with
        words := (takeItems 176 [] [] (s.fifo k).words).2, sentNow := (s.setNow t).time.now,
        sentItems := itemCount (takeItems 176 [] [] (s.fifo k).words).1,
        wseq := ((s.fifo k).wseq + (takeItems 176 [] [] (s.fifo k).words).1.length) % 4294967296 } ∧
      (∀ j, j ≠ k → n.fifo j = s.fifo j) ∧
      (∀ x ∈ (s.fifo k).recv, x ≠ sSpi → (s.sess x).st = 3 → (s.sess x).tx + 1 < 2 ^ 48 → Out.ward x
        ((s.setNow t).dataHeader x (4 + 8 * (takeItems 176 [] [] (s.fifo k).words).1.length)) 0x91 0 0
        (toLe 4 (s.fifo k).wseq ++ ((takeItems 176 [] [] (s.fifo k).words).1.map (fun w => toLe 8 w.1)).flatten) ∈ n.out) ∧
      Frame [.fifos, .links, .out] s n := by
  obtain ⟨f, hf⟩ : ∃ f, f = s.fifo k := ⟨_, rfl⟩
  obtain ⟨r, hr⟩ : ∃ r, r = takeItems 176 [] [] f.words := ⟨_, rfl⟩
  obtain ⟨body, hbody⟩ : ∃ body, body = toLe 4 f.wseq ++ (r.1.map (fun w => toLe 8 w.1)).flatten := ⟨_, rfl⟩
  have hlength : body.length = 4 + 8 * r.1.length := by
    simp [hbody, List.length_flatten, Function.comp_def, Nat.mul_comm]
  obtain ⟨u, hu⟩ : ∃ u, u = (s.setNow t).each f.recv (fun j s => s.send j 0x91 0 0 body) := ⟨_, rfl⟩
  have hsent : Frame [.links, .out] (s.setNow t) u := hu ▸ Frame.each (fun j s => send_frame s j 0x91 0 0 body) f.recv _
  have hfifos : u.fifos = s.fifos := hsent .fifos (by decide)
  have hexec : exec (.streamSend t k) s = .next (settle s (u.setFifo k (f.deliver u.time.now r.1 r.2))) := by
    change execStreamSend t k s = _
    rw [hu, hbody, hr, hf]
    refine at'_eq (if_pos ⟨hk, hsweep, ?_, ?_, ?_⟩)
    · rw [setNow_fifo]
      simpa using hrecv
    · rw [setNow_fifo]
      simpa using hdue
    · rw [setNow_fifo]
      simpa using hitems
  have htime : u.time = (s.setNow t).time := hu ▸ each_time (fun j s => send_time s j 0x91 0 0 body) f.recv _
  rw [htime] at hexec
  rw [← hf, ← hr, ← hbody, ← hlength]
  refine ⟨_, hexec, ?_, fun j hj => ?_, fun x hx hward hopen htx => ?_, Frame.settle (t := t) ?_⟩
  · exact (fifo_setFifo_same u k _).trans rfl
  · exact (fifo_setFifo_other u _ hj).trans (fifo_of_fifos hfifos j)
  · rw [settle_out, setFifo_out, hu]
    exact (sends_spec f.recv 0x91 body (s.setNow t)).2 x hx hward hopen htx
  · exact (hsent.mono (by decide)).trans ((setFifo_frame u k _).mono (by decide))

end

/-! ### Reads over SPI (R656, R663) -/

theorem slot_words (f : Fifo) : f.slot.2.words = f.words.drop 1 := by
  unfold Fifo.slot
  split
  next h => rw [h]; rfl
  next h => rw [h]; rfl

theorem slots_words (k : Nat) (f : Fifo) : (f.slots k).2.words = f.words.drop k := by
  induction k generalizing f with
  | zero => rfl
  | succ k ih =>
    rw [Fifo.slots, ih, slot_words, List.drop_drop]
    exact congrArg (f.words.drop ·) (Nat.add_comm 1 k)

/-- The words that a read of `k` slots consumes. -/
theorem slots_consumed (k : Nat) (f : Fifo) : f.words.take (f.words.length - (f.slots k).2.words.length) = f.words.take k := by
  rw [slots_words, List.length_drop, List.take_eq_take_iff]
  omega

/-- A session over SPI may read. -/
theorem may_read_spi (s : State) : s.may sSpi Perm.read = true := by
  unfold State.may State.perms
  rw [if_neg (by decide)]
  decide

/-- A read of whole slots of one object over SPI. -/
theorem streamRead_slots {s : State} {q : HReq} {addr n : Nat} (hspi : q.sess = sSpi) (hlow : 0x002D1000 ≤ addr) (haddr : addr % 16 = 0)
    (hn : n % 16 = 0) (hpos : 0 < n) (hobject : addr % 256 + n ≤ 256) {k : Nat} (hk : k = (addr - 0x002D1000) / 256) :
    s.streamRead q addr n =
      (s.setFifo k { ((s.fifo k).slots (n / 16)).2 with sentNow := s.time.now, sentItems := itemCount ((s.fifo k).words.take (n / 16)) }).ansOk
        ((s.fifo k).slots (n / 16)).1 := by
  unfold State.streamRead
  dsimp only
  rw [if_neg (not_not.mpr hspi), if_neg (by omega), ← hk, slots_consumed]

theorem streamDataRead_effect {t : Nat} {q : HReq} {s : State} (hacc : (s.setNow t).accepts q = true) (hspi : q.sess = sSpi)
    (hlen : q.args.length = 8) (hin : inStreamData (arg q 0 4) (arg q 4 2) = true) (hlow : 0x002D1000 ≤ arg q 0 4) (haddr : arg q 0 4 % 16 = 0)
    (hn : arg q 4 2 % 16 = 0) (hpos : 0 < arg q 4 2) (hobject : arg q 0 4 % 256 + arg q 4 2 ≤ 256) {k : Nat}
    (hk : k = (arg q 0 4 - 0x002D1000) / 256) :
    ∃ n, exec (.streamDataRead t q) s = .next n ∧ (n.fifo k).words = (s.fifo k).words.drop (arg q 4 2 / 16) ∧
      n.fifo k = { ((s.fifo k).slots (arg q 4 2 / 16)).2 with
        sentNow := (s.setNow t).time.now, sentItems := itemCount ((s.fifo k).words.take (arg q 4 2 / 16)) } ∧
      (∀ j, j ≠ k → n.fifo j = s.fifo j) ∧
      Answered (s.setNow t) n q 1 0 St.ok ((s.fifo k).slots (arg q 4 2 / 16)).1 ∧ Frame (hostParts ++ [.fifos]) s n := by
  obtain ⟨v, hv⟩ : ∃ v, v = (s.setNow t).taken q 1 0 := ⟨_, rfl⟩
  have hfifo (j : Nat) : v.fifo j = s.fifo j := by
    rw [hv, taken_fifo, setNow_fifo]
  have hnow : v.time.now = (s.setNow t).time.now := by rw [hv, taken_now]
  obtain ⟨f, hf⟩ : ∃ f : Fifo, f = { ((s.fifo k).slots (arg q 4 2 / 16)).2 with
    sentNow := (s.setNow t).time.now, sentItems := itemCount ((s.fifo k).words.take (arg q 4 2 / 16)) } := ⟨_, rfl⟩
  obtain ⟨m, hm⟩ : ∃ m, m = v.setFifo k f := ⟨_, rfl⟩
  have hframe : Frame [.fifos] v m := hm ▸ setFifo_frame v k f
  have hrule : (if q.args.length ≠ 8 then v.ans St.badLen
      else if !v.may q.sess Perm.read then v.ans St.denied
      else if !inStreamData (arg q 0 4) (arg q 4 2) then v.ans St.badAddr
      else v.streamRead q (arg q 0 4) (arg q 4 2)) = (m, some (St.ok, ((s.fifo k).slots (arg q 4 2 / 16)).1)) := by
    rw [if_neg (not_not.mpr hlen), if_neg (by simp [hspi, may_read_spi]), if_neg (by simp [hin]),
      streamRead_slots hspi hlow haddr hn hpos hobject hk, hfifo, hnow, ← hf, ← hm]
    rfl
  obtain ⟨hexec, hans, hends⟩ := accepted_answered (a := exec (.streamDataRead t q) s) (h := fun s =>
    if q.args.length ≠ 8 then s.ans St.badLen
    else if !s.may q.sess Perm.read then s.ans St.denied
    else if !inStreamData (arg q 0 4) (arg q 4 2) then s.ans St.badAddr
    else s.streamRead q (arg q 0 4) (arg q 4 2)) rfl hacc (hv ▸ hrule) (hv ▸ hframe) (by decide)
    (by rw [hm]; exact hnow)
  have hkept (j : Nat) : (settle s (m.answer q.sess q.tag St.ok ((s.fifo k).slots (arg q 4 2 / 16)).1)).fifo j = (v.setFifo k f).fifo j :=
    hm ▸ answer_fifo ..
  refine ⟨_, hexec, ?_, ?_, fun j hj => ?_, hans, hends⟩
  · rw [hkept, fifo_setFifo_same, hf]
    exact slots_words _ _
  · rw [hkept, fifo_setFifo_same, hf]
  · rw [hkept, fifo_setFifo_other v f hj, hfifo]

/-- Settles O56: receivers by the session and FIFO records they change, a flush because logging it flushes nothing, a sent stream because no
message touches another session's counter, a read because its slots are the FIFO's first words. -/
theorem streamsDelivered : Obligations.StreamsDelivered := by
  unfold Obligations.StreamsDelivered
  refine fun t s => ⟨fun q hacc hlen hk hward hmay hstream => ⟨?_, ?_⟩, fun q => ?_, fun k hk => ⟨?_, ?_⟩,
    fun q hacc hspi hlen hin hlow haddr hn hpos hobject => ?_⟩
  · exact subscribeStart_effect hacc hlen hk hward hmay hstream
  · exact subscribeStop_effect hacc hlen hk hward hmay hstream
  · exact streamFlush_effect
  · exact lossItemWrite_effect hk
  · exact streamSend_effect hk
  · exact streamDataRead_effect hacc hspi hlen hin hlow haddr hn hpos hobject rfl

end Sys2Proof.Machine

namespace Sys2Proof.Machine

/-! ### The ports' records (R594, R624) -/

theorem modEth_frame (s : State) (p : Nat) (f : Eth → Eth) : Frame [.links] s (s.modEth p f) := by
  unfold State.modEth
  exact Frame.ite _ (Frame.links s _) (Frame.ite _ (Frame.links s _) (Frame.refl _ s))

theorem eth_modEth (s : State) {p : Nat} (f : Eth → Eth) (hp : p < 2) : (s.modEth p f).eth p = f (s.eth p) := by
  obtain rfl | rfl : p = 0 ∨ p = 1 := by omega
  · rfl
  · rfl

theorem setNow_eth (s : State) (t p : Nat) : (s.setNow t).eth p = s.eth p := rfl

theorem Frame.eth {ps : List Part} {s n : State} (h : Frame ps s n) (hp : .links ∉ ps) (p : Nat) : n.eth p = s.eth p := by
  simp only [State.eth, h.links_eq hp]

theorem Logs.eth {s n : State} (h : Logs s n) (p : Nat) : n.eth p = s.eth p := h.frame.eth (by decide) p

/-- A port that works is one of the two. -/
theorem netOn_port {s : State} {port : Nat} (h : s.netOn port = true) : port < 2 := by
  simp only [State.netOn, State.ethOn, Bool.and_eq_true] at h
  obtain ⟨-, -, h⟩ := h
  split at h
  · omega
  · simp only [Bool.and_eq_true, decide_eq_true_eq] at h
    omega

/-- Another station claims an address in detection that is not link-local: the port gives it up. -/
theorem conflict_spec {s : State} {port a : Nat} (family : Nat) (hdetecting : (s.eth port).detecting.contains a = true)
    (hlocal : a / 65536 ≠ 0xFFFFA9FE) :
    Logs (s.modEth port (fun e => { e with detecting := e.detecting.filter (· != a) })) (s.conflict port a family) := by
  unfold State.conflict
  rw [if_neg (by rw [hdetecting]; decide)]
  dsimp only
  rw [if_neg hlocal]
  exact Logs.ite _ (Logs.evA _ _ _ _) (Logs.refl _)

section

variable {t port : Nat} {s : State} (hon : (s.setNow t).netOn port = true)
include hon

/-! ### ARP, NDP and ICMP echo (R593) -/

theorem arpRequest_answered (target : Nat) (huses : (s.eth port).addrs.contains (v4 target) = true) :
    ∃ n, exec (.arpRequest t port target 0 false) s = .next n ∧ n.out = .net port 1 (v4 target) :: s.out ∧ Frame [.out] s n := by
  have hexec : exec (.arpRequest t port target 0 false) s = .next (settle s ((s.setNow t).emit (.net port 1 (v4 target)))) := by
    change execArpRequest t port target 0 false s = _
    refine at'_eq ((if_neg (by simp [hon])).trans ?_)
    dsimp only
    rw [setNow_eth, if_pos huses]
    rfl
  exact ⟨_, hexec, rfl, Frame.settle (t := t) (emit_frame _ _)⟩

theorem arpRequest_claims (target : Nat) {sender : Nat} (hsender : sender ≠ 0) (hdetecting : (s.eth port).detecting.contains (v4 sender) = true)
    (hlocal : v4 sender / 65536 ≠ 0xFFFFA9FE) :
    ∃ n, exec (.arpRequest t port target sender false) s = .next n ∧ (n.eth port).detecting.contains (v4 sender) = false ∧
      (n.eth port).addrs = (s.eth port).addrs ∧ Frame [.links, .out, .log, .fifos] s n := by
  obtain ⟨u, hu⟩ : ∃ u, u = (if (s.eth port).addrs.contains (v4 target) then (s.setNow t).emit (.net port 1 (v4 target)) else s.setNow t) :=
    ⟨_, rfl⟩
  have hreply : Frame [.out] (s.setNow t) u := hu ▸ Frame.ite _ (emit_frame _ _) (Frame.refl _ _)
  have heth : u.eth port = s.eth port := hreply.eth (by decide) port
  have hexec : exec (.arpRequest t port target sender false) s = .next (settle s (u.conflict port (v4 sender) 4)) := by
    change execArpRequest t port target sender false s = _
    refine at'_eq ((if_neg (by simp [hon])).trans ?_)
    dsimp only
    rw [setNow_eth, ← hu, if_pos hsender]
    rfl
  have hlogs := conflict_spec (s := u) 4 (by rw [heth, hdetecting]) hlocal
  refine ⟨_, hexec, ?_⟩
  have hn : (settle s (u.conflict port (v4 sender) 4)).eth port =
      { s.eth port with detecting := (s.eth port).detecting.filter (· != v4 sender) } := by
    refine (hlogs.eth port).trans ?_
    rw [eth_modEth u _ (netOn_port hon), heth]
  rw [hn]
  refine ⟨by simp, rfl, Frame.settle (t := t) ?_⟩
  exact (hreply.mono (by decide)).trans (((modEth_frame u port _).mono (by decide)).trans (hlogs.frame_of_mem (by decide) (by decide)))

theorem ndpMessage_answered {target sender : Nat} (huses : (s.eth port).addrs.contains target = true) (hsender : sender ≠ 0) :
    ∃ n, exec (.ndpMessage t port 0 target sender) s = .next n ∧ n.out = .net port 2 target :: s.out ∧ Frame [.out] s n := by
  have hexec : exec (.ndpMessage t port 0 target sender) s = .next (settle s ((s.setNow t).emit (.net port 2 target))) := by
    change execNdpMessage t port 0 target sender s = _
    refine at'_eq ((if_neg (by simp [hon])).trans ?_)
    dsimp only
    rw [setNow_eth, if_pos huses, if_neg hsender]
    rfl
  exact ⟨_, hexec, rfl, Frame.settle (t := t) (emit_frame _ _)⟩

theorem icmpEcho_answered (v6 : Bool) {dst len : Nat} (huses : (s.eth port).addrs.contains (if v6 then dst else v4 dst) = true)
    (hlen : len ≤ 1024) (hrate : ((s.eth port).echo.filter (fun x => decide ((s.setNow t).time.now < x + 1000000000))).length < 20) :
    ∃ n, exec (.icmpEcho t port v6 dst len) s = .next n ∧ n.out = .net port 3 (if v6 then dst else v4 dst) :: s.out ∧
      Frame [.links, .out] s n := by
  refine ⟨_, (show execIcmpEcho t port v6 dst len s = _ from at'_eq (if_pos ⟨hon, huses, hlen, hrate⟩)), ?_, Frame.settle (t := t) ?_⟩
  · rw [settle_out]
    exact congrArg (_ :: ·) (modEth_out (s.setNow t) port _)
  · exact ((modEth_frame _ port _).mono (by decide)).trans ((emit_frame _ _).mono (by decide))

theorem duplicateAddressDetectionEnd_uses {a : Nat} (hdetecting : (s.eth port).detecting.contains a = true) :
    ∃ n, exec (.duplicateAddressDetectionEnd t port a) s = .next n ∧
      n.eth port = { s.eth port with detecting := (s.eth port).detecting.filter (· != a), addrs := (s.eth port).addrs ++ [a] } ∧
      Frame [.links] s n :=
  ⟨_, (show execDuplicateAddressDetectionEnd t port a s = _ from at'_eq (if_pos ⟨hon, hdetecting⟩)),
    eth_modEth (s.setNow t) _ (netOn_port hon), Frame.settle (t := t) (modEth_frame _ port _)⟩

end

/-! ### Links and PHYs (R587, R589, R624) -/

theorem linkSet_same {s : State} {port speed : Nat} {up : Bool} (h : (s.eth port).up = up) : s.linkSet port up speed = s := if_pos h

/-- A link goes down: the port has no address. -/
theorem linkSet_down {s : State} {port : Nat} (speed : Nat) (hp : port < 2) (h : (s.eth port).up = true) :
    (s.linkSet port false speed).eth port = { s.eth port with up := false, speed := speed, addrs := [], detecting := [] } ∧
      Frame [.links, .log, .fifos] s (s.linkSet port false speed) := by
  have hlogs : Logs (s.modEth port (fun e => { e with up := false, speed := speed, addrs := [], detecting := [] })) (s.linkSet port false speed) := by
    unfold State.linkSet
    dsimp only
    rw [if_neg (by simp [h]), if_neg (by decide)]
    exact Logs.evA _ _ _ _
  refine ⟨(hlogs.eth port).trans (eth_modEth s _ hp), ?_⟩
  exact ((modEth_frame s port _).mono (by decide)).trans (hlogs.frame_of_mem (by decide) (by decide))

/-- A link comes up: the port's addresses are probed. -/
theorem linkSet_up {s : State} {port : Nat} (speed : Nat) (hp : port < 2) (h : (s.eth port).up = false) :
    (s.linkSet port true speed).eth port =
        { s.eth port with up := true, speed := speed, addrs := [], detecting := [linkLocal, s.newV4] ++ s.cfg.portAddrs port } ∧
      Frame [.links, .log, .fifos, .free] s (s.linkSet port true speed) := by
  obtain ⟨u, hu⟩ : ∃ u, u = s.modEth port (fun e =>
    { e with up := true, speed := speed, addrs := [], detecting := [linkLocal, s.newV4] ++ s.cfg.portAddrs port }) := ⟨_, rfl⟩
  have hlogs : Logs u.draw (s.linkSet port true speed) := by
    unfold State.linkSet
    dsimp only
    rw [if_neg (by simp [h]), if_pos rfl, hu]
    exact Logs.evA _ _ _ _
  have hport : Frame [.links] s u := hu ▸ modEth_frame s port _
  refine ⟨(hlogs.eth port).trans (((Frame.draw u).eth (by decide) port).trans (hu ▸ eth_modEth s _ hp)), ?_⟩
  exact (hport.mono (by decide)).trans (((Frame.draw u).mono (by decide)).trans (hlogs.frame_of_mem (by decide) (by decide)))

section

variable {t port speed : Nat} {s : State} {up : Bool} (hp : port < 2) (hrun : (s.setNow t).running (if port = 0 then .a else .b) = true)
include hp hrun

theorem hostLinkChange_exec : exec (.hostLinkChange t port up speed) s =
    .next (settle s ((s.setNow t).linkSet port (up && speed == s.cfg.portSpeed port) speed)) := by
  change execHostLinkChange t port up speed s = _
  exact at'_eq (if_pos ⟨hp, alive_of_running hrun⟩)

theorem hostLinkChange_up (hdown : (s.eth port).up = false) (hup : up = true) (hspeed : speed = s.cfg.portSpeed port) :
    ∃ n, exec (.hostLinkChange t port up speed) s = .next n ∧
      n.eth port = { s.eth port with up := true, speed := speed, addrs := [], detecting := [linkLocal, s.newV4] ++ s.cfg.portAddrs port } ∧
      Frame [.links, .log, .fifos, .free] s n := by
  have hexec := hostLinkChange_exec (up := up) (speed := speed) hp hrun
  rw [show (up && speed == s.cfg.portSpeed port) = true by simp [hup, hspeed]] at hexec
  obtain ⟨heth, hframe⟩ := linkSet_up (s := s.setNow t) speed hp hdown
  exact ⟨_, hexec, heth, Frame.settle (t := t) hframe⟩

theorem hostLinkChange_down (hwas : (s.eth port).up = true) (hdown : (up && speed == s.cfg.portSpeed port) = false) :
    ∃ n, exec (.hostLinkChange t port up speed) s = .next n ∧
      n.eth port = { s.eth port with up := false, speed := speed, addrs := [], detecting := [] } ∧ Frame [.links, .log, .fifos] s n := by
  have hexec := hostLinkChange_exec (up := up) (speed := speed) hp hrun
  rw [hdown] at hexec
  obtain ⟨heth, hframe⟩ := linkSet_down (s := s.setNow t) speed hp hwas
  exact ⟨_, hexec, heth, Frame.settle (t := t) hframe⟩

end

/-- A link that is taken down, or was down: the PHY's record stays, and the port is down. -/
theorem linkSet_taken_down (s : State) {port : Nat} (speed : Nat) (hp : port < 2) :
    ((s.linkSet port false speed).eth port).up = false ∧ ((s.linkSet port false speed).eth port).phy = (s.eth port).phy ∧
      ((s.linkSet port false speed).eth port).polled = (s.eth port).polled ∧ Frame [.links, .log, .fifos] s (s.linkSet port false speed) := by
  cases h : (s.eth port).up
  · rw [linkSet_same h]
    exact ⟨h, rfl, rfl, Frame.refl _ s⟩
  · obtain ⟨heth, hframe⟩ := linkSet_down speed hp h
    rw [heth]
    exact ⟨rfl, rfl, rfl, hframe⟩

theorem phyPoll_notes {t port reg1 reg10 : Nat} {s : State} (hon : (s.setNow t).netOn port = true)
    (hdue : ∀ x, (s.eth port).polled = some x → x + 1000000000 ≤ (s.setNow t).time.now) (hreg : reg10 < 65536) :
    ∃ n, exec (.phyPoll t port reg1 reg10) s = .next n ∧ (n.eth port).phy = (reg1 != 0xFFFF) ∧
      (n.eth port).polled = some (s.setNow t).time.now ∧ (reg1 ≠ 0xFFFF → bit reg1 2 = false → (n.eth port).up = false) ∧
      (reg1 = 0xFFFF ∨ bit reg1 2 = true → (n.eth port).up = (s.eth port).up ∧ (n.eth port).addrs = (s.eth port).addrs) ∧
      Frame [.links, .log, .fifos] s n := by
  have hp := netOn_port hon
  obtain ⟨u, hu⟩ : ∃ u, u = (s.setNow t).modEth port (fun e => { e with phy := reg1 != 0xFFFF, polled := some (s.setNow t).time.now }) :=
    ⟨_, rfl⟩
  have heth : u.eth port = { s.eth port with phy := reg1 != 0xFFFF, polled := some (s.setNow t).time.now } := hu ▸ eth_modEth (s.setNow t) _ hp
  have hpolled : Frame [.links, .log, .fifos] (s.setNow t) u := hu ▸ (modEth_frame _ port _).mono (by decide)
  have hdue' : (match (s.eth port).polled with | some x => decide (x + 1000000000 ≤ (s.setNow t).time.now) | none => true) = true := by
    cases h : (s.eth port).polled with
    | none => rfl
    | some x => exact decide_eq_true (hdue x h)
  have hexec : exec (.phyPoll t port reg1 reg10) s =
      .next (settle s (if (reg1 != 0xFFFF) ∧ !bit reg1 2 then u.linkSet port false (u.eth port).speed else u)) := by
    change execPhyPoll t port reg1 reg10 s = _
    rw [hu]
    exact at'_eq (if_pos ⟨hp, hon, hdue', hreg⟩)
  by_cases hlost : reg1 ≠ 0xFFFF ∧ bit reg1 2 = false
  · rw [if_pos (by simpa using hlost)] at hexec
    obtain ⟨hup, hphy, hwhen, hframe⟩ := linkSet_taken_down u (u.eth port).speed hp
    refine ⟨_, hexec, hphy.trans (by rw [heth]), hwhen.trans (by rw [heth]), fun _ _ => hup, fun h => ?_,
      Frame.settle (t := t) (hpolled.trans hframe)⟩
    exact absurd h (by simp [hlost])
  · rw [if_neg (by simpa using hlost)] at hexec
    have hn : (settle s u).eth port = u.eth port := rfl
    refine ⟨_, hexec, ?_⟩
    rw [hn, heth]
    exact ⟨rfl, rfl, fun h1 h2 => absurd ⟨h1, h2⟩ hlost, fun _ => ⟨rfl, rfl⟩, Frame.settle (t := t) hpolled⟩

/-! ### PRP (R591) -/

/-- A supervision frame on each LAN whose port works. -/
def State.supervised (s : State) : State := s.each [0, 1] (fun p s => if s.netOn p then s.emit (.net p 4 0) else s)

theorem supervised_spec (s : State) :
    s.supervised.out = (if s.netOn 1 then [.net 1 4 0] else []) ++ (if s.netOn 0 then [.net 0 4 0] else []) ++ s.out ∧
      Frame [.out] s s.supervised := by
  refine ⟨?_, Frame.each (fun p s => Frame.ite _ (emit_frame s _) (Frame.refl _ s)) [0, 1] s⟩
  obtain ⟨u, hu⟩ : ∃ u, u = (if s.netOn 0 then s.emit (.net 0 4 0) else s) := ⟨_, rfl⟩
  have hout : u.out = (if s.netOn 0 then [.net 0 4 0] else []) ++ s.out := by
    rw [hu]
    split <;> rfl
  have hon : u.netOn 1 = s.netOn 1 := by
    rw [hu]
    split <;> rfl
  change (if (if s.netOn 0 then s.emit (.net 0 4 0) else s).netOn 1 then
    (if s.netOn 0 then s.emit (.net 0 4 0) else s).emit (.net 1 4 0) else (if s.netOn 0 then s.emit (.net 0 4 0) else s)).out = _
  rw [← hu, hon, List.append_assoc, ← hout]
  split <;> rfl

section

variable {t : Nat} {s : State} (hsweep : (s.setNow t).sweeping = true) (hprp : s.cfg.prp = true)
include hsweep hprp

theorem prpSupervision_sends (hdue : ∀ x, s.links.supLast = some x → x + 2000000000 ≤ (s.setNow t).time.now) :
    ∃ n, exec (.prpSupervision t) s = .next n ∧ n.links = { s.links with supLast := some (s.setNow t).time.now } ∧
      n.out = (if (s.setNow t).netOn 1 then [.net 1 4 0] else []) ++ (if (s.setNow t).netOn 0 then [.net 0 4 0] else []) ++ s.out ∧
      Frame [.links, .out] s n := by
  have hdue' : (match s.links.supLast with | some x => decide (x + 2000000000 ≤ (s.setNow t).time.now) | none => true) = true := by
    cases h : s.links.supLast with
    | none => rfl
    | some x => exact decide_eq_true (hdue x h)
  obtain ⟨hout, hframe⟩ := supervised_spec (s.setNow t)
  have hlinks : (s.setNow t).supervised.links = s.links := hframe.links_eq (by decide)
  have hexec : exec (.prpSupervision t) s = .next (settle s ({ (s.setNow t).supervised with
      links := { (s.setNow t).supervised.links with supLast := some (s.setNow t).supervised.time.now } } : State)) := by
    change execPrpSupervision t s = _
    exact at'_eq (if_pos ⟨hsweep, hprp, hdue'⟩)
  have hnow : (s.setNow t).supervised.time = (s.setNow t).time := each_time (fun p s => by split <;> rfl) _ _
  rw [hlinks, hnow] at hexec
  exact ⟨_, hexec, rfl, hout, Frame.settle (t := t) ((hframe.mono (by decide)).trans ((Frame.links _ _).mono (by decide)))⟩

theorem prpLanFault_logs {lan : Nat} (hlan : lan < 2) : ∃ n, exec (.prpLanFault t lan) s = .next n ∧ Frame [.log, .fifos] s n :=
  ⟨_, (show execPrpLanFault t lan s = _ from at'_eq (if_pos ⟨hsweep, hprp, hlan⟩)),
    Frame.settle (t := t) ((Logs.evA _ _ _ _).frame_of_mem (by decide) (by decide))⟩

end

end Sys2Proof.Machine

namespace Sys2Proof.Machine

/-! ### Requests and answers over SPI (R600 to R602) -/

theorem send_spiFrames (s : State) (j kind status tag : Nat) (body : List Byte) :
    (s.send j kind status tag body).links.spiFrames = s.links.spiFrames := by
  unfold State.send
  split
  · rfl
  split
  · rfl
  dsimp only
  split <;> rfl

theorem answer_spiFrames (s : State) (j tag st : Nat) (body : List Byte) : (s.answer j tag st body).links.spiFrames = s.links.spiFrames := by
  unfold State.answer
  dsimp only
  split
  · rfl
  · rw [send_spiFrames]
    split <;> rfl

theorem modSess_spiFrames (s : State) (j : Nat) (f : Sess → Sess) : (s.modSess j f).links.spiFrames = s.links.spiFrames := rfl

theorem taken_spiFrames (s : State) (q : HReq) (kind op : Nat) : (s.taken q kind op).links.spiFrames = s.links.spiFrames := by
  unfold State.taken State.accept State.greet
  simp only [modSess_spiFrames]
  rfl

/-- KEEPALIVE as a message: it is answered and reaches nothing else. -/
theorem message_keepalive {s : State} {j : Nat} {m : Msg} (hkind : m.kind = 7) (hlen : m.len = 0) (hbody : m.body = [])
    (hacc : s.accepts ⟨j, m.tag, []⟩ = true) : ∃ n, s.message j m = n ∧ n.links.spiFrames = s.links.spiFrames ∧
      Answered s n ⟨j, m.tag, []⟩ 7 0 St.ok [] ∧ Frame hostParts s n := by
  have hmessage : s.message j m = Ans.to (exec (.keepalive s.time.now ⟨j, m.tag, []⟩) s) s := by
    unfold State.message
    rw [if_neg (by simp [hlen, hbody]), hbody]
    simp only [hkind]
    rfl
  have hacc' : (s.setNow s.time.now).accepts ⟨j, m.tag, []⟩ = true := by rw [setNow_same, hacc]
  obtain ⟨v, hv⟩ : ∃ v, v = (s.setNow s.time.now).taken ⟨j, m.tag, []⟩ 7 0 := ⟨_, rfl⟩
  have hcount : (v.answer j m.tag St.ok []).links.spiFrames = s.links.spiFrames := by
    rw [answer_spiFrames, hv, taken_spiFrames, setNow_links]
  obtain ⟨hexec, hans, hframe⟩ := accepted_answered (a := exec (.keepalive s.time.now ⟨j, m.tag, []⟩) s) (kind := 7) (op := 0) (rd := false)
    (m := v) (h := fun s => if ([] : List Byte).isEmpty then s.ans St.ok else s.ans St.badLen) rfl hacc'
    (ps := []) (by rw [hv]; rfl) (by rw [hv]; exact Frame.refl _ _) (by decide) (by rw [hv, taken_now])
  rw [setNow_same] at hans
  exact ⟨_, hmessage.trans (congrArg (Ans.to · s) hexec), hcount, hans, hframe⟩

section

variable {t len : Nat} {s : State} {m : Msg} (hon : (s.setNow t).spiOn = true)
include hon

theorem spiRequest_rejected (hawake : s.sleep.st = 0) {whole crc : Bool} (hbad : (whole && crc) = false ∨ len < 8 ∨ 552 < len) :
    ∃ n, exec (.spiRequest t len whole crc m) s = .next n ∧
      n.links = { s.links with spiCrc := satAdd 16 s.links.spiCrc 1, spiRejected := true } ∧ Frame [.links] s n := by
  have hbad' : (!whole || !crc || decide (len < 8) || decide (552 < len)) = true := by
    obtain h | h | h := hbad
    · cases whole <;> cases crc <;> simp_all
    · simp [h]
    · simp [h]
  refine ⟨_, (show execSpiRequest t len whole crc m s = _ from at'_eq ((if_neg (by simp [hon])).trans ?_)), ?_,
    Frame.settle (t := t) (Frame.links (s.setNow t) { s.links with spiCrc := satAdd 16 s.links.spiCrc 1, spiRejected := true })⟩
  · rw [wakeIf_awake (s := s.setNow t) hawake]
    exact if_pos hbad'
  · rfl

theorem spiRequest_runs (hawake : s.sleep.st = 0) (hlow : 8 ≤ len) (hhigh : len ≤ 552) :
    exec (.spiRequest t len true true m) s = .next (settle s (((s.setNow t).spiFrame).message sSpi m)) := by
  refine (show execSpiRequest t len true true m s = _ from at'_eq ((if_neg (by simp [hon])).trans ?_))
  rw [wakeIf_awake (s := s.setNow t) hawake]
  exact if_neg (by simp; omega)

theorem spiRequest_keepalive (hawake : s.sleep.st = 0) (hlow : 8 ≤ len) (hhigh : len ≤ 552) (hkind : m.kind = 7) (hlen : m.len = 0)
    (hbody : m.body = []) (hacc : (s.setNow t).accepts ⟨sSpi, m.tag, []⟩ = true) :
    ∃ n, exec (.spiRequest t len true true m) s = .next n ∧ n.links.spiFrames = satAdd 32 s.links.spiFrames 1 ∧
      Answered (s.setNow t) n ⟨sSpi, m.tag, []⟩ 7 0 St.ok [] ∧ Frame hostParts s n := by
  have hcounted : Frame [.links] (s.setNow t) (s.setNow t).spiFrame := Frame.links _ _
  obtain ⟨n, hmessage, hframes, hans, hframe⟩ := message_keepalive (s := (s.setNow t).spiFrame) (j := sSpi) hkind hlen hbody hacc
  have hexec := spiRequest_runs (m := m) hon hawake hlow hhigh
  rw [hmessage] at hexec
  exact ⟨_, hexec, hframes, hans, Frame.settle (t := t) ((hcounted.mono (by decide)).trans hframe)⟩

theorem spiAnswer_leaves : ∃ n, exec (.spiAnswer t true) s = .next n ∧ n.links.spiQ = s.links.spiQ.drop 1 ∧
    n.links.spiFrames = satAdd 32 s.links.spiFrames 1 ∧
    n.out = .spi (toLe 2 (s.links.spiQ.headD []).length ++ s.links.spiQ.headD [] ++
      toLe 4 (crc32 (toLe 2 (s.links.spiQ.headD []).length ++ s.links.spiQ.headD []))) :: s.out ∧ Frame [.links, .out] s n := by
  refine ⟨_, (show execSpiAnswer t true s = _ from at'_eq (if_neg (by simp [hon]))), rfl, rfl, rfl, Frame.settle (t := t) ?_⟩
  exact ((emit_frame _ _).mono (by decide)).trans (((Frame.links _ _).trans (Frame.links _ _)).mono (by decide))

theorem spiStatus_shows : ∃ n, exec (.spiStatus t) s = .next n ∧ n.links.spiRejected = false ∧ n.links.spiQ = s.links.spiQ ∧
    n.out = .spi [byteOf (packBits [s.links.spiQ.length != 0, s.links.spiRejected, decide (8 ≤ s.links.spiQ.length)]),
      byteOf s.links.spiQ.length, byteOf (s.sess sSpi).outst.length, 0] :: s.out ∧ Frame [.links, .out] s n := by
  refine ⟨_, (show execSpiStatus t s = _ from at'_eq (if_neg (by simp [hon]))), rfl, rfl, rfl, Frame.settle (t := t) ?_⟩
  exact ((emit_frame _ _).mono (by decide)).trans (((Frame.links _ _).trans (Frame.links _ _)).mono (by decide))

end

/-! ### MAINT_EN (R600, R625) -/

theorem maintEnChange_opens {t : Nat} {s : State} (hlow : s.links.maintEn = false) :
    ∃ n, exec (.maintEnChange t true) s = .next n ∧ n.links.maintEn = true ∧ n.links.maintSince = (s.setNow t).time.now ∧
      Frame [.links] s n := by
  refine ⟨_, (show execMaintEnChange t true s = _ from at'_eq ((if_neg ?_).trans (if_pos rfl))), rfl, rfl, Frame.settle (t := t) ?_⟩
  · rw [setNow_links, hlow]
    decide
  · exact (Frame.links _ _).trans (Frame.links _ _)

/-- What the port holds for its answers. -/
def State.spiPort (s : State) : Bool × List (List Byte) := (s.links.maintEn, s.links.spiQ)

theorem spiPort_of_links {s n : State} (h : n.links = s.links) : n.spiPort = s.spiPort := by simp only [State.spiPort, h]

theorem send_spiPort {j : Nat} (s : State) (kind status tag : Nat) (body : List Byte) (hj : j ≠ sSpi) :
    (s.send j kind status tag body).spiPort = s.spiPort := by
  unfold State.send
  split
  · rfl
  dsimp only
  split <;> rfl

/-- With nothing outstanding over SPI no answer reaches its queue. -/
theorem answer_spiPort {s : State} (j tag status : Nat) (body : List Byte) (hidle : (s.sess sSpi).outst = []) :
    (s.answer j tag status body).spiPort = s.spiPort := by
  by_cases hj : j = sSpi
  · rw [hj, answer_idle tag status body hidle]
  · unfold State.answer
    dsimp only
    split
    · rfl
    · rw [send_spiPort _ _ _ _ _ hj]
      split <;> rfl

theorem stageAbandon_spiPort {s : State} (k : Nat) (hidle : (s.sess sSpi).outst = []) : (s.stageAbandon k).spiPort = s.spiPort := by
  obtain ⟨u, hu⟩ : ∃ u, u = (if s.stage.st = 3 then s.withdraw s.inactiveSlot else s) := ⟨_, rfl⟩
  have hlinks : u.links = s.links := hu ▸ (Frame.ite _ (withdraw_frame s _) (Frame.refl _ s)).links_eq (by decide)
  have hanswered : (u.answerOpt s.stage.closeReq St.denied [0]).spiPort = s.spiPort := by
    rw [← spiPort_of_links hlinks]
    unfold State.answerOpt
    split
    · rfl
    · exact answer_spiPort _ _ _ _ (by simpa only [State.sess, hlinks] using hidle)
  unfold State.stageAbandon
  split
  · dsimp only
    rw [spiPort_of_links (Logs.evA _ _ _ _).links, ← hu, ← hanswered]
    exact spiPort_of_links ((stageIdle_frame _).links_eq (by decide))
  · rfl

/-- The port shut: no answer waits and the session's record is empty. -/
def State.spiShut (s : State) : State :=
  ({ s with links := { s.links with maintEn := false, maintSince := s.time.now, spiQ := [], spiRejected := false } } : State).setSess sSpi {}

/-- What the session over SPI bound ends. -/
def State.spiUnbound (s : State) : State :=
  let s := if s.stage.sess = sSpi then s.stageAbandon 0 else s
  let s := if s.pick.owner = sSpi then s.pickDisarm 6 else s
  if s.aon.clearState ≠ 0 ∧ s.aon.armSlot = sSpi then s.armEnd else s

theorem spiUnbound_spec {s : State} (hidle : (s.sess sSpi).outst = []) : Unbinds sSpi s s.spiUnbound ∧ s.spiUnbound.spiPort = s.spiPort := by
  obtain ⟨u, hu⟩ : ∃ u, u = (if s.stage.sess = sSpi then s.stageAbandon 0 else s) := ⟨_, rfl⟩
  have hstaged : u.spiPort = s.spiPort := by
    rw [hu]
    split
    · exact stageAbandon_spiPort 0 hidle
    · rfl
  have hunstaged : Unbinds sSpi s u := hu ▸ Unbinds.ite _ (Unbinds.stageAbandon s 0) (Unbinds.refl s)
  obtain ⟨v, hv⟩ : ∃ v, v = (if u.pick.owner = sSpi then u.pickDisarm 6 else u) := ⟨_, rfl⟩
  have hdisarmed : v.links = u.links := hv ▸ (Frame.ite _ (pickDisarm_reaches u 6) (Frame.refl _ u)).links_eq (by decide)
  have hunpicked : Unbinds sSpi u v := hv ▸ Unbinds.ite _ (Unbinds.pickDisarm u 6) (Unbinds.refl u)
  have hend : s.spiUnbound = (if v.aon.clearState ≠ 0 ∧ v.aon.armSlot = sSpi then v.armEnd else v) := by
    rw [hv, hu]
    rfl
  rw [hend]
  refine ⟨(hunstaged.trans hunpicked).trans (Unbinds.ite _ (Unbinds.armEnd v) (Unbinds.refl v)), ?_⟩
  rw [← hstaged, ← spiPort_of_links hdisarmed]
  exact spiPort_of_links ((Frame.ite _ (armEnd_frame v) (Frame.refl _ v)).links_eq (by decide))

/-- MAINT_EN falls: the port's queue and session are empty, and what the session bound ends. -/
theorem maintEnChange_closes {t : Nat} {s : State} (hhigh : s.links.maintEn = true) :
    ∃ n, exec (.maintEnChange t false) s = .next n ∧ n.links.maintEn = false ∧ n.links.spiQ = [] ∧ n.sess sSpi = {} ∧
      Frame closeParts s n := by
  obtain ⟨u, hu⟩ : ∃ u, u = (s.setNow t).spiShut := ⟨_, rfl⟩
  have hsess : u.sess sSpi = {} := hu ▸ sess_setSess_same _ _ _
  have hport : u.spiPort = (false, []) := hu ▸ rfl
  have hshut : Frame [.links] (s.setNow t) u := hu ▸ (Frame.links _ _).trans ((Frame.links _ _).trans (Frame.links _ _))
  obtain ⟨hunbinds, hkept⟩ := spiUnbound_spec (s := u) (by rw [hsess])
  have hexec : exec (.maintEnChange t false) s = .next (settle s u.spiUnbound) := by
    change execMaintEnChange t false s = _
    rw [hu]
    exact at'_eq ((if_neg (by rw [setNow_links, hhigh]; decide)).trans (if_neg (by decide)))
  have hend : u.spiUnbound.spiPort = (false, []) := hkept.trans hport
  refine ⟨_, hexec, (congrArg Prod.fst hend :), (congrArg Prod.snd hend :), ?_,
    Frame.settle (t := t) ((hshut.mono (by decide)).trans hunbinds.frame)⟩
  exact (hunbinds.sess (by rw [hsess])).trans hsess

/-- Settles O57: the Ethernet ports by their records, the SPI port by its queue, which nothing reaches once its session has nothing
outstanding. -/
theorem hostPorts : Obligations.HostPorts := by
  unfold Obligations.HostPorts
  refine fun t s => ⟨fun port hon => ⟨?_, ?_, ?_, ?_, ?_, ?_⟩, fun port speed up hp hrun => ⟨?_, ?_⟩, fun hsweep hprp => ⟨?_, ?_⟩,
    fun hon => ⟨fun len m hawake => ⟨?_, fun hlow hhigh => ⟨?_, ?_⟩⟩, ?_, ?_⟩, ?_, ?_⟩
  · rintro target sender huses rfl
    exact arpRequest_answered hon target huses
  · rintro target sender probe hsender hdetecting hlocal rfl
    exact arpRequest_claims hon target hsender hdetecting hlocal
  · exact fun target sender => ndpMessage_answered hon
  · exact fun v6 dst len => icmpEcho_answered hon v6
  · exact fun a => duplicateAddressDetectionEnd_uses hon
  · exact fun reg1 reg10 => phyPoll_notes hon
  · exact hostLinkChange_up hp hrun
  · exact hostLinkChange_down hp hrun
  · exact prpSupervision_sends hsweep hprp
  · exact fun lan => prpLanFault_logs hsweep hprp
  · exact fun whole crc => spiRequest_rejected hon hawake
  · exact spiRequest_runs hon hawake hlow hhigh
  · exact spiRequest_keepalive hon hawake hlow hhigh
  · exact spiAnswer_leaves hon
  · exact spiStatus_shows hon
  · exact maintEnChange_opens
  · exact maintEnChange_closes

end Sys2Proof.Machine

namespace Sys2Proof.Machine

/-! ### Ward packets reach their rules (R603, R709) -/

/-- A packet that arrived, counted. -/
def State.counted (s : State) : State := { s with links := { s.links with rxPackets := satAdd 32 s.links.rxPackets 1 } }

theorem counted_frame (s : State) : Frame [.links] s s.counted := Frame.links s _

theorem pickJudge_unarmed {s : State} (f : PickSeen) (h : s.pick.armed = false) : s.pickJudge f = (s, .pass) := if_pos (by simp [h])

/-- Awake and with Pick not armed, a packet goes to its rule. -/
theorem wardRx_awake {s : State} {port ty kindBit sid counter : Nat} {again : Instr} {bad : Nat → Nat → State → State}
    {deliver : State → State} (hon : s.ethOn port = true) (hawake : s.sleep.st = 0) (hdev : s.aon.dev ≠ .sleep) (hpick : s.pick.armed = false) :
    s.wardRx port ty kindBit sid counter again bad deliver = deliver s.counted := by
  unfold State.wardRx
  rw [if_neg (by simp [hon])]
  dsimp only
  rw [wakeIf_awake hawake, if_neg hdev, pickJudge_unarmed _ hpick]
  rfl

section

variable {t : Nat} {s : State} (hawake : s.sleep.st = 0) (hdev : s.aon.dev ≠ .sleep) (hpick : s.pick.armed = false)
include hawake hdev hpick

theorem wardHello_exec {port addr peer proto : Nat} {nonce : List Byte} (hon : (s.setNow t).ethOn port = true) :
    exec (.wardHello t port addr peer proto nonce) s = .next (settle s ((s.setNow t).counted.hello port peer proto nonce)) := by
  change execWardHello t port addr peer proto nonce s = _
  exact at'_eq (wardRx_awake hon hawake hdev hpick)

theorem wardFinish_exec {port addr sid : Nat} {ok : Bool} {plain : List Byte} (hon : (s.setNow t).ethOn port = true) :
    exec (.wardFinish t port addr sid ok plain) s = .next (settle s ((s.setNow t).counted.finish port addr sid ok plain)) := by
  change execWardFinish t port addr sid ok plain s = _
  exact at'_eq (wardRx_awake hon hawake hdev hpick)

theorem wardData_exec {p : WardPkt} (hon : (s.setNow t).ethOn p.port = true) :
    exec (.wardData t p) s = .next (settle s ((s.setNow t).counted.data p)) := by
  change execWardData t p s = _
  exact at'_eq (wardRx_awake hon hawake hdev hpick)

end

/-! ### HELLO (R604, R607) -/

/-- The slot's record with a handshake begun. -/
def Sess.challenged (x : Sess) (nonce dn : List Byte) (now : Nat) : Sess :=
  { x with gen := (x.gen + 1) % 512, hs := some (nonce, dn), hsTime := now, helloTime := some now, st := if x.st = 3 then 3 else 2 }

/-- The device's nonce. -/
def State.devNonce (s : State) : List Byte := padTo 16 (Config.freeBytes s.free)

theorem devNonce_length (s : State) : s.devNonce.length = 16 := by
  simp only [State.devNonce, padTo, List.length_take, List.length_append, List.length_replicate]
  omega

theorem challenge_spec (s : State) (k port : Nat) (nonce : List Byte) :
    (s.challenge k port nonce).sess k = (s.sess k).challenged nonce s.devNonce s.time.now ∧
    (s.challenge k port nonce).out = .hand port (wardHeader 2 ((s.challenge k port nonce).sidOf k) 0 32)
      (toLe 8 Config.deviceUid ++ s.devNonce ++ [byteOf (b2n s.aon.unkeyed), 0, 0, 0, 0, 0, 0, 0]) :: s.out ∧
    (s.challenge k port nonce).links.rxPackets = s.links.rxPackets ∧ (s.challenge k port nonce).free = s.free + 1 ∧
    Frame [.links, .out, .free] s (s.challenge k port nonce) := by
  refine ⟨sess_setSess_same .., ?_, rfl, rfl, ?_⟩
  · have hlen : (toLe 8 Config.deviceUid ++ s.devNonce ++ [byteOf (b2n s.aon.unkeyed), 0, 0, 0, 0, 0, 0, 0]).length = 32 := by
      simp [devNonce_length]
    rw [← hlen]
    rfl
  · exact ((Frame.links s _).mono (by decide)).trans (((Frame.draw _).mono (by decide)).trans ((emit_frame _ _).mono (by decide)))

/-- A HELLO of a known peer whose slot is neither locked nor asked too often is challenged. -/
theorem hello_challenges {s : State} {port peer proto k : Nat} {nonce : List Byte} (hnonce : nonce.length = 16) (hproto : proto ≠ 0)
    (hpeer : s.peerSess peer = some k) (hlocked : (s.sess k).lockedAt = none)
    (hrate : ∀ h, (s.sess k).helloTime = some h → h + 100000000 ≤ s.time.now) :
    s.hello port peer proto nonce = s.challenge k port nonce := by
  have hsoon : ((s.sess k).lockedAt.isSome = true ∨
      (match (s.sess k).helloTime with | some h => decide (s.time.now < h + 100000000) | none => false) = true) → False := by
    rintro (h | h)
    · rw [hlocked] at h
      exact absurd h (by decide)
    · cases hh : (s.sess k).helloTime with
      | none => simp [hh] at h
      | some x =>
        have := hrate x hh
        simp [hh] at h
        omega
  unfold State.hello
  rw [if_neg (not_not.mpr hnonce), hpeer]
  exact (if_neg hsoon).trans (if_neg hproto)

section

variable {t : Nat} {s : State} (hawake : s.sleep.st = 0) (hdev : s.aon.dev ≠ .sleep) (hpick : s.pick.armed = false)
include hawake hdev hpick

theorem wardHello_challenged {port addr peer proto k : Nat} {nonce : List Byte} (hon : (s.setNow t).ethOn port = true) (hnonce : nonce.length = 16)
    (hproto : proto ≠ 0) (hpeer : (s.setNow t).peerSess peer = some k) (hlocked : (s.sess k).lockedAt = none)
    (hrate : ∀ h, (s.sess k).helloTime = some h → h + 100000000 ≤ (s.setNow t).time.now) :
    ∃ n, exec (.wardHello t port addr peer proto nonce) s = .next n ∧ (n.sess k).gen = ((s.sess k).gen + 1) % 512 ∧
      (n.sess k).hs = some (nonce, padTo 16 (Config.freeBytes s.free)) ∧ (n.sess k).hsTime = (s.setNow t).time.now ∧
      (n.sess k).st = (if (s.sess k).st = 3 then 3 else 2) ∧ n.links.rxPackets = satAdd 32 s.links.rxPackets 1 ∧
      n.out = .hand port (wardHeader 2 (n.sidOf k) 0 32) (toLe 8 Config.deviceUid ++ padTo 16 (Config.freeBytes s.free) ++
        [byteOf (b2n s.aon.unkeyed), 0, 0, 0, 0, 0, 0, 0]) :: s.out ∧ n.free = s.free + 1 ∧ Frame [.links, .out, .free] s n := by
  have hexec := wardHello_exec (addr := addr) (peer := peer) (proto := proto) (nonce := nonce) hawake hdev hpick hon
  rw [hello_challenges (s := (s.setNow t).counted) hnonce hproto hpeer hlocked hrate] at hexec
  obtain ⟨hsess, hout, hcount, hfree, hframe⟩ := challenge_spec (s.setNow t).counted k port nonce
  have hn : (settle s ((s.setNow t).counted.challenge k port nonce)).sess k =
      (s.sess k).challenged nonce (padTo 16 (Config.freeBytes s.free)) (s.setNow t).time.now := hsess
  refine ⟨_, hexec, ?_⟩
  rw [hn]
  exact ⟨rfl, rfl, rfl, rfl, hcount, hout, hfree, Frame.settle (t := t) (((counted_frame _).mono (by decide)).trans hframe)⟩

end

/-! ### FINISH (R605, R607) -/

theorem closeSession_idle {s : State} {k cause : Nat} (h : (s.sess k).st ≠ 3) : s.closeSession k cause = s := if_pos (by simp [h])

/-- The record of a session that a FINISH opens. -/
def State.openedSess (s : State) (k port addr : Nat) (cn dn : List Byte) : Sess :=
  { st := 3, port := s.portNo port, cause := (s.sess k).cause, openTime := s.devTime, window := [0], peer := addr, gen := (s.sess k).gen
    helloTime := (s.sess k).helloTime, lastAuth := s.time.now
    keys := wardKdf (s.psk k) (cn ++ dn)
      ([0x57, 0x41, 0x52, 0x44, 0x31] ++ toLe 8 (s.peerId k) ++ toLe 8 Config.deviceUid ++ toLe 2 (s.sidOf k)) }

/-- A right FINISH opens the session. -/
theorem openSession_spec {s : State} {k : Nat} (port addr : Nat) (cn dn : List Byte) (hclosed : (s.sess k).st ≠ 3) :
    (s.openSession k port addr cn dn).sess k = s.openedSess k port addr cn dn ∧
      (s.openSession k port addr cn dn).sleep = { s.sleep with ret := false } ∧
      Frame [.links, .out, .log, .fifos, .sleep] s (s.openSession k port addr cn dn) := by
  obtain ⟨u, hu⟩ : ∃ u, u = ({ s.setSess k (s.openedSess k port addr cn dn) with sleep := { s.sleep with ret := false } } : State) :=
    ⟨_, rfl⟩
  obtain ⟨v, hv⟩ : ∃ v, v = u.evA Ev.sessionOpened k [p8 (s.peerId k), p1 (s.portNo port), (16, addr)] := ⟨_, rfl⟩
  have hlogs : Logs u v := hv ▸ Logs.evA _ _ _ _
  obtain ⟨body, hsent⟩ : ∃ body, s.openSession k port addr cn dn = v.emit (.hand port (wardHeader 4 (s.sidOf k) 0 body.length) body) := by
    unfold State.openSession
    rw [closeSession_idle hclosed, hv, hu]
    exact ⟨_, rfl⟩
  have hopened : Frame [.links, .sleep] s u := hu ▸ ((Frame.links s _).mono (by decide)).trans ((Frame.sleep _ _).mono (by decide))
  rw [hsent]
  refine ⟨?_, ?_, ?_⟩
  · have hsess : v.sess k = u.sess k := by simp only [State.sess, hlogs.links]
    rw [emit_sess, hsess, hu]
    exact sess_setSess_same s k _
  · rw [emit_sleep, hlogs.sleep, hu]
  · exact (hopened.mono (by decide)).trans ((hlogs.frame_of_mem (by decide) (by decide)).trans ((emit_frame v _).mono (by decide)))

/-- The slot's record after a FINISH that failed. -/
def Sess.failed (x : Sess) (now : Nat) : Sess :=
  if x.fails + 1 < 5 then { x with fails := x.fails + 1 }
  else { x with fails := 0, lockedAt := some now, hs := none, st := if x.st = 3 then 3 else 4, cause := if x.st = 3 then x.cause else Cc.lockout }

/-- A FINISH that fails counts; the fifth in a row locks the slot. -/
theorem finishFails_spec (s : State) (k port sid : Nat) :
    (s.finishFails k port sid).links.authFails = satAdd 32 s.links.authFails 1 ∧
    (s.finishFails k port sid).sess k = (s.sess k).failed s.time.now ∧ Frame [.links, .out, .log, .fifos] s (s.finishFails k port sid) := by
  obtain ⟨u, hu⟩ : ∃ u, u = ({ s with links := { s.links with authFails := satAdd 32 s.links.authFails 1 } } : State) := ⟨_, rfl⟩
  obtain ⟨v, hv⟩ : ∃ v, v = (u.reject port sid 3).evA Ev.sessionAuthFail k [] := ⟨_, rfl⟩
  have hlogs : Logs (u.reject port sid 3) v := hv ▸ Logs.evA _ _ _ _
  have hrejected : Frame [.links, .out, .log, .fifos] s v := by
    have hcounted : Frame [.links] s u := hu ▸ Frame.links s _
    exact (hcounted.mono (by decide)).trans (((emit_frame u _).mono (by decide)).trans (hlogs.frame_of_mem (by decide) (by decide)))
  have hlinks : v.links = { s.links with authFails := satAdd 32 s.links.authFails 1 } := hlogs.links.trans (hu ▸ rfl)
  have hsess : v.sess k = s.sess k := by simp only [State.sess, hlinks]
  have hnow : v.time = s.time := hlogs.time.trans (hu ▸ rfl)
  have hset : Logs (v.setSess k ((s.sess k).failed s.time.now)) (s.finishFails k port sid) := by
    unfold State.finishFails Sess.failed
    dsimp only
    rw [← hu, ← hv, hsess, hnow]
    split
    · exact Logs.refl _
    · exact Logs.evA _ _ _ _
  refine ⟨?_, ?_, ?_⟩
  · rw [hset.links]
    exact congrArg Links.authFails hlinks
  · rw [State.sess, hset.links]
    exact sess_setSess_same v k _
  · exact hrejected.trans (((Frame.links v _).mono (by decide)).trans (hset.frame_of_mem (by decide) (by decide)))

section

variable {t : Nat} {s : State} (hawake : s.sleep.st = 0) (hdev : s.aon.dev ≠ .sleep) (hpick : s.pick.armed = false)
  {port addr sid k : Nat} {ok : Bool} {plain cn dn : List Byte} (hon : (s.setNow t).ethOn port = true) (hk : (s.setNow t).sidSess sid = k)
  (hhs : (s.sess k).hs = some (cn, dn)) (hsid : sid = (s.setNow t).sidOf k) (htime : (s.setNow t).time.now < (s.sess k).hsTime + 2000000000)
include hawake hdev hpick hon hk hhs hsid htime

omit hawake hdev hpick hon in
/-- A FINISH in hand and in time is judged. -/
theorem finish_judged : (s.setNow t).counted.finish port addr sid ok plain =
    if ok = true ∧ plain = cn ++ dn then (s.setNow t).counted.openSession k port addr cn dn else (s.setNow t).counted.finishFails k port sid := by
  have hk' : (s.setNow t).counted.sidSess sid = k := hk
  have hhs' : ((s.setNow t).counted.sess k).hs = some (cn, dn) := hhs
  unfold State.finish
  dsimp only
  rw [hk', hhs']
  exact if_neg (by rintro (h | h); exacts [h hsid, absurd h (Nat.not_le.mpr htime)])

theorem wardFinish_opens (hok : ok = true) (hplain : plain = cn ++ dn) (hclosed : (s.sess k).st ≠ 3) :
    ∃ n, exec (.wardFinish t port addr sid ok plain) s = .next n ∧
      (n.sess k).st = 3 ∧ (n.sess k).hs = none ∧ (n.sess k).peer = addr ∧ (n.sess k).openTime = (s.setNow t).devTime ∧
      (n.sess k).rxHigh = 0 ∧ (n.sess k).window = [0] ∧ (n.sess k).lastAuth = (s.setNow t).time.now ∧
      n.sleep = { s.sleep with ret := false } ∧
      Frame [.links, .out, .log, .fifos, .sleep] s n := by
  have hexec := wardFinish_exec (addr := addr) (sid := sid) (ok := ok) (plain := plain) hawake hdev hpick hon
  rw [finish_judged hk hhs hsid htime, if_pos ⟨hok, hplain⟩] at hexec
  obtain ⟨hsess, hsleep, hframe⟩ := openSession_spec (s := (s.setNow t).counted) (k := k) port addr cn dn hclosed
  have hn : (settle s ((s.setNow t).counted.openSession k port addr cn dn)).sess k = (s.setNow t).counted.openedSess k port addr cn dn := hsess
  refine ⟨_, hexec, ?_⟩
  rw [hn]
  exact ⟨rfl, rfl, rfl, rfl, rfl, rfl, rfl, hsleep, Frame.settle (t := t) (((counted_frame _).mono (by decide)).trans hframe)⟩

theorem wardFinish_fails (hbad : ok = false ∨ plain ≠ cn ++ dn) :
    ∃ n, exec (.wardFinish t port addr sid ok plain) s = .next n ∧
      n.links.authFails = satAdd 32 s.links.authFails 1 ∧ ((s.sess k).fails < 4 → n.sess k = { s.sess k with fails := (s.sess k).fails + 1 }) ∧
      (4 ≤ (s.sess k).fails → (n.sess k).fails = 0 ∧ (n.sess k).lockedAt = some (s.setNow t).time.now ∧ (n.sess k).hs = none) ∧
      Frame [.links, .out, .log, .fifos] s n := by
  have hexec := wardFinish_exec (addr := addr) (sid := sid) (ok := ok) (plain := plain) hawake hdev hpick hon
  rw [finish_judged hk hhs hsid htime, if_neg (by rintro ⟨h1, h2⟩; simp [h1, h2] at hbad)] at hexec
  obtain ⟨hcount, hsess, hframe⟩ := finishFails_spec (s.setNow t).counted k port sid
  have hn : (settle s ((s.setNow t).counted.finishFails k port sid)).sess k = (s.sess k).failed (s.setNow t).time.now := hsess
  refine ⟨_, hexec, hcount, fun hfew => ?_, fun hmany => ?_, Frame.settle (t := t) (((counted_frame _).mono (by decide)).trans hframe)⟩
  · rw [hn]
    exact if_pos (by omega)
  · rw [hn, Sess.failed, if_neg (by omega)]
    exact ⟨rfl, rfl, rfl⟩

end

/-! ### DATA packets (R608) -/

/-- The session's record once a packet of it is authentic. -/
def Sess.heard (x : Sess) (now port addr : Nat) : Sess := { x with lastAuth := now, port := port, peer := addr }

theorem heard_fresh (x : Sess) (now port addr c : Nat) : (x.heard now port addr).fresh c = x.fresh c := rfl

/-- The state once a packet is authentic. -/
def State.wardHeard (s : State) (k : Nat) (p : WardPkt) : State :=
  { s.modSess k (fun x => x.heard s.time.now (s.portNo p.port) p.addr) with sleep := { s.sleep with ret := false } }

theorem wardHeard_frame (s : State) (k : Nat) (p : WardPkt) : Frame [.links, .sleep] s (s.wardHeard k p) :=
  ((Frame.links s _).mono (by decide)).trans ((Frame.sleep _ _).mono (by decide))

theorem wardHeard_sess (s : State) (k : Nat) (p : WardPkt) :
    (s.wardHeard k p).sess k = (s.sess k).heard s.time.now (s.portNo p.port) p.addr :=
  sess_modSess_same s k (fun x => x.heard s.time.now (s.portNo p.port) p.addr)

section

variable {s : State} {p : WardPkt} {k : Nat} (hk : s.sidSess p.sid = k) (hopen : (s.sess k).st = 3)
include hk hopen

theorem data_forged (hbad : (p.authentic && p.sid == s.sidOf k) = false) :
    s.data p = { s with links := { s.links with authFails := satAdd 32 s.links.authFails 1 } } := by
  unfold State.data
  dsimp only
  rw [hk, if_neg (not_not.mpr hopen)]
  exact if_pos (by cases h : p.authentic <;> simp_all)

theorem data_authentic (hauth : p.authentic = true) (hsid : p.sid = s.sidOf k) :
    s.data p = if !((s.wardHeard k p).sess k).fresh p.counter then (s.wardHeard k p).replayed k p.counter
      else if 2 ^ 48 ≤ p.counter then ((s.wardHeard k p).modSess k (fun x => x.accept p.counter)).closeSession k Cc.counter
      else (fun u : State => if 2 ^ 48 ≤ (u.sess k).tx + 1 then u.closeSession k Cc.counter else u)
        (p.msgs.foldl (fun u m => u.message k m) ((s.wardHeard k p).modSess k (fun x => x.accept p.counter))) := by
  unfold State.data
  dsimp only
  rw [hk, if_neg (not_not.mpr hopen), if_neg (by simp [hauth, hsid])]
  rfl

end

theorem send_window (s : State) (j kind status tag : Nat) (body : List Byte) :
    ((s.send j kind status tag body).sess j).window = (s.sess j).window ∧ (s.send j kind status tag body).links.replays = s.links.replays := by
  unfold State.send
  split
  · exact ⟨rfl, rfl⟩
  split
  · exact ⟨rfl, rfl⟩
  dsimp only
  split
  · exact ⟨rfl, rfl⟩
  · rw [emit_sess, sess_setSess_same]
    exact ⟨rfl, rfl⟩

/-- A replayed packet counts; its session's window stays. -/
theorem replayed_spec (s : State) (k c : Nat) : (s.replayed k c).links.replays = satAdd 32 s.links.replays 1 ∧
    ((s.replayed k c).sess k).window = (s.sess k).window ∧ Frame [.links, .out] s (s.replayed k c) := by
  obtain ⟨u, hu⟩ : ∃ u, u = ({ s with links := { s.links with replays := satAdd 32 s.links.replays 1 } } : State) := ⟨_, rfl⟩
  have hcounted : Frame [.links, .out] s u := hu ▸ (Frame.links s _).mono (by decide)
  have hcount : u.links.replays = satAdd 32 s.links.replays 1 := by rw [hu]
  have hsess : u.sess k = s.sess k := hu ▸ rfl
  have hcases : s.replayed k c = u ∨
      s.replayed k c = (u.modSess k (fun x => { x with replayErr := some u.time.now })).send k 0x9F St.replay 0 (toLe 8 c) :=
    hu ▸ ite_eq_or_eq _ _ _
  obtain h | h := hcases <;> rw [h]
  · exact ⟨hcount, by rw [hsess], hcounted⟩
  · obtain ⟨hwindow, hreplays⟩ := send_window (u.modSess k (fun x => { x with replayErr := some u.time.now })) k 0x9F St.replay 0 (toLe 8 c)
    refine ⟨hreplays.trans hcount, ?_, ?_⟩
    · rw [hwindow, sess_modSess_same, hsess]
    · exact hcounted.trans (((Frame.links u _).mono (by decide)).trans (send_frame _ _ _ _ _ _))

section

variable {t : Nat} {s : State} (hawake : s.sleep.st = 0) (hdev : s.aon.dev ≠ .sleep) (hpick : s.pick.armed = false)
  {p : WardPkt} (hon : (s.setNow t).ethOn p.port = true) (hopen : (s.sess ((s.setNow t).sidSess p.sid)).st = 3)
include hawake hdev hpick hon hopen

theorem wardData_forged (hbad : (p.authentic && p.sid == (s.setNow t).sidOf ((s.setNow t).sidSess p.sid)) = false) :
    ∃ n, exec (.wardData t p) s = .next n ∧ n.links.authFails = satAdd 32 s.links.authFails 1 ∧
      n.sess ((s.setNow t).sidSess p.sid) = s.sess ((s.setNow t).sidSess p.sid) ∧ Frame [.links] s n := by
  have hexec := wardData_exec (p := p) hawake hdev hpick hon
  rw [data_forged (s := (s.setNow t).counted) rfl hopen hbad] at hexec
  exact ⟨_, hexec, rfl, rfl, Frame.settle (t := t) ((counted_frame _).trans (Frame.links _ _))⟩

variable (hauth : p.authentic = true) (hsid : p.sid = (s.setNow t).sidOf ((s.setNow t).sidSess p.sid))
include hauth hsid

theorem wardData_replayed (hold : (s.sess ((s.setNow t).sidSess p.sid)).fresh p.counter = false) :
    ∃ n, exec (.wardData t p) s = .next n ∧ n.links.replays = satAdd 32 s.links.replays 1 ∧
      (n.sess ((s.setNow t).sidSess p.sid)).window = (s.sess ((s.setNow t).sidSess p.sid)).window ∧ Frame [.links, .sleep, .out] s n := by
  obtain ⟨k, hk⟩ : ∃ k, k = (s.setNow t).sidSess p.sid := ⟨_, rfl⟩
  rw [← hk] at hopen hsid hold ⊢
  obtain ⟨u, hu⟩ : ∃ u, u = (s.setNow t).counted.wardHeard k p := ⟨_, rfl⟩
  have hsess : u.sess k = (s.sess k).heard (s.setNow t).time.now (s.portNo p.port) p.addr := hu ▸ wardHeard_sess (s.setNow t).counted k p
  have hreplays : u.links.replays = s.links.replays := hu ▸ rfl
  have hheard : Frame [.links, .sleep] (s.setNow t) u := hu ▸ ((counted_frame _).mono (by decide)).trans (wardHeard_frame _ k p)
  have hexec := wardData_exec (p := p) hawake hdev hpick hon
  rw [data_authentic (s := (s.setNow t).counted) hk.symm hopen hauth hsid, ← hu,
    if_pos (by rw [hsess, heard_fresh, hold]; rfl)] at hexec
  obtain ⟨hcount, hwindow, hframe⟩ := replayed_spec u k p.counter
  refine ⟨_, hexec, hcount.trans (by rw [hreplays]), ?_, Frame.settle (t := t) ((hheard.mono (by decide)).trans (hframe.mono (by decide)))⟩
  exact hwindow.trans (by rw [hsess]; rfl)

theorem wardData_fresh (hfresh : (s.sess ((s.setNow t).sidSess p.sid)).fresh p.counter = true) (hcounter : p.counter < 2 ^ 48) :
    ∃ v, v.sess ((s.setNow t).sidSess p.sid) = ({ s.sess ((s.setNow t).sidSess p.sid) with
        lastAuth := (s.setNow t).time.now, port := s.portNo p.port, peer := p.addr } : Sess).accept p.counter ∧
      v.links.rxPackets = satAdd 32 s.links.rxPackets 1 ∧ Frame [.links, .sleep] (s.setNow t) v ∧
      exec (.wardData t p) s = .next (settle s ((fun u => if 2 ^ 48 ≤ (u.sess ((s.setNow t).sidSess p.sid)).tx + 1 then
        u.closeSession ((s.setNow t).sidSess p.sid) Cc.counter else u) (p.msgs.foldl (fun u m => u.message ((s.setNow t).sidSess p.sid) m) v))) := by
  obtain ⟨k, hk⟩ : ∃ k, k = (s.setNow t).sidSess p.sid := ⟨_, rfl⟩
  rw [← hk] at hopen hsid hfresh ⊢
  obtain ⟨u, hu⟩ : ∃ u, u = (s.setNow t).counted.wardHeard k p := ⟨_, rfl⟩
  have hsess : u.sess k = (s.sess k).heard (s.setNow t).time.now (s.portNo p.port) p.addr := hu ▸ wardHeard_sess (s.setNow t).counted k p
  have hcount : u.links.rxPackets = satAdd 32 s.links.rxPackets 1 := hu ▸ rfl
  have hheard : Frame [.links, .sleep] (s.setNow t) u := hu ▸ ((counted_frame _).mono (by decide)).trans (wardHeard_frame _ k p)
  have hexec := wardData_exec (p := p) hawake hdev hpick hon
  rw [data_authentic (s := (s.setNow t).counted) hk.symm hopen hauth hsid, ← hu,
    if_neg (by rw [hsess, heard_fresh, hfresh]; decide), if_neg (by omega)] at hexec
  refine ⟨u.modSess k (fun x => x.accept p.counter), ?_, hcount, hheard.trans ((Frame.links u _).mono (by decide)), hexec⟩
  rw [sess_modSess_same, hsess]
  rfl

end

/-! ### Time limits of sessions (R607, R611) -/

section

variable {t k : Nat} {s : State}

theorem handshakeTimeout_ends (hhs : (s.sess k).hs.isSome = true) (hdue : (s.sess k).hsTime + 2000000000 ≤ (s.setNow t).time.now) :
    ∃ n, exec (.handshakeTimeout t k) s = .next n ∧
      n.sess k = { s.sess k with hs := none, st := if (s.sess k).st = 2 then 1 else (s.sess k).st } ∧ (∀ j, j ≠ k → n.sess j = s.sess j) ∧
      Frame [.links] s n :=
  ⟨_, (show execHandshakeTimeout t k s = _ from at'_eq (if_pos ⟨hhs, hdue⟩)), sess_setSess_same (s.setNow t) k _,
    fun j hj => sess_setSess_other (s.setNow t) k j _ hj, Frame.settle (t := t) (Frame.links _ _)⟩

theorem sessionLockoutEnd_unlocks {l : Nat} (hlocked : (s.sess k).lockedAt = some l) (hdue : l + 60000000000 ≤ (s.setNow t).time.now) :
    ∃ n, exec (.sessionLockoutEnd t k) s = .next n ∧
      n.sess k = { s.sess k with lockedAt := none, st := if (s.sess k).st = 4 then 1 else (s.sess k).st } ∧
      (∀ j, j ≠ k → n.sess j = s.sess j) ∧ Frame [.links] s n := by
  have hexec : exec (.sessionLockoutEnd t k) s = .next (settle s ((s.setNow t).setSess k
      { s.sess k with lockedAt := none, st := if (s.sess k).st = 4 then 1 else (s.sess k).st })) := by
    change execSessionLockoutEnd t k s = _
    refine at'_eq ?_
    dsimp only
    rw [show ((s.setNow t).sess k).lockedAt = some l from hlocked]
    exact if_pos hdue
  exact ⟨_, hexec, sess_setSess_same (s.setNow t) k _, fun j hj => sess_setSess_other (s.setNow t) k j _ hj,
    Frame.settle (t := t) (Frame.links _ _)⟩

theorem sessionIdleTimeout_closes (hward : k ≠ sSpi) (hdev : s.aon.dev ≠ .sleep) (hopen : (s.sess k).st = 3)
    (hdue : (s.sess k).lastAuth + 30000000000 ≤ (s.setNow t).time.now) :
    ∃ n, exec (.sessionIdleTimeout t k) s = .next n ∧ (n.sess k).st = (if (s.sess k).hs.isSome then 2 else 1) ∧ (n.sess k).cause = 2 ∧
      (n.sess k).subs = 0 ∧ (n.sess k).outst = [] ∧ Frame closeParts s n := by
  obtain ⟨hsess, -, hframe⟩ := closeSession_spec (s := s.setNow t) (k := k) Cc.idle hopen
  have hexec : exec (.sessionIdleTimeout t k) s = .next (settle s ((s.setNow t).closeSession k Cc.idle)) := by
    change execSessionIdleTimeout t k s = _
    exact at'_eq (if_pos ⟨hward, hdev, hdue⟩)
  have hn : (settle s ((s.setNow t).closeSession k Cc.idle)).sess k = (s.sess k).closed Cc.idle := hsess
  refine ⟨_, hexec, ?_⟩
  rw [hn]
  exact ⟨rfl, rfl, rfl, rfl, Frame.settle (t := t) hframe⟩

end

/-- Settles O54: awake and with Pick not armed a packet goes straight to its rule; the rules by the record they leave of the session. -/
theorem wardSessions : Obligations.WardSessions := by
  unfold Obligations.WardSessions
  refine fun t s => ⟨fun hawake hdev hpick => ⟨?_, fun port addr sid k ok plain cn dn hon hk hhs hsid htime => ⟨?_, ?_⟩,
    fun p hon hopen => ⟨?_, fun hauth hsid => ⟨?_, ?_⟩⟩⟩, fun k => ⟨?_, fun l => ?_, ?_⟩⟩
  · exact fun port addr peer proto k nonce => wardHello_challenged hawake hdev hpick
  · exact wardFinish_opens hawake hdev hpick hon hk hhs hsid htime
  · exact wardFinish_fails hawake hdev hpick hon hk hhs hsid htime
  · exact wardData_forged hawake hdev hpick hon hopen
  · exact wardData_replayed hawake hdev hpick hon hopen hauth hsid
  · exact wardData_fresh hawake hdev hpick hon hopen hauth hsid
  · exact handshakeTimeout_ends
  · exact sessionLockoutEnd_unlocks
  · exact sessionIdleTimeout_closes

end Sys2Proof.Machine
